-- ==== Sys2Proof/Word.lean ====
section
/-! DEFINITION. The word types of the model and the one shape every sparse store has.
A register is a `BitVec 32` (ch. 13, R376: all registers are reached by 4-byte accesses); memory is bytes. -/

namespace Sys2Proof

/-- One byte of any memory of the device or of the host. -/
abbrev Byte := BitVec 8

/-- One BAR0 register (R376). -/
abbrev W32 := BitVec 32

/-- The global time-stamp, the sync-object value and the other 64-bit quantities. -/
abbrev W64 := BitVec 64

/-- A sparse store: pairs of key and value. In canonical form the keys rise strictly and no listed
value is the value an unlisted key has, so equal stores are equal data. -/
abbrev Tbl (α : Type) := List (Nat × α)

end Sys2Proof
end

