-- ==== Sys2Proof/Types.lean ====
section
/-! DEFINITION. The data types that commands and state share: formats and exact accumulators (ch. 2),
messages of the link (ch. 8). -/

namespace Sys2Proof

/-- An element encoding of Table 2-2 (E8M0 is a scale and has no element role). -/
inductive Enc where
  | e2m1 | e2m3 | e3m2 | e4m3 | e5m2 | bf16 | b32
deriving DecidableEq, Repr

/-- A format of Table 2-1. -/
inductive Fmt where
  | vb4 | mxfp4 | mxfp6e2 | mxfp6e3 | mxfp8e4 | mxfp8e5 | fp8e4 | fp8e5 | bf16 | b32
deriving DecidableEq, Repr

/-- An exact source value (R44, R45): a signed dyadic number `± m × 2^e`, an infinity, or a NaN.
`nan blk` says whether the element counts as NaN because its VB4 block or slice is invalid (R45). -/
inductive Val where
  | fin (neg : Bool) (m : Nat) (e : Int)
  | inf (neg : Bool)
  | nan (blk : Bool)
deriving DecidableEq, Repr

/-- The rounding mode of one element: nearest-even, or stochastic with the 24-bit number of R48. -/
inductive Rnd where
  | rne
  | sr (rnd : Nat)
deriving DecidableEq, Repr

/-- The flags of Table 2-9, bit `i` of the table being the field of that name. -/
structure Flags where
  xaSpread : Bool
  xaOvf : Bool
  inexact : Bool
  overflow : Bool
  underflow : Bool
  invalid : Bool
  nanIn : Bool
  blkInvalid : Bool
  sat : Bool
deriving DecidableEq, Repr

/-- An exact accumulator (R53, R60): a 320-bit two's-complement integer whose unit weighs
`2^(anchor-279)`, with the anchor, STICKY, the special code of Table 2-11 and KCUM. -/
structure Xa where
  val : Int
  anchor : Int
  sticky : Bool
  code : Nat
  kcum : Nat
deriving DecidableEq, Repr

/-- The no-anchor state of R60. -/
def Xa.none : Xa := ⟨0, -32768, false, 0, 0⟩

/-- A message of the link's DATA flits (R230): its class, the fields of the route slot (Table 8-6) and
its body of `16 BODY` bytes. -/
structure Msg where
  tc : Nat
  dstDev : Nat
  dstPart : Nat
  srcPart : Nat
  profile : Nat
  hops : Nat
  srcDev : Nat
  tenant : Nat
  body : List Byte
deriving DecidableEq, Repr

/-! ## What the outside tells the device (operands of commands that are events) -/

/-- The path a register access or mailbox command comes over (R334, R364). -/
inductive Path where
  | host | i3c | smbus
deriving DecidableEq, Repr

/-- What the dither of one control cycle measured on a ring (R195, R198): ring within the site (0 to 287),
error in MHz (none: no signal), whether the heater current departs by more than 25 %, and whether the
dither response is below 25 % of that at acquisition while photodiode 2 reads normal (Table 7-8). -/
structure RingRead where
  ring : Nat
  err : Option Int
  heaterBad : Bool
  weak : Bool
deriving DecidableEq, Repr

/-- What one sensor read (R300): index, valid, temperature in 1/8 °C. -/
structure SensRead where
  index : Nat
  valid : Bool
  temp : Int
deriving DecidableEq, Repr

/-- What the power-on sequence meets outside its own logic (Table 11-1): whether the ROM self-test passes,
partitions and sites whose dies fail in step 3, rows in service that fail the March test as cluster and row, clusters
with a spare row or bank that fails it, cores whose scratch fails, what a core received of the firmware broadcast where it
differs from what was sent, as core, attempt (0, then up to three again) and bytes, the register writes
by which firmware applies the settings blob (its body's layout is not given), whether a migration passes
its own checks, the sampled straps STAGE and SEAT, and a step that does not end before it overruns its budget. -/
structure BootEnv where
  romOk : Bool
  partFail : List Nat
  siteFail : List Nat
  badRows : List (Nat × Nat)
  badSpares : List Nat
  badScratch : List Nat
  received : List (Nat × Nat × List Byte)
  settings : List (Nat × W32)
  migrateOk : Bool
  straps : Nat
  hang : Option Nat
deriving DecidableEq, Repr

/-- The result of an intermission's work (Table 7-14, Table 7-15): eye margin by lane, each tested in turn, and what the
standby check read on STANDBY rings. -/
structure CalRes where
  margins : List (Nat × Nat)
  standby : List RingRead
deriving DecidableEq, Repr

/-- An upset of a word of a cluster's memory: whether it is single, double (detected) or more. -/
inductive Upset where
  | single | double | multi
deriving DecidableEq, Repr

/-- The scope of a curtain: tenant, class mask, partition mask (R253). -/
structure Scope where
  tenant : Nat
  tcMask : Nat
  partMask : Nat
deriving DecidableEq, Repr

end Sys2Proof
end

