-- ==== Sys2Proof/Syntax.lean ====
section
/-! DEFINITION. The commands of the block: one constructor for each row of the table of operations and
events, in the table's order. An operand names the unit a command reaches, the value written, the message
or frame that arrives, or what the outside world measured where the row is an event. Registers, rings and
tables hold everything else, so a record, request or descriptor row names only the unit that runs it. -/

namespace Sys2Proof

/-- A die-to-die loopback (Table 11-6a). -/
inductive Loopback where
  | ucieNear | ucieFar | faceLanes | faceArray
deriving DecidableEq, Repr

/-- An instruction loaded through the IEEE 1149.1 TAP (R323, R324): `loopback` runs a loopback of the die, or through its
IEEE 1838 access of the die bonded to it, and `wrapper` reads its result through the die's IEEE 1500 wrapper. -/
inductive Tap where
  | bypass | idcode | samplePreload | extest
  | loopback (bonded : Bool) (l : Loopback)
  | wrapper (bonded : Bool) (l : Loopback)
  | other (code : Nat)
deriving DecidableEq, Repr

/-- The commands. A core is `576 p + 48 c + n`, a channel `192 p + 16 c + ch`, a cluster `12 p + c`, a
port `8 k + n` and a link `64 port + link`, as in Table 1-11. -/
inductive Instr where
  /-- R313: PWRGD rises (or a device reset takes effect) and the device runs the power-on sequence of Table 11-1 through step 8. -/
  | powerOn (env : BootEnv)
  /-- R314: A bring-up step overruns its budget and the unfinished unit fails as its row of Table 11-1 states. -/
  | stepTimeout (step : Nat) (parts : List Nat) (sites : List Nat)
  /-- R359: PWRGD falls for 1.2 µs or more; the device is reset and the trip latch is released. -/
  | pwrgdFall
  /-- R360: PERST_N is asserted past its filter, causing a device reset. -/
  | perstN
  /-- R31: No root edge is seen for 1 µs; the PLLs enter hold-over, REF_LOST is logged and the GTS is marked unsynchronised. -/
  | refLost
  /-- R31: 1,000 good root edges arrive during hold-over; the PLLs relock and GTS discipline resumes. -/
  | refRestored
  /-- R32: The 10 ms hold-over timer expires; all ports go down and all partitions are held in reset. -/
  | clockFatal
  /-- R31: The root PLL of compute die p unlocks; partition p, or the whole device when p = 0, is held in reset. -/
  | pllUnlock (p : Fin 4)
  /-- R31: A die-to-die PLL unlocks and every UCIe module of that die retrains. -/
  | d2dPllUnlock (die : Fin 12)
  /-- R31: The optical synthesiser of a site unlocks and its eight ports go link down. -/
  | synthUnlock (k : Fin 8)
  /-- R303: A fixed comparator reaches 125 °C; THERMTRIP_N asserts, the PLLs stop, the dies are held in reset and the laser enables go low. -/
  | thermalTrip
  /-- R13: A register write with no behaviour of its own acts by its access code, or is refused or ignored under R376. -/
  | registerWrite (path : Path) (addr : Nat) (data : List Byte)
  /-- R13: A read of an RC field returns its value and clears it. -/
  | rcRead (path : Path) (addr : Nat) (len : Nat)
  /-- R376: A read of TSU.GTS_LO returns GTS[31:0] and latches GTS_HI. -/
  | gtsLoRead (len : Nat)
  /-- R373: A write to EVT_FORCE sets the named EVT_STAT bits as hardware would. -/
  | evtForceWrite (page : Nat) (v : W32)
  /-- R374: A write to EVT_EN, a second enable register or IRQ_EN that makes the request active sends an MSI-X message. -/
  | evtEnWrite (addr : Nat) (v : W32)
  /-- R373: A write of 1 to ERR_COUNT_CLR.CLEAR zeroes ERR_COUNT. -/
  | errCountClr (page : Nat) (v : W32)
  /-- R68: SEQ_CMD.START while HALTED begins fetching at QHEAD, skipping the slots marked in DONE_MASK. -/
  | start (core : Fin 2304)
  /-- R74: SEQ_CMD.STOP stops issue and aborts pending WAIT, TICKET and CUE_WAIT records. -/
  | stop (core : Fin 2304)
  /-- R75: SEQ_CMD.RETURN_ALL while HALTED returns every ticket the core holds. -/
  | returnAll (core : Fin 2304)
  /-- R67: A write of QHEAD while HALTED also sets QDONE and clears FAULT_REC.DONE_MASK. -/
  | qheadWrite (core : Fin 2304) (v : W32)
  /-- R68: A write of QTAIL gives a new tail, which is used from the next core clock. -/
  | qtailWrite (core : Fin 2304) (v : W32)
  /-- R78: Issues a MATMUL that accumulates tiles exactly into XA banks and rounds them into C. -/
  | matmul (core : Fin 2304)
  /-- R85: Issues a vector operation over a binary32 array. -/
  | vecop (core : Fin 2304)
  /-- R89: Issues one key block of streaming softmax, updating m, l, c and P. -/
  | softmaxStream (core : Fin 2304)
  /-- R90: Issues a format conversion, rounding each element once. -/
  | convert (core : Fin 2304)
  /-- R91: Writes the 32 XA of one bank to scratch as spill records or fragments. -/
  | xaSpill (core : Fin 2304)
  /-- R91: Reads 32 spill records or fragments from scratch into one XA bank. -/
  | xaFill (core : Fin 2304)
  /-- R92: Copies rows from a handle into scratch. -/
  | load (core : Fin 2304)
  /-- R92: Copies rows from scratch into a handle. -/
  | store (core : Fin 2304)
  /-- R93: Applies signal-add or set to a local object, or sends a remote signal on TC1, once earlier records have completed. -/
  | signal (core : Fin 2304)
  /-- R94: Registers a wait on a local object and holds later records until the object meets its condition. -/
  | wait (core : Fin 2304)
  /-- R81: Requests COUNT tickets from the box office. -/
  | ticket (core : Fin 2304)
  /-- R81: After earlier MATMULs complete, cancels re-requests and returns held tickets. -/
  | ret (core : Fin 2304)
  /-- R95: Holds later records until the local GTS reaches TARGET; the record completes at once with LATE = 1 if TARGET has already passed. -/
  | cueWait (core : Fin 2304)
  /-- R95: The GTS reaches the target of a pending CUE_WAIT and the record completes. -/
  | cueWaitTarget (core : Fin 2304)
  /-- R96: Holds later records until the conditions selected in MASK hold. -/
  | fence (core : Fin 2304)
  /-- R97: Waits for earlier records, returns tickets, copies CODE to END_CODE and halts the core. -/
  | endRec (core : Fin 2304)
  /-- R71: A record finishes; its status is written back and LAST_TAG and REC_IRQ are updated when asked. -/
  | recordComplete (core : Fin 2304) (slot : Nat)
  /-- R72: Draining after a fault or STOP ends; QHEAD, QDONE and FAULT_REC are set and the core becomes HALTED. -/
  | coreHalt (core : Fin 2304)
  /-- R81: A TICKET is not granted within its timeout and completes with TICKET_TIMEOUT. -/
  | ticketTimeout (core : Fin 2304)
  /-- R141: A registered wait expires; its owner receives WAIT_TIMEOUT and a Bloodhound census is started. -/
  | waitTimeout (p : Fin 4) (src : Nat)
  /-- R82: A withdrawal notice reaches a core, which surrenders the tickets and requests them back. -/
  | withdrawNotice (core : Fin 2304)
  /-- R105: A corrected single-bit error is written back to memory. -/
  | eccWriteback (addr : Nat)
  /-- R106: The patrol scrub reads a line, correcting single-bit errors and poisoning double-bit errors. -/
  | scrubLine (clu : Fin 48) (upsets : List (Nat × Upset))
  /-- R107: A soft row repair copy completes and is recorded in a REPAIR_ENTRY register. -/
  | repairDone (clu : Fin 48)
  /-- R108: A write to the Usher request doorbell makes new entries available to Usher. -/
  | reqTailWrite (p : Fin 4) (v : W32)
  /-- R111: Usher request that allocates a handle, either resident or reserved at partners. -/
  | create (p : Fin 4)
  /-- R113: Usher request that frees a handle once earlier accesses drain and unbinds its BAR2 windows. -/
  | destroy (p : Fin 4)
  /-- R120: Usher request that pins a handle, moving it into one cluster first when CLU_EN = 1. -/
  | pin (p : Fin 4)
  /-- R120: Usher request that unpins a handle. -/
  | unpin (p : Fin 4)
  /-- R114: Usher request that binds a BAR2 window to a handle at an offset. -/
  | map (p : Fin 4)
  /-- R114: Usher MAP request with UNMAP = 1, which removes a window binding. -/
  | unmap (p : Fin 4)
  /-- R117: Usher request that runs a placement point and plans shard moves. -/
  | placePoint (p : Fin 4)
  /-- R121: Usher request that clears a context's counters and starts a rehearsal. -/
  | rehearseBegin (p : Fin 4)
  /-- R121: Usher request that sets PLAN_CLU from the rehearsal and acts as a placement point. -/
  | rehearseEnd (p : Fin 4)
  /-- R123: Usher request that stores the handle list of a scene. -/
  | sceneDefine (p : Fin 4)
  /-- R124: Usher request that plans and starts the eviction and fill of a scene change. -/
  | sceneSwap (p : Fin 4)
  /-- R124: All fills and evictions of a swap have ended; Usher runs a placement point, writes the completion and signals. -/
  | sceneSwapComplete (p : Fin 4)
  /-- R128: Usher request that allocates a context's save area and sets each core's queue start. -/
  | ctxInit (p : Fin 4)
  /-- R114: A host read through a BAR2 window is resolved byte by byte through the bound handle. -/
  | hostBar2Read (addr : Nat) (len : Nat)
  /-- R114: A host write through a BAR2 window is resolved byte by byte through the bound handle. -/
  | hostBar2Write (addr : Nat) (data : List Byte)
  /-- R116: At the epoch boundary, TOTAL and TOP_CNT of every shard are halved. -/
  | epoch (p : Fin 4)
  /-- R118: A round of a shard move completes; Usher copies dirty sub-blocks again or commits the move. -/
  | migrate (p : Fin 4) (handle : Nat) (shard : Nat)
  /-- R135: An exporting partition receives a memory-profile READ and answers it from its window. -/
  | mpRead (p : Fin 4) (m : Msg)
  /-- R135: An exporting partition receives a memory-profile WRITE and acknowledges it. -/
  | mpWrite (p : Fin 4) (m : Msg)
  /-- R134: A memory-profile READ_DATA response arrives at Usher for a fill. -/
  | mpReadData (p : Fin 4) (m : Msg)
  /-- R134: A memory-profile WRITE_ACK arrives at Usher for an eviction. -/
  | mpWriteAck (p : Fin 4) (m : Msg)
  /-- R134: A partner request stays unanswered for MP_TIMEOUT and fails with PARTNER_ERROR. -/
  | mpTimeout (p : Fin 4) (tag : Nat)
  /-- R135: A write of EXPORT_CFG.EN = 1 allocates and zero-fills the partner window. -/
  | exportEnable (p : Fin 4) (v : W32)
  /-- R130: The quantum expires or all cores halt; cores stop, channels pause and state is saved. -/
  | contextSwitch (p : Fin 4)
  /-- R130: The incoming context's state has been restored; tickets are re-requested and its cores and channels resume. -/
  | contextResume (p : Fin 4)
  /-- R142: A host write to a sync-object VALUE sets the object. -/
  | hostSet (p : Fin 4) (obj : Fin 65536) (v : W32)
  /-- R142: A host write to SYNp.HOST_ADD adds VALUE to the object in HOST_ADD_OBJ. -/
  | hostAdd (p : Fin 4) (v : W32)
  /-- R144: A TC1 SIGNAL message arrives and is applied, refused, discarded as a duplicate or discarded as a gap. -/
  | signalMessage (p : Fin 4) (m : Msg)
  /-- R145: A TC1 ACK arrives and completes the remote SIGNAL records it covers. -/
  | syncAck (p : Fin 4) (m : Msg)
  /-- R144: 1 µs passes after the first unacknowledged applied signal and the target sends a cumulative ACK. -/
  | syncAckTimer (p : Fin 4) (peer : Fin 4096)
  /-- R146: A remote signal stays unacknowledged for SIG_ACK_TO; the peer's unacknowledged signals are declared lost. -/
  | sigAckTimeout (p : Fin 4) (peer : Fin 4096)
  /-- R146: A SEQ_QUERY arrives and the target replies with its APPLIED value. -/
  | seqQuery (p : Fin 4) (m : Msg)
  /-- R146: SIG_ACK_TO passes for a LOST peer without a reply and SEQ_QUERY is sent again. -/
  | seqQueryRetry (p : Fin 4) (peer : Fin 4096)
  /-- R146: A SEQ_REPLY arrives; covered loss entries are marked APPLIED and the peer becomes QUERIED. -/
  | seqReply (p : Fin 4) (m : Msg)
  /-- R147: A SEQ_SKIP arrives and the target sets APPLIED to the given SEQ. -/
  | seqSkip (p : Fin 4) (m : Msg)
  /-- R144: A REFUSED message arrives and the sender's remote SIGNAL completes with ACCESS. -/
  | refused (p : Fin 4) (m : Msg)
  /-- R148: A DROPPED message arrives and the sender treats the signal as lost. -/
  | dropped (p : Fin 4) (m : Msg)
  /-- R147: PEER_CTL.RESEND retransmits a QUERIED peer's not-applied loss entries in SEQ order. -/
  | resend (p : Fin 4)
  /-- R147: PEER_CTL.DISCARD sends SEQ_SKIP for a QUERIED peer and frees its entries. -/
  | discard (p : Fin 4)
  /-- R150: A Bloodhound census starts, from its period, a wait expiry or a queued census, and takes a snapshot and searches locally. -/
  | bhCensus (p : Fin 4)
  /-- R151: A Bloodhound query arrives and the partition answers with its wait path from the named source. -/
  | bhQuery (p : Fin 4) (m : Msg)
  /-- R151: A Bloodhound reply arrives and the census continues the path. -/
  | bhReply (p : Fin 4) (m : Msg)
  /-- R151: A census query goes unanswered for 100 µs; it is counted and its path ends. -/
  | bhQueryTimeout (p : Fin 4) (peer : Fin 4096)
  /-- R152: The census search ends; confirmed cycles are written to the report ring or dropped. -/
  | bhReport (p : Fin 4)
  /-- R157: The 8 µs exchange interval passes and a TIMING message is sent to the parent or alternate. -/
  | timingSend (port : Fin 64)
  /-- R157: A TIMING message arrives; the servo computes θ and updates step, rate and phase, and the TSU state. -/
  | timing (port : Fin 64) (body : List Byte) (t : Nat)
  /-- R158: At the 1 µs tick, a pending step, a SET or a one-LSB phase correction is applied to the GTS. -/
  | gtsTick
  /-- R158: GTS_CMD.SET captures GTS_SET for loading at the next tick. -/
  | gtsSet
  /-- R158: A host write of RATE_ADJ on a time root takes effect, clamped, at the next tick. -/
  | rateAdjWrite (v : W32)
  /-- R156: A write of TSU_CFG configures root, parent or alternate and may move the TSU to ACQUIRE. -/
  | tsuCfgWrite (v : W32)
  /-- R156: No exchange arrives for 64 µs and the TSU enters HOLDOVER. -/
  | tsuHoldover
  /-- R156: In HOLDOVER with ALT_EN = 1, the alternate parent takes over and the TSU enters ACQUIRE. -/
  | altTakeover
  /-- R161: A write of CUE_ACT arms or changes a cue entry, or is ignored for a bad action. -/
  | cueActWrite (v : W32)
  /-- R162: The GTS reaches a cue's TARGET; its action begins and a periodic TARGET advances. -/
  | cueFire (cue : Fin 256)
  /-- R172: A DMA doorbell write gives the channel new descriptors. -/
  | ringTailWrite (ch : Fin 768) (v : W32)
  /-- R169: CTL.EN is written 1, which enables the channel and zeroes its indices, or sets CFG_ERR for a bad base. -/
  | channelEnable (ch : Fin 768) (v : W32)
  /-- R184: CTL.EN is written 0, which acts as ABORT and clears EVENTS. -/
  | channelDisable (ch : Fin 768) (v : W32)
  /-- R184: CMD.ABORT ends the executing descriptor with ABORTED and halts the channel. -/
  | abort (ch : Fin 768)
  /-- R183: CMD.RESUME leaves HALTED and continues at RING_DONE. -/
  | dmaResume (ch : Fin 768)
  /-- R173: A linear-mode descriptor starts and moves contiguous bytes. -/
  | linear (ch : Fin 768)
  /-- R173: A strided-mode descriptor starts and moves rows and planes. -/
  | strided (ch : Fin 768)
  /-- R174: A fetch-mode descriptor starts and gathers elements through an index table. -/
  | fetch (ch : Fin 768)
  /-- R175: An interleave descriptor starts and merges S streams element by element. -/
  | interleave (ch : Fin 768)
  /-- R175: A de-interleave descriptor starts and splits rows into S streams. -/
  | deinterleave (ch : Fin 768)
  /-- R177: A SHUF = 3 descriptor starts and converts VB4 or MXFP4 between storage and operand order. -/
  | nibblePlane (ch : Fin 768)
  /-- R177: A SHUF = 4 descriptor starts and converts MXFP6 or MXFP8 between storage and operand order. -/
  | bytePlane (ch : Fin 768)
  /-- R171: A descriptor's writes have taken effect; status is written back, OWN is cleared and signal, chain and IRQ follow. -/
  | descriptorComplete (ch : Fin 768)
  /-- R179: A chain event arrives at a channel and EVENTS counts it or it is consumed by a waiting descriptor. -/
  | chainEvent (ch : Fin 768)
  /-- R232: A native READ request arrives at its destination partition, which answers with READ_DATA or ERROR. -/
  | nativeRead (p : Fin 4) (m : Msg)
  /-- R232: A native WRITE arrives at its destination partition, which answers with WRITE_ACK or ERROR. -/
  | nativeWrite (p : Fin 4) (m : Msg)
  /-- R232: A native READ_DATA response arrives at the requesting DMA channel. -/
  | readData (p : Fin 4) (m : Msg)
  /-- R232: A native WRITE_ACK arrives at the requesting DMA channel. -/
  | writeAck (p : Fin 4) (m : Msg)
  /-- R232: A native ERROR response arrives and its STATUS is mapped to a DMA completion code. -/
  | nativeError (p : Fin 4) (m : Msg)
  /-- R195: The 2 µs control cycle ends; the lead computes ring errors, writes heater codes and handles pending events. -/
  | controlCycle (k : Fin 8) (reads : List RingRead)
  /-- R191: A loss-of-light comparator or fault input asserts for a laser source. -/
  | laserLost (k : Fin 8) (b : Bool)
  /-- R192: The survivor's power holds for 64 monitor frames and the ports return to their former width and speed. -/
  | rampDone (k : Fin 8)
  /-- R193: 60 ms pass without RAMP_DONE and the ports stay in the ramp configuration. -/
  | rampFail (k : Fin 8)
  /-- R194: A lost source shows light for 100 ms and RESTORED is set. -/
  | laserRestored (k : Fin 8) (b : Bool)
  /-- R194: LASER_CMD.UNCROSS returns the cross switch and levels to normal and resumes the ports. -/
  | uncross (k : Fin 8)
  /-- R197: A ring's acquisition sweep completes and it locks on its line. -/
  | ringAcquire (k : Fin 8) (ring : Fin 288) (code : Fin 4096)
  /-- R198: A ring fails to lock within 500 µs of reacquisition. -/
  | ringReacqTimeout (k : Fin 8) (ring : Fin 288)
  /-- R201: A transmit ring's dither response stays below 25% for 64 cycles and the line is marked failed. -/
  | lineWeak (k : Fin 8) (ring : Fin 288)
  /-- R201: A periodic eye-margin measurement is taken and judged by the margin rule. -/
  | eyeMeasure (port : Fin 64) (margins : List (Nat × Nat))
  /-- R201: A lane's CDR loses lock; the loss counts toward the margin rule. -/
  | cdrLockLoss (port : Fin 64) (lane : Fin 16)
  /-- R246: PORTn_CTL.EN is written 1 and the port starts acquisition and training. -/
  | portEnable (port : Fin 64)
  /-- R245: PORTn_CTL.EN is written 0 and the port's links go down with cause HOST. -/
  | portDisable (port : Fin 64)
  /-- R204: A write that lowers the WIDTH or SPEED cap retrains the port to the cap. -/
  | portCapWrite (port : Fin 64) (v : W32)
  /-- R203: PORTn_CMD.REQUAL clears failed marks, reacquires rings and retrains at the largest allowed width and speed. -/
  | requal (port : Fin 64)
  /-- R205: A receive bank loses light on all lanes and the link pauses. -/
  | lossOfSignal (port : Fin 64) (dark : List Nat)
  /-- R205: Light does not return within 100 µs and the DL8 reports link down. -/
  | losTimeout (port : Fin 64)
  /-- R205: Light and CDR lock return within 100 µs and the link resumes through a retrain. -/
  | signalReturn (port : Fin 64)
  /-- R210: A burst preamble arrives; the receiver fixes gain, locks and checks the delimiter. -/
  | burstReceive (port : Fin 64) (delim : List Byte) (t : Nat)
  /-- R211: Received power rises beyond the intrusion threshold, so the current burst is lost and the receiver re-arms. -/
  | intrusion (port : Fin 64)
  /-- R211: No intruder delimiter is read within 16 ns of re-arming; INTRUDER.VALID is 0. -/
  | delimiterTimeout (port : Fin 64)
  /-- R213: A monitor ADC conversion completes, with OVR, UNR or STALE marking. -/
  | adcConversion (k : Fin 8) (raw : Int)
  /-- R214: At a frame boundary, new offset and gain corrections are applied or skipped. -/
  | adcFrame (k : Fin 8) (ok : Bool)
  /-- R215: A write of IM_REQ requests an intermission on the named ports. -/
  | imReq (k : Fin 8) (v : W32)
  /-- R215: The intermission length passes; calibration ends and the port resumes. -/
  | intermissionEnd (port : Fin 64) (cal : CalRes)
  /-- R217: FORCE_MS passes since a port's last intermission and a forced intermission starts. -/
  | forcedIntermission (port : Fin 64)
  /-- R234: Physical training of a port ends and CAP exchange begins. -/
  | phyTrained (port : Fin 64) (delayOk : Bool)
  /-- R234: 1 µs passes without acknowledgement and CAP is sent again. -/
  | capResend (l : Fin 4096)
  /-- R234: A partner CAP arrives; the operating version and features are computed and CAP_ACK is sent or the link goes down. -/
  | cap (l : Fin 4096) (flit : List Byte)
  /-- R234: A CAP_ACK arrives and the link may become UP. -/
  | capAck (l : Fin 4096) (flit : List Byte)
  /-- R234: 10 ms pass after physical training without UP and the link goes down. -/
  | capTimeout (l : Fin 4096)
  /-- R240: A DATA flit arrives; its ACK or credit is applied and it is delivered, dropped as a duplicate or NAKed. -/
  | dataFlit (l : Fin 4096) (flit : List Byte)
  /-- R238: A NULL flit arrives and its ACK/CREDIT field is applied. -/
  | nullFlit (l : Fin 4096) (flit : List Byte)
  /-- R241: 250 ns pass after the first unacknowledged flit and a cumulative ACK is sent. -/
  | ackTimer (l : Fin 4096)
  /-- R242: The oldest held flit goes REPLAY_TO without progress and all held flits are retransmitted. -/
  | replayTimeout (l : Fin 4096)
  /-- R239: A class waits CREDIT_TO for credit and the link goes down. -/
  | creditTimeout (l : Fin 4096) (tc : Fin 8)
  /-- R233: The sender holds a message's whole credit cost and starts sending it. -/
  | messageStart (l : Fin 4096) (tc : Fin 8)
  /-- R273: A relayed message gains room at its next rank and is forwarded by the routing procedure. -/
  | relayForward (p : Fin 4) (idx : Nat)
  /-- R248: A PAUSE ordered set arrives and this end stops DATA flits within 2 flit times. -/
  | pause (port : Fin 64) (os : List Byte)
  /-- R248: A RESUME arrives and held flits are retransmitted from the partner's EXPECTED. -/
  | resume (port : Fin 64) (os : List Byte)
  /-- R248: The local retrain ends and RESUME is sent. -/
  | retrainComplete (port : Fin 64)
  /-- R249: No partner RESUME arrives in time; the end retrains once more or the link goes down. -/
  | retrainTimeout (port : Fin 64)
  /-- R247: A DOWN ordered set arrives and the link goes down with PEER_DOWN. -/
  | down (port : Fin 64) (os : List Byte)
  /-- R254: A HOLD curtain is verified and its scope is added to the hold set. -/
  | curtainHold (l : Fin 4096) (os : List Byte)
  /-- R254: A RELEASE curtain is verified and its scope leaves the hold set. -/
  | curtainRelease (l : Fin 4096) (os : List Byte)
  /-- R254: A FENCE curtain is verified and marks the fence point. -/
  | curtainFence (l : Fin 4096) (os : List Byte)
  /-- R254: All messages in a fence's scope have drained and FENCE_DONE is sent. -/
  | fencePoint (l : Fin 4096)
  /-- R254: A FENCE_DONE curtain is accepted and its COUNTER is logged. -/
  | fenceDone (l : Fin 4096) (os : List Byte)
  /-- R255: A held scope reaches HOLD_MAX_MS and lapses. -/
  | curtLapsed (l : Fin 4096) (scope : Scope)
  /-- R256: A link reaches a quiescent point and the sender sends CENSUS. -/
  | censusSend (l : Fin 4096)
  /-- R256: A CENSUS arrives and the receiver checks the credit identities. -/
  | census (l : Fin 4096) (flit : List Byte)
  /-- R267: A house schedule slot starts; the port steers and sends a burst, a NULL burst or nothing. -/
  | houseSlot (port : Fin 64) (slot : Nat)
  /-- R268: HS_CTL.SWAP makes the inactive schedule bank active at the next cycle start. -/
  | hsSwap (port : Fin 64)
  /-- R288: HS_CTL.STOP stops the schedule at the next cycle end. -/
  | hsStop (port : Fin 64)
  /-- R269: HS_CTL.RERANGE starts ranging of the plane again. -/
  | rerange (port : Fin 64)
  /-- R269: A RANGE burst is received and TX_ADV and RX_DELAY are set from its delay. -/
  | range (port : Fin 64) (m : Msg) (t : Nat)
  /-- R269: 64 RANGE bursts go unheard and the plane carries no data. -/
  | rangeFail (port : Fin 64)
  /-- R263: A HELLO arrives and stage membership and duplicate seats are evaluated. -/
  | hello (port : Fin 64) (m : Msg)
  /-- R284: The HELLO interval with jitter passes and HELLO repeats. -/
  | helloResend (port : Fin 64)
  /-- R282: A LEADER message arrives naming the stage leader. -/
  | leader (port : Fin 64) (m : Msg)
  /-- R282: A ROOT message arrives with the HOUSE_ID and schedule start GTS. -/
  | root (port : Fin 64) (m : Msg)
  /-- R263: A HOLDOUT message arrives and the device is held out. -/
  | holdout (port : Fin 64) (m : Msg)
  /-- R285: A DIGEST arrives at a root and is compared with its own. -/
  | digest (m : Msg)
  /-- R285: A DIGEST_RESULT arrives and a mismatching device is held out. -/
  | digestResult (m : Msg)
  /-- R284: 16 attempts go unanswered and the peer is treated as absent. -/
  | peerAbsent (peer : Nat)
  /-- R281: The phase wait passes and absent members are treated as absent. -/
  | phaseWaitTimeout
  /-- R278: A MAX_ANCHOR collective message arrives and each record takes the larger anchor. -/
  | maxAnchor (p : Fin 4) (m : Msg)
  /-- R278: An EXACT_ADD collective message arrives and its fragments are added into the records. -/
  | exactAdd (p : Fin 4) (m : Msg)
  /-- R264: A write of a peer context entry applies to later messages and may reset its sequence state. -/
  | peerEntryWrite (b : Bool) (v : W32)
  /-- R292: The head entry becomes covered within the ramp window and is granted whole. -/
  | ticketGrant (p : Fin 4)
  /-- R296: BUDGET_CTL.COMMIT applies BUDGET_NEXT or refuses it. -/
  | budgetCommit (p : Fin 4)
  /-- R300: All sensors are read and cross-checked, and rate limits and T_HIGH are evaluated. -/
  | sensorSample (reads : List SensRead)
  /-- R301: Every 5 ms a die with too few sensors in service raises a rate event. -/
  | sensorShortage
  /-- R297: WD_CTL.MS passes after the last rate event and WITHDRAWN returns to 0. -/
  | rateHoldEnd
  /-- R298: A write of BOARD_CAP lowers every budget when their sum exceeds the limit. -/
  | boardCapWrite (path : Path) (v : W32)
  /-- R299: The box office audits its ticket identity once per 1,000 control clocks. -/
  | boxAudit (p : Fin 4)
  /-- R305: A fast frame reaches the Understudy, which shadows the codes and checks them. -/
  | fastFrame (k : Fin 8) (frame : List Byte) (mismatch : Bool)
  /-- R309: A switch-over trigger is declared and the Understudy takes control from the DAC codes and its mirror. -/
  | switchOver (k : Fin 8)
  /-- R309: UND_CMD.FORCE_SWITCH requests a switch-over at the end of the cycle. -/
  | forceSwitch (k : Fin 8)
  /-- R311: UND_CMD.CLEAR_FAILED restarts recovery of a FAILED controller. -/
  | clearFailed (k : Fin 8)
  /-- R308: A controller's full transparent RAM march pass completes, passing or failing. -/
  | ramPass (k : Fin 8) (ctl : Fin 2) (ok : Bool)
  /-- R311: After a clean shadowing period, control is handed back to the reset roles. -/
  | revert (k : Fin 8)
  /-- R320: A chiplet capability descriptor, and any licence, arrives and the compute die answers with SELECT. -/
  | chipletDescriptor (k : Fin 8) (desc : List Byte) (licence : List Byte)
  /-- R320: The chiplet's echo of SELECT arrives and is checked. -/
  | selectEcho (k : Fin 8) (rec : List Byte)
  /-- R320: No descriptor arrives within 10 ms and the site becomes FAILED. -/
  | chipletDescriptorTimeout (k : Fin 8)
  /-- R327: PARTp.RESET_CTL with LEVEL core resets one core. -/
  | coreReset (core : Fin 2304)
  /-- R327: PARTp.RESET_CTL with LEVEL cluster resets one cluster. -/
  | clusterReset (clu : Fin 48)
  /-- R342: RESET command with LEVEL partition resets the partitions in PARTMASK. -/
  | resetPartition (path : Path)
  /-- R342: RESET command with LEVEL device completes with OK and schedules a device reset. -/
  | resetDevice (path : Path)
  /-- R327: 1 ms after the command, the device reset takes effect with all links down first. -/
  | deviceReset
  /-- R340: Verifies a firmware slot, makes it active, optionally raises SVN_MIN and schedules a device reset. -/
  | fwActivate (path : Path)
  /-- R336: The 1,000 ms lockout ends. -/
  | lockoutEnd
  /-- R339: Installs a new wrapped command key with KEY_GEN + 1. -/
  | keyRollover (path : Path)
  /-- R318: Programs a field fuse word by OR and verifies the read-back. -/
  | fuseWrite (path : Path) (readBack : Bool)
  /-- R252: Authenticated command that places a tagged curtain on each named link. -/
  | curtain (path : Path)
  /-- R342: Takes the named ports down with cause HOST and locks PORTn_CTL.EN at 0. -/
  | linkFence (path : Path)
  /-- R342: LINK_FENCE with UNFENCE = 1 releases the fence on the named ports. -/
  | unfence (path : Path)
  /-- R345: Verifies the test signature, resets and wipes the device and opens test access. -/
  | testUnlock (path : Path)
  /-- R341: Assigns a tenant to an UNASSIGNED partition and installs its curtain key. -/
  | tenantAssign (path : Path)
  /-- R349: Verifies a settings slot and makes it current for the next reset. -/
  | settingsCommit (path : Path)
  /-- R345: Returns 32 random bytes as the test-unlock challenge. -/
  | getChallenge (path : Path)
  /-- R345: 60 s pass and the test-unlock challenge becomes invalid. -/
  | challengeExpiry
  /-- R343: Copies host memory into a flash firmware or settings region. -/
  | flashWrite (path : Path)
  /-- R344: Installs the initial command key and owner key hash and writes both control records. -/
  | provision (path : Path)
  /-- R332: The temperature window opens and a held control-record update is written. -/
  | heldWrite
  /-- R346: SPDM request answered with the supported version. -/
  | getVersion
  /-- R346: SPDM request answered with the responder capabilities. -/
  | getCapabilities
  /-- R346: SPDM request that settles on ECDSA P-384 and SHA-384. -/
  | negotiateAlgorithms (p384 : Bool) (sha384 : Bool)
  /-- R346: SPDM request answered with certificate chain digests. -/
  | getDigests
  /-- R346: SPDM request answered with the slot 0 certificate chain. -/
  | getCertificate (slot : Nat) (offset : Nat) (len : Nat)
  /-- R346: SPDM challenge answered with a signature by the device identity key. -/
  | challenge (slot : Nat) (nonce : List Byte)
  /-- R346: SPDM request answered with the measurement blocks of Table 11-11. -/
  | getMeasurements (index : Nat) (sign : Bool) (nonce : List Byte)
  /-- R360: PERST_N rises while PWRGD is high after having held the device in reset, and the power-on sequence starts from that edge. -/
  | perstNDeassert (env : BootEnv)
  /-- R31: The UCIe modules retrained after a die-to-die PLL unlock finish training, and the ring pair or site link returns to service with held traffic released. -/
  | ucieRetrainComplete (ring : Bool) (k : Fin 8)
  /-- R307: A reverse frame from the Understudy reaches the lead, carrying the shadow result, the acknowledgement of a write-through segment or a request for a KIND 1 frame. -/
  | understudyAck (k : Fin 8) (ack : Bool) (kind1 : Bool)
  /-- R374: A host write unmasks a masked MSI-X vector whose pending bit is set, and the message is sent. -/
  | msiXVectorUnmask (vec : Fin 2048)
  /-- R324: An instruction loaded through the IEEE 1149.1 TAP is accepted, or is turned into BYPASS while test is locked. -/
  | tapInstruction (die : Fin 16) (inst : Tap)
deriving DecidableEq, Repr

end Sys2Proof
end

