-- ==== Sys2Proof/Config.lean ====
section
/-! DEFINITION. The free values: what the manual leaves open is an opaque constant here, with no body,
so no proof can rest on a value of it. Each is applied to what it may depend on, or to the plain
counter of State that a use advances. The log entry of each is named beside it. -/

namespace Sys2Proof.Config

/-- Log 3. Rank of term `i` among the terms of one accumulation, where the order can be seen (R54). -/
opaque termRank : Nat → Nat → Nat

/-- Log 4. Whether EXP2 of the dyadic `m × 2^e` answers the upper of the two neighbours (Table 3-12: at most 1 ulp). -/
opaque exp2Upper : Int → Int → Bool

/-- Log 4. The binary32 that LOG2 answers, used where it lies within the stated bound (Table 3-12). -/
opaque log2Near : Nat → Nat

/-- Log 4. Whether RSQRT of a binary32 answers the upper neighbour (Table 3-12: at most 1 ulp). -/
opaque rsqrtUpper : Nat → Bool

/-- Log 5. Whether destination byte `a` of the record stopped by an uncorrectable word took its new value (R379). -/
opaque uncorrTook : Nat → Nat → Bool

/-- Log 5. The arithmetic flags that a record stopped by an uncorrectable word reports (R379). -/
opaque uncorrFlags : Nat → Nat

/-- Log 5. The accumulator that lane-bank `b` holds after a dot-array record stopped by an uncorrectable word (R379). -/
opaque uncorrXa : Nat → Nat → Nat

/-- Log 61. Whether a record that a core reset ends had written word `w` of its destination (Table 11-7). -/
opaque resetTook : Nat → Nat → Bool

/-- Log 14. The place in scratch, in slots of 32 bytes, of a ring slot whose address lies beyond 256 KiB (R67). -/
opaque ringBeyond : Nat → Nat

/-- Log 11. The percentage that WD_CTL.PCT = 0 acts as (R297 gives 1 to 25, and 25 for more). -/
opaque pctZero : Nat

/-- Log 12. What a read of a word with three or more wrong bits meets: 0 poisoned, 1 miscorrected, else clean (R105). -/
opaque multiOutcome : Nat → Nat

/-- Log 12. The eight bytes that a miscorrected or clean-looking word reads as (R105). -/
opaque multiBytes : Nat → BitVec 64

/-- Log 16. Whether byte `a` of a DMA destination that intersects its source keeps its old value (R173). -/
opaque dmaKeepsOld : Nat → Nat → Bool

/-- Log 71. The peer reads that a channel holds room for beside the first (R232: no figure is given). -/
opaque readRoom : Nat

/-- Log 17. The change of a ring's heater code in one control cycle, taken within the 16 steps that R196 allows. -/
opaque heaterStep : Nat → Int

/-- Log 18. Random bytes: the challenge of GET_CHALLENGE, nonces, and the ECDSA signatures of SPDM responses (R345, R346). -/
opaque randomByte : Nat → Nat → BitVec 8

/-- Log 20. A time in ns (or another stated unit) that the device measures and the model keeps no clock for. -/
opaque duration : Nat → Nat

/-- Log 35. A port's corrected internal transmit (0) or receive (1) delay at a training, in 1/64 LSB (R218). -/
opaque portDelay : Nat → Nat → BitVec 32

/-- Log 75. The lane that a partner's PAUSE for a lane move concerns: whether this end receives it, lane and line. -/
opaque partnerMove : Nat → Bool × Nat × Nat

/-- Log 81. How many messages a partition's relay buffer of a rank holds (R273). -/
opaque relayRoom : Nat → Nat

/-- Log 39. The corrected code of an ADC sample, from the raw reading and the reference codes in force (R214). -/
opaque adcCorrected : Int → Nat → Nat → Nat

/-- Log 40. The pending trim the lead estimates for a ring from its dither statistics, if any (R199). -/
opaque trimOf : Nat → Nat → Option Int

/-- Log 43. MISALIGN of an intruder that arrives while no schedule runs: no arrival is expected then (R211). -/
opaque misalignIdle : Nat → BitVec 32

/-- Log 42. HOUSE_ID of the settings in use: the manual does not lay out their body (R262). -/
opaque houseId : List Byte → Nat

/-- Log 72. When a waiter of another device, by its key and object, registered: no Bloodhound message carries it
(R151, R153). -/
opaque remoteSince : Nat → Nat → Nat

/-- Log 46. Vobefa's test unlock public key, x then y: the manual gives only its hash, in TEST_KEY_HASH (R345). -/
opaque testKey : List Byte

/-- Log 53. Whether a flash program succeeds and verifies (Table 11-10: FLASH_FAIL). -/
opaque flashOk : Nat → Bool

/-- Log 53. Whether the fuse words that FW_ACTIVATE or PROVISION blows read back right (R318). -/
opaque fuseOk : Nat → Bool

/-- Log 53. The bits that a failed fuse word holds (R318, R360). -/
opaque fuseTook : Nat → Nat

/-- Log 53. The order in which FW_ACTIVATE blows the bits of SVN_MIN: only their count is given (R340). -/
opaque svnOrder : Nat → Nat

/-- Log 54. SHA-384 of the common section as a firmware of one header migrates it from a blob of another (R348). -/
opaque migratedHash : List Byte → List Byte → List Byte

/-- Log 55. The licence public key that a verified firmware image carries, by the image's digest (R322). -/
opaque licenceKey : List Byte → List Byte

/-- Log 56. SHA-384 of the prompter ROM, byte by byte (Table 11-11). -/
opaque romDigest : Nat → BitVec 8

/-- Log 53. Whether the temperature window still holds before a later page or fuse word of one write (R304). -/
opaque windowHolds : Nat → Bool

/-- Log 83. Where the core firmware section lies in the body of a verified image, by its header: offset and length (R326). -/
opaque coreSection : List Byte → Nat × Nat

/-- Log 84. The result of a test loopback (R323). -/
opaque loopback : Nat → Nat

end Sys2Proof.Config
end

