-- ==== Sys2Proof/Machine/Ops.lean ====
section
/-! DEFINITION. The named operations every block uses: bit fields, little-endian bytes, signed
fields, sparse stores and byte memories. Every byte order and every field extraction of the model is
written here once. -/

namespace Sys2Proof.Machine

/-! ## Bit fields of natural numbers -/

/-- Bits `[hi:lo]` of `x` (the manual's way to write a bit range, R12). -/
def bits (x hi lo : Nat) : Nat := x / 2 ^ lo % 2 ^ (hi + 1 - lo)

/-- Bit `i` of `x`. -/
def bit (x i : Nat) : Bool := x / 2 ^ i % 2 == 1

/-- `x` with bits `[hi:lo]` replaced by the low bits of `v`. -/
def putBits (x hi lo v : Nat) : Nat :=
  x - bits x hi lo * 2 ^ lo + v % 2 ^ (hi + 1 - lo) * 2 ^ lo

/-- A Bool as the bit it stands for. -/
def b2n (b : Bool) : Nat := if b then 1 else 0

/-- Bits `[hi:lo]` of a register. -/
def rf (w : W32) (hi lo : Nat) : Nat := bits w.toNat hi lo

/-- Bit `i` of a register. -/
def rb (w : W32) (i : Nat) : Bool := bit w.toNat i

/-- A register with bits `[hi:lo]` replaced. -/
def rput (w : W32) (hi lo v : Nat) : W32 := BitVec.ofNat 32 (putBits w.toNat hi lo v)

/-- A saturating increment of a 32-bit counter register ("saturates" in the RC rows of every page). -/
def satAdd (w : W32) (n : Nat) : W32 := BitVec.ofNat 32 (min (w.toNat + n) 0xFFFFFFFF)

/-- The two's-complement reading of the low `n` bits of `v`. -/
def sgn (n v : Nat) : Int :=
  if v % 2 ^ n < 2 ^ (n - 1) then (v % 2 ^ n : Nat) else (v % 2 ^ n : Nat) - (2 ^ n : Nat)

/-- The low `n` bits of the two's complement of `i`. -/
def unsgn (n : Nat) (i : Int) : Nat := (i % (2 ^ n : Nat)).toNat

/-- `⌈a / b⌉`. -/
def ceilDiv (a b : Nat) : Nat := (a + b - 1) / b

/-- The bits of `x` that are set among positions `lo, …, lo + n - 1`, ascending. -/
def setBits (x : Nat) : Nat → Nat → List Nat
  | _, 0 => []
  | lo, n + 1 => if bit x lo then lo :: setBits x (lo + 1) n else setBits x (lo + 1) n

/-! ## Little-endian bytes (R43: all multi-byte fields are little-endian) -/

/-- The number a little-endian byte list stands for. -/
def leOf : List Byte → Nat
  | [] => 0
  | b :: r => b.toNat + 256 * leOf r

/-- The `n` little-endian bytes of `v`. -/
def leBytes : Nat → Nat → List Byte
  | 0, _ => []
  | n + 1, v => BitVec.ofNat 8 v :: leBytes n (v / 256)

/-- Bytes `[off, off+n)` of a list, short where the list ends. -/
def slice (bs : List Byte) (off n : Nat) : List Byte := (bs.drop off).take n

/-- The little-endian number in bytes `[off, off+n)` of a list. -/
def leAt (bs : List Byte) (off n : Nat) : Nat := leOf (slice bs off n)

/-- A list of bytes cut or zero-filled to length `n`. -/
def padTo (n : Nat) (bs : List Byte) : List Byte := (bs.take n) ++ List.replicate (n - bs.length) 0#8

/-! ## Sparse stores -/

/-- The value of key `k`; `d` is what an unlisted key has. -/
def tblGet {α : Type} (d : α) : Tbl α → Nat → α
  | [], _ => d
  | (j, v) :: r, k => if j = k then v else tblGet d r k

/-- The store with every entry of key `k` taken out. -/
def tblDrop {α : Type} (k : Nat) : Tbl α → Tbl α
  | [] => []
  | (j, v) :: r => if j = k then tblDrop k r else (j, v) :: tblDrop k r

/-- The store with an entry put in key order. -/
def tblIns {α : Type} (k : Nat) (v : α) : Tbl α → Tbl α
  | [] => [(k, v)]
  | (j, w) :: r => if k < j then (k, v) :: (j, w) :: r else (j, w) :: tblIns k v r

/-- The store with key `k` set to `v`; setting the unlisted value `d` removes the entry. -/
def tblSet {α : Type} [DecidableEq α] (d : α) (t : Tbl α) (k : Nat) (v : α) : Tbl α :=
  if v = d then tblDrop k t else tblIns k v (tblDrop k t)

/-- Every key of the store is at least `lo`, the keys rise strictly, and no listed value is the unlisted one. -/
def tblWfFrom {α : Type} [DecidableEq α] (d : Nat → α) : Nat → Tbl α → Bool
  | _, [] => true
  | lo, (k, v) :: r => decide (lo ≤ k) && decide (v ≠ d k) && tblWfFrom d (k + 1) r

/-- The canonical form of a store. -/
def tblWf {α : Type} [DecidableEq α] (d : Nat → α) (t : Tbl α) : Bool := tblWfFrom d 0 t

/-- The store without the keys that `p` names. -/
def tblClear {α : Type} (p : Nat → Bool) (t : Tbl α) : Tbl α := t.filter (fun e => !p e.1)

/-! ## Byte memories -/

/-- `n` bytes from address `a` on; an unlisted byte reads as `d`. -/
def memRead (d : Byte) (m : Tbl Byte) (a : Nat) : Nat → List Byte
  | 0 => []
  | n + 1 => tblGet d m a :: memRead d m (a + 1) n

/-- A memory with the bytes written from address `a` on. -/
def memWrite (d : Byte) (m : Tbl Byte) (a : Nat) : List Byte → Tbl Byte
  | [] => m
  | b :: r => memWrite d (tblSet d m a b) (a + 1) r

/-! ## Lists -/

/-- A list with element `i` replaced (unchanged where there is none). -/
def setAt {α : Type} : List α → Nat → α → List α
  | [], _, _ => []
  | _ :: r, 0, v => v :: r
  | x :: r, i + 1, v => x :: setAt r i v

/-- A list without the first element that satisfies `p`. -/
def dropFirst {α : Type} (p : α → Bool) : List α → List α
  | [] => []
  | x :: r => if p x then r else x :: dropFirst p r

/-- The list of its elements with each one only once, the first standing. -/
def distinct : List Nat → List Nat
  | [] => []
  | x :: r => x :: (distinct r).filter (fun y => y != x)

/-- Applies `f` to every number below `n`, ascending, threading the state. -/
def forN {σ : Type} (f : Nat → σ → σ) : Nat → σ → σ
  | 0, s => s
  | n + 1, s => f n (forN f n s)

end Sys2Proof.Machine
end

