-- ==== Sys2Proof/Machine/PartsCore.lean ====
section
/-! DEFINITION. The state of the cores, of the on-package memory words, and of Usher (chs. 3 and 4),
as plain data. -/

namespace Sys2Proof.Machine

open Sys2Proof

/-! ## Core sequencer (ch. 3) -/

/-- A fetched slot: its index in the ring, its 32 bytes, and whether it held a poisoned word (R379). -/
structure Slot where
  idx : Nat
  bytes : List Byte
  poison : Bool
deriving DecidableEq, Repr

/-- A scratch word that a record in flight writes: whether it was poisoned before, and of each byte written its
global address, its earlier value and the value written (Table 11-7: a core reset may meet the record before it
has written the word). -/
structure UndoWord where
  word : Nat
  poisoned : Bool
  cells : List (Nat × Byte × Byte)
deriving DecidableEq, Repr

/-- An issued record (R65). `done`: completed; `acted`: its effect has been taken (SIGNAL, RETURN, END,
FENCE) or its outside condition met (WAIT, TICKET, CUE_WAIT); `code`, `flags`, `late`: its status so
far; `seq`: the sequence number of a remote SIGNAL; `reads`, `writes`: scratch regions (R98);
`hand`: handle regions as handle, start, length, and whether written; `issued`: the control clock at issue (for
the timeout of a TICKET); `asked`: a TICKET whose request has joined the queue (R292); `undo`: what a core reset
may leave of scratch (Table 11-7). -/
structure Flight where
  slot : Slot
  done : Bool
  acted : Bool
  code : Nat
  flags : Nat
  late : Bool
  seq : Nat
  reads : List (Nat × Nat)
  writes : List (Nat × Nat)
  hand : List (Nat × Nat × Nat × Bool)
  issued : Nat
  asked : Bool
  undo : List UndoWord
deriving DecidableEq, Repr

/-- One core: STATE and HALT_CAUSE (Table 3-3), QHEAD, QDONE, the slots whose records completed out of
order and must not run again (DONE_MASK, R72), the draining fault, held tickets and those requested
back (R82), whether the dot array is paused, the fetched and the issued records, and the 64 XA (lane
`l` of bank `b` at key `32 b + l`). -/
structure CoreSt where
  st : Nat
  cause : Nat
  qhead : Nat
  qdone : Nat
  skip : List Nat
  fault : Option (Nat × Nat)
  held : Nat
  back : Nat
  paused : Bool
  fetched : List Slot
  flight : List Flight
  xa : Tbl Xa
deriving DecidableEq, Repr

/-- A core right after a core reset: every register of Table 3-2 that it backs reads 0 (R67). -/
def CoreSt.init : CoreSt := ⟨0, 0, 0, 0, [], none, 0, 0, false, [], [], []⟩

/-! ## Memory words (R105, R379) -/

/-- What a 64-bit word's check bits say. `single`: one wrong bit, not yet counted; `pending`: corrected
and counted, write-back outstanding; `double`: two wrong bits, not yet found; `poisoned`; `multi`: three
or more wrong bits, whose outcome is not specified. The stored bytes are the correct data. -/
inductive Health where
  | ok | single | pending | double | poisoned | multi
deriving DecidableEq, Repr

/-! ## Usher (ch. 4) -/

/-- A move of a shard: target cluster and page, completed dirty rounds, the dirty 4 KiB sub-blocks, and
whether a PIN drives it, without the round limit (R118, R120). -/
structure MoveSt where
  toClu : Nat
  toPage : Nat
  round : Nat
  dirtySub : List Nat
  forPin : Bool
deriving DecidableEq, Repr

/-- A shard (R110 to R121): its slice place as cluster and page, its partner place, whether the partner
copy is valid, DIRTY, the counters of Table 4-7, a move in progress, and the 4 KiB pieces a fill or an
eviction still waits for, with the place a fill goes to. -/
structure ShardSt where
  loc : Option (Nat × Nat)
  partner : Option (Nat × Nat)
  pvalid : Bool
  dirty : Bool
  total : Nat
  topClu : Nat
  topCnt : Nat
  plan : Option Nat
  move : Option MoveSt
  filling : Option (Nat × Nat)
  waiting : Nat
deriving DecidableEq, Repr

/-- A handle: the descriptor of Table 4-6, its context, pin, residency and shards; `dying`: a DESTROY of it waits for
accesses translated earlier (R113), and later ones find no handle. -/
structure HandleSt where
  size : Nat
  shardLog2 : Nat
  fmt : Nat
  typed : Bool
  persist : Bool
  rank : Nat
  dims : List Nat
  scl : Nat
  ctx : Nat
  pinned : Bool
  resident : Bool
  shards : List ShardSt
  dying : Bool
deriving DecidableEq, Repr

/-- An outstanding or queued partner request (R133, R134): its tag (given when it is
sent), partner index, whether it is a READ, handle, shard, 4 KiB piece, whether it has been sent, and whether another piece
of its shard failed, so that its answer counts for nothing (R126). -/
structure MpReq where
  tag : Nat
  partner : Nat
  read : Bool
  handle : Nat
  shard : Nat
  piece : Nat
  sent : Bool
  dead : Bool
deriving DecidableEq, Repr

/-- The request Usher is working on (R108): its ring index and bytes, whether its WAIT_EN wait is
registered, and its phase: 0 not started, 1 a PIN's moves running, 2 a SCENE_SWAP's transfers running,
3 EARLY fills running before the start condition, 4 a SCENE_SWAP planned whose earlier accesses drain (R124). -/
structure UshReq where
  index : Nat
  entry : List Byte
  waiting : Bool
  phase : Nat
deriving DecidableEq, Repr

/-- A scene swap in progress: context, target scene, out-set, in-set, pages filled and the failure code. -/
structure SwapSt where
  ctx : Nat
  scene : Nat
  out : List Nat
  inn : List Nat
  filled : Nat
  fail : Nat
deriving DecidableEq, Repr

/-- What a switch saves of one core (R129): its state, the tickets it asks for again, the listed bytes and
word healths of its SAVE bytes of scratch by offset, and its sequencer registers in the order of `seqRegs`. -/
structure SavedCore where
  core : CoreSt
  tickets : Nat
  scratch : Tbl (BitVec 8)
  health : Tbl Health
  regs : List W32
deriving DecidableEq, Repr

/-- A context's save area (R129): whether CTX_INIT allocated it, SAVE_4K as used, its pages per cluster
as cluster, page and count, whether it has never run, and the saved cores by number. -/
structure CtxSt where
  inited : Bool
  save4k : Nat
  area : List (Nat × Nat × Nat)
  fresh : Bool
  cores : Tbl SavedCore
deriving DecidableEq, Repr

/-- A context that no CTX_INIT has named. -/
def CtxSt.init : CtxSt := ⟨false, 0, [], false, []⟩

/-- A core's save with nothing in it. -/
def SavedCore.init : SavedCore := ⟨CoreSt.init, 0, [], [], []⟩

/-- Usher of one partition. `htLog2`, `smLog2`, `carve` and `usable` are fixed at a partition reset
(R103, R104); `hidden` lists pinned hidden allocations as cluster, page, count; `windows` the BAR2
bindings as handle and offset; `scenes` are keyed by `256 ctx + scene`; `tail` is the last doorbell and
`stalled` says an entry with OWN = 0 stopped processing (R108); `stopped` that a switch has begun, `switching` is the
incoming context once the outgoing one is saved; `waitReset` lists the core resets (and cluster resets, marked true)
that wait for the switch to end (R329). -/
structure UshSt where
  htLog2 : Nat
  smLog2 : Nat
  carve : Bool
  usable : Nat
  handles : Tbl (Option HandleSt)
  hidden : List (Nat × Nat × Nat)
  windows : Tbl (Option (Nat × Nat))
  scenes : Tbl (Option (List Nat))
  current : Tbl (Option Nat)
  rehearsing : List Nat
  tail : Nat
  stalled : Bool
  req : Option UshReq
  swap : Option SwapSt
  mp : List MpReq
  nextTag : Nat
  hold : Bool
  tokens : Nat
  running : Nat
  switching : Option Nat
  stopped : Bool
  ctxs : Tbl CtxSt
  exportPages : List (Nat × Nat)
  waitReset : List (Bool × Nat)
deriving DecidableEq, Repr

/-- Usher before partition bring-up. -/
def UshSt.init : UshSt :=
  ⟨16, 18, false, 0, [], [], [], [], [], [], 0, false, none, none, [], 0, false, 0, 0, none, false, [], [], []⟩

end Sys2Proof.Machine
end

