-- ==== Sys2Proof/Machine/PartsDma.lean ====
section
/-! DEFINITION. The state of the DMA channels (ch. 6) and of the links (ch. 8), as plain data. -/

namespace Sys2Proof.Machine

open Sys2Proof

/-! ## DMA channels -/

/-- A descriptor read ahead (R170): its ring index and the 64 bytes it executes from, and whether a
poisoned word or a range error met its reading (a status code, 0 for none). -/
structure DescSlot where
  idx : Nat
  bytes : List Byte
  bad : Nat
deriving DecidableEq, Repr

/-- A peer request of an executing descriptor (R167, R232): tag, whether a read, the destination (or
source) byte position in the row order, its length, the peer context, and for a collective message (R277)
its OP, first element and element count (OP 0: a native transaction). -/
structure PeerReq where
  tag : Nat
  read : Bool
  pos : Nat
  len : Nat
  peer : Nat
  coll : Nat × Nat × Nat
deriving DecidableEq, Repr

/-- A DMA channel. `st` is STAT.STATE (Table 6-10); `head`, `done`, `tail` the ring indices; `ahead` the
descriptors read ahead, the first being the one that waits or executes; `started` whether it executes;
`code` its status so far; `reqs` peer requests outstanding and `todo` those not yet issued (a peer write
carries its bytes and poison); `stalled` whether an OWN = 0 descriptor stopped reading; `events`
STAT.EVENTS; `resume` the state before PAUSED; `bytes` the destination bytes written. -/
structure ChanSt where
  st : Nat
  head : Nat
  done : Nat
  tail : Nat
  ahead : List DescSlot
  started : Bool
  code : Nat
  reqs : List PeerReq
  todo : List PeerReq
  data : Tbl (Byte × Bool)
  stalled : Bool
  events : Nat
  cfgErr : Bool
  resume : Nat
  nextTag : Nat
  bytes : Nat
deriving DecidableEq, Repr

/-- A channel after a cluster reset: DISABLED. -/
def ChanSt.init : ChanSt := ⟨0, 0, 0, 0, [], false, 0, [], [], [], false, 0, false, 0, 0, 0⟩

/-! ## Links -/

/-- A FENCE whose point is not reached: its scope, ORIGIN, and the messages in scope that had arrived before
it and were still waiting (R254). -/
structure FenceSt where
  scope : Scope
  origin : Nat
  wait : List Msg
deriving DecidableEq, Repr

/-- A message that arrived and waits for its unit or for its next rank, with the link it came over. -/
structure Arrived where
  msg : Msg
  link : Nat
deriving DecidableEq, Repr

/-- A flit or ordered set that waits for a house link's next burst: the tenant of its message (65536 for none), its bytes,
and whether it is sent again. -/
structure OutFlit where
  tenant : Nat
  bytes : List Byte
  resent : Bool
deriving DecidableEq, Repr

/-- One link (R223 to R257). `state` and `cause` are those of LNKn_STAT; `ver` the operating version;
`nonce` the own nonce and `peerCap` the 128 bytes of the partner's last CAP (none: not yet);
`capAcked` whether the own CAP was acknowledged; `next`, `acked`, `expected` the sequence numbers;
`replay` the held flits with their numbers and tenants; `replays` consecutive replays and `replayRetrained` whether a
REPLAY retrain came before them; `crcRun` consecutive CRC failures; `nakArmed`, and `nakAt` when the last NAK
left; `ackPend` an acknowledgement to send, and whether as a NAK, and `ackCount` flits accepted since the last ACK; the credit counts by `2 class + kind`;
`reported` the FREED values last reported and `rot` the last reported; `pool` the credits outstanding in the order spent, each
with whether a relayed message spent it; `txq` messages waiting; `turn` the bulk class served last; `opened` a
started message and its slots still to be sent, by class; `outq` what waits for the link's next burst; `rxOpen` an inbound message not yet whole, by class;
`held` the hold set; `ctrTx`, `ctrRx` curtain counters by tenant; `curtq` curtains waiting for RESUME;
`fences` fence points not reached; `paused` while a retrain runs, `resumed` whether this end sent RESUME, `heard` the EXPECTED of the partner's RESUME; `attempt` the
failed retrains in a row, `reason` of the retrain; `rto` is REPLAY_TO. -/
structure LinkSt where
  state : Nat
  cause : Nat
  ver : Nat
  nonce : Nat
  peerCap : Option (List Byte)
  capAcked : Bool
  next : Nat
  acked : Nat
  expected : Nat
  replay : List (Nat × Nat × List Byte)
  replays : Nat
  replayRetrained : Bool
  crcRun : Nat
  nakArmed : Bool
  nakAt : Nat
  ackPend : Option Bool
  ackCount : Nat
  consumed : Tbl Nat
  returned : Tbl Nat
  received : Tbl Nat
  freed : Tbl Nat
  reported : Tbl Nat
  rot : Nat
  pool : Tbl (List (Bool × Nat))
  txq : List Msg
  turn : Nat
  opened : Tbl (Option (Msg × List Byte))
  outq : List OutFlit
  rxOpen : Tbl (List Byte)
  held : List Scope
  ctrTx : Tbl Nat
  ctrRx : Tbl Nat
  curtq : List (List Byte)
  fences : List FenceSt
  paused : Bool
  resumed : Bool
  heard : Option Nat
  attempt : Nat
  reason : Nat
  rto : Nat
deriving DecidableEq, Repr

/-- A link that is DOWN, its counts as the register reset values show them (Table 8-19: ACKED 0xFFFF). -/
def LinkSt.init : LinkSt where
  state := 0
  cause := 0
  ver := 0
  nonce := 0
  peerCap := none
  capAcked := false
  next := 0
  acked := 0xFFFF
  expected := 0
  replay := []
  replays := 0
  replayRetrained := false
  crcRun := 0
  nakArmed := true
  nakAt := 0
  ackPend := none
  ackCount := 0
  consumed := []
  returned := []
  received := []
  freed := []
  reported := []
  rot := 0
  pool := []
  txq := []
  turn := 6
  opened := []
  outq := []
  rxOpen := []
  held := []
  ctrTx := []
  ctrRx := []
  curtq := []
  fences := []
  paused := false
  resumed := false
  heard := none
  attempt := 0
  reason := 0
  rto := 0

end Sys2Proof.Machine
end

