-- ==== Sys2Proof/Machine/PartsOptic.lean ====
section
/-! DEFINITION. The state of the DL8 sites: lasers, rings, ports, schedules, monitor ADC and the two
controllers (chs. 7, 9 and 10), as plain data. -/

namespace Sys2Proof.Machine

open Sys2Proof

/-- A ring (Table 7-18, R195 to R199): RING_STAT.STATE, lane and line (0x1F none), heater code, pending
trim, the setpoint offset in codes, the control-clock times of its lock losses, the run of cycles with an error
above 8 GHz, the run of cycles with a weak dither response, and the lane it takes over once it has acquired. A
PARKED ring with a line waits for its turn to acquire it (R197). -/
structure RingSt where
  st : Nat
  lane : Nat
  line : Nat
  code : Nat
  trim : Option Int
  offset : Int
  losses : List Nat
  badRun : Nat
  weakRun : Nat
  nextLane : Nat
deriving DecidableEq, Repr

/-- A ring after reset: PARKED, no lane, no line (RING_STAT reset 0x001F_1F00). -/
def RingSt.init : RingSt := ⟨0, 0x1F, 0x1F, 0, none, 0, [], 0, 0, 0x1F⟩

/-- A ring waits for its turn to acquire (R197). -/
def RingSt.waits (r : RingSt) : Bool := r.st == 0 && r.line != 0x1F

/-- A laser source at its site: LOST, the level output (100%), RESTORED, and whether the loss has not yet
been acted on by the lead (R191 to R194). -/
structure LaserSt where
  lost : Bool
  full : Bool
  restored : Bool
  fresh : Bool
deriving DecidableEq, Repr

def LaserSt.init : LaserSt := ⟨false, false, false, false⟩

/-- A controller of a DL8 (R308, R311): role (0 LEAD, 1 UNDERSTUDY, 2 RECOVERING, 3 FAILED), whether its
last full RAM pass succeeded, whether one has ended since recovery began, when the last one ended, failed recovery
attempts in a row, and consecutive cycles shadowed without a mismatch. -/
structure CtlSt where
  role : Nat
  ramOk : Bool
  passed : Bool
  passEnd : Option Nat
  attempts : Nat
  clean : Nat
deriving DecidableEq, Repr

/-- An item of the slow class (R307). Failed marks, lane moves, the two lane maps of a width step (the second one
takes it) and curtain keys are written through; reserve marks, lock-loss histories, intermission ends and the lane maps
of a change that does not wait are mirrored without waiting. -/
inductive WtItem where
  | ringFailed (ring : Nat)
  | lineFailed (port : Nat) (rx : Bool) (line : Nat)
  | laneMap (port : Nat) (rx : Bool) (lane fromRing toRing line : Nat)
  | step (port minW : Nat) (rx : Bool)
  | map (port : Nat) (rx : Bool)
  | key (tenant : Nat) (key : List Byte)
  | mark (link tenant value : Nat)
  | losses (ring : Nat) (times : List Nat)
  | imEnd (port time : Nat)
deriving DecidableEq, Repr

/-- A site (R186 to R222, R305 to R311, R320). `status`: 0 waiting for the descriptor, 1 SELECT sent,
2 in use, 3 FAILED; `sel` the SELECT record sent; `desc` the accepted descriptor; `cross`, `ramp`,
`rampFail`, `survivor`: laser failover; `adc` the latest samples by channel; `adcFrame`, `adcSlot`, `stale`,
`adcRefs` (whether each reference sample of this frame was good) and `adcCorr` (the codes of channels 62 and 63
that the corrections in force come from); `lead` which controller is in control; `cycle` the frame number and
`seen` that of the last frame the Understudy took; `sync`, `resync` (how many good frames resynchronisation
still needs), `wantKind1`, `delta` (the code changes that the Understudy computed for the last cycle, as the DELTA
of a frame), `told` (the ring states as the lead's frames last gave them), `missed`, `mmRun`, `isoAge` (cycles since an isolated mismatch or since reset, to
1,000), `ready` as last reported, `gap` (cycles of a switch-over still to run), `force`; `lastGap`; `mirror`
the ring states the Understudy holds; `wt` the write-through items with the segments still to be acknowledged;
`keys` curtain keys by tenant; `marks` (reserve marks of COUNTER by `65536 link + tenant`) and `hist` (lock-loss
histories by ring of the site, and the intermission end of its port n by 288 + n) what the Understudy holds; `forced` the
ports that wait for a forced intermission (R217);
`crossPend` while the ports have not all resumed on the survivor. -/
structure SiteSt where
  status : Nat
  checkFails : Nat
  sel : List Byte
  desc : List Byte
  laserA : LaserSt
  laserB : LaserSt
  cross : Nat
  ramp : Bool
  rampFail : Bool
  survivor : Nat
  uncross : Bool
  adc : Tbl W32
  adcFrame : Nat
  adcSlot : Nat
  stale : Nat
  adcRefs : Bool × Bool
  adcCorr : Nat × Nat
  lead : Nat
  c0 : CtlSt
  c1 : CtlSt
  cycle : Nat
  seen : Nat
  sync : Bool
  resync : Nat
  wantKind1 : Bool
  delta : Nat
  told : Tbl Nat
  missed : Nat
  mmRun : Nat
  isoAge : Nat
  ready : Bool
  gap : Nat
  force : Bool
  crossPend : Bool
  lastGap : Nat
  mirror : Tbl Nat
  wt : List (WtItem × Nat)
  keys : Tbl (List Byte)
  marks : Tbl Nat
  hist : Tbl (List Nat)
  forced : List Nat
deriving DecidableEq, Repr

/-- A site after a device reset: C0 is the lead, C1 the Understudy (R305), nothing in use. -/
def SiteSt.init : SiteSt where
  status := 0
  checkFails := 0
  sel := []
  desc := []
  laserA := LaserSt.init
  laserB := LaserSt.init
  cross := 0
  ramp := false
  rampFail := false
  survivor := 0
  uncross := false
  adc := []
  adcFrame := 0
  adcSlot := 0
  stale := 0
  adcRefs := (false, false)
  adcCorr := (0, 0)
  lead := 0
  c0 := ⟨0, false, false, none, 0, 0⟩
  c1 := ⟨1, false, false, none, 0, 0⟩
  cycle := 0
  seen := 2 ^ 24 - 1
  sync := false
  resync := 2
  wantKind1 := true
  delta := 0
  told := []
  missed := 0
  mmRun := 0
  isoAge := 0
  ready := false
  gap := 0
  force := false
  crossPend := false
  lastGap := 0
  mirror := []
  wt := []
  keys := []
  marks := []
  hist := []
  forced := []

/-- A burst in reception (R209 to R211): sender, whether its flits are still good, and how many are to come. -/
structure BurstSt where
  device : Nat
  good : Bool
  left : Nat
deriving DecidableEq, Repr

/-- A house schedule (R267 to R269): running, active bank, swap and stop pending, ranged, delay, slot,
GTS of the current cycle's start, RANGE bursts sent and unheard, ranging in progress, whether ranging
failed, the link served last by output, the management messages that are drawn, as link and
the cycles each still waits, the entries A and B by `1024 bank + entry`, HS_CFG, and
the counters HS_FOREIGN and HS_CUE_BAD. -/
structure HsSt where
  running : Bool
  bank : Nat
  swapPend : Bool
  stopPend : Bool
  ranged : Bool
  delay : Nat
  slot : Nat
  cycleStart : Nat
  tries : Nat
  ranging : Bool
  rangeFail : Bool
  rots : Tbl Nat
  draws : List (Nat × Nat)
  entries : Tbl (W32 × W32)
  slots : Nat
  flits : Nat
  foreign : W32
  cueBad : W32
deriving DecidableEq, Repr

/-- A stopped schedule; HS_CFG at its reset value (Table 9-12). -/
def HsSt.init : HsSt :=
  ⟨false, 0, false, false, false, 0, 0, 0, 0, false, false, [], [], [], 0x041, 0x40, 0, 0⟩

/-- What a port ran before a laser loss (R192): width, speed, `minW`, `minS` and lanes by ring. -/
structure ShapeSt where
  width : Nat
  speed : Nat
  minW : Nat
  minS : Nat
  lanes : List (Nat × Nat)
deriving DecidableEq, Repr

/-- A running intermission (R215): its length in µs (0: announced by the partner), whether it is forced, and whether trims
may be applied at its end (R310). -/
structure ImSt where
  len : Nat
  forced : Bool
  trims : Bool
deriving DecidableEq, Repr

/-- A port (R188, R200 to R218). `st` is PORTn_STAT.STATE; `los`, `lossStage`; `width` and `speed` the
current codes; `lit` the codes of the four monitor photodiodes at the last training (R206); `capW`, `capS` the caps in effect (R204); `txBad`, `rxBad` failed-line masks; `peerRx` the
partner's healthy receive rings, `peerW` and `peerS` its width and speed codes and `peerOld` whether it is of the
previous generation; `minW` and `minS` what this end's failures and laser ramps limit the codes to; eye margin and lane; `marginRun` bad measurements in a row by lane; `cdr` lock-loss times by
lane; `fails` margin failures as time, lane and line; `saved` what the port ran before
a laser loss; `imReq` a held intermission request, `imRun` the running one, `imEnd` the end of the
last one; `want` while the lead handles the events of one control cycle the reason of the change that they ask for (0 none);
`requal` a REQUAL to run; `cal` the low bits of PORTn_CAL; `intruder`, `misalign`; `burst` the burst
in reception and `rearmed` whether an intruder's delimiter is awaited; `spot` the selected output, `steer`
a steer that waits for a burst boundary; `dTx` and `dRx` the corrected internal delays (R218); `creds` the written
CRED_CFG advertisements plus one, by `2 class + kind`; `moves` the failures of lanes waiting for the lead, as whether
receive and lane; the schedule. -/
structure PortSt where
  st : Nat
  los : Bool
  lossStage : Nat
  lit : List Nat
  width : Nat
  speed : Nat
  capW : Nat
  capS : Nat
  txBad : Nat
  rxBad : Nat
  peerRx : Nat
  peerW : Nat
  peerS : Nat
  peerOld : Bool
  minW : Nat
  minS : Nat
  eye : Nat
  eyeLane : Nat
  marginRun : Tbl Nat
  cdr : Tbl (List Nat)
  fails : List (Nat × Nat × Nat)
  saved : Option ShapeSt
  imReq : Option Nat
  imRun : Option ImSt
  imEnd : Nat
  want : Option Nat
  requal : Bool
  cal : Nat
  intruder : W32
  misalign : W32
  burst : Option BurstSt
  rearmed : Bool
  spot : Nat
  steer : Option Nat
  moves : List (Bool × Nat)
  dTx : Nat
  dRx : Nat
  creds : Tbl Nat
  hs : HsSt
deriving DecidableEq, Repr

/-- A port after reset: DOWN, every register field of Table 7-19 at its reset value. -/
def PortSt.init : PortSt where
  st := 0
  los := false
  lossStage := 0
  lit := []
  width := 0
  speed := 0
  capW := 0
  capS := 0
  txBad := 0
  rxBad := 0
  peerRx := 18
  peerW := 0
  peerS := 0
  peerOld := false
  minW := 0
  minS := 0
  eye := 0
  eyeLane := 0
  marginRun := []
  cdr := []
  fails := []
  saved := none
  imReq := none
  imRun := none
  imEnd := 0
  want := none
  requal := false
  cal := 0
  intruder := 0
  misalign := 0
  burst := none
  rearmed := false
  spot := 0
  steer := none
  moves := []
  dTx := 0
  dRx := 0
  creds := []
  hs := HsSt.init

end Sys2Proof.Machine
end

