-- ==== Sys2Proof/Machine/PartsSync.lean ====
section
/-! DEFINITION. The state of the sync units, Bloodhound, the time-stamp unit and the cues (ch. 5), as
plain data. -/

namespace Sys2Proof.Machine

open Sys2Proof

/-- A registered wait (R140): the waiter's source number, object, condition (equal or greater-or-equal),
threshold, timeout in µs, registration GTS, and whether its condition has been met. -/
structure Waiter where
  src : Nat
  obj : Nat
  eq : Bool
  thr : Nat
  timeout : Nat
  gts : Nat
  met : Bool
deriving DecidableEq, Repr

/-- A remote signal sent and not acknowledged (R145): sequence, the sending core's source number,
partition of the target, object, set or add, operand. -/
structure Unacked where
  seq : Nat
  src : Nat
  part : Nat
  obj : Nat
  set : Bool
  value : Nat
deriving DecidableEq, Repr

/-- One peer context in a sync unit (R143 to R147): next send sequence, APPLIED, state (0 NORMAL, 1 LOST,
2 QUERIED), PEER_REMOTE_SEQ, unacknowledged signals oldest first, applied signals not yet acknowledged, and the signals of
a RESEND that wait for one of the partition's 256 places (R145, R147). -/
structure PeerSeq where
  tx : Nat
  applied : Nat
  state : Nat
  remoteSeq : Nat
  unacked : List Unacked
  ackDue : Nat
  again : List Unacked
deriving DecidableEq, Repr

/-- A peer after a partition reset: PEER_TX_SEQ reads 1 (Table 5-10). -/
def PeerSeq.init : PeerSeq := ⟨1, 0, 0, 0, [], 0, []⟩

/-- A loss-list entry (R146): peer, APPLIED mark, target partition, set or add, object, operand, sequence. -/
structure LossEnt where
  peer : Nat
  applied : Bool
  part : Nat
  set : Bool
  obj : Nat
  value : Nat
  seq : Nat
deriving DecidableEq, Repr

/-- A node of a Bloodhound path (Table 5-5): device number, partition, source, object, condition,
registration GTS. -/
structure BhNode where
  device : Nat
  part : Nat
  src : Nat
  obj : Nat
  eq : Bool
  gts : Nat
deriving DecidableEq, Repr

/-- A path being followed: its nodes in wait order and, where it left the partition, the query
outstanding: tag, peer context and the source asked for. -/
structure BhPath where
  nodes : List BhNode
  query : Option (Nat × Nat × Nat)
deriving DecidableEq, Repr

/-- A running census (R150): cause (0 periodic, 1 expiry), snapshot GTS, the waiters of the snapshot,
open paths, cycles found with their REMOTE mark, and queries sent. -/
structure Census where
  cause : Nat
  gts : Nat
  snap : List Waiter
  paths : List BhPath
  cycles : List (List BhNode × Bool)
  sent : Nat
deriving DecidableEq, Repr

/-- The sync unit of a partition (R136): object values and META words by number, registered waits in
registration order, peers by context, loss list by entry, the running census and the waiter whose expiry has queued a
further one. -/
structure SynSt where
  vals : Tbl Nat
  metas : Tbl Nat
  waiters : List Waiter
  peers : Tbl PeerSeq
  loss : Tbl (Option LossEnt)
  census : Option Census
  queued : Option Waiter
  nextQuery : Nat
deriving DecidableEq, Repr

/-- A sync unit after a partition reset (R136, R142, R143). -/
def SynSt.init : SynSt := ⟨[], [], [], [], [], none, none, 0⟩

/-- A cue entry (R161); `late` is its LATE field and `past` that it was armed in the past and has not fired since. -/
structure CueSt where
  en : Bool
  late : Bool
  past : Bool
  part : Nat
  kind : Nat
  arg : Nat
  target : Nat
  period : Nat
deriving DecidableEq, Repr

/-- A cue entry after reset: CUE_ACT reads 0 (Table 5-11). -/
def CueSt.init : CueSt := ⟨false, false, false, 0, 0, 0, 0, 0⟩

/-- The time-stamp unit (R154 to R162). `frac` is the fraction of an LSB in units of `2^-40`; `hi` is the
latched GTS_HI; `setPend` is a captured SET with ROOT as it read, `ratePend` a rate to apply, `stepPend` and `phase`
the servo's corrections; `okRun` and `badRun` count consecutive exchanges; `holdAt` is when HOLDOVER began; `stamps`
holds, at key `2 port`, the exchange number and arrival of the last TIMING received and, at `2 port + 1`, those of the
last one sent, in 1/64 LSB; `backed`: the last tick's correction set the GTS back below the multiple it had crossed. -/
structure TsuSt where
  state : Nat
  alt : Bool
  gts : Nat
  frac : Nat
  hi : Nat
  setPend : Option (Bool × Nat)
  rate : Int
  ratePend : Option Int
  stepPend : Option Int
  phase : Int
  okRun : Nat
  badRun : Nat
  holdAt : Nat
  stamps : Tbl (Option (Nat × Nat))
  asym : Tbl Nat
  cues : Tbl CueSt
  backed : Bool
deriving DecidableEq, Repr

/-- The TSU after a device reset: FREE, GTS 0 (R154, Table 5-6). -/
def TsuSt.init : TsuSt := ⟨0, false, 0, 0, 0, none, 0, none, none, 0, 0, 0, 0, [], [], [], false⟩

end Sys2Proof.Machine
end

