-- ==== Sys2Proof/Machine/PartsTrust.lean ====
section
/-! DEFINITION. The state of partitions, clusters, box offices, sensors, clocks, fuses, flash control,
mailbox, peer contexts and start-up phases (chs. 1, 4, 9, 10, 11 and 12), as plain data. -/

namespace Sys2Proof.Machine

open Sys2Proof

/-- A partition: PART_STAT.STATE (0 UNASSIGNED, 1 ASSIGNED, 2 RESETTING, 3 FAILED) and its tenant (R341). -/
structure PartSt where
  st : Nat
  tenant : Nat
deriving DecidableEq, Repr

def PartSt.init : PartSt := ⟨0, 0⟩

/-- A cluster's memory care (R106, R107): the next line the scrub reads, corrected errors by row in this
pass, soft repairs as rows in order, rows waiting for or under repair, and SCRUB_STAT.PASSES. -/
structure CluSt where
  scrubLine : Nat
  rowCe : Tbl Nat
  repaired : List Nat
  repairing : List Nat
  passes : Nat
deriving DecidableEq, Repr

def CluSt.init : CluSt := ⟨0, [], [], [], 0⟩

/-- An entry of a box office's queue (R292, R293): core number within the device, count, tickets set
aside, control clock of entry. -/
structure BoxEnt where
  core : Nat
  count : Nat
  aside : Nat
  at_ : Nat
deriving DecidableEq, Repr

/-- A box office (R290 to R299): committed budget, FREE, WITHDRAWN, queue, grants in the last 1,000
control clocks as time and count, GRANTS, withdrawal notices in flight as core and count, and whether an
audit found a mismatch (GRANTED is the sum of what the cores hold). -/
structure BoxSt where
  budget : Nat
  base : Nat
  free : Nat
  withdrawn : Nat
  queue : List BoxEnt
  window : List (Nat × Nat)
  grants : Nat
  notices : List (Nat × Nat)
  fault : Bool
deriving DecidableEq, Repr

def BoxSt.init : BoxSt := ⟨0x384, 0, 0, 0, [], [], 0, [], false⟩

/-- A sensor (R300 to R302): whether its source is brought up, valid, suspect, reading in 1/8 °C, samples
in a row within 4 °C of the median, the last ten samples, those above the junction limit in a row, and for
a coolant thermistor the last ten samples taken every 100 ms and those above the coolant limit in a row. -/
structure SensSt where
  valid : Bool
  suspect : Bool
  temp : Int
  okRun : Nat
  hist : List Int
  rateRun : Nat
  cool : List Int
  coolRun : Nat
deriving DecidableEq, Repr

def SensSt.init : SensSt := ⟨false, false, 0, 0, [], 0, [], 0⟩

/-- Thermal state: sensors by index, samples taken, whether a rate hold is in force, a BOARD_CAP held
until step 7 (R316). -/
structure ThmSt where
  sens : Tbl SensSt
  samples : Nat
  hold : Bool
deriving DecidableEq, Repr

def ThmSt.init : ThmSt := ⟨[], 0, false⟩

/-- Clocks, resets and pins of the package (R31, R303, R360): PWRGD and PERST_N levels, the trip latch,
root lost, CLOCK_FATAL, partitions held in reset by a PLL, the ring pairs (0 to 3) and site links
(8 + k) retraining, sites whose synthesiser is unlocked, whether the device is held in reset, the last
step of Table 11-1 completed, a scheduled device reset with its cause, and the power-on sequence while it runs, with
whether the chiplet exchange of step 3 is open (R313). -/
structure PwrSt where
  pwrgd : Bool
  perstN : Bool
  trip : Bool
  refLost : Bool
  clockFatal : Bool
  pllHeld : List Nat
  retraining : List Nat
  synthBad : List Nat
  inReset : Bool
  step : Nat
  resetDue : Option Nat
  cause : Nat
  boot : Option (BootEnv × Bool)
deriving DecidableEq, Repr

/-- Right after a reset takes effect: held until the power-on sequence runs. -/
def PwrSt.init : PwrSt := ⟨true, true, false, false, false, [], [], [], true, 0, none, 0, none⟩

/-- The fuses (Tables 11-3 and 11-6): IDENT and DIE_ID by die (compute 0 to 3, memory 4 to 7, DL8 8 to 15); of the compute
dies the yield map by cluster, the scratch repairs by core, the face-to-face lane repairs by partition and BASE by partition;
of the memory dies the rows replaced at test by a spare row or bank as `2^18 cluster + row`, and the field repair rows by
`65536 die + row`; of the DL8s the failed rings, the ADC reference values by site and the delays D_TX and D_RX of a port by
`2 port + direction`, as corrected where a sensor is in service (R218); the constants of each sensor by its index; and the
TRUST region. -/
structure FuseSt where
  ident : Tbl Nat
  dieId : Tbl Nat
  scratch : Tbl Nat
  lanes : Tbl Nat
  spares : List Nat
  ringsBad : List Nat
  adcRef : Tbl Nat
  sensors : Tbl Nat
  yield : Tbl Nat
  base : Tbl Nat
  delays : Tbl Nat
  repair : Tbl Nat
  rootHash : List (List Byte)
  revoke : Nat
  testHash : List Byte
  uds : List Byte
  kek : List Byte
  ownerHash : List Byte
  provisioned : Bool
  svn : Nat
deriving DecidableEq, Repr

/-- The prompter's security state (R332 to R346): control record in use (bytes 0 to 63, empty when none is
valid) and which copy holds it, whether an update waits for the window and its bytes, command key (empty
when none is loaded), CTR_LAST, tag failures in a row, lockout, test challenge, TEST_UNLOCKED, fenced
ports, header of the running firmware, header of the settings in use (empty in fallback), whether the
device runs in fallback, SPDM connection state, the settings' common-section digest in use, the digest of the running
firmware image, the firmware in the sequencer stores of the enabled cores (R326), the tenant assignment that waits for its
key to be mirrored, as partition and tenant (R341), and the result of each test loopback by `8 die + loopback` (R323). -/
structure SecSt where
  ctrl : List Byte
  copy : Nat
  held : Option (List Byte)
  key : List Byte
  ctrLast : Nat
  tagFails : Nat
  lockout : Bool
  challenge : List Byte
  unlocked : Bool
  fenced : List Nat
  fw : List Byte
  settings : List Byte
  commonHash : List Byte
  spdm : Nat
  fwDigest : List Byte
  fwSlot : Nat
  setSlot : Nat
  applied : List (Nat × W32)
  coreFw : List Byte
  assign : Option (Nat × Nat)
  loops : Tbl Nat
deriving DecidableEq, Repr

def SecSt.init : SecSt := ⟨[], 0, none, [], 0, 0, false, [], false, [], [], [], [], 0, [], 0, 0, [], [], none, []⟩

/-- One instance of the mailbox registers (R334): CMD_BUF, STATUS busy, code and command, RESULT, RSP_BUF; the record
that the last doorbell started (log 50); and of the board's instance its BAD_TAG, PAGE_CTL, EVT_STAT, EVT_EN, ERR_LOG_HEAD
and ERR_COUNT, which host software cannot see. -/
structure MbSt where
  buf : List Byte
  busy : Bool
  code : Nat
  cmd : Nat
  fallback : Bool
  rsp : List Byte
  started : List Byte
  badTag : W32
  pageCtl : W32
  evt : W32
  evtEn : W32
  errHead : W32
  errCount : W32
deriving DecidableEq, Repr

def MbSt.init : MbSt := ⟨List.replicate 256 0, false, 0, 0, false, [], [], 0, 0x80000000, 0, 0, 0, 0⟩

/-- A device heard by HELLO (R263): its seat and stage straps, package serial, the port it was heard on, and
whether it is held out. -/
structure Member where
  seat : Nat
  stage : Nat
  serial : Nat
  port : Nat
  held : Bool
deriving DecidableEq, Repr

/-- Start-up state of the fabric (R262, R263, R281 to R285): the members heard, the seat of the stage leader, the device
numbers of the house root and of the roots of other houses as far as heard, the house number once learnt, the GTS at which
schedules start, the devices that the time parent and the alternate are reached by, the peers treated as absent and
the unanswered attempts by peer (8 stage + seat). -/
structure FabSt where
  members : List Member
  leader : Option Nat
  root : Option Nat
  roots : List Nat
  house : Option Nat
  startGts : Nat
  timePeers : List Nat
  absent : List Nat
  attempts : Tbl Nat
deriving DecidableEq, Repr

def FabSt.init : FabSt := ⟨[], none, none, [], none, 0, [], [], []⟩

end Sys2Proof.Machine
end

