-- ==== Sys2Proof/Machine/State.lean ====
section
/-! DEFINITION. The state of the block as plain data: every register, memory, queue, counter, mode and
pin the manual gives the RT7300, and the queue of waiting commands. Registers that are only storage live
in `regs` by their BAR0 address; a register that shows a unit's state is computed from that state when it
is read (Machine/Regs.lean). -/

namespace Sys2Proof.Machine

open Sys2Proof

/-- Why a command stops the model. Only a command that names a place the manual says does not exist does. -/
inductive Fault where
  /-- Raised by ECC_WRITEBACK on a physical address in the hole 0x6000_0000 to 0x7FFF_FFFF of a partition or
  beyond its address space (R101: not implemented; an access is a fault of the requester). Safe. -/
  | noSuchMemory (addr : Nat)
deriving DecidableEq, Repr

/-- Why the model gives a command no meaning. -/
inductive Refusal where
  /-- Raised by an arm of exec whose command has no meaning yet. Safe. -/
  | notModelled (mnemonic : String)
deriving DecidableEq, Repr

/-- An SPDM response (R346), by content: the manual leaves the wire format to DMTF SPDM 1.2. -/
inductive SpdmRsp where
  | version (major minor : Nat)
  | capabilities (cert chal meas : Bool)
  | algorithms (ecdsaP384 sha384 : Bool)
  | digests (slotMask : Nat) (digest : List Byte)
  | certificate (slot : Nat) (portion : List Byte) (remainder : Nat)
  | challengeAuth (slot : Nat) (chainHash nonce signature : List Byte)
  | measurements (blocks : List (Nat × List Byte)) (signature : List Byte)
  | error
deriving DecidableEq, Repr

/-- What the prompter logs without an event bit of its own (R31, R319, R322): the manual gives these logs no
record layout (log 9). -/
inductive PromptLog where
  | refLost | refRestored | clockFatal
  | pllUnlock (die : Nat)
  | identFail (dieType site : Nat)
  | chipletLicence (site : Nat)
deriving DecidableEq, Repr

/-- What leaves the device, or is answered to the agent that asked (the model's own record of outputs). -/
inductive Emission where
  | msix (vector : Nat)
  | readData (bytes : List Byte)
  | orderedSet (port : Nat) (bytes : List Byte)
  | linkSet (link : Nat) (bytes : List Byte)
  | flit (link : Nat) (bytes : List Byte)
  | burst (port out : Nat) (delim : List Byte) (flits : List (List Byte))
  | steer (port out : Nat)
  | frame (site : Nat) (bytes : List Byte)
  | shadow (site : Nat) (mismatch : Bool)
  | select (site : Nat) (bytes : List Byte)
  | spdm (r : SpdmRsp)
  | tap (die : Nat) (inst : Tap)
  | tapResult (die : Nat) (value : Nat)
  | logged (what : PromptLog)
  | cueFired (cue target : Nat)
  | thermtrip
deriving DecidableEq, Repr

/-- The state. `ctrlClk` counts control-clock edges; `freeCtr` and `wire` are the model's own (the counter
that free values are applied to, and what left the device, newest last); `mem` and `ecc` are the on-package
memory bytes and word health by global address (Machine/Access.lean), `host` is host memory, `flash` the
QSPI flash; `pba` the pending MSI-X vectors; `loans` the tickets lent by `4 lender + borrower`; `inbox` the
messages for a partition's units and for the prompter (index 4), `relay` those waiting for their next rank;
`hostBad` the ranges of host addresses, as base and length, whose reads the host answers with an error (R182);
`pending` is the queue of waiting commands, first in, first out. -/
structure State where
  ctrlClk : Nat
  freeCtr : Nat
  wire : List Emission
  regs : Tbl W32
  mem : Tbl Byte
  ecc : Tbl Health
  host : Tbl Byte
  flash : Tbl Byte
  pba : List Nat
  pwr : PwrSt
  fuses : FuseSt
  sec : SecSt
  mbHost : MbSt
  mbBoard : MbSt
  mbOrder : List Bool
  fab : FabSt
  thm : ThmSt
  tsu : TsuSt
  parts : Tbl PartSt
  boxes : Tbl BoxSt
  loans : Tbl Nat
  ushers : Tbl UshSt
  syncs : Tbl SynSt
  clus : Tbl CluSt
  cores : Tbl CoreSt
  chans : Tbl ChanSt
  sites : Tbl SiteSt
  rings : Tbl RingSt
  ports : Tbl PortSt
  links : Tbl LinkSt
  peers : Tbl (W32 × W32)
  croutes : Tbl W32
  inbox : Tbl (List Arrived)
  relay : Tbl (List Arrived)
  hostBad : List (Nat × Nat)
  pending : List Instr
deriving DecidableEq, Repr

/-- IDENT of the die at position `d` (compute 0 to 3, memory 4 to 7, DL8 8 to 15) of a shipped part with
serial 0: IDENT_LOCK set, DIE_TYPE and SITE of its place (Table 11-3). -/
def shippedIdent (d : Nat) : Nat :=
  2 ^ 39 + (if d < 4 then 2 ^ 32 * 1 + 2 ^ 36 * d
    else if d < 8 then 2 ^ 32 * 2 + 2 ^ 36 * (d - 4) else 2 ^ 32 * 3 + 2 ^ 36 * (d - 8))

/-- DESIGN CHOICE (log 7). The fuses of a shipped part before provisioning: every die's IDENT right, no
core failed so that the 48 lowest are enabled (R24), BASE 224 (R290), every key and hash zero. -/
def FuseSt.shipped : FuseSt where
  ident := (List.range 16).map (fun d => (d, shippedIdent d))
  yield := (List.range 48).map (fun c => (c, 2 ^ 48 - 1))
  base := (List.range 4).map (fun p => (p, 224))
  delays := []
  dieId := []
  scratch := []
  lanes := []
  spares := []
  ringsBad := []
  adcRef := []
  sensors := []
  repair := []
  rootHash := List.replicate 4 (List.replicate 48 0)
  revoke := 0
  testHash := List.replicate 48 0
  uds := List.replicate 32 0
  kek := List.replicate 32 0
  ownerHash := List.replicate 48 0
  provisioned := false
  svn := 0

/-- The device right after a reset takes effect, before its power-on sequence (R313): MODE BOOTING, every
register at its reset value, memory with nothing listed, no command waiting. -/
def State.reset : State where
  ctrlClk := 0
  freeCtr := 0
  wire := []
  regs := []
  mem := []
  ecc := []
  host := []
  flash := []
  pba := []
  pwr := PwrSt.init
  fuses := FuseSt.shipped
  sec := SecSt.init
  mbHost := MbSt.init
  mbBoard := MbSt.init
  mbOrder := []
  fab := FabSt.init
  thm := ThmSt.init
  tsu := TsuSt.init
  parts := []
  boxes := []
  loans := []
  ushers := []
  syncs := []
  clus := []
  cores := []
  chans := []
  sites := []
  rings := []
  ports := []
  links := []
  peers := []
  croutes := []
  inbox := []
  relay := []
  hostBad := []
  pending := []

end Sys2Proof.Machine
end

