-- ==== Sys2Proof/Machine/Access.lean ====
section
/-! DEFINITION. Reading and writing one unit's part of the state: the only way a meaning reaches a core,
channel, link, port, ring, site, partition, box office, Usher, sync unit or cluster. -/

namespace Sys2Proof.Machine

open Sys2Proof

/-- The state of a partition. -/
def State.part (s : State) (i : Nat) : PartSt := tblGet PartSt.init s.parts i

/-- Replaces the state of a partition. -/
def State.setPart (s : State) (i : Nat) (x : PartSt) : State :=
  { s with parts := tblSet PartSt.init s.parts i x }

/-- Changes the state of a partition. -/
def State.modPart (s : State) (i : Nat) (f : PartSt → PartSt) : State := s.setPart i (f (s.part i))

/-- The state of a box office. -/
def State.box (s : State) (i : Nat) : BoxSt := tblGet BoxSt.init s.boxes i

/-- Replaces the state of a box office. -/
def State.setBox (s : State) (i : Nat) (x : BoxSt) : State :=
  { s with boxes := tblSet BoxSt.init s.boxes i x }

/-- Changes the state of a box office. -/
def State.modBox (s : State) (i : Nat) (f : BoxSt → BoxSt) : State := s.setBox i (f (s.box i))

/-- The state of a partition's Usher. -/
def State.usher (s : State) (i : Nat) : UshSt := tblGet UshSt.init s.ushers i

/-- Replaces the state of a partition's Usher. -/
def State.setUsher (s : State) (i : Nat) (x : UshSt) : State :=
  { s with ushers := tblSet UshSt.init s.ushers i x }

/-- Changes the state of a partition's Usher. -/
def State.modUsher (s : State) (i : Nat) (f : UshSt → UshSt) : State := s.setUsher i (f (s.usher i))

/-- The state of a sync unit. -/
def State.sync (s : State) (i : Nat) : SynSt := tblGet SynSt.init s.syncs i

/-- Replaces the state of a sync unit. -/
def State.setSync (s : State) (i : Nat) (x : SynSt) : State :=
  { s with syncs := tblSet SynSt.init s.syncs i x }

/-- Changes the state of a sync unit. -/
def State.modSync (s : State) (i : Nat) (f : SynSt → SynSt) : State := s.setSync i (f (s.sync i))

/-- The state of a cluster (12 p + c). -/
def State.clu (s : State) (i : Nat) : CluSt := tblGet CluSt.init s.clus i

/-- Replaces the state of a cluster (12 p + c). -/
def State.setClu (s : State) (i : Nat) (x : CluSt) : State :=
  { s with clus := tblSet CluSt.init s.clus i x }

/-- Changes the state of a cluster (12 p + c). -/
def State.modClu (s : State) (i : Nat) (f : CluSt → CluSt) : State := s.setClu i (f (s.clu i))

/-- The state of a core (576 p + 48 c + n). -/
def State.core (s : State) (i : Nat) : CoreSt := tblGet CoreSt.init s.cores i

/-- Replaces the state of a core (576 p + 48 c + n). -/
def State.setCore (s : State) (i : Nat) (x : CoreSt) : State :=
  { s with cores := tblSet CoreSt.init s.cores i x }

/-- Changes the state of a core (576 p + 48 c + n). -/
def State.modCore (s : State) (i : Nat) (f : CoreSt → CoreSt) : State := s.setCore i (f (s.core i))

/-- The state of a DMA channel (192 p + 16 c + ch). -/
def State.chan (s : State) (i : Nat) : ChanSt := tblGet ChanSt.init s.chans i

/-- Replaces the state of a DMA channel (192 p + 16 c + ch). -/
def State.setChan (s : State) (i : Nat) (x : ChanSt) : State :=
  { s with chans := tblSet ChanSt.init s.chans i x }

/-- Changes the state of a DMA channel (192 p + 16 c + ch). -/
def State.modChan (s : State) (i : Nat) (f : ChanSt → ChanSt) : State := s.setChan i (f (s.chan i))

/-- The state of a DL8 site. -/
def State.site (s : State) (i : Nat) : SiteSt := tblGet SiteSt.init s.sites i

/-- Replaces the state of a DL8 site. -/
def State.setSite (s : State) (i : Nat) (x : SiteSt) : State :=
  { s with sites := tblSet SiteSt.init s.sites i x }

/-- Changes the state of a DL8 site. -/
def State.modSite (s : State) (i : Nat) (f : SiteSt → SiteSt) : State := s.setSite i (f (s.site i))

/-- The state of a ring (288 k + 36 port + 18 bank + ring). -/
def State.ring (s : State) (i : Nat) : RingSt := tblGet RingSt.init s.rings i

/-- Replaces the state of a ring (288 k + 36 port + 18 bank + ring). -/
def State.setRing (s : State) (i : Nat) (x : RingSt) : State :=
  { s with rings := tblSet RingSt.init s.rings i x }

/-- Changes the state of a ring (288 k + 36 port + 18 bank + ring). -/
def State.modRing (s : State) (i : Nat) (f : RingSt → RingSt) : State := s.setRing i (f (s.ring i))

/-- The state of a port (8 k + n). -/
def State.port (s : State) (i : Nat) : PortSt := tblGet PortSt.init s.ports i

/-- Replaces the state of a port (8 k + n). -/
def State.setPort (s : State) (i : Nat) (x : PortSt) : State :=
  { s with ports := tblSet PortSt.init s.ports i x }

/-- Changes the state of a port (8 k + n). -/
def State.modPort (s : State) (i : Nat) (f : PortSt → PortSt) : State := s.setPort i (f (s.port i))

/-- The state of a link (64 port + link). -/
def State.link (s : State) (i : Nat) : LinkSt := tblGet LinkSt.init s.links i

/-- Replaces the state of a link (64 port + link). -/
def State.setLink (s : State) (i : Nat) (x : LinkSt) : State :=
  { s with links := tblSet LinkSt.init s.links i x }

/-- Changes the state of a link (64 port + link). -/
def State.modLink (s : State) (i : Nat) (f : LinkSt → LinkSt) : State := s.setLink i (f (s.link i))

/-- The messages waiting at a partition's units, or at the prompter (index 4). -/
def State.inboxOf (s : State) (i : Nat) : List Arrived := tblGet [] s.inbox i

def State.setInbox (s : State) (i : Nat) (x : List Arrived) : State :=
  { s with inbox := tblSet [] s.inbox i x }

/-- The messages a partition relays or sends that wait for their next rank (R273). -/
def State.relayOf (s : State) (i : Nat) : List Arrived := tblGet [] s.relay i

def State.setRelay (s : State) (i : Nat) (x : List Arrived) : State :=
  { s with relay := tblSet [] s.relay i x }

/-- Something leaves the device, or an answer reaches the agent that asked. -/
def State.emit (s : State) (e : Emission) : State := { s with wire := s.wire ++ [e] }

/-- Takes the next value of the counter that free values are applied to. -/
def State.tick (s : State) : State := { s with freeCtr := s.freeCtr + 1 }

/-! ## Numbering (Table 1-11) -/

def partOfCore (i : Nat) : Nat := i / 576
def cluOfCore (i : Nat) : Nat := i / 48
def partOfChan (i : Nat) : Nat := i / 192
def cluOfChan (i : Nat) : Nat := i / 16
def partOfClu (i : Nat) : Nat := i / 12
def siteOfPort (i : Nat) : Nat := i / 8
/-- The partition that owns a port: sites `2p` and `2p + 1` belong to partition `p` (Table 1-3). -/
def partOfPort (i : Nat) : Nat := i / 16
def portOfLink (l : Nat) : Nat := l / 64

def srcChan (ch : Nat) : Nat := 0x0900 + ch
def srcPort (port : Nat) : Nat := 0x0C00 + port
def srcUsher (p : Nat) : Nat := 0x0C50 + p
def srcBox (p : Nat) : Nat := 0x0C54 + p
def srcSync (p : Nat) : Nat := 0x0C58 + p
abbrev srcPrompter : Nat := 0x0C60
abbrev srcTsu : Nat := 0x0C61
abbrev srcThm : Nat := 0x0C62
abbrev srcSec : Nat := 0x0C63
abbrev srcMb : Nat := 0x0C64

/-! ## Host memory and flash: an unlisted byte of host memory reads 0 (log 2), an erased flash byte 0xFF -/

def State.hostRead (s : State) (a n : Nat) : List Byte := memRead 0 s.host (a % 2 ^ 64) n

def State.hostWrite (s : State) (a : Nat) (bs : List Byte) : State :=
  { s with host := memWrite 0 s.host (a % 2 ^ 64) bs }

def State.flashRead (s : State) (a n : Nat) : List Byte := memRead 0xFF s.flash a n

def State.flashWrite (s : State) (a : Nat) (bs : List Byte) : State :=
  { s with flash := memWrite 0xFF s.flash a bs }

end Sys2Proof.Machine
end

