-- ==== Sys2Proof/Machine/RegTable.lean ====
section
/-! DEFINITION. The registers of BAR0 as the tables of the manual give them (Tables 13-5 to 13-22 and
the field tables they name): for each page type, every register's offset, how many there are and how
far apart, the reset value, and the bits of each access code. What a register does beyond its access
code is in the block's own file. -/

namespace Sys2Proof.Machine

/-- One row: `count` registers from `off`, `stride` apart; the reset value; the bits that are RW, RWL,
W1C and RC (Table 0-8). The other bits are RO, WO or reserved. -/
structure RegRow where
  off : Nat
  count : Nat
  stride : Nat
  reset : W32
  rw : W32
  rwl : W32
  w1c : W32
  rc : W32
deriving DecidableEq, Repr

/-- The page types of Table 13-6, and the port and link blocks inside an OIOk page. -/
inductive PageKind where
  | dev | prompt | tsu | thm | sec | cmdmb | oio | oioPort | oioLink | part | ush | box | syn | clu | dma | core
deriving DecidableEq, Repr

/-- The common header (Table 13-5). -/
def rowsHdr : List RegRow :=
   [⟨0x004, 1, 4, 0x100, 0, 0, 0, 0⟩,  -- PAGE_VER
    ⟨0x00C, 1, 4, 0x80000000, 0xC00007FF, 0, 0, 0⟩,  -- PAGE_CTL
    ⟨0x014, 1, 4, 0, 0, 0, 0xFFFFFFFF, 0⟩,  -- EVT_STAT
    ⟨0x018, 1, 4, 0, 0xFFFFFFFF, 0, 0, 0⟩]  -- EVT_EN

/-- DEV registers (Tables 9-10, 11-14). -/
def rowsDev : List RegRow :=
   [⟨0x014, 1, 4, 0, 0, 0, 0x1F, 0⟩,  -- EVT_STAT
    ⟨0x040, 1, 4, 0x73000A40, 0, 0, 0, 0⟩,  -- DEV_ID
    ⟨0x408, 1, 4, 0x400, 0xF00, 0x3, 0, 0⟩,  -- FAB_CFG
    ⟨0x410, 1, 4, 0, 0xFFF, 0, 0, 0⟩,  -- PEER_SEL
    ⟨0x414, 1, 4, 0, 0xFFC37FFF, 0, 0, 0⟩,  -- PEER_A
    ⟨0x418, 1, 4, 0, 0xFFFF, 0, 0, 0⟩,  -- PEER_B
    ⟨0x41C, 1, 4, 0, 0x3F, 0, 0, 0⟩,  -- CROUTE_SEL
    ⟨0x420, 1, 4, 0, 0xFF00003F, 0, 0, 0⟩,  -- CROUTE
    ⟨0x424, 1, 4, 0, 0, 0, 0xFF, 0⟩,  -- FAB_EVT
    ⟨0x428, 1, 4, 0, 0xFFFFFFFF, 0, 0, 0⟩,  -- FAB_EVT_EN
    ⟨0x42C, 1, 4, 0, 0, 0, 0, 0xFFFFFFFF⟩]  -- NO_ROUTE

/-- PROMPT registers (Table 13-8). -/
def rowsPrompt : List RegRow :=
   [⟨0x014, 1, 4, 0, 0, 0, 0x3, 0⟩,  -- EVT_STAT
    ⟨0x040, 1, 4, 0x200800, 0, 0, 0, 0⟩,  -- PROMPT_CAP
    ⟨0x044, 1, 4, 0, 0xFFFFFFFF, 0, 0, 0⟩,  -- LOG_BASE_LO
    ⟨0x048, 1, 4, 0, 0xFFFFFFFF, 0, 0, 0⟩,  -- LOG_BASE_HI
    ⟨0x04C, 1, 4, 0, 0x1F, 0, 0, 0⟩,  -- LOG_SIZE
    ⟨0x054, 1, 4, 0, 0xFFFFF, 0, 0, 0⟩,  -- LOG_RD
    ⟨0x058, 1, 4, 0, 0, 0, 0, 0xFFFFFFFF⟩,  -- LOG_DROP
    ⟨0x05C, 1, 4, 0, 0, 0, 0, 0xFFFFFFFF⟩]  -- BAD_ACCESS

/-- TSU registers (Table 5-11). -/
def rowsTsu : List RegRow :=
   [⟨0x014, 1, 4, 0, 0, 0, 0x7F, 0⟩,  -- EVT_STAT
    ⟨0x040, 1, 4, 0x100, 0, 0, 0, 0⟩,  -- TSU_CAP
    ⟨0x048, 1, 4, 0, 0xC0003FBF, 0, 0, 0⟩,  -- TSU_CFG
    ⟨0x058, 1, 4, 0, 0xFFFFFFFF, 0, 0, 0⟩,  -- GTS_SET_LO
    ⟨0x05C, 1, 4, 0, 0xFFFFFFFF, 0, 0, 0⟩,  -- GTS_SET_HI
    ⟨0x064, 1, 4, 0, 0xFFFFFFFF, 0, 0, 0⟩,  -- RATE_ADJ
    ⟨0x06C, 1, 4, 0, 0, 0, 0, 0xFFFFFFFF⟩,  -- RESID_MAX
    ⟨0x074, 1, 4, 0, 0, 0, 0, 0xFFFFFFFF⟩,  -- LOCK_LOSS
    ⟨0x080, 1, 4, 0, 0x3F, 0, 0, 0⟩,  -- ASYM_SEL
    ⟨0x084, 1, 4, 0, 0xFFFFFFFF, 0, 0, 0⟩,  -- ASYM_VAL
    ⟨0x088, 1, 4, 0x100, 0xFFFFFFFF, 0, 0, 0⟩,  -- RESID_LIMIT
    ⟨0x090, 1, 4, 0, 0xFF, 0, 0, 0⟩,  -- CUE_SEL
    ⟨0x094, 1, 4, 0, 0xFFFFFFFF, 0, 0, 0⟩,  -- CUE_TGT_LO
    ⟨0x098, 1, 4, 0, 0xFFFFFFFF, 0, 0, 0⟩,  -- CUE_TGT_HI
    ⟨0x09C, 1, 4, 0, 0xFFFFFFFF, 0, 0, 0⟩,  -- CUE_PERIOD
    ⟨0x0A0, 1, 4, 0, 0x803FFFFF, 0, 0, 0⟩,  -- CUE_ACT
    ⟨0x0A4, 1, 4, 0, 0, 0, 0, 0xFFFFFFFF⟩]  -- CUE_MISSED

/-- THM registers (Table 10-8). -/
def rowsThm : List RegRow :=
   [⟨0x014, 1, 4, 0, 0, 0, 0x7F, 0⟩,  -- EVT_STAT
    ⟨0x040, 1, 4, 0x14C, 0, 0, 0, 0⟩,  -- THM_CAP
    ⟨0x044, 1, 4, 0, 0x1FF, 0, 0, 0⟩,  -- SENS_SEL
    ⟨0x050, 1, 4, 0x10, 0xFFFF, 0, 0, 0⟩,  -- RATE_J
    ⟨0x054, 1, 4, 0x20, 0xFFFF, 0, 0, 0⟩,  -- RATE_C
    ⟨0x058, 1, 4, 0x1905, 0x1F07, 0, 0, 0⟩,  -- WD_CTL
    ⟨0x05C, 1, 4, 0x348, 0xFFFF, 0, 0, 0⟩,  -- T_HIGH
    ⟨0x060, 1, 4, 0xE10, 0, 0xFFFF, 0, 0⟩,  -- DEV_LIMIT
    ⟨0x064, 1, 4, 0x384, 0, 0xFFFF, 0, 0⟩,  -- RAIL_LIMIT
    ⟨0x068, 1, 4, 0xFFFF, 0xFFFF, 0, 0, 0⟩,  -- BOARD_CAP
    ⟨0x070, 12, 4, 0x7FFFFFF, 0xF7FFFFFF, 0, 0, 0⟩,  -- EXT_CFG
    ⟨0x0A0, 1, 4, 0, 0, 0, 0, 0xFFFFFFFF⟩]  -- RATE_EVENTS

/-- SEC registers (Table 11-15). -/
def rowsSec : List RegRow :=
   [⟨0x014, 1, 4, 0, 0, 0, 0x7, 0⟩]  -- EVT_STAT

/-- CMDMB registers (Table 11-16). -/
def rowsCmdmb : List RegRow :=
   [⟨0x014, 1, 4, 0, 0, 0, 0x7, 0⟩,  -- EVT_STAT
    ⟨0x054, 1, 4, 0, 0, 0, 0, 0xFFFFFFFF⟩,  -- BAD_TAG
    ⟨0x100, 64, 4, 0, 0xFFFFFFFF, 0, 0, 0⟩]  -- CMD_BUF

/-- OIO registers (Tables 7-17, 8-18, 9-12, 10-9). -/
def rowsOio : List RegRow :=
   [⟨0x014, 1, 4, 0, 0, 0, 0x7F3FFF, 0⟩,  -- EVT_STAT
    ⟨0x040, 1, 4, 0x141208, 0, 0, 0, 0⟩,  -- OIO_CAP
    ⟨0x048, 1, 4, 0, 0x3, 0, 0, 0⟩,  -- LASER_CTL
    ⟨0x050, 1, 4, 0x800400FA, 0x800FFFFF, 0, 0, 0⟩,  -- IM_CTL
    ⟨0x058, 1, 4, 0, 0x3F, 0, 0, 0⟩,  -- ADC_SEL
    ⟨0x060, 1, 4, 0, 0, 0, 0, 0xFFFFFFFF⟩,  -- ADC_RANGE
    ⟨0x064, 1, 4, 0, 0, 0, 0, 0xFFFFFFFF⟩,  -- ADC_CAL_SKIP
    ⟨0x070, 1, 4, 0, 0x1FF, 0, 0, 0⟩,  -- RING_SEL
    ⟨0x074, 1, 4, 0x1F1F00, 0, 0, 0, 0⟩,  -- RING_STAT
    ⟨0x080, 1, 4, 0x40211000, 0, 0, 0, 0⟩,  -- LNK_CAP
    ⟨0x084, 1, 4, 0x64, 0xFFFFFF, 0, 0, 0⟩,  -- CREDIT_TO
    ⟨0x088, 1, 4, 0xA, 0xFFFF, 0, 0, 0⟩,  -- CURT_CTL
    ⟨0x08C, 1, 4, 0, 0, 0, 0, 0xFFFFFFFF⟩,  -- CURT_ACCEPT
    ⟨0x090, 1, 4, 0, 0, 0, 0, 0xFFFFFFFF⟩,  -- CURT_DISCARD
    ⟨0x094, 1, 4, 0, 0, 0, 0, 0xFFFFFFFF⟩,  -- CURT_LAPSED
    ⟨0x098, 1, 4, 0, 0, 0, 0, 0xFFFFFFFF⟩,  -- OS_BAD
    ⟨0x09C, 1, 4, 0, 0, 0, 0, 0xFFFFFFFF⟩,  -- HOPS_DROP
    ⟨0x0A0, 1, 4, 0, 0, 0, 0, 0xFFFFFFFF⟩,  -- RELAY_DROP
    ⟨0x0E0, 1, 4, 0x1000000, 0, 0, 0, 0⟩,  -- UND_HEALTH
    ⟨0x0E4, 1, 4, 0x3, 0x3, 0, 0, 0⟩,  -- UND_CTL
    ⟨0x0EC, 1, 4, 0, 0, 0, 0, 0xFFFFFFFF⟩,  -- UND_SWITCHES
    ⟨0x0F0, 1, 4, 0, 0, 0, 0, 0xFFFFFFFF⟩,  -- UND_MISMATCH
    ⟨0x0F4, 1, 4, 0, 0, 0, 0, 0xFFFFFFFF⟩,  -- UND_RESYNC
    ⟨0x700, 1, 4, 0, 0x783FF, 0, 0, 0⟩,  -- HS_SEL
    ⟨0x704, 1, 4, 0, 0xF000FFFF, 0, 0, 0⟩,  -- HS_ENTRY_A
    ⟨0x708, 1, 4, 0, 0x7FFF, 0, 0, 0⟩,  -- HS_ENTRY_B
    ⟨0x70C, 1, 4, 0x410040, 0x3FF007F, 0, 0, 0⟩,  -- HS_CFG
    ⟨0x71C, 1, 4, 0, 0, 0, 0, 0xFFFFFFFF⟩,  -- HS_FOREIGN
    ⟨0x720, 1, 4, 0, 0, 0, 0, 0xFFFFFFFF⟩]  -- HS_CUE_BAD

/-- OIOPORT registers (Table 7-19). -/
def rowsOioport : List RegRow :=
   [⟨0x000, 1, 4, 0x100, 0x800001B3, 0, 0, 0⟩,  -- CTL
    ⟨0x018, 1, 4, 0xF, 0xFF, 0, 0, 0⟩,  -- EYE_FAIL
    ⟨0x01C, 1, 4, 0, 0, 0, 0, 0xFFFFFFFF⟩,  -- LOCK_LOSS
    ⟨0x020, 1, 4, 0, 0, 0, 0, 0xFFFFFFFF⟩,  -- CDR_LOSS
    ⟨0x024, 1, 4, 0, 0, 0, 0, 0xFFFFFFFF⟩,  -- COLLISION
    ⟨0x030, 1, 4, 0, 0xFFFFFFFF, 0, 0, 0⟩,  -- FIBRE
    ⟨0x034, 1, 4, 0x10, 0xF3, 0, 0, 0⟩,  -- SPOT
    ⟨0x038, 1, 4, 0, 0, 0, 0, 0xFFFFFFFF⟩]  -- SPOT_REFUSED

/-- OIOLINK registers (Table 8-19). -/
def rowsOiolink : List RegRow :=
   [⟨0x000, 1, 4, 0x1, 0xC000007F, 0, 0, 0⟩,  -- LNK_CFG
    ⟨0x008, 1, 4, 0, 0, 0, 0x3FF, 0⟩,  -- LNK_EVT
    ⟨0x00C, 1, 4, 0, 0xFFFFFFFF, 0, 0, 0⟩,  -- LNK_EVT_EN
    ⟨0x010, 1, 4, 0, 0xF3F, 0, 0, 0⟩,  -- LNK_SEL
    ⟨0x018, 1, 4, 0xFFFF0000, 0, 0, 0, 0⟩,  -- LINK_SEQ
    ⟨0x028, 1, 4, 0, 0xFFFF, 0, 0, 0⟩,  -- CRED_CFG
    ⟨0x03C, 1, 4, 0, 0, 0, 0, 0xFFFFFFFF⟩,  -- CRC_ERR
    ⟨0x040, 1, 4, 0, 0, 0, 0, 0xFFFFFFFF⟩,  -- REPLAYS
    ⟨0x044, 1, 4, 0, 0, 0, 0, 0xFFFFFFFF⟩,  -- REPLAY_FLITS
    ⟨0x048, 1, 4, 0, 0, 0, 0, 0xFFFFFFFF⟩,  -- RETRAINS
    ⟨0x04C, 1, 4, 0, 0, 0, 0, 0xFFFFFFFF⟩,  -- DOWNS
    ⟨0x050, 1, 4, 0, 0, 0, 0, 0xFFFFFFFF⟩]  -- FLIT_BAD

/-- PART registers (Tables 9-13, 11-17). -/
def rowsPart : List RegRow :=
   [⟨0x014, 1, 4, 0, 0, 0, 0x3, 0⟩,  -- EVT_STAT
    ⟨0x300, 8, 4, 0, 0xE00FFFFF, 0, 0, 0⟩,  -- COLL
    ⟨0x320, 1, 4, 0, 0, 0, 0, 0xFFFFFFFF⟩,  -- COLL_ANCHOR
    ⟨0x324, 1, 4, 0, 0, 0, 0, 0xFFFFFFFF⟩]  -- COLL_ERR

/-- USH registers (Table 4-14). -/
def rowsUsh : List RegRow :=
   [⟨0x014, 1, 4, 0, 0, 0, 0x3F, 0⟩,  -- EVT_STAT
    ⟨0x040, 1, 4, 0x808, 0, 0, 0, 0⟩,  -- USH_CAP
    ⟨0x044, 1, 4, 0x1210, 0, 0x1F1F, 0, 0⟩,  -- META_CFG
    ⟨0x048, 1, 4, 0, 0xFFFFFFFF, 0, 0, 0⟩,  -- REQ_BASE_LO
    ⟨0x04C, 1, 4, 0, 0xFFFFFFFF, 0, 0, 0⟩,  -- REQ_BASE_HI
    ⟨0x050, 1, 4, 0x4, 0x1F, 0, 0, 0⟩,  -- REQ_SIZE
    ⟨0x060, 1, 4, 0, 0xFFFFFFFF, 0, 0, 0⟩,  -- LOG_BASE_LO
    ⟨0x064, 1, 4, 0, 0xFFFFFFFF, 0, 0, 0⟩,  -- LOG_BASE_HI
    ⟨0x068, 1, 4, 0, 0x1F, 0, 0, 0⟩,  -- LOG_SIZE
    ⟨0x070, 1, 4, 0, 0xFFFFF, 0, 0, 0⟩,  -- LOG_RD
    ⟨0x074, 1, 4, 0, 0, 0, 0, 0xFFFFFFFF⟩,  -- LOG_DROP
    ⟨0x078, 1, 4, 0x3E8, 0xFFFFF, 0, 0, 0⟩,  -- EPOCH
    ⟨0x07C, 1, 4, 0x80400040, 0x80FFFFFF, 0, 0, 0⟩,  -- MIG_CTL
    ⟨0x090, 1, 4, 0x10007D0, 0xFFFFFFFF, 0, 0, 0⟩,  -- CTX_CTL
    ⟨0x0A0, 8, 4, 0x400000, 0x7FFFFF, 0, 0, 0⟩,  -- CTX_CFG
    ⟨0x0C0, 8, 8, 0, 0x80000FFF, 0, 0, 0⟩,  -- PARTNER_A
    ⟨0x0C4, 8, 8, 0, 0xFFFFFFFF, 0, 0, 0⟩,  -- PARTNER_B
    ⟨0x100, 1, 4, 0x2710, 0xFFFFFF, 0, 0, 0⟩,  -- MP_TIMEOUT
    ⟨0x104, 1, 4, 0, 0x80001FFF, 0, 0, 0⟩]  -- EXPORT_CFG

/-- BOX registers (Table 10-7). -/
def rowsBox : List RegRow :=
   [⟨0x014, 1, 4, 0, 0, 0, 0x1F, 0⟩,  -- EVT_STAT
    ⟨0x044, 1, 4, 0x384, 0, 0, 0, 0⟩,  -- BUDGET
    ⟨0x048, 1, 4, 0x384, 0xFFFF, 0, 0, 0⟩,  -- BUDGET_NEXT
    ⟨0x050, 1, 4, 0x64, 0x7F, 0, 0, 0⟩,  -- RAMP
    ⟨0x064, 1, 4, 0, 0xC000FFFF, 0, 0, 0⟩,  -- BORROW_CTL
    ⟨0x06C, 1, 4, 0, 0, 0, 0, 0xFFFFFFFF⟩,  -- WAIT_MAX
    ⟨0x074, 1, 4, 0, 0, 0, 0, 0xFFFFFFFF⟩]  -- WITHDRAWS

/-- SYN registers (Table 5-10). -/
def rowsSyn : List RegRow :=
   [⟨0x014, 1, 4, 0, 0, 0, 0xFF, 0⟩,  -- EVT_STAT
    ⟨0x040, 1, 4, 0x10010, 0, 0, 0, 0⟩,  -- SYN_CAP
    ⟨0x044, 1, 4, 0xF4240, 0xFFFFFFFF, 0, 0, 0⟩,  -- WAIT_DEF
    ⟨0x048, 1, 4, 0, 0xFFFF, 0, 0, 0⟩,  -- HOST_ADD_OBJ
    ⟨0x060, 1, 4, 0x8000000A, 0x8000FFFF, 0, 0, 0⟩,  -- BH_CTL
    ⟨0x064, 1, 4, 0, 0xFFFFFFFF, 0, 0, 0⟩,  -- BH_BASE_LO
    ⟨0x068, 1, 4, 0, 0xFFFFFFFF, 0, 0, 0⟩,  -- BH_BASE_HI
    ⟨0x06C, 1, 4, 0, 0x1F, 0, 0, 0⟩,  -- BH_SIZE
    ⟨0x074, 1, 4, 0, 0xFFFFF, 0, 0, 0⟩,  -- BH_RD
    ⟨0x078, 1, 4, 0, 0, 0, 0, 0xFFFFFFFF⟩,  -- BH_DROP
    ⟨0x080, 1, 4, 0, 0, 0, 0, 0xFFFFFFFF⟩,  -- BH_SKIP
    ⟨0x084, 1, 4, 0, 0, 0, 0, 0xFFFFFFFF⟩,  -- BH_CYCLES
    ⟨0x088, 1, 4, 0, 0, 0, 0, 0xFFFFFFFF⟩,  -- BH_UNANSWERED
    ⟨0x090, 1, 4, 0, 0, 0, 0, 0xFFFFFFFF⟩,  -- SIG_DUP
    ⟨0x094, 1, 4, 0, 0, 0, 0, 0xFFFFFFFF⟩,  -- SIG_REFUSED
    ⟨0x09C, 1, 4, 0, 0, 0, 0, 0xFFFFFFFF⟩,  -- TIMEOUTS
    ⟨0x0A0, 1, 4, 0, 0xFFF, 0, 0, 0⟩,  -- PEER_SEL
    ⟨0x0A8, 1, 4, 0x1, 0, 0, 0, 0⟩,  -- PEER_TX_SEQ
    ⟨0x0B8, 1, 4, 0, 0xFF, 0, 0, 0⟩,  -- LOSS_SEL
    ⟨0x0C8, 1, 4, 0, 0, 0, 0, 0xFFFFFFFF⟩,  -- SIG_GAP
    ⟨0x0CC, 1, 4, 0x3E8, 0xFFFFFFFF, 0, 0, 0⟩]  -- SIG_ACK_TO

/-- CLU registers (Tables 1-5, 4-2). -/
def rowsClu : List RegRow :=
   [⟨0x014, 1, 4, 0, 0, 0, 0xF, 0⟩,  -- EVT_STAT
    ⟨0x080, 1, 4, 0x80000008, 0x800000FF, 0, 0, 0⟩,  -- SCRUB_CTL
    ⟨0x088, 1, 4, 0, 0, 0, 0, 0xFFFFFFFF⟩,  -- CE_COUNT
    ⟨0x08C, 1, 4, 0, 0, 0, 0, 0xFFFFFFFF⟩,  -- UE_COUNT
    ⟨0x098, 1, 4, 0x4, 0xF, 0, 0, 0⟩]  -- REPAIR_THRESH

/-- DMA registers (Table 6-9). -/
def rowsDma : List RegRow :=
   [⟨0x014, 1, 4, 0, 0, 0, 0x1F, 0⟩,  -- EVT_STAT
    ⟨0x040, 1, 4, 0x48001, 0, 0, 0, 0⟩,  -- DMA_CAP
    ⟨0x044, 1, 4, 0, 0xFFFFFFFF, 0, 0, 0⟩,  -- RING_BASE_LO
    ⟨0x048, 1, 4, 0, 0xFFFFFFFF, 0, 0, 0⟩,  -- RING_BASE_HI
    ⟨0x04C, 1, 4, 0x4, 0x1F, 0, 0, 0⟩,  -- RING_SIZE
    ⟨0x050, 1, 4, 0, 0xFFFF, 0, 0, 0⟩,  -- RING_TAIL
    ⟨0x05C, 1, 4, 0, 0x80000300, 0, 0, 0⟩,  -- CTL
    ⟨0x060, 1, 4, 0, 0x800000FF, 0, 0, 0⟩,  -- CHAIN
    ⟨0x070, 1, 4, 0, 0, 0, 0, 0xFFFFFFFF⟩]  -- EVT_LOST

/-- CORE registers (Tables 2-9, 3-2, 3-16). -/
def rowsCore : List RegRow :=
   [⟨0x014, 1, 4, 0, 0, 0, 0x1F, 0⟩,  -- EVT_STAT
    ⟨0x040, 1, 4, 0x22001, 0, 0, 0, 0⟩,  -- CORE_CAP
    ⟨0x04C, 1, 4, 0, 0xFFF, 0, 0, 0⟩,  -- QBASE
    ⟨0x050, 1, 4, 0x4, 0xF, 0, 0, 0⟩,  -- QSIZE
    ⟨0x054, 1, 4, 0, 0xFFF, 0, 0, 0⟩,  -- QHEAD
    ⟨0x05C, 1, 4, 0, 0xFFF, 0, 0, 0⟩,  -- QTAIL
    ⟨0x060, 1, 4, 0, 0xFFFF0001, 0, 0, 0⟩,  -- QCTL
    ⟨0x070, 1, 4, 0x10101, 0, 0xFFFFFF, 0, 0⟩,  -- TKT_COST
    ⟨0x0C0, 1, 4, 0, 0, 0, 0x1FF, 0⟩]  -- ARITH_FLAGS

/-! ## Register offsets, by page type and name -/

abbrev rHDR_PAGE_ID : Nat := 0x000
abbrev rHDR_PAGE_VER : Nat := 0x004
abbrev rHDR_PAGE_CAP : Nat := 0x008
abbrev rHDR_PAGE_CTL : Nat := 0x00C
abbrev rHDR_PAGE_STAT : Nat := 0x010
abbrev rHDR_EVT_STAT : Nat := 0x014
abbrev rHDR_EVT_EN : Nat := 0x018
abbrev rHDR_EVT_FORCE : Nat := 0x01C
abbrev rHDR_ERR_LOG_HEAD : Nat := 0x020
abbrev rHDR_ERR_COUNT : Nat := 0x024
abbrev rHDR_ERR_COUNT_CLR : Nat := 0x028

abbrev rDEV_DEV_ID : Nat := 0x040
abbrev rDEV_SERIAL : Nat := 0x044
abbrev rDEV_BOOT_STAT : Nat := 0x048
abbrev rDEV_RESET_CAUSE : Nat := 0x04C
abbrev rDEV_FW_INFO : Nat := 0x050
abbrev rDEV_SLOT_STAT : Nat := 0x054
abbrev rDEV_SETTINGS_INFO : Nat := 0x058
abbrev rDEV_BOOT_TIME : Nat := 0x05C
abbrev rDEV_FAB_ID : Nat := 0x400
abbrev rDEV_FAB_STRAP : Nat := 0x404
abbrev rDEV_FAB_CFG : Nat := 0x408
abbrev rDEV_FAB_STAT : Nat := 0x40C
abbrev rDEV_PEER_SEL : Nat := 0x410
abbrev rDEV_PEER_A : Nat := 0x414
abbrev rDEV_PEER_B : Nat := 0x418
abbrev rDEV_CROUTE_SEL : Nat := 0x41C
abbrev rDEV_CROUTE : Nat := 0x420
abbrev rDEV_FAB_EVT : Nat := 0x424
abbrev rDEV_FAB_EVT_EN : Nat := 0x428
abbrev rDEV_NO_ROUTE : Nat := 0x42C

abbrev rPROMPT_PROMPT_CAP : Nat := 0x040
abbrev rPROMPT_LOG_BASE_LO : Nat := 0x044
abbrev rPROMPT_LOG_BASE_HI : Nat := 0x048
abbrev rPROMPT_LOG_SIZE : Nat := 0x04C
abbrev rPROMPT_LOG_WR : Nat := 0x050
abbrev rPROMPT_LOG_RD : Nat := 0x054
abbrev rPROMPT_LOG_DROP : Nat := 0x058
abbrev rPROMPT_BAD_ACCESS : Nat := 0x05C
abbrev rPROMPT_PEND : Nat := 0x060

abbrev rTSU_TSU_CAP : Nat := 0x040
abbrev rTSU_TSU_STAT : Nat := 0x044
abbrev rTSU_TSU_CFG : Nat := 0x048
abbrev rTSU_GTS_LO : Nat := 0x050
abbrev rTSU_GTS_HI : Nat := 0x054
abbrev rTSU_GTS_SET_LO : Nat := 0x058
abbrev rTSU_GTS_SET_HI : Nat := 0x05C
abbrev rTSU_GTS_CMD : Nat := 0x060
abbrev rTSU_RATE_ADJ : Nat := 0x064
abbrev rTSU_THETA_LAST : Nat := 0x068
abbrev rTSU_RESID_MAX : Nat := 0x06C
abbrev rTSU_RESID_ALT : Nat := 0x070
abbrev rTSU_LOCK_LOSS : Nat := 0x074
abbrev rTSU_HOLD_US : Nat := 0x078
abbrev rTSU_ASYM_SEL : Nat := 0x080
abbrev rTSU_ASYM_VAL : Nat := 0x084
abbrev rTSU_RESID_LIMIT : Nat := 0x088
abbrev rTSU_CUE_SEL : Nat := 0x090
abbrev rTSU_CUE_TGT_LO : Nat := 0x094
abbrev rTSU_CUE_TGT_HI : Nat := 0x098
abbrev rTSU_CUE_PERIOD : Nat := 0x09C
abbrev rTSU_CUE_ACT : Nat := 0x0A0
abbrev rTSU_CUE_MISSED : Nat := 0x0A4

abbrev rTHM_THM_CAP : Nat := 0x040
abbrev rTHM_SENS_SEL : Nat := 0x044
abbrev rTHM_SENS_VAL : Nat := 0x048
abbrev rTHM_SENS_MAX : Nat := 0x04C
abbrev rTHM_RATE_J : Nat := 0x050
abbrev rTHM_RATE_C : Nat := 0x054
abbrev rTHM_WD_CTL : Nat := 0x058
abbrev rTHM_T_HIGH : Nat := 0x05C
abbrev rTHM_DEV_LIMIT : Nat := 0x060
abbrev rTHM_RAIL_LIMIT : Nat := 0x064
abbrev rTHM_BOARD_CAP : Nat := 0x068
abbrev rTHM_EXT_CFG : Nat := 0x070
abbrev rTHM_RATE_EVENTS : Nat := 0x0A0
abbrev rTHM_SUSPECT : Nat := 0x0A4
abbrev rTHM_WIN_STAT : Nat := 0x0A8

abbrev rSEC_SEC_STAT : Nat := 0x040
abbrev rSEC_SVN : Nat := 0x044

abbrev rCMDMB_DOORBELL : Nat := 0x040
abbrev rCMDMB_STATUS : Nat := 0x044
abbrev rCMDMB_RESULT : Nat := 0x048
abbrev rCMDMB_CTR_LAST_LO : Nat := 0x04C
abbrev rCMDMB_CTR_LAST_HI : Nat := 0x050
abbrev rCMDMB_BAD_TAG : Nat := 0x054
abbrev rCMDMB_LOCKOUT : Nat := 0x058
abbrev rCMDMB_CMD_BUF : Nat := 0x100
abbrev rCMDMB_RSP_BUF : Nat := 0x200

abbrev rOIO_OIO_CAP : Nat := 0x040
abbrev rOIO_LASER_STAT : Nat := 0x044
abbrev rOIO_LASER_CTL : Nat := 0x048
abbrev rOIO_LASER_CMD : Nat := 0x04C
abbrev rOIO_IM_CTL : Nat := 0x050
abbrev rOIO_IM_REQ : Nat := 0x054
abbrev rOIO_ADC_SEL : Nat := 0x058
abbrev rOIO_ADC_DATA : Nat := 0x05C
abbrev rOIO_ADC_RANGE : Nat := 0x060
abbrev rOIO_ADC_CAL_SKIP : Nat := 0x064
abbrev rOIO_RING_SEL : Nat := 0x070
abbrev rOIO_RING_STAT : Nat := 0x074
abbrev rOIO_RING_CODE : Nat := 0x078
abbrev rOIO_RING_TRIM : Nat := 0x07C
abbrev rOIO_LNK_CAP : Nat := 0x080
abbrev rOIO_CREDIT_TO : Nat := 0x084
abbrev rOIO_CURT_CTL : Nat := 0x088
abbrev rOIO_CURT_ACCEPT : Nat := 0x08C
abbrev rOIO_CURT_DISCARD : Nat := 0x090
abbrev rOIO_CURT_LAPSED : Nat := 0x094
abbrev rOIO_OS_BAD : Nat := 0x098
abbrev rOIO_HOPS_DROP : Nat := 0x09C
abbrev rOIO_RELAY_DROP : Nat := 0x0A0
abbrev rOIO_UND_HEALTH : Nat := 0x0E0
abbrev rOIO_UND_CTL : Nat := 0x0E4
abbrev rOIO_UND_CMD : Nat := 0x0E8
abbrev rOIO_UND_SWITCHES : Nat := 0x0EC
abbrev rOIO_UND_MISMATCH : Nat := 0x0F0
abbrev rOIO_UND_RESYNC : Nat := 0x0F4
abbrev rOIO_UND_LAST_GAP : Nat := 0x0F8
abbrev rOIO_HS_SEL : Nat := 0x700
abbrev rOIO_HS_ENTRY_A : Nat := 0x704
abbrev rOIO_HS_ENTRY_B : Nat := 0x708
abbrev rOIO_HS_CFG : Nat := 0x70C
abbrev rOIO_HS_CTL : Nat := 0x710
abbrev rOIO_HS_STAT : Nat := 0x714
abbrev rOIO_HS_RANGE : Nat := 0x718
abbrev rOIO_HS_FOREIGN : Nat := 0x71C
abbrev rOIO_HS_CUE_BAD : Nat := 0x720

abbrev rOIOPORT_CTL : Nat := 0x000
abbrev rOIOPORT_STAT : Nat := 0x004
abbrev rOIOPORT_CMD : Nat := 0x008
abbrev rOIOPORT_TX_LINES : Nat := 0x00C
abbrev rOIOPORT_RX_LINES : Nat := 0x010
abbrev rOIOPORT_EYE : Nat := 0x014
abbrev rOIOPORT_EYE_FAIL : Nat := 0x018
abbrev rOIOPORT_LOCK_LOSS : Nat := 0x01C
abbrev rOIOPORT_CDR_LOSS : Nat := 0x020
abbrev rOIOPORT_COLLISION : Nat := 0x024
abbrev rOIOPORT_INTRUDER : Nat := 0x028
abbrev rOIOPORT_MISALIGN : Nat := 0x02C
abbrev rOIOPORT_FIBRE : Nat := 0x030
abbrev rOIOPORT_SPOT : Nat := 0x034
abbrev rOIOPORT_SPOT_REFUSED : Nat := 0x038
abbrev rOIOPORT_CAL : Nat := 0x03C

abbrev rOIOLINK_LNK_CFG : Nat := 0x000
abbrev rOIOLINK_LNK_STAT : Nat := 0x004
abbrev rOIOLINK_LNK_EVT : Nat := 0x008
abbrev rOIOLINK_LNK_EVT_EN : Nat := 0x00C
abbrev rOIOLINK_LNK_SEL : Nat := 0x010
abbrev rOIOLINK_LINK_PEER : Nat := 0x014
abbrev rOIOLINK_LINK_SEQ : Nat := 0x018
abbrev rOIOLINK_LINK_RX : Nat := 0x01C
abbrev rOIOLINK_REPLAY_OCC : Nat := 0x020
abbrev rOIOLINK_REPLAY_TO : Nat := 0x024
abbrev rOIOLINK_CRED_CFG : Nat := 0x028
abbrev rOIOLINK_CRED_TX : Nat := 0x02C
abbrev rOIOLINK_CRED_TX_CUM : Nat := 0x030
abbrev rOIOLINK_CRED_RX : Nat := 0x034
abbrev rOIOLINK_CURT_HELD : Nat := 0x038
abbrev rOIOLINK_CRC_ERR : Nat := 0x03C
abbrev rOIOLINK_REPLAYS : Nat := 0x040
abbrev rOIOLINK_REPLAY_FLITS : Nat := 0x044
abbrev rOIOLINK_RETRAINS : Nat := 0x048
abbrev rOIOLINK_DOWNS : Nat := 0x04C
abbrev rOIOLINK_FLIT_BAD : Nat := 0x050
abbrev rOIOLINK_CENSUS_OK : Nat := 0x054

abbrev rPART_PART_STAT : Nat := 0x040
abbrev rPART_RESET_CTL : Nat := 0x044
abbrev rPART_RESET_STAT : Nat := 0x048
abbrev rPART_COLL : Nat := 0x300
abbrev rPART_COLL_ANCHOR : Nat := 0x320
abbrev rPART_COLL_ERR : Nat := 0x324

abbrev rUSH_USH_CAP : Nat := 0x040
abbrev rUSH_META_CFG : Nat := 0x044
abbrev rUSH_REQ_BASE_LO : Nat := 0x048
abbrev rUSH_REQ_BASE_HI : Nat := 0x04C
abbrev rUSH_REQ_SIZE : Nat := 0x050
abbrev rUSH_REQ_TAIL : Nat := 0x054
abbrev rUSH_REQ_HEAD : Nat := 0x058
abbrev rUSH_LOG_BASE_LO : Nat := 0x060
abbrev rUSH_LOG_BASE_HI : Nat := 0x064
abbrev rUSH_LOG_SIZE : Nat := 0x068
abbrev rUSH_LOG_WR : Nat := 0x06C
abbrev rUSH_LOG_RD : Nat := 0x070
abbrev rUSH_LOG_DROP : Nat := 0x074
abbrev rUSH_EPOCH : Nat := 0x078
abbrev rUSH_MIG_CTL : Nat := 0x07C
abbrev rUSH_PAGES : Nat := 0x080
abbrev rUSH_RES_TOKENS : Nat := 0x084
abbrev rUSH_CTX_CTL : Nat := 0x090
abbrev rUSH_CTX_STAT : Nat := 0x094
abbrev rUSH_SWITCH_LAST : Nat := 0x098
abbrev rUSH_CTX_CFG : Nat := 0x0A0
abbrev rUSH_PARTNER_A : Nat := 0x0C0
abbrev rUSH_PARTNER_B : Nat := 0x0C4
abbrev rUSH_MP_TIMEOUT : Nat := 0x100
abbrev rUSH_EXPORT_CFG : Nat := 0x104

abbrev rBOX_BOX_CAP : Nat := 0x040
abbrev rBOX_BUDGET : Nat := 0x044
abbrev rBOX_BUDGET_NEXT : Nat := 0x048
abbrev rBOX_BUDGET_CTL : Nat := 0x04C
abbrev rBOX_RAMP : Nat := 0x050
abbrev rBOX_GRANTED : Nat := 0x054
abbrev rBOX_FREE : Nat := 0x058
abbrev rBOX_WITHDRAWN : Nat := 0x05C
abbrev rBOX_QUEUE : Nat := 0x060
abbrev rBOX_BORROW_CTL : Nat := 0x064
abbrev rBOX_LOANS : Nat := 0x068
abbrev rBOX_WAIT_MAX : Nat := 0x06C
abbrev rBOX_GRANTS : Nat := 0x070
abbrev rBOX_WITHDRAWS : Nat := 0x074

abbrev rSYN_SYN_CAP : Nat := 0x040
abbrev rSYN_WAIT_DEF : Nat := 0x044
abbrev rSYN_HOST_ADD_OBJ : Nat := 0x048
abbrev rSYN_HOST_ADD : Nat := 0x04C
abbrev rSYN_WAITERS : Nat := 0x050
abbrev rSYN_BH_CTL : Nat := 0x060
abbrev rSYN_BH_BASE_LO : Nat := 0x064
abbrev rSYN_BH_BASE_HI : Nat := 0x068
abbrev rSYN_BH_SIZE : Nat := 0x06C
abbrev rSYN_BH_WR : Nat := 0x070
abbrev rSYN_BH_RD : Nat := 0x074
abbrev rSYN_BH_DROP : Nat := 0x078
abbrev rSYN_BH_CENSUS : Nat := 0x07C
abbrev rSYN_BH_SKIP : Nat := 0x080
abbrev rSYN_BH_CYCLES : Nat := 0x084
abbrev rSYN_BH_UNANSWERED : Nat := 0x088
abbrev rSYN_SIG_DUP : Nat := 0x090
abbrev rSYN_SIG_REFUSED : Nat := 0x094
abbrev rSYN_SIG_UNACK : Nat := 0x098
abbrev rSYN_TIMEOUTS : Nat := 0x09C
abbrev rSYN_PEER_SEL : Nat := 0x0A0
abbrev rSYN_PEER_STAT : Nat := 0x0A4
abbrev rSYN_PEER_TX_SEQ : Nat := 0x0A8
abbrev rSYN_PEER_RX_SEQ : Nat := 0x0AC
abbrev rSYN_PEER_REMOTE_SEQ : Nat := 0x0B0
abbrev rSYN_PEER_CTL : Nat := 0x0B4
abbrev rSYN_LOSS_SEL : Nat := 0x0B8
abbrev rSYN_LOSS_A : Nat := 0x0BC
abbrev rSYN_LOSS_VALUE : Nat := 0x0C0
abbrev rSYN_LOSS_SEQ : Nat := 0x0C4
abbrev rSYN_SIG_GAP : Nat := 0x0C8
abbrev rSYN_SIG_ACK_TO : Nat := 0x0CC

abbrev rCLU_CORE_EN_LO : Nat := 0x040
abbrev rCLU_CORE_EN_HI : Nat := 0x044
abbrev rCLU_SCRUB_CTL : Nat := 0x080
abbrev rCLU_SCRUB_STAT : Nat := 0x084
abbrev rCLU_CE_COUNT : Nat := 0x088
abbrev rCLU_UE_COUNT : Nat := 0x08C
abbrev rCLU_ERR_ADDR : Nat := 0x090
abbrev rCLU_REPAIR_STAT : Nat := 0x094
abbrev rCLU_REPAIR_THRESH : Nat := 0x098
abbrev rCLU_REPAIR_ENTRY : Nat := 0x0A0

abbrev rDMA_DMA_CAP : Nat := 0x040
abbrev rDMA_RING_BASE_LO : Nat := 0x044
abbrev rDMA_RING_BASE_HI : Nat := 0x048
abbrev rDMA_RING_SIZE : Nat := 0x04C
abbrev rDMA_RING_TAIL : Nat := 0x050
abbrev rDMA_RING_HEAD : Nat := 0x054
abbrev rDMA_RING_DONE : Nat := 0x058
abbrev rDMA_CTL : Nat := 0x05C
abbrev rDMA_CHAIN : Nat := 0x060
abbrev rDMA_CMD : Nat := 0x064
abbrev rDMA_STAT : Nat := 0x068
abbrev rDMA_ERR : Nat := 0x06C
abbrev rDMA_EVT_LOST : Nat := 0x070
abbrev rDMA_DESC_DONE : Nat := 0x074
abbrev rDMA_BYTES : Nat := 0x078

abbrev rCORE_CORE_CAP : Nat := 0x040
abbrev rCORE_SEQ_CMD : Nat := 0x044
abbrev rCORE_SEQ_STAT : Nat := 0x048
abbrev rCORE_QBASE : Nat := 0x04C
abbrev rCORE_QSIZE : Nat := 0x050
abbrev rCORE_QHEAD : Nat := 0x054
abbrev rCORE_QDONE : Nat := 0x058
abbrev rCORE_QTAIL : Nat := 0x05C
abbrev rCORE_QCTL : Nat := 0x060
abbrev rCORE_FAULT_REC : Nat := 0x064
abbrev rCORE_END_CODE : Nat := 0x068
abbrev rCORE_LAST_TAG : Nat := 0x06C
abbrev rCORE_TKT_COST : Nat := 0x070
abbrev rCORE_WAIT_OBJ : Nat := 0x074
abbrev rCORE_ARITH_FLAGS : Nat := 0x0C0

/-! ## Event bits, by page type and name -/

abbrev evDEV_BOOT_DONE : Nat := 0
abbrev evDEV_SLOT_BAD : Nat := 1
abbrev evDEV_SETTINGS_FALLBACK : Nat := 2
abbrev evDEV_RECOVERY : Nat := 3
abbrev evDEV_PART_FAILED : Nat := 4

abbrev evFAB_PHASE_DONE : Nat := 0
abbrev evFAB_READY : Nat := 1
abbrev evFAB_HELD_OUT : Nat := 2
abbrev evFAB_DUP_NUMBER : Nat := 3
abbrev evFAB_MISWIRE : Nat := 4
abbrev evFAB_RANGE_FAIL : Nat := 5
abbrev evFAB_NO_ROUTE : Nat := 6
abbrev evFAB_TIME_DEGRADED : Nat := 7

abbrev evPROMPT_LOG_DROP : Nat := 0
abbrev evPROMPT_ACCESS_BAD : Nat := 1

abbrev evTSU_GTS_STEP : Nat := 0
abbrev evTSU_LOCKED : Nat := 1
abbrev evTSU_LOCK_LOST : Nat := 2
abbrev evTSU_HOLDOVER : Nat := 3
abbrev evTSU_CUE_LATE : Nat := 4
abbrev evTSU_CUE_MISSED : Nat := 5
abbrev evTSU_RESID_HIGH : Nat := 6

abbrev evTHM_RATE_JUNCTION : Nat := 0
abbrev evTHM_RATE_COOLANT : Nat := 1
abbrev evTHM_T_HIGH : Nat := 2
abbrev evTHM_SENSOR_SUSPECT : Nat := 3
abbrev evTHM_SENSOR_RESTORED : Nat := 4
abbrev evTHM_WINDOW_REFUSED : Nat := 5
abbrev evTHM_BOARD_CAP : Nat := 6

abbrev evSEC_FUSE_WRITTEN : Nat := 0
abbrev evSEC_KEY_ROLLED : Nat := 1
abbrev evSEC_TEST_UNLOCK : Nat := 2

abbrev evCMDMB_DONE : Nat := 0
abbrev evCMDMB_BAD_TAG : Nat := 1
abbrev evCMDMB_LOCKOUT : Nat := 2

abbrev evOIO_LASER_LOST : Nat := 0
abbrev evOIO_LASER_CROSSED : Nat := 1
abbrev evOIO_RAMP_DONE : Nat := 2
abbrev evOIO_RAMP_FAIL : Nat := 3
abbrev evOIO_LASER_RESTORED : Nat := 4
abbrev evOIO_LANE_SPARED : Nat := 5
abbrev evOIO_PORT_DEGRADED : Nat := 6
abbrev evOIO_PORT_FAILED : Nat := 7
abbrev evOIO_RING_FAILED : Nat := 8
abbrev evOIO_SLOT_COLLISION : Nat := 9
abbrev evOIO_CAL_FAIL : Nat := 10
abbrev evOIO_ADC_RANGE : Nat := 11
abbrev evOIO_IM_FORCED : Nat := 12
abbrev evOIO_LOS : Nat := 13
abbrev evOIO_SWITCH_OVER : Nat := 16
abbrev evOIO_REVERT : Nat := 17
abbrev evOIO_UND_UNHEALTHY : Nat := 18
abbrev evOIO_UND_READY : Nat := 19
abbrev evOIO_MIRROR_RESYNC : Nat := 20
abbrev evOIO_NO_CONTROLLER : Nat := 21
abbrev evOIO_LEAD_FAILED : Nat := 22

abbrev evLNK_LINK_UP : Nat := 0
abbrev evLNK_LINK_DOWN : Nat := 1
abbrev evLNK_RETRAIN : Nat := 2
abbrev evLNK_REPLAY_LIMIT : Nat := 3
abbrev evLNK_CURT_ACCEPTED : Nat := 4
abbrev evLNK_CURT_BAD : Nat := 5
abbrev evLNK_CURT_LAPSED : Nat := 6
abbrev evLNK_FENCE_DONE : Nat := 7
abbrev evLNK_CONSERVATION_FAULT : Nat := 8
abbrev evLNK_VERSION_LOW : Nat := 9

abbrev evPART_LOCAL_RESET_DONE : Nat := 0
abbrev evPART_RESET_DONE : Nat := 1

abbrev evUSH_REQ_DONE : Nat := 0
abbrev evUSH_LOG_DROP : Nat := 1
abbrev evUSH_MIG_ABANDON : Nat := 2
abbrev evUSH_CONSERVATION_FAULT : Nat := 3
abbrev evUSH_PARTNER_ERR : Nat := 4
abbrev evUSH_HOST_MISS : Nat := 5

abbrev evBOX_BUDGET_CHANGED : Nat := 0
abbrev evBOX_RATE_HOLD : Nat := 1
abbrev evBOX_RATE_END : Nat := 2
abbrev evBOX_COMMIT_REFUSED : Nat := 3
abbrev evBOX_CONSERVATION_FAULT : Nat := 4

abbrev evSYN_WAIT_TIMEOUT : Nat := 0
abbrev evSYN_BH_CYCLE : Nat := 1
abbrev evSYN_SIG_LOST : Nat := 2
abbrev evSYN_PEER_QUERIED : Nat := 3
abbrev evSYN_SIG_REFUSED : Nat := 4
abbrev evSYN_CONSERVATION_FAULT : Nat := 5
abbrev evSYN_BH_DROP : Nat := 6
abbrev evSYN_SIG_GAP : Nat := 7

abbrev evCLU_MEM_UE : Nat := 0
abbrev evCLU_REPAIR_DONE : Nat := 1
abbrev evCLU_REPAIR_FULL : Nat := 2
abbrev evCLU_SCRUB_PASS : Nat := 3

abbrev evDMA_DESC_IRQ : Nat := 0
abbrev evDMA_HALT_ERR : Nat := 1
abbrev evDMA_ABORT_DONE : Nat := 2
abbrev evDMA_CHAIN_REFUSED : Nat := 3
abbrev evDMA_EVT_LOST : Nat := 4

abbrev evCORE_HALT_END : Nat := 0
abbrev evCORE_HALT_FAULT : Nat := 1
abbrev evCORE_HALT_STOP : Nat := 2
abbrev evCORE_REC_IRQ : Nat := 3
abbrev evCORE_TKT_PAUSE : Nat := 4

end Sys2Proof.Machine
end

