-- ==== Sys2Proof/Machine/Regs.lean ====
section
/-! DEFINITION. Chapter 13: where the pages lie in BAR0, the reset value of every register, and reading
and writing the registers that are storage. -/

namespace Sys2Proof.Machine

open Sys2Proof

/-! ## Page bases (Tables 13-1 to 13-4) -/

abbrev aDev : Nat := 0x0000
abbrev aPrompt : Nat := 0x1000
abbrev aTsu : Nat := 0x2000
abbrev aThm : Nat := 0x3000
abbrev aSec : Nat := 0x4000
abbrev aMb : Nat := 0x5000
abbrev aMsix : Nat := 0x80000
abbrev aPba : Nat := 0x88000

def aOio (k : Nat) : Nat := 0x100000 + k * 0x40000
/-- Registers of a port (Table 7-19). -/
def aPort (port : Nat) : Nat := aOio (port / 8) + 0x100 + 0x40 * (port % 8)
/-- Link registers of a port (Table 8-19). -/
def aLnk (port : Nat) : Nat := aOio (port / 8) + 0x300 + 0x80 * (port % 8)
def aPart (p : Nat) : Nat := 0x1000000 + p * 0x800000
def aUsh (p : Nat) : Nat := aPart p + 0x1000
def aBox (p : Nat) : Nat := aPart p + 0x2000
def aSyn (p : Nat) : Nat := aPart p + 0x3000
def aClu (c : Nat) : Nat := aPart (c / 12) + 0x200000 + c % 12 * 0x80000
def aDma (ch : Nat) : Nat := aClu (ch / 16) + 0x1000 + ch % 16 * 0x1000
/-- The logical alias page, under which the registers of a core are kept (R26). -/
def aCore (i : Nat) : Nat := aClu (i / 48) + 0x45000 + i % 48 * 0x1000

/-- The physical cores of a cluster that its yield map enables, ascending (R24). -/
def State.enabledCores (s : State) (c : Nat) : List Nat := setBits (tblGet 0 s.fuses.yield c) 0 52

/-- The physical core of a logical one (R24). -/
def State.physOf (s : State) (core : Nat) : Nat :=
  ((s.enabledCores (core / 48))[core % 48]?).getD (core % 48)

/-- What a BAR0 address names: a page's register, a sync object (VALUE or META), an MSI-X table word, the
pending-bit array, or nothing. -/
inductive Place where
  | page (k : PageKind) (inst off : Nat)
  | obj (p o : Nat) (isMeta : Bool)
  | msix (word : Nat)
  | pba (word : Nat)
  | nothing
deriving DecidableEq, Repr

/-- Resolves a 4-byte aligned BAR0 address. A physical core page resolves to the logical core it belongs
to; that of a disabled core to nothing (R26). -/
def State.place (s : State) (a : Nat) : Place :=
  let off := a % 0x1000
  if a < 0x6000 then
    .page ([PageKind.dev, .prompt, .tsu, .thm, .sec, .cmdmb].getD (a / 0x1000) .dev) 0 off
  else if aMsix ≤ a ∧ a < aPba then .msix ((a - aMsix) / 4)
  else if aPba ≤ a ∧ a < aPba + 0x100 then .pba ((a - aPba) / 4)
  else if 0x100000 ≤ a ∧ a < 0x300000 then
    if (a - 0x100000) % 0x40000 < 0x1000 then .page .oio ((a - 0x100000) / 0x40000) off else .nothing
  else if 0x1000000 ≤ a ∧ a < 0x3000000 then
    let p := (a - 0x1000000) / 0x800000
    let w := (a - 0x1000000) % 0x800000
    if w < 0x1000 then .page .part p off
    else if w < 0x2000 then .page .ush p off
    else if w < 0x3000 then .page .box p off
    else if w < 0x4000 then .page .syn p off
    else if 0x100000 ≤ w ∧ w < 0x180000 then .obj p ((w - 0x100000) / 8) (w / 4 % 2 == 1)
    else if 0x200000 ≤ w then
      let c := 12 * p + (w - 0x200000) / 0x80000
      let v := (w - 0x200000) % 0x80000
      if v < 0x1000 then .page .clu c off
      else if v < 0x11000 then .page .dma (16 * c + (v - 0x1000) / 0x1000) off
      else if v < 0x45000 then
        match (s.enabledCores c).findIdx? (fun m => m == (v - 0x11000) / 0x1000) with
        | some n => if n < 48 then .page .core (48 * c + n) off else .nothing
        | none => .nothing
      else if v < 0x75000 then .page .core (48 * c + (v - 0x45000) / 0x1000) off
      else .nothing
    else .nothing
  else .nothing

/-- The page address under which a page's registers are kept. -/
def pageBase (k : PageKind) (inst : Nat) : Nat :=
  match k with
  | .dev => aDev | .prompt => aPrompt | .tsu => aTsu | .thm => aThm | .sec => aSec | .cmdmb => aMb
  | .oio => aOio inst | .oioPort => aPort inst | .oioLink => aLnk inst
  | .part => aPart inst | .ush => aUsh inst | .box => aBox inst | .syn => aSyn inst
  | .clu => aClu inst | .dma => aDma inst | .core => aCore inst

/-! ## The register tables -/

/-- The rows of a page type above the common header. -/
def rowsOf : PageKind → List RegRow
  | .dev => rowsDev | .prompt => rowsPrompt | .tsu => rowsTsu | .thm => rowsThm | .sec => rowsSec
  | .cmdmb => rowsCmdmb | .oio => rowsOio | .oioPort => rowsOioport | .oioLink => rowsOiolink
  | .part => rowsPart | .ush => rowsUsh | .box => rowsBox | .syn => rowsSyn | .clu => rowsClu
  | .dma => rowsDma | .core => rowsCore

/-- Whether a row holds the register at an offset. -/
def RegRow.has (r : RegRow) (off : Nat) : Bool :=
  decide (r.off ≤ off) && decide (off < r.off + r.count * r.stride) && (off - r.off) % r.stride == 0

/-- A register that no row names: RO storage that reads 0. -/
def RegRow.zero : RegRow := ⟨0, 1, 4, 0, 0, 0, 0, 0⟩

/-- The row of the register at an offset of a page; the port and link blocks of an OIOk page are
searched by their own tables (R222, R258). -/
def rowAt (k : PageKind) (off : Nat) : RegRow :=
  if k = .oio ∧ 0x100 ≤ off ∧ off < 0x300 then
    (rowsOioport.find? (fun r => r.has ((off - 0x100) % 0x40))).getD RegRow.zero
  else if k = .oio ∧ 0x300 ≤ off ∧ off < 0x700 then
    (rowsOiolink.find? (fun r => r.has ((off - 0x300) % 0x80))).getD RegRow.zero
  else if k = .oioPort ∨ k = .oioLink then ((rowsOf k).find? (fun r => r.has off)).getD RegRow.zero
  else ((rowsOf k ++ rowsHdr).find? (fun r => r.has off)).getD RegRow.zero

/-- EVT_BITS and HAS_LOCK of Table 13-6, with TYPE. -/
def pageType : PageKind → Nat × Nat × Nat
  | .dev => (0x0001, 5, 1) | .prompt => (0x0002, 2, 0) | .tsu => (0x0003, 7, 0) | .thm => (0x0004, 7, 1)
  | .sec => (0x0005, 3, 0) | .cmdmb => (0x0006, 3, 0) | .oio | .oioPort | .oioLink => (0x0010, 23, 0)
  | .part => (0x0020, 2, 0) | .ush => (0x0021, 6, 1) | .box => (0x0022, 5, 0) | .syn => (0x0023, 8, 0)
  | .clu => (0x0030, 4, 0) | .dma => (0x0031, 5, 0) | .core => (0x0032, 5, 1)

/-- The reset value of the register kept at a BAR0 address: Tables 13-9 to 13-22. -/
def resetAt (a : Nat) : W32 :=
  let off := a % 0x1000
  let k : PageKind :=
    if a < 0x6000 then [PageKind.dev, .prompt, .tsu, .thm, .sec, .cmdmb].getD (a / 0x1000) .dev
    else if a < 0x1000000 then .oio
    else
      let w := (a - 0x1000000) % 0x800000
      if w < 0x1000 then .part
      else if w < 0x2000 then .ush
      else if w < 0x3000 then .box
      else if w < 0x4000 then .syn
      else if (w - 0x200000) % 0x80000 < 0x1000 then .clu
      else if (w - 0x200000) % 0x80000 < 0x11000 then .dma
      else .core
  if aMsix ≤ a ∧ a < aPba then (if a % 16 = 12 then 1 else 0)
  else if 0x6000 ≤ a ∧ a < 0x100000 then 0
  else (rowAt k off).reset

/-! ## Storage -/

/-- The register stored at a BAR0 address; the reset value where nothing was written. -/
def State.reg (s : State) (a : Nat) : W32 := tblGet (resetAt a) s.regs a

/-- Writes a stored register as hardware does. -/
def State.setReg (s : State) (a : Nat) (v : W32) : State :=
  { s with regs := tblSet (resetAt a) s.regs a v }

/-- Bits `[hi:lo]` of a stored register. -/
def State.fld (s : State) (a hi lo : Nat) : Nat := rf (s.reg a) hi lo

/-- Replaces bits `[hi:lo]` of a stored register. -/
def State.setFld (s : State) (a hi lo v : Nat) : State := s.setReg a (rput (s.reg a) hi lo v)

/-- Adds to a counter register that saturates (the RC counters of every page). -/
def State.bump (s : State) (a n : Nat) : State := s.setReg a (satAdd (s.reg a) n)

/-- The registers of the pages in `[lo, hi)` return to their reset values, but for those that `keep` names (Table 13-6). -/
def State.resetPages (s : State) (lo hi : Nat) (keep : Nat → Bool) : State :=
  { s with regs := tblClear (fun a => decide (lo ≤ a) && decide (a < hi) && !keep a) s.regs }

end Sys2Proof.Machine
end

