-- ==== Sys2Proof/Machine/Events.lean ====
section
/-! DEFINITION. Chapter 13, "Interrupts and the event log": what it means that an event bit is set (R373
to R375), and the MSI-X messages that follow. -/

namespace Sys2Proof.Machine

open Sys2Proof

/-! ## MSI-X (R371, R374) -/

/-- Whether the vector control word of a table entry masks it (entries are masked at reset, log 8). -/
def State.vecMasked (s : State) (v : Nat) : Bool := rb (s.reg (aMsix + 16 * v + 12)) 0

/-- Sends the message of a vector, or sets its pending bit while it is masked. -/
def State.sendMsix (s : State) (v : Nat) : State :=
  if s.vecMasked v then (if v ∈ s.pba then s else { s with pba := v :: s.pba }) else s.emit (.msix v)

/-- The page sends its message if IRQ_EN is set. -/
def State.pageMsix (s : State) (page : Nat) : State :=
  if rb (s.reg (page + rHDR_PAGE_CTL)) 30 then s.sendMsix (s.fld (page + rHDR_PAGE_CTL) 10 0) else s

/-! ## One set of an event bit -/

/-- A set of an event bit: whether it is in the page's second register, the local port of an LNKn_EVT
bit, the bit, and the two arguments of the record. -/
structure Ev where
  second : Bool
  port : Nat
  bit : Nat
  arg0 : Nat
  arg1 : Nat
deriving DecidableEq, Repr

/-- A bit of EVT_STAT with no arguments. -/
def ev (b : Nat) : Ev := ⟨false, 0, b, 0, 0⟩

/-- The status register that holds the bit: EVT_STAT, DEV.FAB_EVT or the LNKn_EVT of an OIOk port (R374). -/
def evStat (page : Nat) (e : Ev) : Nat :=
  if e.second then (if page = aDev then aDev + rDEV_FAB_EVT else page + 0x300 + 0x80 * e.port + rOIOLINK_LNK_EVT)
  else page + rHDR_EVT_STAT

/-- The enable register of the bit. -/
def evEn (page : Nat) (e : Ev) : Nat :=
  if e.second then (if page = aDev then aDev + rDEV_FAB_EVT_EN else page + 0x300 + 0x80 * e.port + rOIOLINK_LNK_EVT_EN)
  else page + rHDR_EVT_EN

/-- The bit is set, and ERR_LOG_HEAD and ERR_COUNT record it (R374). -/
def State.setEv (s : State) (page : Nat) (e : Ev) : State :=
  let s := s.setReg (evStat page e) (s.reg (evStat page e) ||| (1 <<< e.bit))
  let s := s.setReg (page + rHDR_ERR_LOG_HEAD)
    (BitVec.ofNat 32 (2 ^ 31 + e.port % 8 * 2 ^ 6 + b2n e.second * 2 ^ 5 + e.bit))
  s.bump (page + rHDR_ERR_COUNT) 1

def State.evEnabled (s : State) (page : Nat) (e : Ev) : Bool := rb (s.reg (evEn page e)) e.bit

/-! ## The event log (R375) -/

/-- LOG2 of the ring, 0 while the log is off (Table 13-8: values outside 6 to 20 act as 0). -/
def State.logLog2 (s : State) : Nat :=
  let n := s.fld (aPrompt + rPROMPT_LOG_SIZE) 4 0
  if 6 ≤ n ∧ n ≤ 20 then n else 0

/-- The page number that a record carries: a core page's is that of its physical page (R375, R26). -/
def State.pageNo (s : State) (page : Nat) : Nat :=
  match s.place page with
  | .page .core i _ => (aClu (i / 48) + 0x11000 + s.physOf i * 0x1000) / 4096
  | _ => page / 4096

/-- The 32 bytes of Table 13-7. -/
def State.eventRecord (s : State) (page src : Nat) (forced : Bool) (e : Ev) : List Byte :=
  leBytes 8 s.tsu.gts ++ leBytes 2 src ++ leBytes 2 (s.pageNo page)
    ++ leBytes 1 (e.bit + b2n e.second * 2 ^ 5 + b2n forced * 2 ^ 6)
    ++ leBytes 1 (if e.second && page != aDev then e.port else 0) ++ leBytes 2 0
    ++ leBytes 8 e.arg0 ++ leBytes 8 e.arg1

/-- A dropped record: LOG_DROP counts, and its event bit is set without a record of its own. -/
def State.logDrop (s : State) : State :=
  let s := s.bump (aPrompt + rPROMPT_LOG_DROP) 1
  let s := s.setEv aPrompt (ev evPROMPT_LOG_DROP)
  if s.evEnabled aPrompt (ev evPROMPT_LOG_DROP) then s.pageMsix aPrompt else s

/-- Writes one record into the ring, or drops it when the ring is full. -/
def State.logRecord (s : State) (page src : Nat) (forced : Bool) (e : Ev) : State :=
  if rb (s.reg (page + rHDR_PAGE_CTL)) 31 = false ∨ s.logLog2 = 0 then s
  else
    let n := 2 ^ s.logLog2
    let wr := s.fld (aPrompt + rPROMPT_LOG_WR) 19 0 % n
    if (wr + 1) % n = s.fld (aPrompt + rPROMPT_LOG_RD) 19 0 % n then s.logDrop
    else
      let base := (s.reg (aPrompt + rPROMPT_LOG_BASE_LO)).toNat / 32 * 32
        + (s.reg (aPrompt + rPROMPT_LOG_BASE_HI)).toNat * 2 ^ 32
      let s := s.hostWrite (base + 32 * wr) (s.eventRecord page src forced e)
      s.setFld (aPrompt + rPROMPT_LOG_WR) 19 0 ((wr + 1) % n)

/-- One set: the bit, the two header registers, and the record where the bit is enabled; PROMPT's LOG_DROP
never writes one. -/
def State.raiseEv (s : State) (page src : Nat) (forced : Bool) (e : Ev) : State :=
  let s := s.setEv page e
  if s.evEnabled page e = true ∧ ¬ (page = aPrompt ∧ e.bit = evPROMPT_LOG_DROP) then s.logRecord page src forced e
  else s

/-- The sets that fall on one edge, in the order of R374 and R375; one message if any bit is enabled. -/
def State.raiseAll (s : State) (page src : Nat) (forced : Bool) (es : List Ev) : State :=
  let t := es.foldl (fun s e => s.raiseEv page src forced e) s
  if es.any (fun e => s.evEnabled page e) then t.pageMsix page else t

/-- Hardware sets one event bit of a page. -/
def State.raise (s : State) (page src bit : Nat) : State := s.raiseAll page src false [ev bit]

/-- Hardware sets one event bit with its arguments. -/
def State.raiseArg (s : State) (page src bit a0 a1 : Nat) : State :=
  s.raiseAll page src false [⟨false, 0, bit, a0, a1⟩]

/-! ## By block (the source numbers of R34) -/

def State.evDev (s : State) (bit : Nat) : State := s.raise aDev srcPrompter bit
/-- FAB_EVT (R287). -/
def State.evFab (s : State) (bit : Nat) : State := s.raiseAll aDev srcPrompter false [⟨true, 0, bit, 0, 0⟩]
def State.evPrompt (s : State) (bit : Nat) : State := s.raise aPrompt srcPrompter bit
def State.evTsu (s : State) (bit a0 a1 : Nat) : State := s.raiseArg aTsu srcTsu bit a0 a1
def State.evThm (s : State) (bit a0 : Nat) : State := s.raiseArg aThm srcThm bit a0 0
def State.evSec (s : State) (bit : Nat) : State := s.raise aSec srcSec bit
def State.evMb (s : State) (bit a0 : Nat) : State := s.raiseArg aMb srcMb bit a0 0
/-- An event of a site carries the source number of the controller in control (R222, R35). -/
def State.evSite (s : State) (k bit : Nat) : State := s.raise (aOio k) (0x0C40 + 2 * k + (s.site k).lead) bit
/-- An event that concerns one port (R222). -/
def State.evPort (s : State) (port bit : Nat) : State := s.raise (aOio (port / 8)) (srcPort port) bit
/-- LNKn_EVT (R258). -/
def State.evLnk (s : State) (port bit a0 : Nat) : State :=
  s.raiseAll (aOio (port / 8)) (srcPort port) false [⟨true, port % 8, bit, a0, 0⟩]
def State.evPart (s : State) (p bit : Nat) : State := s.raise (aPart p) srcPrompter bit
def State.evUsh (s : State) (p bit a0 a1 : Nat) : State := s.raiseArg (aUsh p) (srcUsher p) bit a0 a1
def State.evBox (s : State) (p bit : Nat) : State := s.raise (aBox p) (srcBox p) bit
def State.evSyn (s : State) (p bit a0 a1 : Nat) : State := s.raiseArg (aSyn p) (srcSync p) bit a0 a1
/-- DESIGN CHOICE (log 64): Table 1-11 gives clusters no source number, so their records carry the prompter's. -/
def State.evClu (s : State) (c bit a0 : Nat) : State := s.raiseArg (aClu c) srcPrompter bit a0 0
def State.evChan (s : State) (ch bit a0 : Nat) : State := s.raiseArg (aDma ch) (srcChan ch) bit a0 0
def State.evCore (s : State) (i bit a0 a1 : Nat) : State := s.raiseArg (aCore i) i bit a0 a1

end Sys2Proof.Machine
end

