-- ==== Sys2Proof/Machine/Guard.lean ====
section
/-! DEFINITION. Which pages answer (R25, R316, R372), and register writes that have an effect of their own. -/

namespace Sys2Proof.Machine

open Sys2Proof

/-- The step of Table 11-1 from whose end a page answers, and the partition it belongs to, if any. -/
def pageNeeds (k : PageKind) (inst : Nat) : Nat × Option Nat :=
  match k with
  | .dev | .prompt | .tsu | .thm | .sec | .cmdmb => (1, none)
  | .oio => (3, some (inst / 2))
  | .oioPort | .oioLink => (3, some (inst / 16))
  | .part | .ush | .box | .syn => (3, some inst)
  | .clu => (4, some (inst / 12))
  | .dma => (4, some (inst / 192))
  | .core => (5, some (inst / 576))

/-- A page answers: its block is brought up, and its partition is not RESETTING or FAILED; an OIOk page
follows RESETTING only. PARTp stays readable. -/
def State.pageOpen (s : State) (k : PageKind) (inst : Nat) (write : Bool) : Bool :=
  let n := pageNeeds k inst
  !s.pwr.inReset && decide (n.1 ≤ s.pwr.step) && (match n.2 with
    | none => true
    | some p =>
      let st := (s.part p).st
      match k with
      | .part => !write || (st != 2 && st != 3)
      | .oio | .oioPort | .oioLink => st != 2
      | _ => st != 2 && st != 3)

/-- Whether what a BAR0 address names answers. -/
def State.placeOpen (s : State) (write : Bool) : Place → Bool
  | .page k inst _ => s.pageOpen k inst write
  | .obj p _ _ => s.pageOpen .syn p write
  | .msix _ => !s.pwr.inReset && decide (1 ≤ s.pwr.step)
  | .pba _ => !s.pwr.inReset && decide (1 ≤ s.pwr.step)
  | .nothing => false

/-- A write that reaches a page has its effect; a page that does not answer ignores it. -/
def State.onPage (s : State) (k : PageKind) (inst : Nat) (f : State → State) : State :=
  if s.pageOpen k inst true then f s else s

end Sys2Proof.Machine
end

