-- ==== Sys2Proof/Machine/Flags.lean ====
section
/-! DEFINITION. The arithmetic flags of Table 2-9 and how records combine them (R59). -/

namespace Sys2Proof.Machine

open Sys2Proof

/-- No flag set. -/
def noFlags : Flags := ⟨false, false, false, false, false, false, false, false, false⟩

/-- The union of two flag sets. -/
def orFlags (a b : Flags) : Flags :=
  ⟨a.xaSpread || b.xaSpread, a.xaOvf || b.xaOvf, a.inexact || b.inexact, a.overflow || b.overflow,
   a.underflow || b.underflow, a.invalid || b.invalid, a.nanIn || b.nanIn,
   a.blkInvalid || b.blkInvalid, a.sat || b.sat⟩

/-- The flags as bits `[8:0]` of COREp_c_n.ARITH_FLAGS. -/
def flagBits (f : Flags) : Nat :=
  b2n f.xaSpread + 2 * b2n f.xaOvf + 4 * b2n f.inexact + 8 * b2n f.overflow + 16 * b2n f.underflow
    + 32 * b2n f.invalid + 64 * b2n f.nanIn + 128 * b2n f.blkInvalid + 256 * b2n f.sat

/-- One flag each. -/
def fInvalid : Flags := { noFlags with invalid := true }
def fNanIn : Flags := { noFlags with nanIn := true }
def fBlkInvalid : Flags := { noFlags with blkInvalid := true }
def fSat : Flags := { noFlags with sat := true }

end Sys2Proof.Machine
end

