-- ==== Sys2Proof/Machine/Exact.lean ====
section
/-! DEFINITION. Chapter 2: element decoding, rounding, the stochastic-rounding hash, the exact
accumulator, spill records, fragments, and conversion into block formats. Everything is integer
arithmetic on dyadic numbers and on fractions, so nothing is rounded but where a rule says so. -/

namespace Sys2Proof.Machine

open Sys2Proof

/-! ## Encodings (Table 2-2) -/

/-- Mantissa bits. -/
def encMant : Enc → Nat
  | .e2m1 => 1 | .e2m3 => 3 | .e3m2 => 2 | .e4m3 => 3 | .e5m2 => 2 | .bf16 => 7 | .b32 => 23

/-- Exponent bits. -/
def encExp : Enc → Nat
  | .e2m1 => 2 | .e2m3 => 2 | .e3m2 => 3 | .e4m3 => 4 | .e5m2 => 5 | .bf16 => 8 | .b32 => 8

/-- Exponent bias. -/
def encBias : Enc → Nat
  | .e2m1 => 1 | .e2m3 => 1 | .e3m2 => 3 | .e4m3 => 7 | .e5m2 => 15 | .bf16 => 127 | .b32 => 127

/-- Width of an element in bits, sign included. -/
def encBits (c : Enc) : Nat := 1 + encExp c + encMant c

/-- The magnitude code of the largest finite value. -/
def encMaxCode : Enc → Nat
  | .e2m1 => 0x7 | .e2m3 => 0x1F | .e3m2 => 0x1F | .e4m3 => 0x7E | .e5m2 => 0x7B
  | .bf16 => 0x7F7F | .b32 => 0x7F7FFFFF

/-- The canonical NaN of R40 (the E2M1, E2M3 and E3M2 encodings have none). -/
def encNan : Enc → Nat
  | .e4m3 => 0x7F | .e5m2 => 0x7E | .bf16 => 0x7FC0 | .b32 => 0x7FC00000 | _ => 0

/-- The magnitude code of infinity, for the encodings that have it. -/
def encInf : Enc → Option Nat
  | .e5m2 => some 0x7C | .bf16 => some 0x7F80 | .b32 => some 0x7F800000 | _ => none

/-- The exponent of the smallest normal, `1 - bias`. -/
def encEmin (c : Enc) : Int := 1 - (encBias c : Int)

/-- The finite magnitude a magnitude code stands for, as `m × 2^e` (R39: no subnormal is flushed). -/
def encMag (c : Enc) (k : Nat) : Nat × Int :=
  let mb := encMant c
  let E := k / 2 ^ mb
  let m := k % 2 ^ mb
  if E = 0 then (m, encEmin c - mb) else (2 ^ mb + m, (E : Int) - encBias c - mb)

/-- The value of an element code (Table 2-2). -/
def decodeElem (c : Enc) (code : Nat) : Val :=
  let k := code % 2 ^ (encBits c - 1)
  let neg := bit code (encBits c - 1)
  match encInf c with
  | some i =>
    if k = i then .inf neg else if k > i then .nan false
    else .fin neg (encMag c k).1 (encMag c k).2
  | none =>
    if c = .e4m3 ∧ k = 0x7F then .nan false else .fin neg (encMag c k).1 (encMag c k).2

/-! ## Fractions: a magnitude is `num / den × 2^e` with `den > 0` -/

/-- A non-negative rational magnitude. -/
structure Mag where
  num : Nat
  den : Nat
  e : Int
deriving DecidableEq, Repr

/-- The magnitude as a plain fraction. -/
def magFrac (x : Mag) : Nat × Nat :=
  if 0 ≤ x.e then (x.num * 2 ^ x.e.toNat, x.den) else (x.num, x.den * 2 ^ (-x.e).toNat)

/-- Comparison `a < b`. -/
def magLt (a b : Mag) : Bool :=
  let p := magFrac a
  let q := magFrac b
  decide (p.1 * q.2 < q.1 * p.2)

/-- `⌊x × 2^s⌋`. -/
def magFloorScaled (x : Mag) (s : Int) : Nat :=
  let p := magFrac { x with e := x.e + s }
  p.1 / p.2

/-- Whether `x × 2^s` is an integer. -/
def magExactScaled (x : Mag) (s : Int) : Bool :=
  let p := magFrac { x with e := x.e + s }
  p.1 % p.2 == 0

/-- `⌊log2 x⌋` of a nonzero magnitude. -/
def magLog2 (x : Mag) : Int :=
  let p := magFrac x
  if p.1 ≥ p.2 then (Nat.log2 (p.1 / p.2) : Int)
  else
    -- x < 1: the least k with 2^k x >= 1
    let k := Nat.log2 (p.2 / p.1)
    if p.1 * 2 ^ k ≥ p.2 then -(k : Int) else -((k : Int) + 1)

/-- The magnitude of a dyadic number. -/
def magDy (m : Nat) (e : Int) : Mag := ⟨m, 1, e⟩

/-! ## Rounding to a grid (R44) -/

/-- What rounding a magnitude gives: the code of `lo` or of `hi` (which may be one past the largest
finite code), whether the value was not representable, and whether it is tiny after rounding. -/
structure RoundOut where
  code : Nat
  inexact : Bool
  ovf : Bool
  tiny : Bool
deriving DecidableEq, Repr

/-- Chooses between the quotient `q` and `q + 1` by R44; `x × 2^(-ulp)` lies in `[q, q + 1)`. -/
def roundUpChoice (r : Rnd) (x : Mag) (ulp : Int) (q : Nat) : Bool :=
  let p := magFrac { x with e := x.e - ulp }
  let rem := p.1 - q * p.2
  match r with
  | .rne => decide (2 * rem > p.2) || (decide (2 * rem = p.2) && q % 2 == 1)
  | .sr rnd => decide (rnd < 2 ^ 24 * rem / p.2)

/-- Rounds a magnitude into an encoding by R44; `ovf` says the result is an overflow. -/
def roundMag (c : Enc) (r : Rnd) (x : Mag) : RoundOut :=
  if x.num = 0 then ⟨0, false, false, false⟩
  else
    let mb := encMant c
    let e := magLog2 x
    let ulp := max e (encEmin c) - mb
    let q := magFloorScaled x (-ulp)
    let exact := magExactScaled x (-ulp)
    let up := !exact && roundUpChoice r x ulp q
    let E := max e (encEmin c) + encBias c
    -- the code of q in binade E: for subnormals E = 1 and q < 2^mb, which the sum covers
    let lo := ((E - 1) * 2 ^ mb).toNat + q
    let code := if up then lo + 1 else lo
    -- tininess after rounding: round to the same precision with an unbounded exponent
    let ulp' := e - mb
    let q' := magFloorScaled x (-ulp')
    let up' := !magExactScaled x (-ulp') && roundUpChoice r x ulp' q'
    let tiny := decide (e < encEmin c) && !(decide (e + 1 = encEmin c) && up' && decide (q' + 1 = 2 ^ (mb + 1)))
    if lo > encMaxCode c then ⟨encMaxCode c + 1, true, true, false⟩
    else ⟨code, !exact, decide (code > encMaxCode c), tiny⟩

/-- The smallest code whose value is at least the magnitude, or none past the largest finite one
("round_up … toward +Inf", R46). -/
def roundUpCode (c : Enc) (x : Mag) : Option Nat :=
  if x.num = 0 then some 0
  else
    let mb := encMant c
    let e := magLog2 x
    let ulp := max e (encEmin c) - mb
    let q := magFloorScaled x (-ulp)
    let E := max e (encEmin c) + encBias c
    let lo := ((E - 1) * 2 ^ mb).toNat + q
    let k := if magExactScaled x (-ulp) then lo else lo + 1
    if k ≤ encMaxCode c then some k else none

/-! ## Conversion into a dense target (Table 2-6) -/

/-- An element code with a sign put on its magnitude code. -/
def withSign (c : Enc) (neg : Bool) (k : Nat) : Nat := b2n neg * 2 ^ (encBits c - 1) + k

/-- The overflow value of a dense target: the last column of Table 2-6. -/
def overflowValue (c : Enc) (satur neg : Bool) : Nat × Flags :=
  let f := { noFlags with overflow := true, inexact := true }
  match c with
  | .e4m3 =>
    if satur then (withSign c neg (encMaxCode c), { f with sat := true }) else (0x7F, f)
  | .e5m2 =>
    if satur then (withSign c neg (encMaxCode c), { f with sat := true }) else (withSign c neg 0x7C, f)
  | _ => (withSign c neg ((encInf c).getD (encMaxCode c)), f)

/-- An infinity converted into a dense target (Table 2-6). -/
def infValue (c : Enc) (satur neg : Bool) : Nat × Flags :=
  match c with
  | .e4m3 => if satur then (withSign c neg (encMaxCode c), fSat) else (0x7F, fInvalid)
  | .e5m2 => if satur then (withSign c neg (encMaxCode c), fSat) else (withSign c neg 0x7C, noFlags)
  | _ => (withSign c neg ((encInf c).getD (encMaxCode c)), noFlags)

/-- A finite magnitude of a sign rounded once into a dense target. -/
def convFin (c : Enc) (satur : Bool) (r : Rnd) (neg : Bool) (x : Mag) : Nat × Flags :=
  let o := roundMag c r x
  if o.ovf then overflowValue c satur neg
  else (withSign c neg o.code,
    { noFlags with inexact := o.inexact, underflow := o.inexact && o.tiny })

/-- One source value converted into a dense target (R44, R45). -/
def convDense (c : Enc) (satur : Bool) (r : Rnd) : Val → Nat × Flags
  | .nan blk => (encNan c, if blk then fBlkInvalid else fNanIn)
  | .inf neg => infValue c satur neg
  | .fin neg m e => convFin c satur r neg (magDy m e)

/-! ## The stochastic-rounding hash (R48) -/

/-- The rounding value of R48. -/
def srRnd (handle index step : Nat) : Nat :=
  let M := 2 ^ 64
  let w := (handle % 2 ^ 20) * 2 ^ 44 + index % 2 ^ 44
  let z := Nat.xor w (step % 2 ^ 32 * 0x9E3779B97F4A7C15 % M)
  let z := Nat.xor z (z / 2 ^ 30) * 0xBF58476D1CE4E5B9 % M
  let z := Nat.xor z (z / 2 ^ 27) * 0x94D049BB133111EB % M
  let z := Nat.xor z (z / 2 ^ 31)
  bits z 63 40

/-! ## The exact accumulator (R50 to R61) -/

/-- A signed dyadic number. -/
structure Dy where
  m : Int
  e : Int
deriving DecidableEq, Repr

/-- The exact sum of two dyadic numbers. -/
def dyAdd (a b : Dy) : Dy :=
  if a.m = 0 then b else if b.m = 0 then a
  else if a.e ≤ b.e then ⟨a.m + b.m * 2 ^ (b.e - a.e).toNat, a.e⟩
  else ⟨a.m * 2 ^ (a.e - b.e).toNat + b.m, b.e⟩

/-- The exact product of two dyadic numbers. -/
def dyMul (a b : Dy) : Dy := ⟨a.m * b.m, a.e + b.e⟩

/-- The dyadic number of a finite value, zero for the others. -/
def valDy : Val → Dy
  | .fin neg m e => ⟨if neg then -(m : Int) else m, e⟩
  | _ => ⟨0, 0⟩

/-- The part of `±|m| × 2^s` kept by truncation toward zero, and whether a 1 bit was lost (R53, R61). -/
def shiftTrunc (m : Int) (s : Int) : Int × Bool :=
  if 0 ≤ s then (m * 2 ^ s.toNat, false)
  else
    let d := 2 ^ (-s).toNat
    let q := m.natAbs / d
    (if m < 0 then -(q : Int) else q, m.natAbs % d != 0)

/-- The bound of R54 in window units: `2^(A+40)` is `2^319` of them. -/
def xaBound : Nat := 2 ^ 319

/-- The special code that two codes combine to, with whether INVALID is set (R61, Table 2-8). -/
def combineCodes (a b : Nat) : Nat × Bool :=
  let a' := if a ≥ 6 then 3 else a
  let b' := if b ≥ 6 then 3 else b
  let bad := decide (a ≥ 6) || decide (b ≥ 6)
  if a' = 3 ∨ b' = 3 then (3, bad)
  else if (a' = 1 ∨ a' = 4 ∨ b' = 1 ∨ b' = 4) ∧ (a' = 2 ∨ a' = 5 ∨ b' = 2 ∨ b' = 5) then (3, true)
  else if a' = 1 ∨ b' = 1 then (1, false)
  else if a' = 2 ∨ b' = 2 then (2, false)
  else if a' = 4 ∨ b' = 4 then (4, false)
  else if a' = 5 ∨ b' = 5 then (5, false)
  else (0, false)

/-- An accumulator brought to an anchor at or above its own: the magnitude moves toward zero and
STICKY records any 1 bit lost (R61, R63). An anchor at or below its own leaves it alone. -/
def reanchor (x : Xa) (a : Int) : Xa :=
  if a ≤ x.anchor then x
  else
    let r := shiftTrunc x.val (x.anchor - a)
    { x with val := r.1, anchor := a, sticky := x.sticky || r.2 }

/-- One finite term entering an accumulator (R53), with the overflow of R54. DESIGN CHOICE (log 62): beneath the codes 1
to 3 the value goes on accumulating, modulo 2^320. -/
def addTerm (x : Xa) (t : Dy) : Xa :=
  let r := shiftTrunc t.m (t.e - (x.anchor - 279))
  if x.code = 4 ∨ x.code = 5 then x
  else
    let v := x.val + r.1
    let x' := { x with val := v, sticky := x.sticky || r.2 }
    if v.natAbs ≥ xaBound then
      if x.code = 0 then { x' with val := 0, code := if 0 ≤ v then 4 else 5 }
      else { x' with val := sgn 320 (unsgn 320 v) }
    else x'

/-- The value R55 rounds: the accumulator with half a unit added away from zero when STICKY is set. -/
def xaValue (x : Xa) : Dy :=
  if x.sticky ∧ x.val ≠ 0 then ⟨2 * x.val + (if 0 < x.val then 1 else -1), x.anchor - 280⟩
  else ⟨x.val, x.anchor - 279⟩

/-- Rounds an accumulator once into a dense target (R54 to R56, Table 2-8). DEDUCED (log 62): an overflowed accumulator
sets the flags of R54 and not XA_SPREAD. -/
def roundXa (c : Enc) (satur : Bool) (r : Rnd) (x : Xa) : Nat × Flags :=
  if x.code = 4 ∨ x.code = 5 then
    let o := overflowValue c satur (x.code == 5)
    (o.1, orFlags o.2 { noFlags with xaOvf := true })
  else if x.code = 1 ∨ x.code = 2 then infValue c satur (x.code == 2)
  else if x.code = 3 then (encNan c, noFlags)
  else if x.code ≥ 6 then (encNan c, fInvalid)
  else
    let v := xaValue x
    let fs : Flags := { noFlags with xaSpread := x.sticky, inexact := x.sticky }
    if x.val = 0 then (0, fs)
    else
      let o := convFin c satur r (decide (v.m < 0)) (magDy v.m.natAbs v.e)
      (o.1, orFlags o.2 fs)

/-! ## Spill records (R60, Table 2-10) -/

/-- The 48 bytes of a spill record. -/
def spillBytes (x : Xa) : List Byte :=
  leBytes 40 (unsgn 320 x.val) ++ leBytes 2 (unsgn 16 x.anchor)
    ++ leBytes 1 (b2n x.sticky + 2 * (x.code % 8)) ++ leBytes 1 0 ++ leBytes 4 x.kcum

/-- The accumulator a spill record holds; a reserved special code is taken as NaN, and the Bool says so. DEDUCED (log 62):
an overflowed accumulator holds no value (R54). -/
def unspill (bs : List Byte) : Xa × Bool :=
  let st := leAt bs 42 1
  let code := bits st 3 1
  ({ val := if code = 4 ∨ code = 5 then 0 else sgn 320 (leAt bs 0 40), anchor := sgn 16 (leAt bs 40 2), sticky := bit st 0,
     code := if code ≥ 6 then 3 else code, kcum := leAt bs 44 4 }, decide (code ≥ 6))

/-! ## Fragments (R62, Table 2-12) -/

/-- Word `w` of an accumulator. -/
def xaWord (x : Xa) (w : Nat) : Nat := unsgn 320 x.val / 2 ^ (64 * w) % 2 ^ 64

/-- The indices of the words a writer carries: those that differ from the sign-extension word. -/
def fragIndices (x : Xa) : List Nat :=
  (List.range 5).filter (fun w => xaWord x w != (if x.val < 0 then 2 ^ 64 - 1 else 0))

/-- Three-bit indices packed upward from bit 0. -/
def packIdx : List Nat → Nat
  | [] => 0
  | i :: r => i % 8 + 8 * packIdx r

/-- The length in bytes of a fragment of `c` words. -/
def fragLen (c : Nat) : Nat := 3 + ceilDiv (3 * c) 8 + 8 * c

/-- The bytes of a fragment. -/
def fragBytes (x : Xa) : List Byte :=
  let ix := fragIndices x
  leBytes 2 (unsgn 16 x.anchor)
    ++ leBytes 1 (ix.length + 8 * b2n (decide (x.val < 0)) + 16 * b2n x.sticky + 32 * (x.code % 8))
    ++ leBytes (ceilDiv (3 * ix.length) 8) (packIdx ix)
    ++ (ix.map (fun w => leBytes 8 (xaWord x w))).flatten

/-- The `c` three-bit indices of a packed field. -/
def unpackIdx : Nat → Nat → List Nat
  | 0, _ => []
  | c + 1, v => v % 8 :: unpackIdx c (v / 8)

/-- Whether a list rises strictly. -/
def rising : List Nat → Bool
  | [] => true
  | [_] => true
  | a :: b :: r => decide (a < b) && rising (b :: r)

/-- The 320-bit pattern whose words are `base` but for the listed ones. -/
def wordsVal (base : Nat) (ws : List (Nat × Nat)) : Nat :=
  (List.range 5).foldr (fun w acc => acc + 2 ^ (64 * w) *
    (match ws.find? (fun e => e.1 == w) with | some e => e.2 | none => base)) 0

/-- Reads the fragment at the head of a byte list: the accumulator, its length, and whether it is
malformed (a malformed one reads as NaN, R62; a reserved special code too, Table 2-11). DEDUCED (log 62): an overflowed
accumulator holds no value (R54). -/
def readFrag (bs : List Byte) : Xa × Nat × Bool :=
  let h := leAt bs 2 1
  let c := h % 8
  let n := fragLen c
  let nb := ceilDiv (3 * c) 8
  let ix := unpackIdx c (leAt bs 3 nb)
  let code := bits h 7 5
  let bad := decide (c ≥ 6) || ix.any (fun i => decide (i > 4)) || !rising ix
  let base := if bit h 3 then 2 ^ 64 - 1 else 0
  let ws := (List.range c).map (fun i => (ix.getD i 0, leAt bs (3 + nb + 8 * i) 8))
  let anchor := sgn 16 (leAt bs 0 2)
  if bad then (⟨0, anchor, bit h 4, 3, 0⟩, n, true)
  else (⟨if code = 4 ∨ code = 5 then 0 else sgn 320 (wordsVal base ws), anchor, bit h 4, if code ≥ 6 then 3 else code, 0⟩, n, decide (code ≥ 6))

/-- Two records combined by a reduction unit at the larger anchor (R63); the first's KCUM stays (R278).
The Bool says INVALID. DESIGN CHOICE (log 62): beneath the codes 1 to 3 the values add modulo 2^320. -/
def combineXa (x y : Xa) : Xa × Bool :=
  let a := max x.anchor y.anchor
  let x' := reanchor x a
  let y' := reanchor y a
  let k := combineCodes x.code y.code
  let v := x'.val + y'.val
  let ovf := decide (v.natAbs ≥ xaBound) && k.1 == 0
  ({ x' with
      val := if ovf ∨ k.1 = 4 ∨ k.1 = 5 then 0 else sgn 320 (unsgn 320 v)
      sticky := x'.sticky || y'.sticky
      code := if ovf then (if 0 ≤ v then 4 else 5) else k.1 }, k.2)

/-! ## Block formats (Tables 2-1, 2-5, 2-7) -/

/-- The element encoding of a format. -/
def fmtEnc : Fmt → Enc
  | .vb4 => .e2m1 | .mxfp4 => .e2m1 | .mxfp6e2 => .e2m3 | .mxfp6e3 => .e3m2 | .mxfp8e4 => .e4m3
  | .mxfp8e5 => .e5m2 | .fp8e4 => .e4m3 | .fp8e5 => .e5m2 | .bf16 => .bf16 | .b32 => .b32

/-- Elements in a block, 1 for a dense format. -/
def fmtBlock : Fmt → Nat
  | .vb4 => 16 | .mxfp4 => 32 | .mxfp6e2 => 32 | .mxfp6e3 => 32 | .mxfp8e4 => 32 | .mxfp8e5 => 32
  | _ => 1

/-- Whether a format has an E8M0 block scale. -/
def fmtIsMx : Fmt → Bool
  | .mxfp4 => true | .mxfp6e2 => true | .mxfp6e3 => true | .mxfp8e4 => true | .mxfp8e5 => true | _ => false

/-- Bytes of a block record (Table 2-5), or of an element of a dense format. -/
def fmtRecBytes : Fmt → Nat
  | .vb4 => 9 | .mxfp4 => 17 | .mxfp6e2 => 25 | .mxfp6e3 => 25 | .mxfp8e4 => 33 | .mxfp8e5 => 33
  | .fp8e4 => 1 | .fp8e5 => 1 | .bf16 => 2 | .b32 => 4

/-- The fine bound `f_X` of Table 2-7 (BF16 has none of its own). -/
def fmtFine : Fmt → Int
  | .vb4 => 12 | .mxfp4 => 3 | .mxfp6e2 => 3 | .mxfp6e3 => 5 | .mxfp8e4 => 9 | .mxfp8e5 => 16
  | .fp8e4 => 9 | .fp8e5 => 16 | .bf16 => 0 | .b32 => 0

/-- Whether a VB4 block-scale code makes the block invalid (Table 2-4). -/
def vb4ScaleBad (code : Nat) : Bool := decide (code ≥ 0x7F)

/-- Whether a binary32 slice scale makes its slice invalid (R42). -/
def sliceScaleBad (w : Nat) : Bool := bits w 30 23 == 255

/-- The coarse exponent of a VB4 slice scale (Table 2-7): unbiased exponent + 1, a subnormal as −126 + 1. DESIGN CHOICE
(log 62): a NaN or infinite scale gives 129. -/
def kappaSlice (w : Nat) : Int :=
  if bits w 30 23 = 0 then -125 else (bits w 30 23 : Int) - 127 + 1

/-- Whether a slice with this scale contributes to the anchor: the scale is nonzero. -/
def sliceContributes (w : Nat) : Bool := bits w 30 0 != 0

/-- The coarse exponent of an E8M0 scale. DESIGN CHOICE (log 62): the scale 0xFF gives 128. -/
def kappaMx (code : Nat) : Int := (code : Int) - 127

/-- The unbiased exponent of a BF16 element for Table 2-7: subnormals and zeros count as −126. DESIGN CHOICE (log 62): a
NaN or an infinity gives 128. -/
def bf16Exp (code : Nat) : Int := if bits code 14 7 = 0 then -126 else (bits code 14 7 : Int) - 127

/-! ## CONVERT into blocks (R46, R47, R382) -/

/-- The magnitude of a finite value. -/
def valMag : Val → Mag
  | .fin _ m e => magDy m e
  | _ => ⟨0, 1, 0⟩

/-- The sign of a value. -/
def valNeg : Val → Bool
  | .fin n _ _ => n
  | .inf n => n
  | .nan _ => false

/-- The larger of two magnitudes. -/
def magMax (a b : Mag) : Mag := if magLt a b then b else a

/-- The largest magnitude of a list of values, zero when there is none. -/
def amaxOf (xs : List Val) : Mag := xs.foldl (fun a x => magMax a (valMag x)) ⟨0, 1, 0⟩

/-- Quotient of two magnitudes, the divisor nonzero. -/
def magDiv (a b : Mag) : Mag := ⟨a.num * b.den, a.den * b.num, a.e - b.e⟩

/-- One element rounded onto an element grid with the clamp of Table 2-6 and the flags of R382:
`floorScale` says the block's scale could go no lower. DEDUCED (log 62): the clamp sets SAT and INEXACT and not OVERFLOW,
as the MX row of Table 2-6 names SAT alone. -/
def convElem (c : Enc) (r : Rnd) (floorScale : Bool) (neg : Bool) (x : Mag) : Nat × Flags :=
  let o := roundMag c r x
  if o.ovf then (withSign c neg (encMaxCode c), { noFlags with sat := true, inexact := true })
  else
    let tiny := o.inexact && decide (o.code < 2 ^ encMant c)
    (withSign c neg o.code, { noFlags with inexact := o.inexact, underflow := tiny && floorScale })

/-- The flags the NaN and infinite elements of a block or slice set (R45). -/
def specialFlags (xs : List Val) : Flags :=
  xs.foldl (fun f x => orFlags f (match x with
    | .nan blk => if blk then fBlkInvalid else fNanIn
    | .inf _ => fInvalid
    | .fin _ _ _ => noFlags)) noFlags

/-- Whether a value is finite. -/
def valFin : Val → Bool
  | .fin _ _ _ => true
  | _ => false

/-- A block of an MX format: the scale code, the element codes and the flags (R47). `rnds` gives the
rounding of each element. -/
def convMxBlock (f : Fmt) (xs : List Val) (rnds : List Rnd) : Nat × List Nat × Flags :=
  let c := fmtEnc f
  if !xs.all valFin then (0xFF, xs.map (fun _ => 0), specialFlags xs)
  else
    let a := amaxOf xs
    if a.num = 0 then (0, xs.map (fun x => withSign c (valNeg x) 0), noFlags)
    else
      let emax : Int := match c with | .e2m1 => 2 | .e2m3 => 2 | .e3m2 => 4 | .e4m3 => 8 | _ => 15
      let X0 := magLog2 a - emax
      let X := max (-127) (min 127 X0)
      let es := (xs.zip rnds).map (fun p =>
        convElem c p.2 (decide (X0 < -127)) (valNeg p.1) { valMag p.1 with e := (valMag p.1).e - X })
      ((X + 127).toNat, es.map Prod.fst, es.foldl (fun f e => orFlags f e.2) noFlags)

/-- The magnitude of a binary32 code of positive sign. -/
def b32Mag (w : Nat) : Mag := magDy (encMag .b32 (w % 2 ^ 31)).1 (encMag .b32 (w % 2 ^ 31)).2

/-- One element of a VB4 block: beyond 6 before rounding it is ±6 with SAT (R46). -/
def convVb4Elem (r : Rnd) (floorScale : Bool) (neg : Bool) (x : Mag) : Nat × Flags :=
  if magLt (magDy 6 0) x then (withSign .e2m1 neg (encMaxCode .e2m1), { noFlags with sat := true, inexact := true })
  else convElem .e2m1 r floorScale neg x

/-- One 16-element block of a VB4 slice whose slice scale is `sigma` (R46). -/
def convVb4Block (sigma : Nat) (xs : List Val) (rnds : List Rnd) : Nat × List Nat × Flags :=
  let a := amaxOf xs
  let zeros := xs.map (fun x => withSign .e2m1 (valNeg x) 0)
  if a.num = 0 then (0, zeros, noFlags)
  else
    let sg := b32Mag sigma
    let q := magDiv a { sg with num := 6 * sg.num }
    let sc := match roundUpCode .e4m3 q with
      | some k => if magLt (magDy 448 0) q then 0x7E else k
      | none => 0x7E
    if sc = 0 then (0, zeros, noFlags)
    else
      let m := encMag .e4m3 sc
      let d : Mag := ⟨m.1 * sg.num, sg.den, m.2 + sg.e⟩
      let es := (xs.zip rnds).map (fun p =>
        convVb4Elem p.2 (sc == 1) (valNeg p.1) (magDiv (valMag p.1) d))
      (sc, es.map Prod.fst, es.foldl (fun f e => orFlags f e.2) noFlags)

/-- Cuts a list into pieces of `n`, `k` of them. -/
def chunks {α : Type} (n : Nat) : Nat → List α → List (List α)
  | 0, _ => []
  | k + 1, xs => xs.take n :: chunks n k (xs.drop n)

/-- One VB4 slice of at most 2,048 elements: the slice scale, the blocks and the flags (R46). -/
def convVb4Slice (xs : List Val) (rnds : List Rnd) : Nat × List (Nat × List Nat) × Flags :=
  let nb := xs.length / 16
  if !xs.all valFin then (0x7FC00000, (chunks 16 nb xs).map (fun b => (0, b.map (fun _ => 0))), specialFlags xs)
  else
    let a := amaxOf xs
    let sigma := if a.num = 0 then 0
      else (roundUpCode .b32 { a with den := a.den * 2688 }).getD 0x7F7FFFFF
    let bs := ((chunks 16 nb xs).zip (chunks 16 nb rnds)).map (fun p => convVb4Block sigma p.1 p.2)
    (sigma, bs.map (fun b => (b.1, b.2.1)), bs.foldl (fun f b => orFlags f b.2.2) noFlags)

/-! ## Packing elements of a block (Table 2-5) -/

/-- Element codes of `w` bits packed upward from bit 0. -/
def packElems (w : Nat) : List Nat → Nat
  | [] => 0
  | x :: r => x % 2 ^ w + 2 ^ w * packElems w r

/-- The block record of a scale and its elements. -/
def blockBytes (f : Fmt) (scale : Nat) (es : List Nat) : List Byte :=
  leBytes 1 scale ++ leBytes (fmtRecBytes f - 1) (packElems (encBits (fmtEnc f)) es)

/-- Element `j` of a block record. -/
def blockElem (f : Fmt) (rec : List Byte) (j : Nat) : Nat :=
  let w := encBits (fmtEnc f)
  leOf (rec.drop 1) / 2 ^ (w * j) % 2 ^ w

/-- Value of element `j` of a block record, its scales applied (R41, R42, R45): a slice scale is given for VB4. -/
def blockVal (f : Fmt) (rec : List Byte) (sliceScale : Nat) (j : Nat) : Val :=
  let sc := leAt rec 0 1
  let x := decodeElem (fmtEnc f) (blockElem f rec j)
  if f = .vb4 then
    if vb4ScaleBad sc || sliceScaleBad sliceScale then .nan true
    else
      let s := encMag .e4m3 sc
      let g := encMag .b32 (sliceScale % 2 ^ 31)
      match x with
      | .fin n m e => .fin (n != bit sliceScale 31) (m * s.1 * g.1) (e + s.2 + g.2)
      | v => v
  else if sc = 0xFF then .nan false
  else match x with
    | .fin n m e => .fin n m (e + kappaMx sc)
    | v => v

end Sys2Proof.Machine
end

