-- ==== Sys2Proof/Machine/Records.lean ====
section
/-! DEFINITION. Chapter 3: the layout of a 32-byte command record, the static checks of R381 made at
issue, and the scratch regions a record reads and writes. A record is a list of 32 bytes. -/

namespace Sys2Proof.Machine

open Sys2Proof

/-- Bytes of scratch per core. -/
def scratchBytes : Nat := 262144

/-! ## Status codes (Table 3-6) -/

abbrev stOK : Nat := 0x00
abbrev stOPCODE : Nat := 0x01
abbrev stFIELD : Nat := 0x02
abbrev stADDR : Nat := 0x03
abbrev stALIGN : Nat := 0x04
abbrev stFORMAT : Nat := 0x05
abbrev stTKSHORT : Nat := 0x06
abbrev stTKTIME : Nat := 0x07
abbrev stWAITTO : Nat := 0x08
abbrev stHANDLE : Nat := 0x09
abbrev stRANGE : Nat := 0x0A
abbrev stACCESS : Nat := 0x0B
abbrev stNOTRES : Nat := 0x0C
abbrev stECC : Nat := 0x0D
abbrev stLINKDN : Nat := 0x0E
abbrev stABORT : Nat := 0x0F

/-! ## Header (Table 3-4) -/

/-- Bits `[hi:lo]` of the little-endian field of `n` bytes at `off` of a record. -/
def recF (r : List Byte) (off n hi lo : Nat) : Nat := bits (leAt r off n) hi lo

def recOp (r : List Byte) : Nat := recF r 0 4 7 0
def recWB (r : List Byte) : Bool := recF r 0 4 8 8 == 1
def recIRQ (r : List Byte) : Bool := recF r 0 4 9 9 == 1
def recSERIAL (r : List Byte) : Bool := recF r 0 4 10 10 == 1
def recTAG (r : List Byte) : Nat := recF r 0 4 31 16

/-- The status word of Table 3-4 as hardware writes it, DONE set. -/
def statusWord (code flags : Nat) (late : Bool) : Nat :=
  code % 256 + flags % 512 * 2 ^ 8 + b2n late * 2 ^ 17 + 2 ^ 18

/-- Whether bytes `[off, off+n)` of a record are all zero. -/
def recZero (r : List Byte) (off n : Nat) : Bool := leAt r off n == 0

/-! ## Format codes (Table 3-8) -/

/-- An operand format code. -/
def fmtOf : Nat → Option Fmt
  | 0 => some .vb4 | 1 => some .mxfp4 | 2 => some .mxfp6e2 | 3 => some .mxfp6e3 | 4 => some .mxfp8e4
  | 5 => some .mxfp8e5 | 6 => some .fp8e4 | 7 => some .fp8e5 | 8 => some .bf16 | 9 => some .b32
  | _ => none

/-- An output format code. -/
def outEnc : Nat → Enc
  | 0 => .b32 | 1 => .bf16 | 2 => .e4m3 | _ => .e5m2

/-- Bytes of an element of a dense encoding. -/
def encBytes (c : Enc) : Nat := (encBits c + 7) / 8

/-- Bytes of one row of `k` elements of a format in the layouts of Table 2-5. -/
def rowBytes (f : Fmt) (k : Nat) : Nat := k / fmtBlock f * fmtRecBytes f

/-- Bytes of an operand of `n` rows of `k` elements in dot-array operand order, slice scales included (Table 6-5). -/
def operandBytes (f : Fmt) (n k : Nat) : Nat :=
  n * rowBytes f k + (if f = .vb4 then 4 * n * ceilDiv k 2048 else 0)

/-! ## Operand fields -/

/-- MATMUL (Table 3-7). -/
structure MatmulOp where
  a : Nat
  b : Nat
  m : Nat
  n : Nat
  k : Nat
  fmtC : Nat
  c : Nat
  sr : Bool
  fmtA : Nat
  fmtB : Nat
  satur : Bool
  acc : Bool
  keep : Bool
  bank : Nat
  cld : Nat
  step : Nat
  handle : Nat
  idx0 : Nat
deriving DecidableEq, Repr

def matmulOf (r : List Byte) : MatmulOp where
  a := recF r 4 4 11 0 * 64
  b := recF r 4 4 23 12 * 64
  m := 8 * (recF r 4 4 29 24 + 1)
  fmtC := recF r 4 4 31 30
  c := recF r 8 4 11 0 * 64
  n := 4 * (recF r 8 4 18 12 + 1)
  k := 16 * (recF r 8 4 30 19 + 1)
  sr := recF r 8 4 31 31 == 1
  fmtA := recF r 12 4 3 0
  fmtB := recF r 12 4 7 4
  satur := recF r 12 4 8 8 == 1
  acc := recF r 12 4 9 9 == 1
  keep := recF r 12 4 10 10 == 1
  bank := recF r 12 4 11 11
  cld := recF r 12 4 31 12
  step := leAt r 16 4
  handle := recF r 20 8 19 0
  idx0 := recF r 20 8 63 20

/-- The rate class of R37 as the index of its TKT_COST field: 0 FOUR, 1 MID, 2 BF16. -/
def rateClass (fa fb : Nat) : Nat :=
  if fa ≤ 1 ∧ fb ≤ 1 then 0 else if fa = 8 ∧ fb = 8 then 2 else 1

/-- VECOP (Table 3-10). -/
structure VecOp where
  vop : Nat
  kind2 : Nat
  kind3 : Nat
  cols : Nat
  rows : Nat
  dst : Nat
  src1 : Nat
  src2 : Nat
  src3 : Nat
  imm : Nat
  imm2 : Nat
deriving DecidableEq, Repr

def vecOf (r : List Byte) : VecOp where
  vop := leAt r 4 1
  kind2 := recF r 5 1 1 0
  kind3 := recF r 5 1 3 2
  cols := leAt r 6 2 + 1
  rows := leAt r 8 2 + 1
  dst := leAt r 10 2 * 4
  src1 := leAt r 12 2 * 4
  src2 := leAt r 14 2 * 4
  src3 := leAt r 16 2 * 4
  imm := leAt r 20 4
  imm2 := leAt r 24 4

/-- How many sources an operation of Table 3-12 reads; none for a reserved one. -/
def vopArity (v : Nat) : Option Nat :=
  if v = 0x04 ∨ v = 0x0B ∨ v = 0x0C then some 3
  else if v = 0x00 ∨ v = 0x07 ∨ v = 0x08 ∨ (0x10 ≤ v ∧ v ≤ 0x14) ∨ v = 0x18 ∨ v = 0x19 then some 1
  else if v ≤ 0x0A then some 2
  else none

/-- The length in elements of an operand of a kind (Table 3-11). -/
def kindLen (kind rows cols : Nat) : Nat :=
  if kind = 0 then rows * cols else if kind = 2 then rows else if kind = 3 then cols else 0

/-- SOFTMAX_STREAM (Table 3-14). -/
structure SoftOp where
  s : Nat
  p : Nat
  st : Nat
  nr : Nat
  fmtP : Nat
  init : Bool
  mask : Bool
  nc : Nat
  scale : Nat
  diag : Int
deriving DecidableEq, Repr

def softOf (r : List Byte) : SoftOp where
  s := leAt r 4 2 * 4
  p := leAt r 6 2 * 4
  st := leAt r 8 2 * 4
  nr := leAt r 10 1 + 1
  fmtP := recF r 11 1 1 0
  init := recF r 11 1 2 2 == 1
  mask := recF r 11 1 3 3 == 1
  nc := recF r 12 2 11 0 + 1
  scale := leAt r 16 4
  diag := sgn 32 (leAt r 20 4)

/-- CONVERT (Table 3-15a). -/
structure ConvOp where
  src : Nat
  dst : Nat
  scl : Nat
  fmtS : Nat
  fmtD : Nat
  sr : Bool
  satur : Bool
  nr : Nat
  nc : Nat
  step : Nat
  handle : Nat
  idx0 : Nat
deriving DecidableEq, Repr

def convOf (r : List Byte) : ConvOp where
  src := leAt r 4 2 * 4
  dst := leAt r 6 2 * 4
  scl := leAt r 8 2 * 4
  fmtS := recF r 10 1 3 0
  fmtD := recF r 10 1 7 4
  sr := recF r 11 1 0 0 == 1
  satur := recF r 11 1 1 1 == 1
  nr := leAt r 12 2 + 1
  nc := leAt r 14 2 + 1
  step := leAt r 16 4
  handle := recF r 20 8 19 0
  idx0 := recF r 20 8 63 20

/-- XA_SPILL and XA_FILL (R91). -/
structure SpillOp where
  addr : Nat
  bank : Nat
  form : Nat
deriving DecidableEq, Repr

def spillOf (r : List Byte) : SpillOp := ⟨leAt r 4 2 * 16, recF r 6 1 0 0, recF r 6 1 1 1⟩

/-- LOAD and STORE (R92). -/
structure CopyOp where
  handle : Nat
  offset : Nat
  nr : Nat
  rowBytes : Nat
  hPitch : Nat
  scr : Nat
  scrPitch : Nat
deriving DecidableEq, Repr

def copyOf (r : List Byte) : CopyOp where
  handle := recF r 4 4 19 0
  offset := leAt r 8 6
  nr := leAt r 14 2 + 1
  rowBytes := leAt r 16 4
  hPitch := leAt r 20 4
  scr := leAt r 24 2 * 16
  scrPitch := leAt r 26 2 * 16

/-- SIGNAL (R93). -/
structure SignalOp where
  obj : Nat
  set : Bool
  remote : Bool
  peer : Nat
  value : Nat
deriving DecidableEq, Repr

def signalOf (r : List Byte) : SignalOp :=
  ⟨leAt r 4 2, recF r 6 1 0 0 == 1, recF r 6 1 1 1 == 1, recF r 8 2 11 0, leAt r 12 4⟩

/-- WAIT (R94). -/
structure WaitOp where
  obj : Nat
  eq : Bool
  value : Nat
  timeout : Nat
deriving DecidableEq, Repr

def waitOf (r : List Byte) : WaitOp := ⟨leAt r 4 2, recF r 6 1 0 0 == 1, leAt r 8 4, leAt r 12 4⟩

/-! ## Regions: a region is a start byte and a length -/

/-- Whether two regions share a byte. -/
def overlaps (a b : Nat × Nat) : Bool :=
  decide (a.1 < b.1 + b.2) && decide (b.1 < a.1 + a.2)

/-- A region widened to 64-byte granules (R98). -/
def granules (a : Nat × Nat) : Nat × Nat :=
  if a.2 = 0 then (a.1, 0) else (a.1 / 64 * 64, ceilDiv (a.1 + a.2) 64 * 64 - a.1 / 64 * 64)

/-- Rows of a strided region. -/
def stridedRows (base pitch len : Nat) (n : Nat) : List (Nat × Nat) :=
  (List.range n).map (fun i => (base + i * pitch, len))

/-- The scratch regions a record reads and writes (R98), for a record that passed its field checks. -/
def recRegions (r : List Byte) : List (Nat × Nat) × List (Nat × Nat) :=
  let op := recOp r
  if op = 0x01 then
    let o := matmulOf r
    let fa := (fmtOf o.fmtA).getD .b32
    let fb := (fmtOf o.fmtB).getD .b32
    ([(o.a, operandBytes fa o.m o.k), (o.b, operandBytes fb o.n o.k)],
     if o.keep then [] else [(o.c, o.m * o.n * encBytes (outEnc o.fmtC))])
  else if op = 0x02 then
    let o := vecOf r
    let ar := (vopArity o.vop).getD 1
    let n := o.rows * o.cols
    ([(o.src1, 4 * n)]
      ++ (if ar ≥ 2 then [(o.src2, 4 * kindLen o.kind2 o.rows o.cols)] else [])
      ++ (if ar ≥ 3 then [(o.src3, 4 * kindLen o.kind3 o.rows o.cols)] else []),
     [(o.dst, if o.vop = 0x18 ∨ o.vop = 0x19 then 4 * o.rows else 4 * n)])
  else if op = 0x03 then
    let o := softOf r
    ([(o.s, 4 * o.nr * o.nc)] ++ (if o.init then [] else [(o.st, 8 * o.nr)]),
     [(o.p, o.nr * o.nc * encBytes (outEnc o.fmtP)), (o.st, 12 * o.nr)])
  else if op = 0x04 then
    let o := convOf r
    let fs := (fmtOf o.fmtS).getD .b32
    let fd := (fmtOf o.fmtD).getD .b32
    let scl := (o.scl, 4 * o.nr * ceilDiv o.nc 2048)
    ([(o.src, o.nr * rowBytes fs o.nc)] ++ (if fs = .vb4 then [scl] else []),
     [(o.dst, o.nr * rowBytes fd o.nc)] ++ (if fd = .vb4 then [scl] else []))
  else if op = 0x05 then ([], [((spillOf r).addr, 1536)])
  else if op = 0x06 then ([((spillOf r).addr, 1536)], [])
  else if op = 0x07 then
    let o := copyOf r
    ([], stridedRows o.scr o.scrPitch o.rowBytes o.nr)
  else if op = 0x08 then
    let o := copyOf r
    (stridedRows o.scr o.scrPitch o.rowBytes o.nr, [])
  else ([], [])

/-- The handle ranges that a LOAD or STORE reaches: handle, start, length and whether written (R98). -/
def recHands (r : List Byte) : List (Nat × Nat × Nat × Bool) :=
  if recOp r = 0x07 ∨ recOp r = 0x08 then
    let o := copyOf r
    (List.range o.nr).map (fun j => (o.handle, o.offset + j * o.hPitch, o.rowBytes, recOp r == 0x08))
  else []

/-- Whether two handle ranges share a byte that one of them writes (R98). -/
def handsMeet (a b : Nat × Nat × Nat × Bool) : Bool :=
  a.1 == b.1 && (a.2.2.2 || b.2.2.2) && overlaps (a.2.1, a.2.2.1) (b.2.1, b.2.2.1)

/-- Whether an operand format code may stand in a MATMUL. -/
def fmtIn (code : Nat) : Bool := decide (code ≤ 8)

/-! ## The checks of R381, steps 1 to 6 -/

/-- Step 2: reserved bits and field ranges of the record's own fields. -/
def fieldsOk (r : List Byte) : Bool :=
  let op := recOp r
  let hdr := recF r 0 4 15 11 == 0 && recF r 28 4 31 19 == 0
  hdr && (
    if op = 0x01 then
      let o := matmulOf r
      !((o.acc || o.keep) && (o.m != 8 || o.n != 4)) && decide (o.n ≤ 512)
    else if op = 0x02 then
      let o := vecOf r
      (vopArity o.vop).isSome && recF r 5 1 7 4 == 0 && recZero r 18 2 && decide (o.rows * o.cols ≤ 65536)
    else if op = 0x03 then
      let o := softOf r
      recF r 11 1 7 4 == 0 && recF r 12 2 15 12 == 0 && recZero r 14 2 && recZero r 24 4
        && decide (o.nr * o.nc ≤ 65536)
    else if op = 0x04 then
      let o := convOf r
      recF r 11 1 7 2 == 0 && decide (o.nr * o.nc ≤ 65536) && !(o.fmtS == 0 && o.fmtD == 0)
    else if op = 0x05 ∨ op = 0x06 then recF r 6 1 7 2 == 0 && recZero r 7 21
    else if op = 0x07 ∨ op = 0x08 then
      let o := copyOf r
      recF r 4 4 31 20 == 0 && decide (16 ≤ o.rowBytes) && decide (o.rowBytes ≤ 262144)
    else if op = 0x09 then
      recF r 6 1 7 2 == 0 && recZero r 7 1 && recF r 8 2 15 12 == 0 && recZero r 10 2 && recZero r 16 12
    else if op = 0x0A then recF r 6 1 7 1 == 0 && recZero r 7 1 && recZero r 16 12
    else if op = 0x0B then
      recZero r 6 2 && recZero r 12 16 && decide (1 ≤ leAt r 4 2) && decide (leAt r 4 2 ≤ 8)
    else if op = 0x0C then recZero r 6 22
    else if op = 0x0D then recZero r 12 16
    else if op = 0x0E then recF r 4 1 7 4 == 0 && recZero r 5 23
    else recZero r 8 20)

/-- Step 3: format codes, pairs, and the element counts checked against them. -/
def formatsOk (r : List Byte) : Bool :=
  let op := recOp r
  if op = 0x01 then
    let o := matmulOf r
    let mx := fun c => decide (1 ≤ c) && decide (c ≤ 5)
    fmtIn o.fmtA && fmtIn o.fmtB && ((o.fmtA == 8) == (o.fmtB == 8))
      && (!(mx o.fmtA || mx o.fmtB) || o.k % 32 == 0)
  else if op = 0x04 then
    let o := convOf r
    match fmtOf o.fmtS, fmtOf o.fmtD with
    | some fs, some fd => o.nc % fmtBlock fs == 0 && o.nc % fmtBlock fd == 0
    | _, _ => false
  else true

/-- Step 4: every region lies in scratch, and no write region meets the active queue (R69). -/
def regionsOk (r : List Byte) (queue : List (Nat × Nat)) : Bool :=
  let p := recRegions r
  (p.1 ++ p.2).all (fun a => decide (a.2 = 0) || decide (a.1 + a.2 ≤ scratchBytes))
    && p.2.all (fun w => queue.all (fun q => !overlaps w q))

/-- Step 5: the multiples of 16 that R92 asks. -/
def alignOk (r : List Byte) : Bool :=
  let op := recOp r
  if op = 0x07 ∨ op = 0x08 then
    let o := copyOf r
    o.offset % 16 == 0 && o.rowBytes % 16 == 0 && o.hPitch % 16 == 0
  else true

/-- Whether the regions of a list are pairwise disjoint. -/
def disjoint : List (Nat × Nat) → Bool
  | [] => true
  | a :: r => r.all (fun b => !overlaps a b) && disjoint r

/-- Step 6: the overlaps that R77, R84, R88 and R90 forbid; an immediate (kind 1) is no region (R83). -/
def ownOverlapOk (r : List Byte) : Bool :=
  let op := recOp r
  let p := recRegions r
  if op = 0x01 then p.2.all (fun c => p.1.all (fun a => !overlaps a c))
  else if op = 0x02 then
    let o := vecOf r
    let ar := (vopArity o.vop).getD 1
    let elementwise := decide (o.vop < 0x18)
    let okSrc := fun (kind : Nat) (s : Nat × Nat) => p.2.all (fun d =>
      !overlaps s d || (elementwise && kind == 0 && s == d))
    okSrc 0 (o.src1, 4 * (o.rows * o.cols))
      && (decide (ar < 2) || o.kind2 == 1 || okSrc o.kind2 (o.src2, 4 * kindLen o.kind2 o.rows o.cols))
      && (decide (ar < 3) || o.kind3 == 1 || okSrc o.kind3 (o.src3, 4 * kindLen o.kind3 o.rows o.cols))
  else if op = 0x03 then
    let o := softOf r
    disjoint [(o.s, 4 * o.nr * o.nc), (o.p, o.nr * o.nc * encBytes (outEnc o.fmtP)), (o.st, 12 * o.nr)]
  else if op = 0x04 then disjoint (p.1 ++ p.2)
  else true

/-- Whether an opcode is one of Table 3-5. -/
def opKnown (op : Nat) : Bool := decide (1 ≤ op) && decide (op ≤ 0x0F)

/-- The code of the first failed check of R381, steps 1 to 6, or OK. -/
def recCheck (r : List Byte) (queue : List (Nat × Nat)) : Nat :=
  if !opKnown (recOp r) then stOPCODE
  else if !fieldsOk r then stFIELD
  else if !formatsOk r then stFORMAT
  else if !regionsOk r queue then stADDR
  else if !alignOk r then stALIGN
  else if !ownOverlapOk r then stFIELD
  else stOK

/-- The unit of Table 3-1 that executes an opcode: 0 dot array, 1 vector, 2 memory port, 3 sync port, 4 sequencer. -/
def unitOf (op : Nat) : Nat :=
  if op = 0x01 ∨ op = 0x05 ∨ op = 0x06 then 0
  else if op = 0x02 ∨ op = 0x03 ∨ op = 0x04 then 1
  else if op = 0x07 ∨ op = 0x08 then 2
  else if 0x09 ≤ op ∧ op ≤ 0x0D then 3
  else 4

/-- How many records a unit executes at once (Table 3-1). -/
def unitLimit (u : Nat) : Nat := if u = 2 ∨ u = 3 then 4 else 1

end Sys2Proof.Machine
end

