-- ==== Sys2Proof/Machine/Box.lean ====
section
/-! DEFINITION. The box office (R290 to R299): what a budget holds, requests and grants, withdrawals, loans,
commits and the audit. -/

namespace Sys2Proof.Machine

open Sys2Proof

/-! ## The terms of R290 -/

/-- GRANTED of partition `p`: the tickets its cores hold. -/
def State.granted (s : State) (p : Nat) : Nat :=
  ((s.cores.filter (fun e => e.1 / 576 == p)).map (fun e => e.2.held)).sum

/-- Tickets of notices that have not reached their core yet. -/
def State.noticed (s : State) (p : Nat) : Nat := ((s.box p).notices.map Prod.snd).sum

def State.loan (s : State) (lender borrower : Nat) : Nat := tblGet 0 s.loans (4 * lender + borrower)

def State.setLoan (s : State) (lender borrower n : Nat) : State :=
  { s with loans := tblSet 0 s.loans (4 * lender + borrower) n }

def State.lent (s : State) (p : Nat) : Nat := ((List.range 4).map (fun b => s.loan p b)).sum
def State.borrowed (s : State) (p : Nat) : Nat := ((List.range 4).map (fun l => s.loan l p)).sum

/-- The deficit `d` of R294, with the tickets of notices in flight already taken. -/
def State.deficit (s : State) (p : Nat) : Int :=
  ((s.box p).base : Int) + ((s.granted p - s.noticed p : Nat) : Int) + (s.box p).withdrawn + s.lent p
    - s.borrowed p - (s.box p).budget

/-- The identity of R290: B + BORROWED = BASE + GRANTED + FREE + WITHDRAWN + LENT. -/
def State.boxBalanced (s : State) (p : Nat) : Bool :=
  (s.box p).budget + s.borrowed p
    == (s.box p).base + s.granted p + (s.box p).free + (s.box p).withdrawn + s.lent p

def State.setFree (s : State) (p n : Nat) : State := s.modBox p (fun b => { b with free := n })

/-! ## Taking tickets back (R294) -/

/-- The core that gives the next ticket: the largest holding, then the highest source number. -/
def pickHolder : List (Nat × Nat) → Option (Nat × Nat)
  | [] => none
  | e :: r =>
    match pickHolder r with
    | none => some e
    | some f => if f.2 > e.2 ∨ (f.2 = e.2 ∧ f.1 > e.1) then some f else some e

/-- One ticket more for a core in a list of counts. -/
def addOne (core : Nat) : List (Nat × Nat) → List (Nat × Nat)
  | [] => [(core, 1)]
  | e :: r => if e.1 = core then (core, e.2 + 1) :: r else e :: addOne core r

/-- The loop of R294: `d` tickets from the holders; answers the notices. -/
def takeTickets : Nat → List (Nat × Nat) → List (Nat × Nat) → List (Nat × Nat)
  | 0, _, taken => taken
  | d + 1, holders, taken =>
    match pickHolder (holders.filter (fun e => e.2 != 0)) with
    | none => taken
    | some e => takeTickets d (holders.map (fun h => if h.1 = e.1 then (h.1, h.2 - 1) else h)) (addOne e.1 taken)

/-- What each core of a partition holds beyond the notices in flight. -/
def State.holders (s : State) (p : Nat) : List (Nat × Nat) :=
  (s.cores.filter (fun e => e.1 / 576 == p)).map (fun e =>
    (e.1, e.2.held - (((s.box p).notices.filter (fun n => n.1 == e.1)).map Prod.snd).sum))

/-- Step 3 of R294: notices to the cores; WITHDRAWS counts. -/
def State.takeFromCores (s : State) (p d : Nat) : State :=
  let taken := takeTickets d (s.holders p) []
  let s := s.modBox p (fun b => { b with notices := b.notices ++ taken })
  s.bump (aBox p + rBOX_WITHDRAWS) (taken.map Prod.snd).sum

/-- R294, with `fuel` bounding how far recalls pass from partition to partition. A recall takes tickets from
the borrowers in descending partition number, and each borrower covers it by the same rule. -/
def State.coverFuel : Nat → State → Nat → State
  | 0, s, _ => s
  | fuel + 1, s, p =>
    let s := s.setFree p 0
    let d := s.deficit p
    if d ≤ 0 then s.setFree p (-d).toNat
    else
      let r := [3, 2, 1, 0].foldl (fun (a : State × Nat) b =>
        let n := min a.2 (a.1.loan p b)
        if n = 0 then a
        else (State.coverFuel fuel (a.1.setLoan p b (a.1.loan p b - n)) b, a.2 - n)) (s, d.toNat)
      r.1.takeFromCores p r.2

/-- The tickets a partition may hand out fell or rose: R294. -/
def State.cover (s : State) (p : Nat) : State := State.coverFuel 5 s p

/-! ## Requests -/

/-- Enters a request, or adds to the core's entry (R292). Entries of one edge stand in ascending source number. -/
def boxInsert (e : BoxEnt) : List BoxEnt → List BoxEnt
  | [] => [e]
  | x :: r => if x.at_ = e.at_ ∧ e.core < x.core then e :: x :: r else x :: boxInsert e r

def State.boxRequest (s : State) (core n : Nat) : State :=
  s.modBox (core / 576) (fun b =>
    if b.queue.any (fun e => e.core == core) then
      { b with queue := b.queue.map (fun e => if e.core = core then { e with count := e.count + n } else e) }
    else { b with queue := boxInsert ⟨core, n, 0, s.ctrlClk⟩ b.queue })

/-- Takes `n` tickets out of a core's entry; an empty entry leaves the queue. -/
def State.boxCancel (s : State) (core n : Nat) : State :=
  s.modBox (core / 576) (fun b =>
    let q := b.queue.map (fun e =>
      if e.core = core then { e with count := e.count - n, aside := min e.aside (e.count - n) } else e)
    { b with queue := q.filter (fun e => e.count != 0) })

/-- A core returns `n` of the tickets it holds (R81, R292: returns are always accepted). A notice on its way
applies to what the core then holds (R82), so returned tickets that it asked for answer it. -/
def State.boxReturn (s : State) (core n : Nat) : State :=
  let k := min n (s.core core).held
  let asked := (((s.box (core / 576)).notices.filter (fun x => x.1 == core)).map Prod.snd).sum
  let gone := asked - ((s.core core).held - k)
  let s := s.modCore core (fun c => { c with held := c.held - k })
  let s := s.modBox (core / 576) (fun b => { b with free := b.free + (k - gone) })
  if gone = 0 then s
  else s.modBox (core / 576) (fun b => { b with
    notices := b.notices.filter (fun x => x.1 != core) ++ (if asked = gone then [] else [(core, asked - gone)]) })

/-! ## Loans (R295) -/

/-- Whether two partitions have the same tenant: an UNASSIGNED one has none (R341). -/
def State.sameTenant (s : State) (p q : Nat) : Bool :=
  (s.part p).st == 1 && (s.part q).st == 1 && (s.part p).tenant == (s.part q).tenant

def State.railLimit (s : State) : Nat := s.fld (aThm + rTHM_RAIL_LIMIT) 15 0

/-- What a lender can still give to `p`. -/
def State.canLend (s : State) (l p : Nat) : Nat :=
  if l ≠ p ∧ s.sameTenant l p = true ∧ rb (s.reg (aBox l + rBOX_BORROW_CTL)) 31 = true
      ∧ rb (s.reg (aBox p + rBOX_BORROW_CTL)) 30 = true then
    min (s.box l).free (s.fld (aBox l + rBOX_BORROW_CTL) 15 0 - s.lent l)
  else 0

/-- What the borrower's own limits still allow. -/
def State.mayBorrow (s : State) (p : Nat) : Nat :=
  min (s.fld (aBox p + rBOX_BORROW_CTL) 15 0 - s.borrowed p)
    (s.railLimit - ((s.box p).budget + s.borrowed p))

/-- Borrows the whole of `need` from the willing lenders in ascending number, or nothing. -/
def State.borrow (s : State) (p need : Nat) : State :=
  let give := (List.range 4).map (fun l => s.canLend l p)
  if give.sum < need ∨ s.mayBorrow p < need then s
  else
    let r := (List.range 4).foldl (fun (a : State × Nat) l =>
      let n := min a.2 (s.canLend l p)
      ((a.1.setLoan l p (a.1.loan l p + n)).modBox l (fun b => { b with free := b.free - n }), a.2 - n)) (s, need)
    r.1.modBox p (fun b => { b with free := b.free + need })

/-- A lender whose head is not covered recalls its own shortfall, never more than it has lent. -/
def State.recall (s : State) (p need : Nat) : State :=
  let r := [3, 2, 1, 0].foldl (fun (a : State × Nat) b =>
    let n := min a.2 (a.1.loan p b)
    if n = 0 then a else ((a.1.setLoan p b (a.1.loan p b - n)).cover b, a.2 - n)) (s, need)
  r.1.modBox p (fun b => { b with free := b.free + (need - r.2) })

/-! ## Grants (R292, R293) -/

/-- RAMP in effect (Table 10-7: 0 acts as 1, more than 100 as 100). -/
def State.ramp (s : State) (p : Nat) : Nat := max 1 (min 100 (s.fld (aBox p + rBOX_RAMP) 6 0))

/-- The tickets that the running MATMUL of a core costs (R291: the TKT_COST field of its rate class). -/
def State.ticketCost (s : State) (core : Nat) (r : List Byte) : Nat :=
  let k := rateClass (matmulOf r).fmtA (matmulOf r).fmtB
  s.fld (aCore core + rCORE_TKT_COST) (8 * k + 7) (8 * k)

/-- The issued MATMULs of a core that have not completed: two where R79 lets them overlap. -/
def CoreSt.running (c : CoreSt) : List Flight :=
  c.flight.filter (fun f => !f.done && f.code == 0 && recOp f.slot.bytes == 0x01)

/-- The largest cost of a running MATMUL; 0 with none. -/
def State.runCost (s : State) (core : Nat) : Nat :=
  ((s.core core).running.map (fun f => s.ticketCost core f.slot.bytes)).foldl max 0

/-- A grant reaches the core: a waiting TICKET record is met, re-requests are answered, and a paused MATMUL
whose cost is held again resumes (R81, R82). -/
def State.coreGranted (s : State) (core n : Nat) : State :=
  let s := s.modCore core (fun c => { c with
    held := c.held + n
    back := 0
    flight := c.flight.map (fun f =>
      if recOp f.slot.bytes = 0x0B ∧ f.done = false ∧ f.asked = true then { f with acted := true } else f) })
  s.modCore core (fun c => { c with paused := c.paused && decide (c.held < s.runCost core) })

/-- Delivers the head entry. -/
def State.deliver (s : State) (p : Nat) (e : BoxEnt) : State :=
  let s := s.modBox p (fun b => { b with
    free := b.free - e.count, queue := b.queue.drop 1, grants := (b.grants + e.count) % 2 ^ 32 })
  let w := s.reg (aBox p + rBOX_WAIT_MAX)
  let s := s.setReg (aBox p + rBOX_WAIT_MAX) (BitVec.ofNat 32 (min 0xFFFFFFFF (max w.toNat (s.ctrlClk - e.at_))))
  s.coreGranted e.core e.count

/-- The grants and set-asides of the last 1,000 control clocks. -/
def State.inWindow (s : State) (p : Nat) : Nat :=
  (((s.box p).window.filter (fun w => s.ctrlClk < w.1 + 1000)).map Prod.snd).sum

/-- TICKET_GRANT: the head entry is granted whole when FREE covers it and the ramp window allows; a head
larger than RAMP is admitted in parts, delivered with the last (R292, R293). An entry that a RETURN has cut down to what
is set aside already needs no further part. Nothing is granted after an audit mismatch (R299). -/
def State.grantHead (s : State) (p : Nat) : State :=
  match (s.box p).queue with
  | [] => s
  | e :: _ =>
    if (s.box p).fault = true then s
    else
      let s := if (s.box p).free < e.count then s.recall p (e.count - (s.box p).free) else s
      let s := if (s.box p).free < e.count then s.borrow p (e.count - (s.box p).free) else s
      let room := s.ramp p - s.inWindow p
      let part := if e.aside = 0 ∧ e.count ≤ s.ramp p then (if e.count ≤ room then e.count else 0)
        else min room (e.count - e.aside)
      if (s.box p).free < e.count ∨ (part = 0 ∧ e.aside < e.count) then s
      else
        let e' := { e with aside := e.aside + part }
        let s := s.modBox p (fun b => { b with
          window := b.window.filter (fun w => s.ctrlClk < w.1 + 1000) ++ [(s.ctrlClk, part)]
          queue := e' :: b.queue.drop 1 })
        if e'.aside ≥ e.count then s.deliver p e' else s

/-! ## Notices (R82) -/

/-- A withdrawal notice reaches a core: it surrenders the tickets, requests them back, and pauses its dot
array when the running MATMUL's cost is no longer held. -/
def State.takeNotice (s : State) (core : Nat) : State :=
  let n := (((s.box (core / 576)).notices.filter (fun x => x.1 == core)).map Prod.snd).sum
  if n = 0 then s
  else
    let k := min n (s.core core).held
    let s := s.modBox (core / 576) (fun b => { b with notices := b.notices.filter (fun x => x.1 != core) })
    let s := s.modCore core (fun c => { c with held := c.held - k, back := c.back + k })
    let s := if k = 0 then s else s.boxRequest core k
    if (s.core core).paused = false ∧ (s.core core).held < s.runCost core then
      (s.modCore core (fun c => { c with paused := true })).evCore core evCORE_TKT_PAUSE 0 0
    else s

/-! ## Budgets (R296 to R299) -/

def State.devLimit (s : State) : Nat := s.fld (aThm + rTHM_DEV_LIMIT) 15 0
def State.boardCap (s : State) : Nat := s.fld (aThm + rTHM_BOARD_CAP) 15 0
def State.sumBudgets (s : State) : Nat := ((List.range 4).map (fun p => (s.box p).budget)).sum

/-- Whether BUDGET_NEXT may become the budget. -/
def State.commitOk (s : State) (p : Nat) : Bool :=
  let b := s.fld (aBox p + rBOX_BUDGET_NEXT) 15 0
  decide ((s.box p).base + 8 ≤ b) && decide (b ≤ s.railLimit)
    && decide (s.sumBudgets - (s.box p).budget + b ≤ min s.devLimit s.boardCap)

/-- BUDGET_CTL.COMMIT. -/
def State.commit (s : State) (p : Nat) : State :=
  if s.commitOk p = true then
    let s := s.modBox p (fun b => { b with budget := s.fld (aBox p + rBOX_BUDGET_NEXT) 15 0 })
    (s.cover p).evBox p evBOX_BUDGET_CHANGED
  else s.evBox p evBOX_COMMIT_REFUSED

/-- WD_CTL.PCT in effect (R297). -/
def State.wdPct (s : State) : Nat :=
  let v := s.fld (aThm + rTHM_WD_CTL) 12 8
  if v = 0 then Config.pctZero % 26 else min v 25

/-- `n` thermal rate events on one edge (R297, R302): RATE_EVENTS counts them, and every box office withdraws
once per hold. -/
def State.rateEvent (s : State) (n : Nat) : State :=
  let s := s.bump (aThm + rTHM_RATE_EVENTS) n
  let first := !s.thm.hold
  let s := { s with thm := { s.thm with hold := true } }
  (List.range 4).foldl (fun s p =>
    let s := if first then
        (s.modBox p (fun b => { b with withdrawn := b.budget * s.wdPct / 100 })).cover p
      else s
    s.evBox p evBOX_RATE_HOLD) s

/-- The hold ends: WITHDRAWN returns to 0 (R297). -/
def State.rateEnd (s : State) : State :=
  if s.thm.hold = false then s
  else
    let s := { s with thm := { s.thm with hold := false } }
    (List.range 4).foldl (fun s p =>
      ((s.modBox p (fun b => { b with withdrawn := 0 })).cover p).evBox p evBOX_RATE_END) s

/-- Lowers every budget when their sum exceeds min(DEV_LIMIT, BOARD_CAP) (R298). -/
def State.applyBoardCap (s : State) : State :=
  let limit := min s.devLimit s.boardCap
  let sum := s.sumBudgets
  if sum ≤ limit then s
  else
    let s := (List.range 4).foldl (fun s p =>
      let b := (s.box p).budget
      let n := max ((s.box p).base + 8) (b * limit / sum)
      if n = b then s
      else ((s.modBox p (fun x => { x with budget := n })).cover p).evBox p evBOX_BUDGET_CHANGED) s
    s.evThm evTHM_BOARD_CAP 0

/-- The audit of R299, on an edge on which nothing is in flight. -/
def State.audit (s : State) (p : Nat) : State :=
  if (s.box p).notices ≠ [] ∨ s.boxBalanced p = true then s
  else (s.modBox p (fun b => { b with fault := true })).evBox p evBOX_CONSERVATION_FAULT

/-- Loans of a partition are returned at its reset (Table 11-7): lenders get their tickets back, and the
borrowers of this partition cover what it recalls. -/
def State.endLoans (s : State) (p : Nat) : State :=
  (List.range 4).foldl (fun s q =>
    let back := s.loan q p
    let s := (s.setLoan q p 0).modBox q (fun b => { b with free := b.free + back })
    if s.loan p q = 0 then s else (s.setLoan p q 0).cover q) s

/-- The box office of a partition at the end of bring-up: BASE from the fuses, FREE what remains. -/
def State.boxStart (s : State) (p : Nat) (budget : Nat) : State :=
  s.setBox p { BoxSt.init with
    budget := budget, base := tblGet 0 s.fuses.base p, free := budget - tblGet 0 s.fuses.base p }

/-! ## The commands of power -/

/-- TICKET_GRANT. -/
def execTicketGrant (p : Nat) (s : State) : Host.Outcome State Fault Refusal := .next (s.grantHead p)
/-- BUDGET_COMMIT. -/
def execBudgetCommit (p : Nat) (s : State) : Host.Outcome State Fault Refusal := .next (s.onPage .box p (fun s => s.commit p))
/-- RATE_HOLD_END. -/
def execRateHoldEnd (s : State) : Host.Outcome State Fault Refusal := .next s.rateEnd
/-- BOX_AUDIT. -/
def execBoxAudit (p : Nat) (s : State) : Host.Outcome State Fault Refusal := .next (s.audit p)
/-- WITHDRAW_NOTICE. -/
def execWithdrawNotice (core : Nat) (s : State) : Host.Outcome State Fault Refusal := .next (s.takeNotice core)
/-- BOARD_CAP_WRITE: over any path; before step 7 the value only waits (R298, R316). -/
def execBoardCapWrite (_path : Path) (v : W32) (s : State) : Host.Outcome State Fault Refusal :=
  .next (s.onPage .thm 0 (fun s =>
    let s := s.setFld (aThm + rTHM_BOARD_CAP) 15 0 v.toNat
    if s.pwr.step < 7 then s else s.applyBoardCap))

end Sys2Proof.Machine
end

