-- ==== Sys2Proof/Machine/Crypto.lean ====
section
/-! DEFINITION. The checksums and the cryptographic functions that the manual names: the CRCs of R227,
Table 7-10, Table 8-2 and R305, HMAC-SHA-256 (R251, R334), SHA-384 and ECDSA P-384 (R322, R331, R345,
R347). PRESUMED (log 10): SHA-2, HMAC and ECDSA are those of FIPS 180-4, FIPS 198-1 and FIPS 186, which the
manual names and does not spell out. -/

namespace Sys2Proof.Machine

open Sys2Proof

/-! ## CRCs: most significant bit first unless said -/

/-- One bit step of a CRC register of `w` bits, the top bit being shifted out. -/
def crcStep (w poly crc : Nat) : Nat :=
  if crc / 2 ^ (w - 1) % 2 = 1 then (crc * 2 % 2 ^ w) ^^^ poly else crc * 2 % 2 ^ w

/-- A CRC of `w` bits over bytes, each most significant bit first, no reflection, no final inversion. -/
def crcMsb (w poly init : Nat) (bs : List Byte) : Nat :=
  bs.foldl (fun crc b => (List.range 8).foldl (fun c _ => crcStep w poly c) (crc ^^^ (b.toNat * 2 ^ (w - 8)))) init

/-- CRC-64 of R227. -/
def crc64 (bs : List Byte) : Nat := crcMsb 64 0x42F0E1EBA9EA3693 0 bs

/-- The CHECK of a burst delimiter and of PAUSE, RESUME and DOWN (Tables 7-10, 8-2). -/
def crc16 (bs : List Byte) : Nat := crcMsb 16 0x1021 0xFFFF bs

/-- One bit step of a reflected CRC-32. -/
def crc32Step (crc : Nat) : Nat := if crc % 2 = 1 then crc / 2 ^^^ 0xEDB88320 else crc / 2

/-- CRC-32 with the IEEE 802.3 polynomial (R305, Tables 11-4 and 11-5), reflected, initial value and final
inversion of all ones as that standard has it (PRESUMED, log 10). -/
def crc32 (bs : List Byte) : Nat :=
  (bs.foldl (fun crc b => (List.range 8).foldl (fun c _ => crc32Step c) (crc ^^^ b.toNat)) 0xFFFFFFFF) ^^^ 0xFFFFFFFF

/-! ## SHA-2 -/

/-- The big-endian number of a byte list. -/
def beOf (bs : List Byte) : Nat := bs.foldl (fun n b => n * 256 + b.toNat) 0

/-- The `n` big-endian bytes of a number. -/
def beBytes (n v : Nat) : List Byte := (leBytes n v).reverse

/-- A message padded to whole blocks of `blk` bytes with a length field of `lf` bytes. -/
def shaPad (blk lf : Nat) (m : List Byte) : List Byte :=
  m ++ [0x80#8] ++ List.replicate ((blk - (m.length + 1 + lf) % blk) % blk) 0#8 ++ beBytes lf (8 * m.length)

/-- Cuts a list of bytes into `n` pieces of `k` bytes. -/
def pieces (k : Nat) : Nat → List Byte → List (List Byte)
  | 0, _ => []
  | n + 1, bs => bs.take k :: pieces k n (bs.drop k)

def rotr {w : Nat} (x : BitVec w) (n : Nat) : BitVec w := x.rotateRight n

/-- The amounts by which one member of the family rotates and shifts. -/
structure ShaRot where
  s0 : Nat × Nat × Nat
  s1 : Nat × Nat × Nat
  e0 : Nat × Nat × Nat
  e1 : Nat × Nat × Nat

/-- The message schedule, newest word first. -/
def shaSched {w : Nat} (r : ShaRot) : Nat → List (BitVec w) → List (BitVec w)
  | 0, ws => ws
  | n + 1, ws =>
    let g := fun i => ws.getD i 0
    let x0 := g 14
    let x1 := g 1
    let a := rotr x0 r.s0.1 ^^^ rotr x0 r.s0.2.1 ^^^ (x0 >>> r.s0.2.2)
    let b := rotr x1 r.s1.1 ^^^ rotr x1 r.s1.2.1 ^^^ (x1 >>> r.s1.2.2)
    shaSched r n ((b + g 6 + a + g 15) :: ws)

/-- The eight working variables after one round. -/
def shaRound {w : Nat} (r : ShaRot) (v : List (BitVec w)) (kw : BitVec w × BitVec w) : List (BitVec w) :=
  let g := fun i => v.getD i 0
  let e := g 4
  let a := g 0
  let t1 := g 7 + (rotr e r.e1.1 ^^^ rotr e r.e1.2.1 ^^^ rotr e r.e1.2.2)
    + ((e &&& g 5) ^^^ (~~~e &&& g 6)) + kw.1 + kw.2
  let t2 := (rotr a r.e0.1 ^^^ rotr a r.e0.2.1 ^^^ rotr a r.e0.2.2)
    + ((a &&& g 1) ^^^ (a &&& g 2) ^^^ (g 1 &&& g 2))
  [t1 + t2, a, g 1, g 2, g 3 + t1, e, g 5, g 6]

/-- The hash of a padded message with words of `w` bits. -/
def shaRun {w : Nat} (r : ShaRot) (ks h0 : List (BitVec w)) (m : List Byte) : List (BitVec w) :=
  (pieces (2 * w) (m.length / (2 * w)) m).foldl (fun h blk =>
    let ws := ((pieces (w / 8) 16 blk).map (fun b => BitVec.ofNat w (beOf b))).reverse
    let sched := (shaSched r (ks.length - 16) ws).reverse
    List.zipWith (· + ·) h ((ks.zip sched).foldl (shaRound r) h)) h0

/-- Round constants of SHA-256. -/
def sha256K0 : List (BitVec 32) :=
  [0x428A2F98, 0x71374491, 0xB5C0FBCF, 0xE9B5DBA5, 0x3956C25B, 0x59F111F1,
   0x923F82A4, 0xAB1C5ED5, 0xD807AA98, 0x12835B01, 0x243185BE, 0x550C7DC3,
   0x72BE5D74, 0x80DEB1FE, 0x9BDC06A7, 0xC19BF174, 0xE49B69C1, 0xEFBE4786,
   0xFC19DC6, 0x240CA1CC, 0x2DE92C6F, 0x4A7484AA, 0x5CB0A9DC, 0x76F988DA,
   0x983E5152, 0xA831C66D, 0xB00327C8, 0xBF597FC7, 0xC6E00BF3, 0xD5A79147,
   0x6CA6351, 0x14292967, 0x27B70A85, 0x2E1B2138, 0x4D2C6DFC, 0x53380D13,
   0x650A7354, 0x766A0ABB, 0x81C2C92E, 0x92722C85]

/-- Round constants of SHA-256. -/
def sha256K1 : List (BitVec 32) :=
  [0xA2BFE8A1, 0xA81A664B, 0xC24B8B70, 0xC76C51A3, 0xD192E819, 0xD6990624,
   0xF40E3585, 0x106AA070, 0x19A4C116, 0x1E376C08, 0x2748774C, 0x34B0BCB5,
   0x391C0CB3, 0x4ED8AA4A, 0x5B9CCA4F, 0x682E6FF3, 0x748F82EE, 0x78A5636F,
   0x84C87814, 0x8CC70208, 0x90BEFFFA, 0xA4506CEB, 0xBEF9A3F7, 0xC67178F2]

/-- Round constants of SHA-256. -/
def sha256K : List (BitVec 32) := sha256K0 ++ sha256K1

/-- Initial value of SHA-256. -/
def sha256H : List (BitVec 32) :=
  [0x6A09E667, 0xBB67AE85, 0x3C6EF372, 0xA54FF53A, 0x510E527F, 0x9B05688C,
   0x1F83D9AB, 0x5BE0CD19]

/-- Round constants of SHA-384. -/
def sha512K0 : List (BitVec 64) :=
  [0x428A2F98D728AE22, 0x7137449123EF65CD, 0xB5C0FBCFEC4D3B2F, 0xE9B5DBA58189DBBC, 0x3956C25BF348B538, 0x59F111F1B605D019,
   0x923F82A4AF194F9B, 0xAB1C5ED5DA6D8118, 0xD807AA98A3030242, 0x12835B0145706FBE, 0x243185BE4EE4B28C, 0x550C7DC3D5FFB4E2,
   0x72BE5D74F27B896F, 0x80DEB1FE3B1696B1, 0x9BDC06A725C71235, 0xC19BF174CF692694, 0xE49B69C19EF14AD2, 0xEFBE4786384F25E3,
   0xFC19DC68B8CD5B5, 0x240CA1CC77AC9C65, 0x2DE92C6F592B0275, 0x4A7484AA6EA6E483, 0x5CB0A9DCBD41FBD4, 0x76F988DA831153B5,
   0x983E5152EE66DFAB, 0xA831C66D2DB43210, 0xB00327C898FB213F, 0xBF597FC7BEEF0EE4, 0xC6E00BF33DA88FC2, 0xD5A79147930AA725,
   0x6CA6351E003826F, 0x142929670A0E6E70, 0x27B70A8546D22FFC, 0x2E1B21385C26C926, 0x4D2C6DFC5AC42AED, 0x53380D139D95B3DF,
   0x650A73548BAF63DE, 0x766A0ABB3C77B2A8, 0x81C2C92E47EDAEE6, 0x92722C851482353B]

/-- Round constants of SHA-384. -/
def sha512K1 : List (BitVec 64) :=
  [0xA2BFE8A14CF10364, 0xA81A664BBC423001, 0xC24B8B70D0F89791, 0xC76C51A30654BE30, 0xD192E819D6EF5218, 0xD69906245565A910,
   0xF40E35855771202A, 0x106AA07032BBD1B8, 0x19A4C116B8D2D0C8, 0x1E376C085141AB53, 0x2748774CDF8EEB99, 0x34B0BCB5E19B48A8,
   0x391C0CB3C5C95A63, 0x4ED8AA4AE3418ACB, 0x5B9CCA4F7763E373, 0x682E6FF3D6B2B8A3, 0x748F82EE5DEFB2FC, 0x78A5636F43172F60,
   0x84C87814A1F0AB72, 0x8CC702081A6439EC, 0x90BEFFFA23631E28, 0xA4506CEBDE82BDE9, 0xBEF9A3F7B2C67915, 0xC67178F2E372532B,
   0xCA273ECEEA26619C, 0xD186B8C721C0C207, 0xEADA7DD6CDE0EB1E, 0xF57D4F7FEE6ED178, 0x6F067AA72176FBA, 0xA637DC5A2C898A6,
   0x113F9804BEF90DAE, 0x1B710B35131C471B, 0x28DB77F523047D84, 0x32CAAB7B40C72493, 0x3C9EBE0A15C9BEBC, 0x431D67C49C100D4C,
   0x4CC5D4BECB3E42B6, 0x597F299CFC657E2A, 0x5FCB6FAB3AD6FAEC, 0x6C44198C4A475817]

/-- Round constants of SHA-384. -/
def sha512K : List (BitVec 64) := sha512K0 ++ sha512K1

/-- Initial value of SHA-384. -/
def sha384H : List (BitVec 64) :=
  [0xCBBB9D5DC1059ED8, 0x629A292A367CD507, 0x9159015A3070DD17, 0x152FECD8F70E5939, 0x67332667FFC00B31, 0x8EB44A8768581511,
   0xDB0C2E0D64F98FA7, 0x47B5481DBEFA4FA4]

/-- SHA-256. -/
def sha256 (m : List Byte) : List Byte :=
  (shaRun ⟨(7, 18, 3), (17, 19, 10), (2, 13, 22), (6, 11, 25)⟩ sha256K sha256H (shaPad 64 8 m)).flatMap
    (fun x => beBytes 4 x.toNat)

/-- SHA-384. -/
def sha384 (m : List Byte) : List Byte :=
  ((shaRun ⟨(1, 8, 7), (19, 61, 6), (28, 34, 39), (14, 18, 41)⟩ sha512K sha384H (shaPad 128 16 m)).flatMap
    (fun x => beBytes 8 x.toNat)).take 48

/-- HMAC-SHA-256. -/
def hmac256 (key m : List Byte) : List Byte :=
  let k := padTo 64 (if key.length ≤ 64 then key else sha256 key)
  sha256 (k.map (· ^^^ 0x5C#8) ++ sha256 (k.map (· ^^^ 0x36#8) ++ m))

/-- Bytes XOR bytes. -/
def xorBytes (a b : List Byte) : List Byte := List.zipWith (· ^^^ ·) a b

/-! ## ECDSA P-384 -/

def p384 : Nat := 2 ^ 384 - 2 ^ 128 - 2 ^ 96 + 2 ^ 32 - 1
def p384n : Nat :=
  0xffffffffffffffffffffffffffffffffffffffffffffffffc7634d81f4372ddf581a0db248b0a77aecec196accc52973
def p384b : Nat :=
  0xb3312fa7e23ee7e4988e056be3f82d19181d9c6efe8141120314088f5013875ac656398d8a2ed19d2a85c8edd3ec2aef
def p384G : Nat × Nat :=
  (0xaa87ca22be8b05378eb1c71ef320ad746e1d3b628ba79b9859f741e082542a385502f25dbf55296c3a545e3872760ab7,
   0x3617de4a96262c6f5d9e98bf9292dc29f8f41dbd289a147ce9da3113b5f0b8c00a60b1ce1d7e819d7a431d7c90ea0e5f)

/-- `b ^ e` modulo `m`, over `n` bits of `e`. -/
def powMod (m : Nat) : Nat → Nat → Nat → Nat
  | 0, _, _ => 1 % m
  | n + 1, b, e => (if e % 2 = 1 then b else 1) * powMod m n (b * b % m) (e / 2) % m

/-- The inverse modulo a prime. -/
def invMod (m a : Nat) : Nat := powMod m 384 (a % m) (m - 2)

/-- A point in Jacobian coordinates: X over Z squared and Y over Z cubed, infinity where Z is 0. -/
structure JPoint where
  x : Nat
  y : Nat
  z : Nat
deriving DecidableEq, Repr

/-- A difference modulo the field's prime. -/
def jSub (a b : Nat) : Nat := (a + (p384 - b % p384)) % p384

/-- Twice a point (the curve's coefficient is -3). -/
def JPoint.double (p : JPoint) : JPoint :=
  let zz := p.z * p.z % p384
  let yy := p.y * p.y % p384
  let s := 4 * p.x * yy % p384
  let m := 3 * jSub p.x zz * (p.x + zz) % p384
  let x := jSub (m * m) (2 * s)
  ⟨x, jSub (m * jSub s x) (8 * yy * yy), 2 * p.y * p.z % p384⟩

/-- The sum of two points. -/
def JPoint.add (p q : JPoint) : JPoint :=
  if p.z = 0 then q
  else if q.z = 0 then p
  else
    let zp := p.z * p.z % p384
    let zq := q.z * q.z % p384
    let u := p.x * zq % p384
    let s := p.y * zq * q.z % p384
    let h := jSub (q.x * zp) u
    let r := jSub (q.y * zp * p.z) s
    if h = 0 then (if r = 0 then p.double else ⟨1, 1, 0⟩)
    else
      let hh := h * h % p384
      let x := jSub (r * r) (hh * h + 2 * u * hh)
      ⟨x, jSub (r * jSub (u * hh) x) (s * hh * h), h * p.z * q.z % p384⟩

/-- A multiple of a point, over the low `n` bits of the factor. -/
def JPoint.mul : Nat → Nat → JPoint → JPoint
  | 0, _, _ => ⟨1, 1, 0⟩
  | n + 1, k, p =>
    let q := (JPoint.mul n (k / 2) p).double
    if k % 2 = 1 then q.add p else q

/-- Whether `sig` (r then s, 48 bytes each, big-endian) is a signature by `pub` (x then y) over a digest. -/
def ecdsaOk (pub sig digest : List Byte) : Bool :=
  let x := beOf (slice pub 0 48)
  let y := beOf (slice pub 48 48)
  let r := beOf (slice sig 0 48)
  let t := beOf (slice sig 48 48)
  let onCurve := decide (x < p384) && decide (y < p384) && (y * y) % p384 == (x * x * x + (p384 - 3) * x + p384b) % p384
  if !(onCurve && decide (1 ≤ r) && decide (r < p384n) && decide (1 ≤ t) && decide (t < p384n)) then false
  else
    let w := invMod p384n t
    let q := (JPoint.mul 384 (beOf digest * w % p384n) ⟨p384G.1, p384G.2, 1⟩).add (JPoint.mul 384 (r * w % p384n) ⟨x, y, 1⟩)
    decide (q.z ≠ 0) && q.x * invMod p384 (q.z * q.z) % p384 % p384n == r

end Sys2Proof.Machine
end

