-- ==== Sys2Proof/Machine/Flit.lean ====
section
/-! DEFINITION. Flits and ordered sets as bytes, and how a flit leaves a link with its ACK/CREDIT field (R223
to R230, R238, R243). A flit of a house link waits in the link's queue for a burst; on any other link it
leaves at once. -/

namespace Sys2Proof.Machine

open Sys2Proof

/-! ## Links of a port (Table 8-19) -/

/-- LNKn_CFG.LEVEL: 0 stage, 1 house, 2 circuit; 3 acts as stage. -/
def State.level (s : State) (port : Nat) : Nat :=
  let v := s.fld (aLnk port + rOIOLINK_LNK_CFG) 31 30
  if v = 3 then 0 else v

/-- Configured links of a port (Table 8-19: 1 to 64 on a house port, else 1). -/
def State.linkCount (s : State) (port : Nat) : Nat :=
  if s.level port = 1 then max 1 (min 64 (s.fld (aLnk port + rOIOLINK_LNK_CFG) 6 0)) else 1

/-- A link can carry messages: UP, or paused for a retrain. -/
def State.linkUp (s : State) (l : Nat) : Bool := (s.link l).state == 3 || (s.link l).state == 4

/-- The links of a port. -/
def State.linksOf (s : State) (port : Nat) : List Nat := (List.range (s.linkCount port)).map (· + 64 * port)

/-- Whether the port sends bursts. -/
def State.isHouse (s : State) (port : Nat) : Bool := s.level port == 1

/-! ## Flits (R226 to R228) -/

/-- The header of Table 8-4. -/
def flitHeader (type tc cont last seq : Nat) : Nat := type + 16 * tc + 128 * cont + 256 * last + 4096 * seq

/-- The 256 bytes of a flit. -/
def flitBytes (header : Nat) (payload : List Byte) (field : Nat) : List Byte :=
  let b := leBytes 4 header ++ padTo 240 payload ++ leBytes 4 field
  b ++ beBytes 8 (crc64 b)

def flitHdr (f : List Byte) : Nat := leAt f 0 4
def flitType (f : List Byte) : Nat := bits (flitHdr f) 3 0
def flitTc (f : List Byte) : Nat := bits (flitHdr f) 6 4
def flitCont (f : List Byte) : Bool := bit (flitHdr f) 7
def flitLast (f : List Byte) : Nat := bits (flitHdr f) 11 8
def flitSeq (f : List Byte) : Nat := bits (flitHdr f) 27 12
def flitPayload (f : List Byte) : List Byte := slice f 4 (16 * (flitLast f + 1))
def flitField (f : List Byte) : Nat := leAt f 244 4

/-- The CRC holds. -/
def flitCrcOk (f : List Byte) : Bool := f.length == 256 && beOf (slice f 248 8) == crc64 (f.take 248)

/-- A flit with a good CRC that R228 refuses. -/
def flitBad (f : List Byte) : Bool := decide (2 < flitType f) || bits (flitHdr f) 31 28 != 0 || flitLast f == 15

/-! ## The ACK/CREDIT field (Table 8-11, R238) -/

/-- The next class and kind in rotation whose FREED changed since it was reported. -/
def LinkSt.nextReturn (k : LinkSt) : Option Nat :=
  ((List.range 16).map (fun i => (k.rot + 1 + i) % 16)).find? (fun i => tblGet 0 k.freed i != tblGet 0 k.reported i)

/-- The field of the next flit: an acknowledgement that is due, of the last flit received in order, else a credit return,
else nothing. `now` is the time at which it leaves. -/
def LinkSt.field (k : LinkSt) (now : Nat) : Nat × LinkSt :=
  match k.ackPend with
  | some nak => (2 ^ 17 + b2n nak * 2 ^ 16 + (k.expected + 65535) % 65536,
      { k with ackPend := none, ackCount := 0, nakAt := if nak then now else k.nakAt })
  | none =>
    match k.nextReturn with
    | some i => (2 ^ 31 + i % 2 * 2 ^ 20 + i / 2 * 2 ^ 16 + tblGet 0 k.freed i,
        { k with reported := tblSet 0 k.reported i (tblGet 0 k.freed i), rot := i })
    | none => (0, k)

/-- Something waits for the field. -/
def LinkSt.owes (k : LinkSt) : Bool := k.ackPend.isSome || k.nextReturn.isSome

/-! ## Sending -/

/-- The field that a flit takes when it is built: on a house link it takes none before its burst leaves (R244). -/
def State.fieldNow (s : State) (l : Nat) : Nat × LinkSt :=
  if s.isHouse (portOfLink l) then (0, s.link l) else (s.link l).field s.ctrlClk

/-- A built flit leaves, or on a house link joins the queue of the next burst. `tenant` is that of its message,
65536 for a flit of no message. -/
def State.putFlit (s : State) (l tenant : Nat) (f : List Byte) : State :=
  if s.isHouse (portOfLink l) then s.modLink l (fun k => { k with outq := k.outq ++ [⟨tenant, f, false⟩] })
  else s.emit (.flit l f)

/-- An entry of a burst queue that is an ordered set of one link, not a flit. -/
def isSet (q : OutFlit) : Bool := q.bytes.length == 32

/-- An ordered set of one link leaves ahead of every flit; on a house link with the next burst to the peer,
after its delimiter (R252). -/
def State.placeSet (s : State) (l : Nat) (os : List Byte) : State :=
  if s.isHouse (portOfLink l) then
    s.modLink l (fun k => { k with outq := k.outq.filter isSet ++ [⟨65536, os, false⟩] ++ k.outq.filter (fun q => !isSet q) })
  else s.emit (.linkSet l os)

/-- Builds and sends a NULL or LINKCTL flit; `payload` is whole slots. -/
def State.sendPlain (s : State) (l type : Nat) (payload : List Byte) : State :=
  let r := s.fieldNow l
  let f := flitBytes (flitHeader type 0 0 (payload.length / 16 - 1) 0) payload r.1
  (s.setLink l r.2).putFlit l 65536 f

/-- A NULL flit. -/
def State.sendNull (s : State) (l : Nat) : State := s.sendPlain l 0 []

/-- A link message in a LINKCTL flit (Table 8-9). -/
def State.sendCtl (s : State) (l : Nat) (body : List Byte) : State := s.sendPlain l 2 body

/-- Owed acknowledgements and returns leave in NULL flits; a house link sends them with its next burst (R244). -/
def State.reportCredits (s : State) (l : Nat) : State :=
  if s.isHouse (portOfLink l) then s
  else forN (fun _ s => if (s.link l).state = 3 ∧ (s.link l).owes = true then s.sendNull l else s) 17 s

/-! ## Ordered sets (R225, Tables 8-1, 8-2) -/

def osMark : List Byte := [0xF0#8, 0x5A#8, 0xC3#8, 0xF7#8]

/-- PAUSE, RESUME and DOWN. -/
def osBytes (type reason width speed uRx expected : Nat) : List Byte :=
  let b := leBytes 1 type ++ leBytes 1 reason ++ leBytes 1 (width + 4 * speed) ++ leBytes 1 uRx ++ leBytes 2 expected
    ++ List.replicate 20 0#8
  osMark ++ b ++ beBytes 2 (crc16 b)

def osType (os : List Byte) : Nat := leAt os 4 1

/-- An ordered set of the right length and marker whose CHECK holds and whose type is known; CURTAIN has no
CHECK of this kind. -/
def osOk (os : List Byte) : Bool :=
  os.length == 32 && os.take 4 == osMark
    && (osType os == 1 || (decide (2 ≤ osType os) && decide (osType os ≤ 4)
      && beOf (slice os 30 2) == crc16 (slice os 4 26)))

/-! ## Messages as slots (Table 8-6) -/

/-- The route slot and the body of a message. -/
def msgBytes (m : Msg) : List Byte :=
  leBytes 2 m.dstDev ++ leBytes 1 (m.dstPart + 4 * m.srcPart + 16 * m.profile) ++ leBytes 1 m.hops
    ++ leBytes 2 m.srcDev ++ leBytes 2 (m.body.length / 16) ++ leBytes 2 m.tenant ++ List.replicate 6 0#8 ++ m.body

/-- The message whose route slot heads a byte list. -/
def readMsg (tc : Nat) (b : List Byte) : Msg :=
  ⟨tc, bits (leAt b 0 2) 14 0, bits (leAt b 2 1) 1 0, bits (leAt b 2 1) 3 2, bits (leAt b 2 1) 7 4, leAt b 3 1,
    bits (leAt b 4 2) 14 0, leAt b 8 2, slice b 16 (16 * leAt b 6 2)⟩

/-! ## DATA flits -/

/-- Replay depth of a link (R243). -/
def State.replayDepth (s : State) (l : Nat) : Nat :=
  let port := portOfLink l
  if s.level port = 2 then 16384 else if s.level port = 1 then 1024 / s.linkCount port else 1024

/-- Sends the next DATA flit of a started message, if the replay buffer has room. -/
def State.sendData (s : State) (l tc : Nat) (first : Bool) : State :=
  let k := s.link l
  match tblGet none k.opened tc with
  | none => s
  | some (m, bs) =>
    if k.state ≠ 3 ∨ s.replayDepth l ≤ k.replay.length then s
    else
      let pay := bs.take 240
      let r := s.fieldNow l
      let f := flitBytes (flitHeader 1 tc (b2n (!first)) (pay.length / 16 - 1) k.next) pay r.1
      let rest := bs.drop 240
      let k' := { r.2 with
        opened := tblSet none r.2.opened tc (if rest.isEmpty then none else some (m, rest))
        replay := r.2.replay ++ [(k.next, m.tenant, f)]
        next := (k.next + 1) % 65536 }
      (s.setLink l k').putFlit l m.tenant f

/-- The rest of every started message, as far as the replay buffer allows (a message has at most 18 flits). On a house
link the flits of started messages are made when its burst leaves, the classes in the order of R236. -/
def State.pump (s : State) (l : Nat) : State :=
  if s.isHouse (portOfLink l) then s
  else [0, 1, 3, 7, 2, 4, 5, 6].foldl (fun s tc => forN (fun _ s => s.sendData l tc false) 18 s) s

/-! ## The stream on the lanes (R224) -/

/-- The bytes of a stream that travel on lane `i` of `w`: byte `b` of the stream goes on lane `b mod w`. -/
def laneStream (w i : Nat) (stream : List Byte) : List Byte :=
  (stream.zipIdx.filter (fun e => e.2 % w == i)).map Prod.fst

/-- A stream striped over the `w` active lanes, in ascending lane number. -/
def stripe (w : Nat) (stream : List Byte) : List (List Byte) := (List.range w).map (fun i => laneStream w i stream)

end Sys2Proof.Machine
end

