-- ==== Sys2Proof/Machine/Mem.lean ====
section
/-! DEFINITION. The on-package memory: stacked memory and core scratch under SECDED (R101 to R107, R379).
A byte of slice memory of partition `p` has the global address `2^31 p + PMA`; byte `o` of the scratch of
core `i` has `2^33 + 2^18 i + o`. A word is eight bytes and has the number address / 8. -/

namespace Sys2Proof.Machine

open Sys2Proof

/-- Global address of a slice byte: partition, cluster 0 to 11, byte within its 128 MiB (R101). -/
def sliceAddr (p c off : Nat) : Nat := 2 ^ 31 * p + 2 ^ 27 * c + off

/-- Global address of a scratch byte. -/
def scratchAddr (core off : Nat) : Nat := 2 ^ 33 + 2 ^ 18 * core + off

/-- Whether a word lies in scratch. -/
def isScratchWord (w : Nat) : Bool := decide (2 ^ 30 ≤ w)

/-- The cluster (12 p + c) whose counters a word's errors count in. -/
def cluOfWord (w : Nat) : Nat :=
  if isScratchWord w then (w - 2 ^ 30) / 2 ^ 15 / 48 else 12 * (w / 2 ^ 28) + w % 2 ^ 28 / 2 ^ 24

/-- Whether a global address exists: a slice byte below PMA 0x6000_0000, or a byte of an enabled core's scratch. -/
def addrExists (a : Nat) : Bool :=
  (decide (a < 2 ^ 33) && decide (a % 2 ^ 31 < 0x60000000))
    || (decide (2 ^ 33 ≤ a) && decide (a < 2 ^ 33 + 2304 * 2 ^ 18))

def State.health (s : State) (w : Nat) : Health := tblGet Health.ok s.ecc w

def State.setHealth (s : State) (w : Nat) (h : Health) : State := { s with ecc := tblSet Health.ok s.ecc w h }

/-! ## Counting (Table 4-2) -/

/-- ERR_ADDR takes the address of a slice error; a scratch error never changes it (R379). -/
def State.captureErr (s : State) (w : Nat) (ue : Bool) : State :=
  if isScratchWord w then s
  else s.setReg (aClu (cluOfWord w) + rCLU_ERR_ADDR) (BitVec.ofNat 32 (2 ^ 31 * b2n ue + w % 2 ^ 28))

/-- A corrected error counts toward its row in this pass, and a row that reaches REPAIR_THRESH starts its
copy while the soft repair table has room (R107). -/
def State.countRow (s : State) (w : Nat) : State :=
  if isScratchWord w then s
  else
    let c := cluOfWord w
    let row := w % 2 ^ 28 / 2 ^ 10
    let n := tblGet 0 (s.clu c).rowCe row + 1
    let t := s.fld (aClu c + rCLU_REPAIR_THRESH) 3 0
    let s := s.modClu c (fun x => { x with rowCe := tblSet 0 x.rowCe row n })
    if t ≠ 0 ∧ n ≥ t ∧ row ∉ (s.clu c).repaired ∧ row ∉ (s.clu c).repairing
        ∧ (s.clu c).repaired.length + (s.clu c).repairing.length < 32 then
      s.modClu c (fun x => { x with repairing := x.repairing ++ [row] })
    else s

/-- A single-bit error is found: counted once. -/
def State.countCe (s : State) (w : Nat) : State :=
  ((s.bump (aClu (cluOfWord w) + rCLU_CE_COUNT) 1).captureErr w false).countRow w

/-- A word becomes poisoned (R105). -/
def State.poisonWord (s : State) (w : Nat) : State :=
  let s := s.setHealth w .poisoned
  let s := (s.bump (aClu (cluOfWord w) + rCLU_UE_COUNT) 1).captureErr w true
  s.evClu (cluOfWord w) evCLU_MEM_UE 0

/-- The bytes of a word. -/
def State.wordBytes (s : State) (w : Nat) : List Byte := memRead 0 s.mem (8 * w) 8

def State.putBytes (s : State) (a : Nat) (bs : List Byte) : State := { s with mem := memWrite 0 s.mem a bs }

/-- A read meets a word: corrections, poisoning, and for three or more wrong bits one of the outcomes
that R105 leaves open. `fixed`: the word is written back at once (scrub, read-modify-write). -/
def State.touch (s : State) (fixed : Bool) (w : Nat) : State :=
  match s.health w with
  | .ok | .poisoned => s
  | .pending => if fixed then s.setHealth w .ok else s
  | .single => (s.setHealth w (if fixed then .ok else .pending)).countCe w
  | .double => s.poisonWord w
  | .multi =>
    let k := Config.multiOutcome s.freeCtr % 3
    if k = 0 then s.tick.poisonWord w
    else
      let t := (s.tick.putBytes (8 * w) (leBytes 8 (Config.multiBytes s.freeCtr).toNat)).setHealth w .ok
      if k = 1 then t.countCe w else t

/-- The words that `n` bytes from `a` touch. -/
def wordsOf (a n : Nat) : List Nat :=
  if n = 0 then [] else (List.range ((a + n - 1) / 8 - a / 8 + 1)).map (· + a / 8)

/-! ## Access -/

/-- A read of `n` bytes: the state with the errors met, and each byte with its word's poison mark. -/
def State.readMem (s : State) (a n : Nat) : State × List (Byte × Bool) :=
  let s := (wordsOf a n).foldl (fun s w => s.touch false w) s
  (s, (List.range n).map (fun i => (tblGet 0 s.mem (a + i), decide (s.health ((a + i) / 8) = .poisoned))))

/-- Whether a read met a poisoned word. -/
def anyPoison (cs : List (Byte × Bool)) : Bool := cs.any Prod.snd

/-- The bytes a read gave. -/
def plain (cs : List (Byte × Bool)) : List Byte := cs.map Prod.fst

/-- A write of bytes: a whole word clears poison, part of a word is a read-modify-write, which leaves a
poisoned word poisoned; answers whether it met one (R105, R379). -/
def State.writeMem (s : State) (a : Nat) (bs : List Byte) : State × Bool :=
  let n := bs.length
  let r := (wordsOf a n).foldl (fun (x : State × Bool) w =>
    if a ≤ 8 * w ∧ 8 * w + 8 ≤ a + n then (x.1.setHealth w .ok, x.2)
    else
      let t := x.1.touch true w
      (t, x.2 || decide (t.health w = .poisoned))) (s, false)
  (r.1.putBytes a bs, r.2)

/-- A write that copies poison marks with their words, counting nothing (R379, R182). -/
def State.writeMarked (s : State) (a : Nat) (cs : List (Byte × Bool)) : State × Bool :=
  let r := s.writeMem a (plain cs)
  ((wordsOf a cs.length).foldl (fun s w =>
    if (slice' cs (8 * w - a) (8 * w + 8 - a)).any Prod.snd then s.setHealth w .poisoned else s) r.1, r.2)
where
  /-- The cells from index `lo` to before index `hi`. -/
  slice' (cs : List (Byte × Bool)) (lo hi : Nat) : List (Byte × Bool) := (cs.drop lo).take (hi - lo)

/-- Zero-fills `n` bytes from `a`, clearing every mark (R325, R328). -/
def State.zeroMem (s : State) (a n : Nat) : State :=
  { s with
    mem := tblClear (fun x => decide (a ≤ x) && decide (x < a + n)) s.mem
    ecc := tblClear (fun w => decide (a ≤ 8 * w) && decide (8 * w < a + n)) s.ecc }

/-! ## Commands of the memory die -/

/-- ECC_WRITEBACK: the corrected word reaches memory. -/
def execEccWriteback (addr : Nat) (s : State) : Host.Outcome State Fault Refusal :=
  if addrExists addr = false then .fault (.noSuchMemory addr)
  else .next (if s.health (addr / 8) = .pending then s.setHealth (addr / 8) .ok else s)

/-- What further wrong bits make of a word's health: a word whose correction is not yet written back still holds its
first wrong bit, and the write-back is not made for a word struck again (DESIGN CHOICE, log 65). -/
def worsen (h : Health) (u : Upset) : Health :=
  match h, u with
  | .ok, .single => .single
  | .ok, .double => .double
  | .single, .single | .pending, .single => .double
  | _, _ => .multi

/-- Words in a slice. -/
abbrev sliceWords : Nat := 2 ^ 24

/-- The word that an upset strikes in cluster `c`, by its number in the operand of SCRUB_LINE: a word of the slice counted
from the first word of the line, around its end, and from `2^24` on a word of the scratch of the cluster's 48 cores. -/
def State.struck (s : State) (c n : Nat) : Nat :=
  if n < sliceWords then sliceAddr (c / 12) (c % 12) 0 / 8 + (8 * (s.clu c).scrubLine + n) % sliceWords
  else 2 ^ 30 + 2 ^ 15 * 48 * c + (n - sliceWords)

/-- Wrong bits appear in words of a cluster's memory (log 65): whoever reads such a word next meets them. -/
def State.strike (s : State) (c : Nat) (upsets : List (Nat × Upset)) : State :=
  upsets.foldl (fun s u => s.setHealth (s.struck c u.1) (worsen (s.health (s.struck c u.1)) u.2)) s

/-- Lines of 64 B in a slice. -/
abbrev sliceLines : Nat := 2 ^ 21

/-- SCRUB_LINE: the upsets that struck the cluster's memory since the last one, then the scrub's read of the next
line, which corrects and poisons (R106). A full pass counts and starts every row's count again (R107). -/
def State.scrub (s : State) (c : Nat) (upsets : List (Nat × Upset)) : State :=
  let s := s.strike c upsets
  if rb (s.reg (aClu c + rCLU_SCRUB_CTL)) 31 = false then s
  else
    let line := (s.clu c).scrubLine
    let base := sliceAddr (c / 12) (c % 12) (64 * line) / 8
    let s := (List.range 8).foldl (fun s i => s.touch true (base + i)) s
    if line + 1 < sliceLines then s.modClu c (fun x => { x with scrubLine := line + 1 })
    else
      let s := s.modClu c (fun x => { x with scrubLine := 0, rowCe := [], passes := (x.passes + 1) % 2 ^ 32 })
      s.evClu c evCLU_SCRUB_PASS 0

def execScrubLine (clu : Nat) (upsets : List (Nat × Upset)) (s : State) : Host.Outcome State Fault Refusal :=
  .next (s.scrub clu upsets)

/-- REPAIR_DONE: the oldest running copy is recorded; the 32nd fills the table (R107). -/
def State.repairDone (s : State) (c : Nat) : State :=
  match (s.clu c).repairing with
  | [] => s
  | row :: r =>
    let s := s.modClu c (fun x => { x with repaired := x.repaired ++ [row], repairing := r })
    s.raiseAll (aClu c) srcPrompter false
      (ev evCLU_REPAIR_DONE :: (if (s.clu c).repaired.length = 32 then [ev evCLU_REPAIR_FULL] else []))

def execRepairDone (clu : Nat) (s : State) : Host.Outcome State Fault Refusal := .next (s.repairDone clu)

end Sys2Proof.Machine
end

