-- ==== Sys2Proof/Machine/Fabric.lean ====
section
/-! DEFINITION. Device numbers, peer contexts and the routing of messages (R260 to R274). -/

namespace Sys2Proof.Machine

open Sys2Proof

/-! ## Device numbers (R262): house [14:9], stage [8:3], seat [2:0] -/

def devHouse (d : Nat) : Nat := bits d 14 9
def devStage (d : Nat) : Nat := bits d 8 3
def devSeat (d : Nat) : Nat := bits d 2 0

/-- This device's number; 0 while none is assigned. -/
def State.device (s : State) : Nat := s.fld (aDev + rDEV_FAB_ID) 14 0

def State.deviceValid (s : State) : Bool := rb (s.reg (aDev + rDEV_FAB_ID)) 31

/-- FAB_CFG.PROFILE: 0 STAGE, 1 HOUSE, 2 SYSTEM; 3 acts as 0 (Table 9-2). -/
def State.profile (s : State) : Nat :=
  let v := s.fld (aDev + rDEV_FAB_CFG) 1 0
  if v = 3 then 0 else v

/-- FAB_STAT.PHASE = HELD_OUT (Table 9-11). -/
def State.heldOut (s : State) : Bool := s.fld (aDev + rDEV_FAB_STAT) 2 0 == 6

/-! ## Ports (Table 9-2) -/

/-- The level a port's role in the profile gives it. -/
def State.roleLevel (s : State) (port : Nat) : Nat :=
  if port / 8 % 2 = 0 ∨ s.profile = 0 then 0
  else if s.profile = 1 then 1
  else if port % 8 < 4 then 1 else 2

/-- A port is configured as its role asks (R261): its level, and 16 links at the house level (R266). -/
def State.roleOk (s : State) (port : Nat) : Bool :=
  s.level port == s.roleLevel port && (s.roleLevel port != 1 || s.linkCount port == 16)

/-- DEVICE of the partner's CAP on a link, when it was valid there. -/
def State.linkPeer (s : State) (l : Nat) : Option Nat :=
  match (s.link l).peerCap with
  | some c => if bit (leAt c 4 2) 15 then some (bits (leAt c 4 2) 14 0) else none
  | none => none

/-- A circuit partner must share stage and seat (R270). -/
def State.miswired (s : State) (l : Nat) : Bool :=
  s.level (portOfLink l) == 2 && (match s.linkPeer l with
    | some d => devStage d != devStage s.device || devSeat d != devSeat s.device
    | none => false)

/-- Straps of this device. -/
def State.strapStage (s : State) : Nat := s.fld (aDev + rDEV_FAB_STRAP) 8 3
def State.strapSeat (s : State) : Nat := s.fld (aDev + rDEV_FAB_STRAP) 2 0

/-- Stage and seat of the device that the wiring puts at the far end of a link (R260, R266). -/
def State.neighbour (s : State) (l : Nat) : Option (Nat × Nat) :=
  let port := portOfLink l
  if s.roleLevel port = 0 then (if port % 8 < 7 then some (s.strapStage, (s.strapSeat + 1 + port % 8) % 8) else none)
  else if s.roleLevel port = 1 then some (16 * (port % 4) + l % 64, s.strapSeat)
  else none

/-- Links to a held-out device are not UP for routing (R263). -/
def State.partnerHeld (s : State) (l : Nat) : Bool :=
  s.fab.members.any (fun m => m.held && ((m.port == portOfLink l && s.roleLevel (portOfLink l) != 1)
    || s.neighbour l == some (m.stage, m.seat)))

/-- FEAT of the partner's CAP: bit `i`. -/
def LinkSt.peerFeat (k : LinkSt) (i : Nat) : Bool :=
  match k.peerCap with
  | some c => bit (leAt c 10 2) i
  | none => false

/-- A feature of Table 8-12 is used on a link: its operating version has it, and the partner's FEAT bit is set; this
device's own always is (R235). -/
def LinkSt.uses (k : LinkSt) (version i : Nat) : Bool := decide (version ≤ k.ver) && k.peerFeat i

/-- TC6 and the memory profile need MEMP of version 2.0 (R235). -/
def LinkSt.carries (k : LinkSt) (tc : Nat) : Bool := tc != 6 || k.uses 0x20 1

/-- Whether the route engine may use a link for a class: configured as its role, UP, not miswired, partner
in the system; a partition without tenant carries only TC0 and TC7 (R341), as does a held-out device; TC6 where the
link's version has it. -/
def State.usable (s : State) (l tc : Nat) : Bool :=
  let port := portOfLink l
  s.roleOk port && s.linkUp l && !s.miswired l && (s.link l).carries tc && (tc == 0 || tc == 7
    || ((s.part (partOfPort port)).st == 1 && !s.heldOut && !s.partnerHeld l))

/-- Plane or stage set: A when the sum of the device numbers is even (R271). -/
def planeB (src dst : Nat) : Nat := (src + dst) % 2

/-- The port that serves stage port `i` of partition `r` for a message. -/
def State.stagePort (s : State) (r i src dst : Nat) : Nat :=
  16 * r + (if s.profile = 0 then 8 * planeB src dst else 0) + i

/-- The port that serves house group `g` from partition `r`; none under profile STAGE. -/
def State.housePort (s : State) (r g src dst : Nat) : Option Nat :=
  if s.profile = 1 then some (16 * r + 8 + 4 * planeB src dst + g)
  else if s.profile = 2 then some (16 * r + 8 + g)
  else none

/-! ## The circuit route table (R270) -/

def State.croute (s : State) (house : Nat) : W32 := tblGet 0 s.croutes house

/-- The circuit port of a house's own entry, where valid and its link is usable. -/
def State.circuitPort (s : State) (house tc : Nat) : Option Nat :=
  let e := s.croute house
  let port := rf e 5 0
  if rb e 31 = true ∧ s.usable (64 * port) tc = true then some port else none

/-! ## The house detour (R272) -/

/-- Hops a message has made over links when it stands at a device, HOPS as it arrived: a source sets HOPS to 8 and each
relay takes one off when it sends the message on (R231, R271). -/
def hopsMade (m : Msg) (arrived : Bool) : Nat := if arrived then 9 - m.hops else 0

/-- Whether a detouring message has crossed the dateline (DEDUCED, log 13): the detour begins in the group
of the source's stage, since circuit hops keep the stage; the groups passed are the hops made less the
circuit hops, of which there is none within a house and else one or two. -/
def secondHalf (m : Msg) (myGroup made : Nat) (sameHouse : Bool) : Bool :=
  let x := devStage m.srcDev / 16
  let t := if sameHouse then made
    else if (x + made - 1) % 4 = myGroup then made - 1 else made - 2
  decide (4 ≤ x + t)

/-- The first link of a port that is UP toward another device. -/
def State.firstUp (s : State) (port tc : Nat) : Option Nat :=
  ((List.range 16).map (fun i => 64 * port + i)).find? (fun l => s.usable l tc)

/-! ## The routing procedure (R271) -/

/-- Where a message goes next. -/
inductive Hop where
  | unit (p : Nat)
  | link (l : Nat)
  | nowhere
deriving DecidableEq, Repr

/-- The next step of a message held by partition `r`; `via` is the link it arrived on, if any. -/
def State.route (s : State) (r : Nat) (m : Msg) (via : Option Nat) : Hop :=
  let me := s.device
  let d := m.dstDev
  let onCircuit := match via with
    | some l => s.level (portOfLink l) == 2
    | none => false
  if devHouse d ≠ devHouse me then
    match s.circuitPort (devHouse d) m.tc with
    | some port => .link (64 * port)
    | none =>
      let e := s.croute (devHouse d)
      if onCircuit = false ∧ rb e 30 = true then
        match s.circuitPort (rf e 29 24) m.tc with
        | some port => .link (64 * port)
        | none => .nowhere
      else .nowhere
  else if devStage d ≠ devStage me then
    match s.housePort r (devStage d / 16) m.srcDev d with
    | none => .nowhere
    | some port =>
      if s.usable (64 * port + devStage d % 16) m.tc = true then .link (64 * port + devStage d % 16)
      else
        let g := devStage me / 16
        let half1 := via.isSome && secondHalf m g (hopsMade m via.isSome) (devHouse m.srcDev == devHouse me)
        if half1 = true ∧ g = devStage d / 16 then .nowhere
        else
          match s.housePort r ((g + 1) % 4) m.srcDev d with
          | none => .nowhere
          | some q =>
            match s.firstUp q m.tc with
            | some l => .link l
            | none => .nowhere
  else if devSeat d ≠ devSeat me then
    let l := 64 * s.stagePort r ((devSeat d + 7 - devSeat me) % 8) m.srcDev d
    if s.usable l m.tc = true then .link l else .nowhere
  else .unit m.dstPart

/-- The rank of a message's next step (Table 9-3); `via` is the link it arrived on. -/
def State.rank (s : State) (r : Nat) (m : Msg) (via : Option Nat) : Nat :=
  match s.route r m via with
  | .nowhere => 9
  | .unit q => if q = r then 9 else 8
  | .link l =>
    let port := portOfLink l
    let onCircuit := match via with
      | some v => s.level (portOfLink v) == 2
      | none => false
    if s.level port = 2 then (if partOfPort port = r then 1 else 0) + (if onCircuit then 2 else 0)
    else if s.level port = 0 then 7
    else if s.housePort r (devStage m.dstDev / 16) m.srcDev m.dstDev = some port ∧ l % 64 = devStage m.dstDev % 16 then 6
    else
      let g := devStage s.device / 16
      let half1 := via.isSome && secondHalf m g (hopsMade m via.isSome) (devHouse m.srcDev == devHouse s.device)
      if half1 = true ∨ g = 3 then 5 else 4

/-! ## The package ring (R18, R19) -/

/-- The ring pairs that traffic from one partition to another takes: horizontal first for a diagonal. -/
def ringPath (p q : Nat) : List Nat :=
  if p = q then []
  else match p, q with
    | 0, 1 | 1, 0 => [0]
    | 1, 3 | 3, 1 => [1]
    | 3, 2 | 2, 3 => [2]
    | 2, 0 | 0, 2 => [3]
    | 0, 3 => [0, 1]
    | 3, 0 => [2, 3]
    | 1, 2 => [0, 3]
    | _, _ => [2, 1]

/-- Whether every ring pair of the way is in service; traffic for a retraining pair is held at its source (R31). -/
def State.ringOpen (s : State) (p q : Nat) : Bool := (ringPath p q).all (fun i => i ∉ s.pwr.retraining)

/-- Whether the ring may carry a memory request between two partitions: the same tenant (R20, R341). -/
def State.ringTenant (s : State) (p q : Nat) : Bool := p == q || s.sameTenant p q

/-! ## Sending -/

/-- NO_ROUTE counts and its event is set (R271). -/
def State.noRoute (s : State) : State := (s.bump (aDev + rDEV_NO_ROUTE) 1).evFab evFAB_NO_ROUTE

/-- A message enters the transmit queue of a link. -/
def State.enqueue (s : State) (l : Nat) (m : Msg) : State := s.modLink l (fun k => { k with txq := k.txq ++ [m] })

/-- A message reaches a partition's units. -/
def State.deliverTo (s : State) (p : Nat) (m : Msg) (l : Nat) : State :=
  s.setInbox p (s.inboxOf p ++ [⟨m, l⟩])

/-- The link number that stands for "arrived over no link". -/
abbrev noLink : Nat := 4096

/-- One step of a message held by partition `r`: into a transmit queue, to its unit, or back to the relay
buffer while a ring pair on its way is down. Answers false when no route exists. -/
def State.forward (s : State) (r : Nat) (m : Msg) (via : Option Nat) : State × Bool :=
  match s.route r m via with
  | .link l =>
    if s.ringOpen r (partOfPort (portOfLink l)) && decide (8 + portOfLink l / 8 ∉ s.pwr.retraining) then
      (s.enqueue l m, true)
    else (s.setRelay r (s.relayOf r ++ [⟨m, via.getD noLink⟩]), true)
  | .unit q =>
    if s.ringOpen r q then (s.deliverTo q m (via.getD noLink), true)
    else (s.setRelay r (s.relayOf r ++ [⟨m, via.getD noLink⟩]), true)
  | .nowhere => (s.noRoute, false)

/-- A partition starts a message of its own: SRC_DEV, SRC_PART, TENANT and HOPS as R230 and R271 give them. -/
def State.newMsg (s : State) (p tc dstDev dstPart profile : Nat) (body : List Byte) : Msg :=
  ⟨tc, dstDev, dstPart, p, profile, 8, s.device, (s.part p).tenant, body⟩

/-! ## Peer contexts (R264) -/

def State.peer (s : State) (c : Nat) : W32 × W32 := tblGet (0, 0) s.peers c

def State.peerValid (s : State) (c : Nat) : Bool := rb (s.peer c).1 31
def State.peerDirect (s : State) (c : Nat) : Bool := rb (s.peer c).1 30
def State.peerOwner (s : State) (c : Nat) : Nat := rf (s.peer c).1 29 28
def State.peerPort (s : State) (c : Nat) : Nat := rf (s.peer c).1 27 22
def State.peerPart (s : State) (c : Nat) : Nat := rf (s.peer c).1 17 16
def State.peerDev (s : State) (c : Nat) : Nat := rf (s.peer c).1 14 0
def State.peerTenant (s : State) (c : Nat) : Nat := rf (s.peer c).2 15 0

/-- Whether an agent of partition `p` may name a context: valid, its own, and of its tenant; a partition
without tenant has none (R264, R341). -/
def State.mayName (s : State) (p c : Nat) : Bool :=
  s.peerValid c && s.peerOwner c == p && (s.part p).st == 1 && s.peerTenant c == (s.part p).tenant

/-- The contexts of partition `p`, lowest first, whose device and partition a message came from. -/
def State.contextOf (s : State) (p : Nat) (m : Msg) : Option Nat :=
  (s.peers.find? (fun e => e.1 != 0 && rb e.2.1 31 && rf e.2.1 29 28 == p
    && rf e.2.1 14 0 == m.srcDev && rf e.2.1 17 16 == m.srcPart)).map Prod.fst

/-- Sends to a peer context: over the partner port when DIRECT, else by the routing procedure. -/
def State.sendPeer (s : State) (p c tc part profile : Nat) (body : List Byte) : State × Bool :=
  let m := s.newMsg p tc (s.peerDev c) part profile body
  if s.peerDirect c then
    (if s.usable (64 * s.peerPort c) tc then (s.enqueue (64 * s.peerPort c) m, true) else (s.noRoute, false))
  else s.forward p m none

/-- The first link of the way to a peer context, if it has one. -/
def State.peerLink (s : State) (p c : Nat) (part : Nat) : Option Nat :=
  if s.peerDirect c then some (64 * s.peerPort c)
  else match s.route p (s.newMsg p 1 (s.peerDev c) part 0 []) none with
    | .link l => some l
    | _ => none

/-- Answers a message: a response goes back to the source device and partition. -/
def State.reply (s : State) (p : Nat) (m : Msg) (tc profile : Nat) (body : List Byte) : State :=
  (s.forward p (s.newMsg p tc m.srcDev m.srcPart profile body) none).1

/-! ## Taking a message that arrived -/

/-- The credits that a message costs: header and data (R233). -/
def msgCost (m : Msg) : Nat × Nat := (1, ceilDiv (m.body.length - 16) 64)

/-- The receiver frees a message's credits, and the returns leave (R237, R238). -/
def State.freeCredits (s : State) (l : Nat) (m : Msg) : State :=
  if l = noLink then s
  else (s.modLink l (fun k => { k with
    freed := tblSet 0 (tblSet 0 k.freed (2 * m.tc) ((tblGet 0 k.freed (2 * m.tc) + (msgCost m).1) % 65536))
      (2 * m.tc + 1) ((tblGet 0 k.freed (2 * m.tc + 1) + (msgCost m).2) % 65536) })).reportCredits l

/-- A unit takes a message: the entry of the inbox that carries it leaves, and its credits are freed. -/
def State.takeMsg (s : State) (p : Nat) (m : Msg) : State :=
  match (s.inboxOf p).find? (fun a => a.msg == m) with
  | none => s
  | some a => (s.setInbox p (dropFirst (fun a => a.msg == m) (s.inboxOf p))).freeCredits a.link m

/-- A destination refuses a message whose TENANT is not that of its partition (R231); one without tenant has none (R341). -/
def State.refuses (s : State) (p : Nat) (m : Msg) : Bool := (s.part p).st != 1 || m.tenant != (s.part p).tenant

/-- A message that its receiver does not know is discarded and counted in FLIT_BAD of the port it came by (R230). -/
def State.discardMsg (s : State) (p : Nat) (m : Msg) : State :=
  match (s.inboxOf p).find? (fun a => a.msg == m) with
  | none => s
  | some a =>
    let s := s.takeMsg p m
    if a.link = noLink then s else s.bump (aLnk (portOfLink a.link) + rOIOLINK_FLIT_BAD) 1

end Sys2Proof.Machine
end

