-- ==== Sys2Proof/Machine/Operands.lean ====
section
/-! DEFINITION. Operand forms: handles and their shards as cores, channels and the host reach them (R109,
R110, R114, R116), and the endpoint words of descriptors (R167). -/

namespace Sys2Proof.Machine

open Sys2Proof

/-! ## Handles and shards (R109, R110) -/

/-- Bytes of a page. -/
abbrev pageBytes : Nat := 65536

/-- The handle `h` of partition `p`, if it is allocated. -/
def State.handle (s : State) (p h : Nat) : Option HandleSt :=
  if h < 2 ^ (s.usher p).htLog2 then tblGet none (s.usher p).handles h else none

def State.setHandle (s : State) (p h : Nat) (x : Option HandleSt) : State :=
  s.modUsher p (fun u => { u with handles := tblSet none u.handles h x })

/-- Bytes of a full shard. -/
def HandleSt.shardBytes (h : HandleSt) : Nat := 2 ^ h.shardLog2

def HandleSt.shardCount (h : HandleSt) : Nat := ceilDiv h.size h.shardBytes

/-- Bytes of shard `k`; the last shard may be short. -/
def HandleSt.shardLen (h : HandleSt) (k : Nat) : Nat := min h.shardBytes (h.size - k * h.shardBytes)

/-- Pages of shard `k`. -/
def HandleSt.shardPages (h : HandleSt) (k : Nat) : Nat := ceilDiv (h.shardLen k) pageBytes

/-- A shard with no copy anywhere and no count. -/
def ShardSt.init : ShardSt := ⟨none, none, false, false, 0, 0, 0, none, none, none, 0⟩

def HandleSt.shard (h : HandleSt) (k : Nat) : ShardSt := h.shards.getD k ShardSt.init

def HandleSt.modShard (h : HandleSt) (k : Nat) (f : ShardSt → ShardSt) : HandleSt :=
  { h with shards := setAt h.shards k (f (h.shard k)) }

/-- Changes shard `k` of a handle. -/
def State.modShard (s : State) (p h k : Nat) (f : ShardSt → ShardSt) : State :=
  match s.handle p h with
  | some x => s.setHandle p h (some (x.modShard k f))
  | none => s

/-- Global address of a byte of a resident shard. -/
def shardAddr (p : Nat) (loc : Nat × Nat) (off : Nat) : Nat := sliceAddr p loc.1 (loc.2 * pageBytes + off)

/-- A byte range of a handle cut at shard bounds: shard, offset within it, length. -/
def HandleSt.pieces (h : HandleSt) (off n : Nat) : List (Nat × Nat × Nat) :=
  if n = 0 then []
  else
    let b := h.shardBytes
    (List.range ((off + n - 1) / b - off / b + 1)).map (fun i =>
      let k := off / b + i
      let lo := max off (k * b)
      (k, lo - k * b, min (off + n) ((k + 1) * b) - lo))

/-! ## Checks (R114): the codes of Table 3-6, in the order of R381 -/

/-- What an access of `n` bytes at `off` of handle `h` of partition `p` by an agent of partition `q` and
context `ctx` meets: HANDLE_INVALID, ACCESS, NOT_RESIDENT, RANGE or OK. The tenancy of R20 comes first,
since such a request never leaves the requesting partition. -/
def State.handleCheck (s : State) (q ctx p h off n : Nat) : Nat :=
  if q ≠ p ∧ s.sameTenant q p = false then stACCESS
  else match s.handle p h with
    | none => stHANDLE
    | some x =>
      if x.dying then stHANDLE
      else if q = p ∧ x.ctx ≠ ctx then stACCESS
      else if x.resident = false then stNOTRES
      else if x.size < off + n then stRANGE
      else stOK

/-! ## Counting (R116) -/

/-- One access of `b` 4 KiB units from cluster `c` to a shard. -/
def ShardSt.count (x : ShardSt) (c b : Nat) : ShardSt :=
  let x := { x with total := min 65535 (x.total + b) }
  if c = x.topClu then { x with topCnt := x.topCnt + b }
  else if b < x.topCnt then { x with topCnt := x.topCnt - b }
  else { x with topClu := c, topCnt := b - x.topCnt }

/-- A read of a handle's bytes from cluster `c` (none: the host, which is not counted). -/
def State.readHandle (s : State) (p h off n : Nat) (c : Option Nat) : State × List (Byte × Bool) :=
  match s.handle p h with
  | none => (s, [])
  | some x =>
    (x.pieces off n).foldl (fun (a : State × List (Byte × Bool)) e =>
      match (x.shard e.1).loc with
      | none => a
      | some l =>
        let r := a.1.readMem (shardAddr p l e.2.1) e.2.2
        let s := match c with
          | some c => r.1.modShard p h e.1 (fun y => y.count c (ceilDiv e.2.2 4096))
          | none => r.1
        (s, a.2 ++ r.2)) (s, [])

/-- The 4 KiB sub-blocks of a range within a shard. -/
def subBlocks (off n : Nat) : List Nat :=
  if n = 0 then [] else (List.range ((off + n - 1) / 4096 - off / 4096 + 1)).map (· + off / 4096)

/-- A shard that is written: DIRTY, its partner copy out of date, and the sub-blocks of a move in progress
marked (R118 step 1). -/
def ShardSt.wrote (x : ShardSt) (off n : Nat) : ShardSt :=
  { x with
    dirty := true
    pvalid := false
    move := x.move.map (fun m => { m with dirtySub := distinct (m.dirtySub ++ subBlocks off n) }) }

/-- A write to a handle with poison marks; answers whether a partly written word was poisoned. -/
def State.writeHandle (s : State) (p h off : Nat) (cs : List (Byte × Bool)) (c : Option Nat) : State × Bool :=
  match s.handle p h with
  | none => (s, false)
  | some x =>
    let r := (x.pieces off cs.length).foldl (fun (a : State × Bool × List (Byte × Bool)) e =>
      match (x.shard e.1).loc with
      | none => a
      | some l =>
        let r := a.1.writeMarked (shardAddr p l e.2.1) (a.2.2.take e.2.2)
        let s := r.1.modShard p h e.1 (fun y =>
          let y := y.wrote e.2.1 e.2.2
          match c with
          | some c => y.count c (ceilDiv e.2.2 4096)
          | none => y)
        (s, a.2.1 || r.2, a.2.2.drop e.2.2)) (s, false, cs)
    (r.1, r.2.1)

/-! ## Endpoint words (R167) -/

/-- What an endpoint word of Table 6-1 names. -/
inductive Endpt where
  | handle (p h off : Nat)
  | scratch (core a : Nat)
  | host (a : Nat)
  | peer (ctx part h off : Nat)
deriving DecidableEq, Repr

/-- Reads an endpoint word for a channel of cluster `c`; none where a reserved bit is set or a number is out
of its range. -/
def endpoint (c w : Nat) : Option Endpt :=
  let k := bits w 63 62
  if k = 0 then some (.handle (bits w 61 60) (bits w 59 40) (bits w 39 0))
  else if k = 1 then
    if bits w 61 56 = 0 ∧ bits w 49 18 = 0 ∧ bits w 55 50 < 48 then
      some (.scratch (48 * c + bits w 55 50) (bits w 17 0))
    else none
  else if k = 2 then some (.host (bits w 61 0))
  else if bits w 61 50 = 0 then none
  else some (.peer (bits w 61 50) (bits w 49 48) (bits w 47 28) (16 * bits w 27 0))

/-- The context that a channel belongs to: the lowest CTX_CFG mask that names it, else 0 (R166). -/
def State.chanCtx (s : State) (ch : Nat) : Nat :=
  ((List.range 8).find? (fun x => rb (s.reg (aUsh (partOfChan ch) + rUSH_CTX_CFG + 4 * x)) (ch % 16))).getD 0

/-- What an access of a channel to `n` bytes at signed displacement `d` of a local endpoint meets. -/
def State.endCheck (s : State) (ch : Nat) (e : Endpt) (d : Int) (n : Nat) : Nat :=
  match e with
  | .handle p h off =>
    let a : Int := off + d
    if a < 0 then
      (let c := s.handleCheck (partOfChan ch) (s.chanCtx ch) p h 0 0
       if c = stOK then stRANGE else c)
    else s.handleCheck (partOfChan ch) (s.chanCtx ch) p h a.toNat n
  | .scratch _ b =>
    let a : Int := b + d
    if a < 0 ∨ (scratchBytes : Int) < a + n then stADDR else stOK
  | .host b =>
    let a : Int := b + d
    if a < 0 ∨ (2 ^ 62 : Int) < a + n then stRANGE else stOK
  | .peer _ _ _ off =>
    let a : Int := off + d
    if a < 0 ∨ (2 ^ 32 : Int) < a + n then stRANGE else stOK

/-- Whether the host answers a read of `n` bytes at `a` with an error (R182): the ranges are the host's own. -/
def State.hostErr (s : State) (a n : Nat) : Bool :=
  s.hostBad.any (fun r => decide (r.1 < a + n) && decide (a < r.1 + r.2))

abbrev stHOSTERR : Nat := 0x11

/-- What a read of a channel meets: its check, and then an error of the host. -/
def State.readCheck (s : State) (ch : Nat) (e : Endpt) (d : Int) (n : Nat) : Nat :=
  let k := s.endCheck ch e d n
  if k ≠ stOK then k
  else match e with
    | .host b => if s.hostErr (b + d).toNat n then stHOSTERR else stOK
    | _ => stOK

/-- Traffic of partition `p` with an endpoint may cross the package ring; the host lies behind partition 0 (R18, R31).
A peer's messages wait in the relay instead. -/
def State.endOpen (s : State) (p : Nat) (e : Endpt) : Bool :=
  match e with
  | .handle q _ _ => s.ringOpen p q && s.ringOpen q p
  | .scratch _ _ => true
  | .host _ => s.ringOpen p 0 && s.ringOpen 0 p
  | .peer _ _ _ _ => true

/-- Reads `n` bytes at displacement `d` of a local endpoint that passed its check. -/
def State.endRead (s : State) (ch : Nat) (e : Endpt) (d : Int) (n : Nat) : State × List (Byte × Bool) :=
  match e with
  | .handle p h off => s.readHandle p h (off + d).toNat n (some (cluOfChan ch % 12))
  | .scratch core b => s.readMem (scratchAddr core (b + d).toNat) n
  | .host b => (s, (s.hostRead (b + d).toNat n).map (fun x => (x, false)))
  | .peer _ _ _ _ => (s, [])

/-- Writes at displacement `d` of a local endpoint: poisoned bytes go to the host as all ones (R182). Answers
whether a partly written word was poisoned. -/
def State.endWrite (s : State) (ch : Nat) (e : Endpt) (d : Int) (cs : List (Byte × Bool)) : State × Bool :=
  match e with
  | .handle p h off => s.writeHandle p h (off + d).toNat cs (some (cluOfChan ch % 12))
  | .scratch core b => s.writeMarked (scratchAddr core (b + d).toNat) cs
  | .host b => (s.hostWrite (b + d).toNat (cs.map (fun c => if c.2 then 0xFF#8 else c.1)), false)
  | .peer _ _ _ _ => (s, false)

/-! ## Widths (R178) -/

/-- The byte an endpoint's displacement `d` stands at. -/
def Endpt.at_ (e : Endpt) (d : Int) : Nat :=
  match e with
  | .handle _ _ off => (off + d).toNat
  | .scratch _ b => (b + d).toNat
  | .host b => (b + d).toNat
  | .peer _ _ _ off => (off + d).toNat

/-- Bytes of an aligned unit as the memory sees it: memory is read and written by words of 8 B at least. -/
def unitBytes (w : Nat) : Nat := 2 ^ max w 3

/-- The words, as byte positions, of the first and the last aligned unit of width code `w` over `n` bytes from `a`. -/
def edgeWords (w a n : Nat) : List Nat :=
  if n = 0 then []
  else distinct ([a / unitBytes w, (a + n - 1) / unitBytes w].flatMap (fun u =>
    (List.range (unitBytes w / 8)).map (fun i => u * unitBytes w + 8 * i)))

/-- The words of those units that are not written whole: the unit has a byte outside the row. -/
def partWords (w a n : Nat) : List Nat :=
  (edgeWords w a n).filter (fun o => decide (o / unitBytes w * unitBytes w < a)
    || decide (a + n < (o / unitBytes w + 1) * unitBytes w))

/-- The memory word at byte `o` of an endpoint, where it has one. -/
def State.endWord (s : State) (e : Endpt) (o : Nat) : Option Nat :=
  match e with
  | .handle p h _ =>
    match s.handle p h with
    | some x => ((x.shard (o / x.shardBytes)).loc).map (fun l => shardAddr p l (o % x.shardBytes) / 8)
    | none => none
  | .scratch core _ => some (scratchAddr core o / 8)
  | _ => none

/-- Reads words of an endpoint for their check bits alone; answers whether one was poisoned. -/
def State.touchWords (s : State) (e : Endpt) (fixed : Bool) (os : List Nat) : State × Bool :=
  os.foldl (fun (x : State × Bool) o =>
    match x.1.endWord e o with
    | some w =>
      let t := x.1.touch fixed w
      (t, x.2 || decide (t.health w = .poisoned))
    | none => x) (s, false)

/-- Reads a row as the aligned units of width code `w` that cover it; answers the row and whether a unit held a poisoned
word. -/
def State.unitRead (s : State) (ch : Nat) (e : Endpt) (w : Nat) (d : Int) (n : Nat) : State × List (Byte × Bool) × Bool :=
  let t := s.touchWords e false (edgeWords w (e.at_ d) n)
  let r := t.1.endRead ch e d n
  (r.1, r.2, t.2 || anyPoison r.2)

/-- Writes a row as aligned units of width code `w`. A unit of a handle that is not wholly written is a read-modify-write of
each word it touches: a word written whole loses its poison, any other keeps it (log 66). Answers whether one did. -/
def State.unitWrite (s : State) (ch : Nat) (e : Endpt) (w : Nat) (d : Int) (cs : List (Byte × Bool)) : State × Bool :=
  let a := e.at_ d
  let os := match e with
    | .handle _ _ _ => partWords w a cs.length
    | _ => []
  let t := s.touchWords e true (os.filter (fun o => decide (a ≤ o) && decide (o + 8 ≤ a + cs.length)))
  let u := t.1.touchWords e true (os.filter (fun o => !(decide (a ≤ o) && decide (o + 8 ≤ a + cs.length))))
  let r := u.1.endWrite ch e d cs
  (r.1, u.2 || r.2)

end Sys2Proof.Machine
end

