-- ==== Sys2Proof/Machine/CoreBase.lean ====
section
/-! DEFINITION. The core sequencer's queue (R67 to R69), the completion of a record (R71), and the start of
a drain with the records that end ABORTED (R72 to R74). -/

namespace Sys2Proof.Machine

open Sys2Proof

/-! ## The ring (R67) -/

abbrev cHALTED : Nat := 0
abbrev cRUNNING : Nat := 1
abbrev cDRAINING : Nat := 2

/-- Slots of the ring: 2^LOG2, values outside 4 to 12 acting as 4. -/
def State.qSlots (s : State) (i : Nat) : Nat :=
  let n := s.fld (aCore i + rCORE_QSIZE) 3 0
  if 4 ≤ n ∧ n ≤ 12 then 2 ^ n else 16

/-- Scratch offset of a slot; where a slot of a ring that runs past the end of scratch lies is a free value (log 14). -/
def State.slotOff (s : State) (i idx : Nat) : Nat :=
  let a := s.fld (aCore i + rCORE_QBASE) 11 0 * 64 + 32 * idx
  if a < scratchBytes then a else 32 * (Config.ringBeyond a % (scratchBytes / 32))

def State.objVal (s : State) (p o : Nat) : Nat := tblGet 0 (s.sync p).vals o

/-- QCTL.TAIL_SRC. -/
def State.tailSrc (s : State) (i : Nat) : Bool := rb (s.reg (aCore i + rCORE_QCTL)) 0

/-- The effective tail: QTAIL, or the value of TAIL_OBJ, modulo the ring size. DEDUCED (log 63): Table 3-2 takes TAIL_OBJ
modulo the size, and a QTAIL or QHEAD beyond the ring is taken the same way. -/
def State.qTail (s : State) (i : Nat) : Nat :=
  (if s.tailSrc i then s.objVal (partOfCore i) (s.fld (aCore i + rCORE_QCTL) 31 16)
   else s.fld (aCore i + rCORE_QTAIL) 11 0) % s.qSlots i

/-- How far slot `b` lies ahead of slot `a` in the ring. -/
def State.ahead (s : State) (i a b : Nat) : Nat := (b + s.qSlots i - a % s.qSlots i) % s.qSlots i

/-- The scratch regions of the slots from QDONE up to the tail (R69). -/
def State.queueRegions (s : State) (i : Nat) : List (Nat × Nat) :=
  (List.range (s.ahead i (s.core i).qdone (s.qTail i))).map (fun k =>
    (s.slotOff i (((s.core i).qdone + k) % s.qSlots i), 32))

/-- Fetches one slot if RUNNING, fewer than 8 are ahead of issue and the tail is not reached; a slot that
completed before the last halt is skipped (R68, R72). -/
def State.fetchOne (s : State) (i : Nat) : State :=
  let c := s.core i
  if c.st ≠ cRUNNING ∨ 8 ≤ c.fetched.length ∨ c.qhead % s.qSlots i = s.qTail i then s
  else
    let idx := c.qhead % s.qSlots i
    let next := (idx + 1) % s.qSlots i
    if idx ∈ c.skip then s.modCore i (fun c => { c with qhead := next })
    else
      let r := s.readMem (scratchAddr i (s.slotOff i idx)) 32
      r.1.modCore i (fun c => { c with
        qhead := next, fetched := c.fetched ++ [⟨idx, plain r.2, anyPoison r.2⟩] })

/-- Fetches as far as R68 allows: at most 8 slots, and 7 skipped ones. -/
def State.fetch (s : State) (i : Nat) : State := forN (fun _ s => s.fetchOne i) 16 s

/-! ## Completion (R71) -/

/-- The oldest slot not completed: of a record in flight, else the next fetched one, else QHEAD. -/
def State.oldest (s : State) (i : Nat) : Nat :=
  match (s.core i).flight.find? (fun f => !f.done || f.code == stABORT) with
  | some f => f.slot.idx
  | none =>
    match (s.core i).fetched.head? with
    | some x => x.idx
    | none => (s.core i).qhead % s.qSlots i

/-- QDONE passes every completed slot; records and skip marks that it has passed are dropped. -/
def State.advance (s : State) (i : Nat) : State :=
  let d := s.oldest i
  let old := (s.core i).qdone
  let n := s.ahead i old d
  s.modCore i (fun c => { c with
    qdone := d
    skip := c.skip.filter (fun x => decide (n ≤ s.ahead i old x))
    flight := c.flight.dropWhile (fun f => f.done && f.code != stABORT) })

/-- Changes the record of a slot in flight that has not completed. -/
def State.modFlight (s : State) (i idx : Nat) (f : Flight → Flight) : State :=
  s.modCore i (fun c => { c with
    flight := c.flight.map (fun x => if x.slot.idx = idx ∧ x.done = false then f x else x) })

def State.flightAt (s : State) (i idx : Nat) : Option Flight :=
  (s.core i).flight.find? (fun f => f.slot.idx == idx && !f.done)

/-- The status word goes back into the slot when WB = 1 or the code is not OK; IRQ copies the tag; the flags
join ARITH_FLAGS. -/
def State.writeBack (s : State) (i : Nat) (f : Flight) : State :=
  let s := s.setReg (aCore i + rCORE_ARITH_FLAGS)
    (s.reg (aCore i + rCORE_ARITH_FLAGS) ||| BitVec.ofNat 32 (f.flags % 512))
  let s := if recWB f.slot.bytes || f.code != stOK then
      (s.writeMem (scratchAddr i ((s.slotOff i f.slot.idx + 28) % scratchBytes))
        (leBytes 4 (statusWord f.code f.flags f.late))).1
    else s
  if recIRQ f.slot.bytes then
    (s.setFld (aCore i + rCORE_LAST_TAG) 15 0 (recTAG f.slot.bytes)).evCore i evCORE_REC_IRQ 0 0
  else s

/-- The code a record completes with: a status word that a poisoned word of scratch takes makes it ECC_UNCORR (R379). -/
def State.endCode (s : State) (i : Nat) (f : Flight) : Nat :=
  if f.code = stOK ∧ recWB f.slot.bytes = true
      ∧ (s.writeBack i f).health (scratchAddr i ((s.slotOff i f.slot.idx + 28) % scratchBytes) / 8) = .poisoned then stECC
  else f.code

/-- A record in flight takes its final code and is written back. -/
def State.endFlight (s : State) (i idx : Nat) : State :=
  match s.flightAt i idx with
  | none => s
  | some f => (s.writeBack i f).modFlight i idx (fun x => { x with done := true, code := s.endCode i f, undo := [] })

/-- A record ends with ABORTED: a wait leaves the sync unit, a ticket request the box office (R73, R74). DEDUCED (log 63):
it completes as R71 says, so with IRQ = 1 it copies its TAG and sets REC_IRQ. -/
def State.abortFlight (s : State) (i : Nat) (f : Flight) : State :=
  let op := recOp f.slot.bytes
  let s := if op = 0x0A then
      s.modSync (partOfCore i) (fun y => { y with waiters := y.waiters.filter (fun w => w.src != i) })
    else if op = 0x0B then (if f.asked then s.boxCancel i (leAt f.slot.bytes 4 2) else s)
    else s
  (s.modFlight i f.slot.idx (fun f => { f with code := stABORT })).endFlight i f.slot.idx

/-- A record that waits on an outside condition: WAIT, TICKET or CUE_WAIT. -/
def Flight.waits (f : Flight) : Bool :=
  let op := recOp f.slot.bytes
  !f.done && !f.acted && f.code == stOK && (op == 0x0A || op == 0x0B || op == 0x0D)

/-- A record that has issued but whose effect has not been taken: SIGNAL, RETURN, FENCE or END. -/
def Flight.unacted (f : Flight) : Bool :=
  let op := recOp f.slot.bytes
  !f.done && !f.acted && f.code == stOK && (op == 0x09 || op == 0x0C || op == 0x0E || op == 0x0F)

/-- The records after the one of slot `idx` in program order. -/
def CoreSt.after (c : CoreSt) (idx : Nat) : List Flight :=
  (c.flight.dropWhile (fun f => f.slot.idx != idx)).drop 1

/-- The records before the one of slot `idx` in program order. -/
def CoreSt.before (c : CoreSt) (idx : Nat) : List Flight := c.flight.takeWhile (fun f => f.slot.idx != idx)

/-- A FENCE that waits for a SIGNAL (bit 3 of MASK, R96) which has ended without effect: its condition can never hold. -/
def CoreSt.fenceDead (c : CoreSt) (f : Flight) : Bool :=
  let m := recF f.slot.bytes 4 1 3 0
  f.unacted && recOp f.slot.bytes == 0x0E && (m == 0 || bit m 3)
    && (c.before f.slot.idx).any (fun g => recOp g.slot.bytes == 0x09 && g.done && g.code != stOK)

/-- The FENCEs that can never be met end with ABORTED (DEDUCED, log 15). -/
def State.abortDead (s : State) (i : Nat) : State :=
  ((s.core i).flight.filter (s.core i).fenceDead).foldl (fun s f => s.abortFlight i f) s

/-- What a fault at `idx` ends behind it: the waits and SIGNALs of R73, and a later RETURN or END that has not taken
effect (DEDUCED for these two, log 15: no record behind a fault has an effect outside the core). A FENCE is in flight and
completes when its conditions hold (R72). -/
def State.abortBehind (s : State) (i idx : Nat) : State :=
  ((((s.core i).after idx).filter (fun f => f.waits || (f.unacted && recOp f.slot.bytes != 0x0E))).foldl
    (fun s f => s.abortFlight i f) s).abortDead i

/-- What STOP ends: every wait (R74), and behind an aborted one every SIGNAL and END that has not taken effect, as they
ask that every earlier record has completed (DEDUCED, log 15). -/
def State.abortWaits (s : State) (i : Nat) : State :=
  match (s.core i).flight.find? Flight.waits with
  | none => s
  | some f =>
    let s := ((s.core i).flight.filter Flight.waits).foldl (fun s f => s.abortFlight i f) s
    ((((s.core i).after f.slot.idx).filter (fun g =>
      g.unacted && (recOp g.slot.bytes == 0x09 || recOp g.slot.bytes == 0x0F))).foldl
      (fun s g => s.abortFlight i g) s).abortDead i

/-- A record completed with an error code: issue stops and the core drains (R72). Of two faults the earlier
in program order is kept. -/
def State.faultAt (s : State) (i idx code : Nat) : State :=
  let c := s.core i
  let first := match c.fault with
    | none => true
    | some e => decide (s.ahead i c.qdone idx < s.ahead i c.qdone e.1)
  let s := s.modCore i (fun c => { c with st := cDRAINING, fault := if first then some (idx, code) else c.fault })
  s.abortBehind i idx

/-- A record completes: its status, and then QDONE or the drain. -/
def State.finish (s : State) (i idx : Nat) : State :=
  match s.flightAt i idx with
  | none => s
  | some f =>
    let code := s.endCode i f
    let s := s.endFlight i idx
    if code ≠ stOK ∧ code ≠ stABORT then s.faultAt i idx code
    else if (s.core i).st = cRUNNING then s.advance i
    else s

end Sys2Proof.Machine
end

