-- ==== Sys2Proof/Machine/SyncBase.lean ====
section
/-! DEFINITION. Operations on sync objects and their waiters (R136 to R142), and sending a remote signal
(R143, R145). -/

namespace Sys2Proof.Machine

open Sys2Proof

/-- Source number of host operations (R137). -/
abbrev srcHost : Nat := 0xF000

/-- Wait-greater-or-equal compares modulo 2^32 (R138). -/
def objGe (value thr : Nat) : Bool := decide ((value + 2 ^ 32 - thr % 2 ^ 32) % 2 ^ 32 < 2 ^ 31)

/-- Whether a sequence is at or before another in the sense of R138. -/
def seqLe (a b : Nat) : Bool := objGe b a

/-- A waiter's condition on a value (R138, R139). -/
def Waiter.holds (w : Waiter) (v : Nat) : Bool := if w.eq then v == w.thr % 2 ^ 32 else objGe v w.thr

/-- A waiter is released: a core's leaves the table and its WAIT record is met; a channel's or Usher's keeps
its entry, met, until the unit starts. -/
def State.releaseWaiter (s : State) (p : Nat) (w : Waiter) : State :=
  if w.src < 2304 then
    (s.modSync p (fun y => { y with waiters := y.waiters.filter (fun x => x.src != w.src) })).modCore w.src
      (fun c => { c with flight := c.flight.map (fun f =>
        if recOp f.slot.bytes = 0x0A ∧ f.done = false then { f with acted := true } else f) })
  else s.modSync p (fun y => { y with waiters := y.waiters.map (fun x =>
    if x.src = w.src then { x with met := true } else x) })

/-- The cores of a partition whose tail is the value of an object take the new tail (R68). -/
def State.tailMoved (s : State) (p o : Nat) : State :=
  ((s.cores.map Prod.fst).filter (fun i => i / 576 == p && s.tailSrc i
    && s.fld (aCore i + rCORE_QCTL) 31 16 == o)).foldl (fun s i => s.fetch i) s

/-- One operation on an object of partition `p`: the new value, then every waiter on it in order of
registration (R137), then the tails it supplies. -/
def State.objOp (s : State) (p o : Nat) (set : Bool) (v : Nat) : State :=
  let new := (if set then v else s.objVal p o + v) % 2 ^ 32
  let s := s.modSync p (fun y => { y with vals := tblSet 0 y.vals o new })
  let s := ((s.sync p).waiters.filter (fun w => w.obj == o && !w.met && w.holds new)).foldl
    (fun s w => s.releaseWaiter p w) s
  s.tailMoved p o

/-- Registers a wait; a condition already met releases the waiter (R140). -/
def State.addWaiter (s : State) (p : Nat) (w : Waiter) : State :=
  let s := s.modSync p (fun y => { y with waiters := y.waiters.filter (fun x => x.src != w.src) ++ [w] })
  if w.holds (s.objVal p w.obj) then s.releaseWaiter p w else s

/-- Removes the wait of a source. -/
def State.dropWaiter (s : State) (p src : Nat) : State :=
  s.modSync p (fun y => { y with waiters := y.waiters.filter (fun x => x.src != src) })

def State.waiterOf (s : State) (p src : Nat) : Option Waiter :=
  (s.sync p).waiters.find? (fun w => w.src == src)

/-- SYNp.WAIT_DEF; 0 acts as 1. -/
def State.waitDef (s : State) (p : Nat) : Nat := max 1 (s.fld (aSyn p + rSYN_WAIT_DEF) 31 0)

/-- Registered waits that are not met (SYNp.WAITERS). -/
def State.waiters (s : State) (p : Nat) : Nat := ((s.sync p).waiters.filter (fun w => !w.met)).length

/-! ## Sync messages (Table 5-3) -/

abbrev kSIGNAL : Nat := 0
abbrev kACK : Nat := 1
abbrev kQUERY : Nat := 2
abbrev kREPLY : Nat := 3
abbrev kSKIP : Nat := 4
abbrev kREFUSED : Nat := 5
abbrev kDROPPED : Nat := 6

/-- The 16 bytes of a sync message. -/
def syncBody (kind : Nat) (set : Bool) (part obj value seq src : Nat) : List Byte :=
  leBytes 1 (kind + 8 * b2n set) ++ leBytes 1 part ++ leBytes 2 obj ++ leBytes 4 value ++ leBytes 4 seq
    ++ leBytes 2 src ++ leBytes 2 0

def syncKind (b : List Byte) : Nat := bits (leAt b 0 1) 2 0
def syncSet (b : List Byte) : Bool := bit (leAt b 0 1) 3
def syncPart (b : List Byte) : Nat := bits (leAt b 1 1) 1 0
def syncObj (b : List Byte) : Nat := leAt b 2 2
def syncVal (b : List Byte) : Nat := leAt b 4 4
def syncSeq (b : List Byte) : Nat := leAt b 8 4

/-- The traffic class of sync messages. -/
abbrev tcSync : Nat := 1

def State.peerSeq (s : State) (p c : Nat) : PeerSeq := tblGet PeerSeq.init (s.sync p).peers c

def State.modPeerSeq (s : State) (p c : Nat) (f : PeerSeq → PeerSeq) : State :=
  s.modSync p (fun y => { y with peers := tblSet PeerSeq.init y.peers c (f (tblGet PeerSeq.init y.peers c)) })

/-- Remote signals of a partition not acknowledged (SYNp.SIG_UNACK). -/
def State.unackCount (s : State) (p : Nat) : Nat :=
  ((s.sync p).peers.map (fun e => e.2.unacked.length)).sum

/-- Sends a sync message to a peer context; answers whether it has a route. -/
def State.sendSync (s : State) (p c kind : Nat) (set : Bool) (obj value seq src : Nat) : State × Bool :=
  s.sendPeer p c tcSync (s.peerPart c) 0 (syncBody kind set (s.peerPart c) obj value seq src)

/-- What came of a remote SIGNAL at the moment it could take effect. -/
inductive Sent where
  | sent (seq : Nat)
  | refused (code : Nat)
  | held
deriving DecidableEq, Repr

/-- The signals of a RESEND leave in order while fewer than 256 are unacknowledged (R145, R147). -/
def State.resendMore (s : State) (p : Nat) : State :=
  ((s.sync p).peers.map Prod.fst).foldl (fun s c =>
    forN (fun _ s =>
      match (s.peerSeq p c).again with
      | [] => s
      | u :: r =>
        if 256 ≤ s.unackCount p then s
        else
          let t := s.sendPeer p c tcSync u.part 0 (syncBody kSIGNAL u.set u.part u.obj u.value u.seq (srcSync p))
          t.1.modPeerSeq p c (fun x => { x with again := r, unacked := x.unacked ++ [u] })) 256 s) s

/-- A remote SIGNAL of core `src` leaves (R143, R145, R146, R264, R271). -/
def State.remoteSignal (s : State) (src c : Nat) (set : Bool) (obj value : Nat) : State × Sent :=
  let p := partOfCore src
  let ps := s.peerSeq p c
  if s.mayName p c = false then (s, .refused stACCESS)
  else if ps.state ≠ 0 then (s, .refused stLINKDN)
  else if 256 ≤ s.unackCount p ∨ ps.again ≠ [] then (s, .held)
  else
    let r := s.sendSync p c kSIGNAL set obj value ps.tx src
    if r.2 = false then (r.1, .refused stLINKDN)
    else (r.1.modPeerSeq p c (fun x => { x with
      tx := (x.tx + 1) % 2 ^ 32
      unacked := x.unacked ++ [⟨ps.tx, src, s.peerPart c, obj, set, value⟩] }), .sent ps.tx)

/-- Whether a remote SIGNAL that left is acknowledged. -/
def State.signalAcked (s : State) (core c seq : Nat) : Bool :=
  !((s.peerSeq (partOfCore core) c).unacked.any (fun u => u.seq == seq && u.src == core))

end Sys2Proof.Machine
end

