-- ==== Sys2Proof/Machine/Dot.lean ====
section
/-! DEFINITION. The dot array: reading operands in dot-array operand order (R176), the anchor (R52),
one dot product into an accumulator (R50 to R54, R58, R61), and the tiles of a MATMUL (R76 to R79).
Scratch is given as a function from an address and a length to bytes. -/

namespace Sys2Proof.Machine

open Sys2Proof

/-- One row of A or column of B: element codes, block-scale codes and slice scales. -/
structure Operand where
  elems : List Nat
  blocks : List Nat
  slices : List Nat
deriving DecidableEq, Repr

/-- Row `r` of an operand of `k` elements in groups of `g`, read at `base` (Table 6-5; the dense
formats are rows of `k` contiguous elements). -/
def readOperand (rd : Nat → Nat → List Byte) (f : Fmt) (g base k r : Nat) : Operand :=
  if fmtBlock f = 1 then
    let w := fmtRecBytes f
    let bs := rd (base + r * k * w) (k * w)
    ⟨(List.range k).map (fun i => leAt bs (i * w) w), [], []⟩
  else
    let nb := k / fmtBlock f
    let ns := if f = .vb4 then ceilDiv k 2048 else 0
    let e := fmtRecBytes f - 1
    let gBytes := 4 * ns * g + nb * g + e * nb * g
    let gb := base + r / g * gBytes
    let rr := r % g
    let bb := gb + 4 * ns * g
    let eb := bb + nb * g
    let w := encBits (fmtEnc f)
    ⟨((List.range nb).map (fun b =>
        let v := leOf (rd (eb + e * (b * g + rr)) e)
        (List.range (fmtBlock f)).map (fun j => v / 2 ^ (w * j) % 2 ^ w))).flatten,
     (List.range nb).map (fun b => leOf (rd (bb + b * g + rr) 1)),
     (List.range ns).map (fun s => leOf (rd (gb + 4 * (s * g + rr)) 4))⟩

/-- The block-scale code over element `i`, 0 for a dense format. -/
def opBlock (f : Fmt) (o : Operand) (i : Nat) : Nat := o.blocks.getD (i / fmtBlock f) 0

/-- The slice scale over element `i`. -/
def opSlice (o : Operand) (i : Nat) : Nat := o.slices.getD (i / 2048) 0

/-- The element value at `i`, no scale applied. -/
def opElem (f : Fmt) (o : Operand) (i : Nat) : Val := decodeElem (fmtEnc f) (o.elems.getD i 0)

/-- The product of the scales over element `i` as a signed dyadic number (R50). -/
def opScale (f : Fmt) (o : Operand) (i : Nat) : Dy :=
  if f = .vb4 then
    let s := encMag .e4m3 (opBlock f o i)
    let w := opSlice o i
    let g := encMag .b32 (w % 2 ^ 31)
    ⟨(if bit w 31 then -1 else 1) * (s.1 * g.1 : Nat), s.2 + g.2⟩
  else if fmtIsMx f then ⟨1, kappaMx (opBlock f o i)⟩
  else ⟨1, 0⟩

/-- Whether element `i` lies in an invalid VB4 block or slice (first row of Table 2-8). -/
def opBlkBad (f : Fmt) (o : Operand) (i : Nat) : Bool :=
  f == .vb4 && (vb4ScaleBad (opBlock f o i) || sliceScaleBad (opSlice o i))

/-- Whether element `i` counts as NaN (second row of Table 2-8). -/
def opNan (f : Fmt) (o : Operand) (i : Nat) : Bool :=
  (fmtIsMx f && opBlock f o i == 0xFF) || (match opElem f o i with | .nan _ => true | _ => false)

/-- Whether the value of element `i`, scales applied, is zero. -/
def opZero (f : Fmt) (o : Operand) (i : Nat) : Bool :=
  match opElem f o i with
  | .fin _ m _ => m == 0 || (opScale f o i).m == 0
  | _ => false

/-- Whether element `i` is infinite, and its sign with the scales applied. -/
def opInf (f : Fmt) (o : Operand) (i : Nat) : Option Bool :=
  match opElem f o i with
  | .inf n => some (n != decide ((opScale f o i).m < 0))
  | _ => none

/-- The coarse exponent of an operand over element `i` (Table 2-7); BF16's is one for the whole row. -/
def opKappa (f : Fmt) (o : Operand) (i : Nat) : Int :=
  match f with
  | .vb4 => kappaSlice (opSlice o i)
  | .bf16 => (o.elems.map bf16Exp).foldl max (-126) + 1
  | _ => if fmtIsMx f then kappaMx (opBlock f o i) else 0

/-- Whether an operand lets the group at element `i` contribute to the anchor (Table 2-7). -/
def opContributes (f : Fmt) (o : Operand) (i : Nat) : Bool :=
  f != .vb4 || sliceContributes (opSlice o i)

/-- The anchor of R52, −32,768 when no group contributes. -/
def anchorOf (fa fb : Fmt) (a b : Operand) (k : Nat) : Int :=
  (List.range (k / 16)).foldl (fun acc g =>
    if opContributes fa a (16 * g) && opContributes fb b (16 * g) then
      max acc (opKappa fa a (16 * g) + opKappa fb b (16 * g) + fmtFine fa + fmtFine fb + 4)
    else acc) (-32768)

/-- The special code of a dot product and its flags, by the first row of Table 2-8 that applies. -/
def dotSpecial (fa fb : Fmt) (a b : Operand) (k : Nat) : Nat × Flags :=
  let ix := List.range k
  let pinf := fun i => match opInf fa a i, opInf fb b i with
    | some s, some t => some (s != t)
    | some s, none => some (s != (match opElem fb b i with
        | .fin n _ _ => n != decide ((opScale fb b i).m < 0) | _ => false))
    | none, some t => some (t != (match opElem fa a i with
        | .fin n _ _ => n != decide ((opScale fa a i).m < 0) | _ => false))
    | none, none => none
  if ix.any (fun i => opBlkBad fa a i || opBlkBad fb b i) then (3, fBlkInvalid)
  else if ix.any (fun i => opNan fa a i || opNan fb b i) then (3, fNanIn)
  else if ix.any (fun i => ((opInf fa a i).isSome && opZero fb b i) || ((opInf fb b i).isSome && opZero fa a i)) then
    (3, fInvalid)
  else
    let pos := ix.any (fun i => pinf i == some false)
    let neg := ix.any (fun i => pinf i == some true)
    if pos && neg then (3, fInvalid) else if pos then (1, noFlags) else if neg then (2, noFlags) else (0, noFlags)

/-- The product of elements `i`, no scale applied; a special element gives 0 (it acts by Table 2-8 alone). -/
def opProduct (fa fb : Fmt) (a b : Operand) (i : Nat) : Dy := dyMul (valDy (opElem fa a i)) (valDy (opElem fb b i))

/-- The terms of a dot product: one for each group of 16 products, or one for each product of BF16 (R50). -/
def dotTerms (fa fb : Fmt) (a b : Operand) (k : Nat) : List Dy :=
  if fa = .bf16 ∧ fb = .bf16 then (List.range k).map (opProduct fa fb a b)
  else (List.range (k / 16)).map (fun g =>
    let s := (List.range 16).foldl (fun acc j => dyAdd acc (opProduct fa fb a b (16 * g + j))) ⟨0, 0⟩
    dyMul s (dyMul (opScale fa a (16 * g)) (opScale fb b (16 * g))))

/-- Inserts a ranked term in rank order. -/
def rankIns (p : Nat × Dy) : List (Nat × Dy) → List (Nat × Dy)
  | [] => [p]
  | q :: r => if p.1 < q.1 then p :: q :: r else q :: rankIns p r

/-- The terms in the order in which the hardware happens to add them (log 3): free where the order
can be seen, which is only where the sum of magnitudes reaches the bound of R54. -/
def orderTerms (ctr : Nat) (x : Xa) (ts : List Dy) : List Dy :=
  let total := ts.foldl (fun s t => s + (shiftTrunc t.m (t.e - (x.anchor - 279))).1.natAbs) x.val.natAbs
  if total < xaBound then ts
  else ((ts.zipIdx.map (fun p => (Config.termRank ctr p.2, p.1))).foldr rankIns []).map Prod.snd

/-- One dot product into an accumulator: `x0` is the accumulator before (the no-anchor state for ACC = 0). -/
def dotInto (ctr : Nat) (fa fb : Fmt) (a b : Operand) (k : Nat) (x0 : Xa) : Xa × Flags :=
  let x1 := reanchor x0 (anchorOf fa fb a b k)
  let sp := dotSpecial fa fb a b k
  let c := combineCodes x0.code sp.1
  let x2 : Xa := { x1 with code := c.1, kcum := min (x0.kcum + k) 0xFFFFFFFF }
  let x3 := (orderTerms ctr x2 (dotTerms fa fb a b k)).foldl addTerm x2
  let ovf := decide (c.1 = 0) && decide (x3.code ≠ 0)
  (x3, orFlags sp.2 (orFlags { noFlags with xaOvf := ovf } (if c.2 then fInvalid else noFlags)))

/-- DEDUCED (log 62). A record that leaves its result in the bank sets INEXACT when it sets STICKY (Table 2-9). -/
def dotLoses (x0 x1 : Xa) : Bool := x1.sticky && !x0.sticky

/-- What a MATMUL writes: the bytes of C as address and bytes, the accumulators of both banks, and the flags. -/
structure DotOut where
  writes : List (Nat × List Byte)
  banks : List (Nat × Xa)
  flags : Flags
deriving DecidableEq, Repr

/-- One output element: its accumulator, the bytes of C (none under KEEP) and the flags (R55, R57, R78). -/
def matmulElem (rd : Nat → Nat → List Byte) (xaOf : Nat → Xa) (ctr : Nat) (o : MatmulOp) (i j : Nat) :
    Nat × Xa × List (Nat × List Byte) × Flags :=
  let fa := (fmtOf o.fmtA).getD .b32
  let fb := (fmtOf o.fmtB).getD .b32
  let t := i / 8 * (o.n / 4) + j / 4
  let cell := (o.bank + t) % 2 * 32 + 8 * (j % 4) + i % 8
  let a := readOperand rd fa 8 o.a o.k i
  let b := readOperand rd fb 4 o.b o.k j
  let x := dotInto (ctr + i * o.n + j) fa fb a b o.k (if o.acc then xaOf cell else Xa.none)
  if o.keep then (cell, x.1, [], orFlags x.2 { noFlags with inexact := x.1.code == 0 && dotLoses (if o.acc then xaOf cell else Xa.none) x.1 })
  else
    let c := outEnc o.fmtC
    let ld := if o.cld = 0 then o.n else o.cld
    let r := if o.sr then Rnd.sr (srRnd o.handle (o.idx0 + i * ld + j) o.step) else Rnd.rne
    let q := roundXa c o.satur r x.1
    let w := encBytes c
    (cell, x.1, [(o.c + (i * o.n + j) * w, leBytes w q.1)], orFlags x.2 q.2)

/-- A whole MATMUL: the elements in tile order, so each bank is left with its last tile (R78). -/
def runMatmul (rd : Nat → Nat → List Byte) (xaOf : Nat → Xa) (ctr : Nat) (o : MatmulOp) : DotOut :=
  let tiles := (List.range (o.m / 8)).flatMap (fun tr => (List.range (o.n / 4)).map (fun tc => (tr, tc)))
  let es := tiles.flatMap (fun t => (List.range 8).flatMap (fun r => (List.range 4).map (fun c =>
    matmulElem rd xaOf ctr o (8 * t.1 + r) (4 * t.2 + c))))
  ⟨es.flatMap (fun e => e.2.2.1), es.map (fun e => (e.1, e.2.1)), es.foldl (fun f e => orFlags f e.2.2.2) noFlags⟩

/-- The bytes XA_SPILL writes into its 32 slots of 48 (R91). -/
def runSpill (xaOf : Nat → Xa) (o : SpillOp) : List (Nat × List Byte) :=
  (List.range 32).map (fun l =>
    let x := xaOf (o.bank * 32 + l)
    (o.addr + 48 * l, if o.form = 0 then spillBytes x else padTo 48 (fragBytes x)))

/-- The accumulators XA_FILL reads from its 32 slots, and whether INVALID is set: by a malformed
fragment (R91), and by a reserved special code, which is taken as NaN (Table 2-11; log 6). -/
def runFill (rd : Nat → Nat → List Byte) (o : SpillOp) : List (Nat × Xa) × Bool :=
  let ls := (List.range 32).map (fun l =>
    let bs := rd (o.addr + 48 * l) 48
    if o.form = 0 then
      let u := unspill bs
      (o.bank * 32 + l, u.1, u.2)
    else
      let f := readFrag bs
      (o.bank * 32 + l, f.1, f.2.2))
  (ls.map (fun e => (e.1, e.2.1)), ls.any (fun e => e.2.2))

end Sys2Proof.Machine
end

