-- ==== Sys2Proof/Machine/Vector.lean ====
section
/-! DEFINITION. The vector unit: binary32 arithmetic (R85), the transcendentals (R86) within the bounds
of Table 3-12, ROWSUM's order (R87), SOFTMAX_STREAM (R89) and CONVERT (R90). A binary32 is its bit
pattern. -/

namespace Sys2Proof.Machine

open Sys2Proof

/-! ## binary32 values -/

abbrev f32Nan : Nat := 0x7FC00000
abbrev f32Inf : Nat := 0x7F800000
abbrev f32One : Nat := 0x3F800000

/-- A binary32 with a sign. -/
def f32S (neg : Bool) (k : Nat) : Nat := withSign .b32 neg k

/-- The value of a bit pattern. -/
def f32V (w : Nat) : Val := decodeElem .b32 w

/-- Whether a pattern is a NaN. -/
def f32IsNan (w : Nat) : Bool := match f32V w with | .nan _ => true | _ => false

/-- Sign bit. -/
def f32Neg (w : Nat) : Bool := bit w 31

/-- NAN_IN for the NaN elements among those read (R85). -/
def nanFlags (ws : List Nat) : Flags := if ws.any f32IsNan then fNanIn else noFlags

/-- A signed dyadic result rounded once; an exact zero takes the given sign. -/
def f32Round (zeroNeg : Bool) (d : Dy) : Nat × Flags :=
  if d.m = 0 then (f32S zeroNeg 0, noFlags)
  else convFin .b32 false .rne (decide (d.m < 0)) (magDy d.m.natAbs d.e)

/-- `a × b + c` with one rounding. -/
def f32Fma (a b c : Nat) : Nat × Flags :=
  let fl := nanFlags [a, b, c]
  match f32V a, f32V b, f32V c with
  | .nan _, _, _ => (f32Nan, fl)
  | _, .nan _, _ => (f32Nan, fl)
  | va, vb, vc =>
    let ps := f32Neg a != f32Neg b
    let z := fun v => match v with | Val.fin _ 0 _ => true | _ => false
    let isInf := fun v => match v with | Val.inf _ => true | _ => false
    if (isInf va && z vb) || (isInf vb && z va) then
      (f32Nan, if f32IsNan c then fl else orFlags fl fInvalid)
    else match vc with
      | .nan _ => (f32Nan, fl)
      | .inf n =>
        if (isInf va || isInf vb) && ps != n then (f32Nan, fInvalid) else (f32S n f32Inf, noFlags)
      | .fin cn cm ce =>
        if isInf va || isInf vb then (f32S ps f32Inf, noFlags)
        else
          let p := dyMul (valDy va) (valDy vb)
          let s := dyAdd p (valDy (.fin cn cm ce))
          f32Round (ps && cn && p.m == 0 && cm == 0) s

/-- Addition: `a × 1 + b` is exact in the product, so it is `a + b` rounded once. -/
def f32Add (a b : Nat) : Nat × Flags :=
  let fl := nanFlags [a, b]
  match f32V a, f32V b with
  | .nan _, _ => (f32Nan, fl)
  | _, .nan _ => (f32Nan, fl)
  | .inf m, .inf n => if m != n then (f32Nan, fInvalid) else (f32S m f32Inf, noFlags)
  | .inf m, _ => (f32S m f32Inf, noFlags)
  | _, .inf n => (f32S n f32Inf, noFlags)
  | va, vb => f32Round (f32Neg a && f32Neg b) (dyAdd (valDy va) (valDy vb))

/-- The operand with its sign flipped, NaN kept. -/
def f32Flip (a : Nat) : Nat := Nat.xor a 0x80000000

/-- Subtraction. -/
def f32Sub (a b : Nat) : Nat × Flags := f32Add a (f32Flip b)

/-- Multiplication. -/
def f32Mul (a b : Nat) : Nat × Flags :=
  let fl := nanFlags [a, b]
  let s := f32Neg a != f32Neg b
  match f32V a, f32V b with
  | .nan _, _ => (f32Nan, fl)
  | _, .nan _ => (f32Nan, fl)
  | .inf _, .fin _ m _ => if m = 0 then (f32Nan, fInvalid) else (f32S s f32Inf, noFlags)
  | .fin _ m _, .inf _ => if m = 0 then (f32Nan, fInvalid) else (f32S s f32Inf, noFlags)
  | .inf _, .inf _ => (f32S s f32Inf, noFlags)
  | va, vb => f32Round s (dyMul (valDy va) (valDy vb))

/-- Whether `a < b` for values that are not NaN (zeros equal). -/
def f32Lt (a b : Nat) : Bool :=
  let key : Nat → Int := fun w => if f32Neg w then -((w % 2 ^ 31 : Nat) : Int) else ((w % 2 ^ 31 : Nat) : Int)
  decide (key a < key b)

/-- The larger of two (Table 3-12: NaN if either is NaN, max(−0, +0) = +0). -/
def f32Max (a b : Nat) : Nat × Flags :=
  if f32IsNan a || f32IsNan b then (f32Nan, fNanIn)
  else if f32Lt a b then (b, noFlags) else if f32Lt b a then (a, noFlags)
  else (if f32Neg a then b else a, noFlags)

/-- The smaller of two (min(−0, +0) = −0). -/
def f32Min (a b : Nat) : Nat × Flags :=
  if f32IsNan a || f32IsNan b then (f32Nan, fNanIn)
  else if f32Lt a b then (a, noFlags) else if f32Lt b a then (b, noFlags)
  else (if f32Neg a then a else b, noFlags)

/-! ## Transcendentals -/

/-- Fraction bits of the fixed-point evaluations below. -/
def fxP : Nat := 192

/-- The integer square root, by bits from `k` down. -/
def isqrtFrom (n : Nat) : Nat → Nat → Nat
  | 0, r => if (r + 1) * (r + 1) ≤ n then r + 1 else r
  | k + 1, r => isqrtFrom n k (if (r + 2 ^ (k + 1)) * (r + 2 ^ (k + 1)) ≤ n then r + 2 ^ (k + 1) else r)

/-- `⌊√n⌋`. -/
def isqrt (n : Nat) : Nat := isqrtFrom n (Nat.log2 n / 2 + 1) 0

/-- The largest code whose value is at most a magnitude inside the finite range. -/
def floorCode (c : Enc) (x : Mag) : Nat :=
  if x.num = 0 then 0
  else
    let mb := encMant c
    let e := max (magLog2 x) (encEmin c)
    min (encMaxCode c) (((e + encBias c - 1) * 2 ^ mb).toNat + magFloorScaled x (mb - e))

/-- Multiplies in the roots `2^(2^-k)` for the set bits of a fraction of `q` bits, from the top. -/
def exp2Frac (num : Nat) : Nat → Nat → Nat → Nat
  | 0, _, acc => acc
  | q + 1, root, acc =>
    let root' := isqrt (root * 2 ^ fxP)
    exp2Frac num q root' (if bit num q then acc * root' / 2 ^ fxP else acc)

/-- The lower binary32 neighbour of `2^(m × 2^e)` for a non-integer exponent in range. -/
def exp2Floor (m e : Int) : Nat :=
  let q := (-e).toNat
  let i := m / 2 ^ q
  let num := (m % 2 ^ q).toNat
  floorCode .b32 ⟨exp2Frac num q (2 * 2 ^ fxP) (2 ^ fxP), 1, i - fxP⟩

/-- EXP2 of a dyadic exponent (Table 3-12, Table 3-13): exact for an integer, else one of the two
neighbours, which one being free (log 4). -/
def exp2Dy (p : Dy) : Nat × Flags :=
  let big : Bool := if 0 ≤ p.e then decide (p.m * 2 ^ p.e.toNat ≥ 128) else decide (p.m ≥ 128 * 2 ^ (-p.e).toNat)
  let low : Bool := if 0 ≤ p.e then decide (p.m * 2 ^ p.e.toNat ≤ -150) else decide (p.m ≤ -150 * 2 ^ (-p.e).toNat)
  if big then (f32Inf, { noFlags with overflow := true, inexact := true })
  else if low then (0, { noFlags with underflow := true, inexact := true })
  else if 0 ≤ p.e then convFin .b32 false .rne false (magDy 1 (p.m * 2 ^ p.e.toNat))
  else if p.m % 2 ^ (-p.e).toNat = 0 then convFin .b32 false .rne false (magDy 1 (p.m / 2 ^ (-p.e).toNat))
  else
    let k := exp2Floor p.m p.e + b2n (Config.exp2Upper p.m p.e)
    (k, { noFlags with inexact := true, underflow := decide (k < 0x00800000) })

/-- EXP2 (Table 3-13). -/
def f32Exp2 (a : Nat) : Nat × Flags :=
  match f32V a with
  | .nan _ => (f32Nan, fNanIn)
  | .inf n => (if n then 0 else f32Inf, noFlags)
  | .fin n m e => if m = 0 then (f32One, noFlags) else exp2Dy (valDy (.fin n m e))

/-- log2 e rounded to a 64-bit significand (R85). -/
def log2eSig : Int := 0xB8AA3B295C17F0BC

/-- A dyadic number rounded to `w` significant bits, nearest-even. -/
def dyRoundSig (w : Nat) (d : Dy) : Dy :=
  let n := Nat.log2 d.m.natAbs + 1
  if n ≤ w then d
  else
    let s := n - w
    let q := d.m.natAbs / 2 ^ s
    let r := d.m.natAbs % 2 ^ s
    let q' := if 2 * r > 2 ^ s ∨ (2 * r = 2 ^ s ∧ q % 2 = 1) then q + 1 else q
    ⟨if d.m < 0 then -(q' : Int) else q', d.e + s⟩

/-- EXP by the held product of R85; every result but that of a zero sets INEXACT (R86). -/
def f32Exp (a : Nat) : Nat × Flags :=
  match f32V a with
  | .nan _ => (f32Nan, fNanIn)
  | .inf n => (if n then 0 else f32Inf, noFlags)
  | .fin n m e =>
    if m = 0 then (f32One, noFlags)
    else
      let o := exp2Dy (dyRoundSig 40 (dyMul (valDy (.fin n m e)) ⟨log2eSig, -63⟩))
      (o.1, { o.2 with inexact := true })

/-- Fraction bits of log2 of a fixed-point `x` in `[1, 2)`, by repeated squaring. -/
def log2Frac : Nat → Nat → Nat → Nat
  | 0, _, acc => acc
  | n + 1, x, acc =>
    let y := x * x / 2 ^ fxP
    if y ≥ 2 ^ (fxP + 1) then log2Frac n (y / 2) (2 * acc + 1) else log2Frac n y (2 * acc)

/-- LOG2 (Table 3-12, Table 3-13): exact for a power of two, else the free candidate where it lies within the
stated bound, and the neighbour toward zero where it does not (log 4). -/
def f32Log2 (a : Nat) : Nat × Flags :=
  match f32V a with
  | .nan _ => (f32Nan, fNanIn)
  | .inf n => if n then (f32Nan, fInvalid) else (f32Inf, noFlags)
  | .fin n m e =>
    if m = 0 then (f32S true f32Inf, noFlags)
    else if n then (f32Nan, fInvalid)
    else
      let E : Int := Nat.log2 m + e
      if m = 2 ^ Nat.log2 m then f32Round false ⟨E, 0⟩
      else
        let F := log2Frac 64 (m * 2 ^ (fxP - Nat.log2 m)) 0
        let L : Int := E * 2 ^ 64 + F
        let lo := floorCode .b32 (magDy L.natAbs (-64))
        let c := Config.log2Near a % 2 ^ 32
        let inside := decide (E = -1) || decide (E = 0)
        let near : Bool := match f32V c with
          | .fin cn cm ce =>
            let d := dyAdd (valDy (.fin cn cm ce)) ⟨-L, -64⟩
            !magLt (magDy 1 (-23)) (magDy d.m.natAbs d.e)
          | _ => false
        let ok := if inside then near else c == f32S (decide (L < 0)) lo || c == f32S (decide (L < 0)) (lo + 1)
        (if ok then c else f32S (decide (L < 0)) lo, { noFlags with inexact := true })

/-- RSQRT (Table 3-12, Table 3-13): exact for `4^k`, else one of the two neighbours (log 4). -/
def f32Rsqrt (a : Nat) : Nat × Flags :=
  match f32V a with
  | .nan _ => (f32Nan, fNanIn)
  | .inf n => if n then (f32Nan, fInvalid) else (0, noFlags)
  | .fin n m e =>
    if m = 0 then (f32S n f32Inf, noFlags)
    else if n then (f32Nan, fInvalid)
    else
      let E : Int := Nat.log2 m + e
      if m = 2 ^ Nat.log2 m ∧ E % 2 = 0 then f32Round false ⟨1, -(E / 2)⟩
      else
        let m' := if e % 2 = 0 then m else 2 * m
        let e' := if e % 2 = 0 then e else e - 1
        let lo := floorCode .b32 ⟨isqrt (2 ^ (2 * fxP) / m'), 1, -(e' / 2) - fxP⟩
        (lo + b2n (Config.rsqrtUpper a), { noFlags with inexact := true })

/-- RCP: correctly rounded (Table 3-12, Table 3-13). -/
def f32Rcp (a : Nat) : Nat × Flags :=
  match f32V a with
  | .nan _ => (f32Nan, fNanIn)
  | .inf n => (f32S n 0, noFlags)
  | .fin n m e => if m = 0 then (f32S n f32Inf, noFlags) else convFin .b32 false .rne n ⟨1, m, -e⟩

/-! ## VECOP -/

/-- One element of an element-wise operation (Table 3-12). -/
def vecElem (vop a b c : Nat) : Nat × Flags :=
  let canon := fun w => if f32IsNan w then (f32Nan, fNanIn) else (w, noFlags)
  match vop with
  | 0x00 => canon a
  | 0x01 => f32Add a b
  | 0x02 => f32Sub a b
  | 0x03 => f32Mul a b
  | 0x04 => f32Fma a b c
  | 0x05 => f32Max a b
  | 0x06 => f32Min a b
  | 0x07 => if f32IsNan a then (f32Nan, fNanIn) else (a % 2 ^ 31, noFlags)
  | 0x08 => if f32IsNan a then (f32Nan, fNanIn) else (f32Flip a, noFlags)
  | 0x09 => if f32IsNan a || f32IsNan b then (0, fNanIn) else (if f32Lt b a then f32One else 0, noFlags)
  | 0x0A => if f32IsNan a || f32IsNan b then (0, fNanIn)
      else (if !f32Lt a b && !f32Lt b a then f32One else 0, noFlags)
  | 0x0B =>
    let s := canon (if a % 2 ^ 31 != 0 then b else c)
    (s.1, orFlags (nanFlags [a]) s.2)
  | 0x0C =>
    let m := f32Max a b
    let n := f32Min m.1 c
    (n.1, orFlags (nanFlags [a, b, c]) (orFlags m.2 n.2))
  | 0x10 => f32Exp2 a
  | 0x11 => f32Log2 a
  | 0x12 => f32Rsqrt a
  | 0x13 => f32Rcp a
  | _ => f32Exp a

/-- Adds adjacent pairs of a list. -/
def addPairs : List Nat → List Nat × Flags
  | a :: b :: r =>
    let s := f32Add a b
    let t := addPairs r
    (s.1 :: t.1, orFlags s.2 t.2)
  | l => (l, noFlags)

/-- The six levels of the fixed tree over 64 elements (R87). -/
def treeSum : Nat → List Nat → List Nat × Flags
  | 0, l => (l, noFlags)
  | n + 1, l =>
    let p := addPairs l
    let q := treeSum n p.1
    (q.1, orFlags p.2 q.2)

/-- Flags without NAN_IN: a NaN that an operation made itself is no element that it read (R85). -/
def noNanIn (f : Flags) : Flags := { f with nanIn := false }

/-- The sum of a row in the order of R87; NAN_IN is left to the reader of the elements. -/
def rowSum (xs : List Nat) : Nat × Flags :=
  let nc := ceilDiv xs.length 64
  let cs := (chunks 64 nc (xs ++ List.replicate (nc * 64 - xs.length) 0)).map (fun c =>
    let t := treeSum 6 c
    (t.1.headD 0, t.2))
  match cs with
  | [] => (0, noFlags)
  | c :: r =>
    let s := r.foldl (fun (s : Nat × Flags) d =>
      let t := f32Add s.1 d.1
      (t.1, orFlags (orFlags s.2 d.2) t.2)) c
    (s.1, noNanIn s.2)

/-- The largest of a row, NaN if any is NaN. -/
def rowMax (xs : List Nat) : Nat × Flags :=
  match xs with
  | [] => (0, noFlags)
  | x :: r => r.foldl (fun s y =>
      let t := f32Max s.1 y
      (t.1, orFlags s.2 t.2)) (if f32IsNan x then (f32Nan, fNanIn) else (x, noFlags))

/-- What a vector record writes, and its flags. -/
structure VecOut where
  writes : List (Nat × List Byte)
  flags : Flags
deriving DecidableEq, Repr

/-- The binary32 at word `i` of an array. -/
def f32At (rd : Nat → Nat → List Byte) (base i : Nat) : Nat := leOf (rd (base + 4 * i) 4)

/-- The element of a source of a kind for position `(r, j)` (Table 3-11). -/
def kindElem (rd : Nat → Nat → List Byte) (kind base imm cols r j : Nat) : Nat :=
  if kind = 0 then f32At rd base (r * cols + j) else if kind = 1 then imm
  else if kind = 2 then f32At rd base r else f32At rd base j

/-- A whole VECOP (R83 to R87). -/
def runVec (rd : Nat → Nat → List Byte) (o : VecOp) : VecOut :=
  let es : List (Nat × Nat × Flags) :=
    if o.vop = 0x18 ∨ o.vop = 0x19 then
      (List.range o.rows).map (fun r =>
        let xs := (List.range o.cols).map (fun j => f32At rd o.src1 (r * o.cols + j))
        let s := if o.vop = 0x18 then rowSum xs else rowMax xs
        (o.dst + 4 * r, s.1, orFlags (nanFlags xs) s.2))
    else
      (List.range (o.rows * o.cols)).map (fun i =>
        let r := i / o.cols
        let j := i % o.cols
        let ar := (vopArity o.vop).getD 1
        let b := if ar ≥ 2 then kindElem rd o.kind2 o.src2 o.imm o.cols r j else 0
        let c := if ar ≥ 3 then kindElem rd o.kind3 o.src3 o.imm2 o.cols r j else 0
        let v := vecElem o.vop (f32At rd o.src1 i) b c
        (o.dst + 4 * i, v.1, v.2))
  ⟨es.map (fun e => (e.1, leBytes 4 e.2.1)), es.foldl (fun f e => orFlags f e.2.2) noFlags⟩

/-! ## SOFTMAX_STREAM (R89) -/

/-- Row `i`: the addresses and bytes written, and the flags. -/
def softRow (rd : Nat → Nat → List Byte) (o : SoftOp) (i : Nat) : VecOut :=
  let c := outEnc o.fmtP
  let w := encBytes c
  let pa := fun j => o.p + (i * o.nc + j) * w
  let ma := o.st + 4 * i
  let la := o.st + 4 * o.nr + 4 * i
  let ca := o.st + 8 * o.nr + 4 * i
  let mOld := if o.init then f32S true f32Inf else f32At rd o.st i
  let lOld := if o.init then 0 else f32At rd (o.st + 4 * o.nr) i
  let xs := (List.range o.nc).map (fun (j : Nat) =>
    if o.mask ∧ (j : Int) > (i : Int) + o.diag then (f32S true f32Inf, noFlags)
    else f32Mul (f32At rd o.s (i * o.nc + j)) o.scale)
  let fx := xs.foldl (fun f x => orFlags f x.2) (if o.init then noFlags else nanFlags [mOld, lOld])
  let xv := xs.map Prod.fst
  if xv.any f32IsNan then
    ⟨(List.range o.nc).map (fun j => (pa j, leBytes w (encNan c)))
      ++ [(ma, leBytes 4 f32Nan), (la, leBytes 4 f32Nan), (ca, leBytes 4 f32Nan)], orFlags fx fNanIn⟩
  else
    let m := rowMax (mOld :: xv)
    let fm := orFlags fx m.2
    if m.1 = f32S true f32Inf then
      ⟨(List.range o.nc).map (fun j => (pa j, leBytes w 0))
        ++ [(ma, leBytes 4 (f32S true f32Inf)), (la, leBytes 4 (if f32IsNan lOld then f32Nan else lOld)), (ca, leBytes 4 f32One)], fm⟩
    else
      let d := f32Sub mOld m.1
      let cc := f32Exp2 d.1
      let ps := xv.map (fun x =>
        let s := f32Sub x m.1
        let e := f32Exp2 s.1
        let q := convDense c true .rne (f32V e.1)
        (q.1, orFlags s.2 (orFlags e.2 q.2)))
      let pv := ps.map (fun p => (convDense .b32 false .rne (decodeElem c p.1)).1)
      let rs := rowSum pv
      let t := f32Mul lOld cc.1
      let l := f32Add t.1 rs.1
      let fs := ps.foldl (fun f p => orFlags f p.2) noFlags
      ⟨(ps.zipIdx.map (fun p => (pa p.2, leBytes w p.1.1)))
        ++ [(ma, leBytes 4 m.1), (la, leBytes 4 l.1), (ca, leBytes 4 cc.1)],
       orFlags fm (noNanIn (orFlags d.2 (orFlags cc.2 (orFlags fs (orFlags rs.2 (orFlags t.2 l.2))))))⟩

/-- A whole SOFTMAX_STREAM. -/
def runSoft (rd : Nat → Nat → List Byte) (o : SoftOp) : VecOut :=
  let rows := (List.range o.nr).map (softRow rd o)
  ⟨rows.flatMap (fun r => r.writes), rows.foldl (fun f r => orFlags f r.flags) noFlags⟩

/-! ## CONVERT (R90) -/

/-- Source element `(r, j)`. -/
def convSrcElem (rd : Nat → Nat → List Byte) (o : ConvOp) (f : Fmt) (r j : Nat) : Val :=
  let base := o.src + r * rowBytes f o.nc
  if fmtBlock f = 1 then
    decodeElem (fmtEnc f) (leOf (rd (base + j * fmtRecBytes f) (fmtRecBytes f)))
  else
    let b := j / fmtBlock f
    let sl := if f = .vb4 then leOf (rd (o.scl + 4 * (r * ceilDiv o.nc 2048 + j / 2048)) 4) else 0
    blockVal f (rd (base + b * fmtRecBytes f) (fmtRecBytes f)) sl (j % fmtBlock f)

/-- Row `r` of a CONVERT: what it writes and its flags. -/
def convRow (rd : Nat → Nat → List Byte) (o : ConvOp) (fs fd : Fmt) (r : Nat) : VecOut :=
  let rnd := fun j => if o.sr then Rnd.sr (srRnd o.handle (o.idx0 + r * o.nc + j) o.step) else Rnd.rne
  let xs := (List.range o.nc).map (convSrcElem rd o fs r)
  let rs := (List.range o.nc).map rnd
  let base := o.dst + r * rowBytes fd o.nc
  let nanf := xs.foldl (fun f x => orFlags f (match x with
    | .nan blk => if blk then fBlkInvalid else fNanIn
    | _ => noFlags)) noFlags
  if fd = .vb4 then
    let ns := ceilDiv o.nc 2048
    let ss := ((chunks 2048 ns xs).zip (chunks 2048 ns rs)).map (fun p => convVb4Slice p.1 p.2)
    let recs := (ss.flatMap (fun s => s.2.1)).flatMap (fun b => blockBytes .vb4 b.1 b.2)
    ⟨[(base, recs)] ++ ss.zipIdx.map (fun s => (o.scl + 4 * (r * ns + s.2), leBytes 4 s.1.1)),
     ss.foldl (fun f s => orFlags f s.2.2) nanf⟩
  else if fmtIsMx fd then
    let nb := o.nc / 32
    let bs := ((chunks 32 nb xs).zip (chunks 32 nb rs)).map (fun p => convMxBlock fd p.1 p.2)
    ⟨[(base, bs.flatMap (fun b => blockBytes fd b.1 b.2.1))], bs.foldl (fun f b => orFlags f b.2.2) nanf⟩
  else
    let c := fmtEnc fd
    let es := (xs.zip rs).map (fun p => convDense c o.satur p.2 p.1)
    ⟨[(base, es.flatMap (fun e => leBytes (encBytes c) e.1))], es.foldl (fun f e => orFlags f e.2) nanf⟩

/-- A whole CONVERT. -/
def runConv (rd : Nat → Nat → List Byte) (o : ConvOp) : VecOut :=
  let fs := (fmtOf o.fmtS).getD .b32
  let fd := (fmtOf o.fmtD).getD .b32
  let rows := (List.range o.nr).map (convRow rd o fs fd)
  ⟨rows.flatMap (fun r => r.writes), rows.foldl (fun f r => orFlags f r.flags) noFlags⟩

end Sys2Proof.Machine
end

