-- ==== Sys2Proof/Machine/Taint.lean ====
section
/-! DEFINITION. Which scratch bytes each result of a record is computed from: what R379 needs to say that no value
computed from a poisoned word is written. `bad a n` says that a word of the `n` bytes at scratch offset `a` is poisoned. -/

namespace Sys2Proof.Machine

open Sys2Proof

/-- Whether one of some byte ranges holds a poisoned word. -/
def anyBad (bad : Nat → Nat → Bool) (rs : List (Nat × Nat)) : Bool := rs.any (fun r => bad r.1 r.2)

/-- The bytes of row `r` of an operand in dot-array operand order, as `readOperand` reads them. -/
def operandSpans (f : Fmt) (g base k r : Nat) : List (Nat × Nat) :=
  if fmtBlock f = 1 then [(base + r * k * fmtRecBytes f, k * fmtRecBytes f)]
  else
    let nb := k / fmtBlock f
    let ns := if f = .vb4 then ceilDiv k 2048 else 0
    let e := fmtRecBytes f - 1
    let gb := base + r / g * (4 * ns * g + nb * g + e * nb * g)
    let rr := r % g
    let bb := gb + 4 * ns * g
    (List.range nb).flatMap (fun b => [(bb + nb * g + e * (b * g + rr), e), (bb + b * g + rr, 1)])
      ++ (List.range ns).map (fun s => (gb + 4 * (s * g + rr), 4))

/-- MATMUL: element (i, j) of C comes from row i of A and column j of B. -/
def matmulTaint (bad : Nat → Nat → Bool) (o : MatmulOp) (a : Nat) : Bool :=
  let e := (a - o.c) / encBytes (outEnc o.fmtC)
  anyBad bad (operandSpans ((fmtOf o.fmtA).getD .b32) 8 o.a o.k (e / o.n)
    ++ operandSpans ((fmtOf o.fmtB).getD .b32) 4 o.b o.k (e % o.n))

/-- The bytes of a source of a kind for position `(r, j)` (Table 3-11). -/
def kindSpan (kind base cols r j : Nat) : List (Nat × Nat) :=
  if kind = 0 then [(base + 4 * (r * cols + j), 4)] else if kind = 1 then []
  else if kind = 2 then [(base + 4 * r, 4)] else [(base + 4 * j, 4)]

/-- VECOP: an element comes from the elements of its sources at its place, a row result from its row. -/
def vecTaint (bad : Nat → Nat → Bool) (o : VecOp) (a : Nat) : Bool :=
  let i := (a - o.dst) / 4
  if o.vop = 0x18 ∨ o.vop = 0x19 then bad (o.src1 + 4 * (i * o.cols)) (4 * o.cols)
  else
    let ar := (vopArity o.vop).getD 1
    let r := i / o.cols
    let j := i % o.cols
    anyBad bad ([(o.src1 + 4 * i, 4)] ++ (if ar ≥ 2 then kindSpan o.kind2 o.src2 o.cols r j else [])
      ++ (if ar ≥ 3 then kindSpan o.kind3 o.src3 o.cols r j else []))

/-- SOFTMAX_STREAM: everything of a row comes from its scores and, without INIT, its m and l. -/
def softTaint (bad : Nat → Nat → Bool) (o : SoftOp) (a : Nat) : Bool :=
  let w := encBytes (outEnc o.fmtP)
  let i := if o.p ≤ a ∧ a < o.p + o.nr * o.nc * w then (a - o.p) / (w * o.nc) else (a - o.st) / 4 % o.nr
  anyBad bad ([(o.s + 4 * (i * o.nc), 4 * o.nc)]
    ++ (if o.init then [] else [(o.st + 4 * i, 4), (o.st + 4 * o.nr + 4 * i, 4)]))

/-- The bytes of `n` source elements of row `r` of a CONVERT from element `j` on, scales included. -/
def convSpans (o : ConvOp) (f : Fmt) (r j n : Nat) : List (Nat × Nat) :=
  let base := o.src + r * rowBytes f o.nc
  let b0 := j / fmtBlock f
  let b1 := (j + n - 1) / fmtBlock f
  [(base + b0 * fmtRecBytes f, (b1 + 1 - b0) * fmtRecBytes f)]
    ++ (if f = .vb4 then
      [(o.scl + 4 * (r * ceilDiv o.nc 2048 + j / 2048), 4 * ((j + n - 1) / 2048 + 1 - j / 2048))] else [])

/-- CONVERT: a VB4 record or slice scale comes from its whole slice, an MX record from its block, a dense element from
its element. -/
def convTaint (bad : Nat → Nat → Bool) (o : ConvOp) (a : Nat) : Bool :=
  let fs := (fmtOf o.fmtS).getD .b32
  let fd := (fmtOf o.fmtD).getD .b32
  let ns := ceilDiv o.nc 2048
  let rb := rowBytes fd o.nc
  let slice := fun (r s : Nat) => convSpans o fs r (2048 * s) (min 2048 (o.nc - 2048 * s))
  if o.dst ≤ a ∧ a < o.dst + o.nr * rb then
    let r := (a - o.dst) / rb
    let u := (a - o.dst) % rb / fmtRecBytes fd
    anyBad bad (if fd = .vb4 then slice r (u * 16 / 2048) else convSpans o fs r (u * fmtBlock fd) (fmtBlock fd))
  else
    let e := (a - o.scl) / 4
    anyBad bad (slice (e / ns) (e % ns))

/-- Whether destination byte `a` of a computing record is computed from a poisoned word (R379). -/
def recTaint (r : List Byte) (bad : Nat → Nat → Bool) (a : Nat) : Bool :=
  let op := recOp r
  if op = 0x01 then matmulTaint bad (matmulOf r) a
  else if op = 0x02 then vecTaint bad (vecOf r) a
  else if op = 0x03 then softTaint bad (softOf r) a
  else if op = 0x04 then convTaint bad (convOf r) a
  else false

/-- An accumulator with every part taken from a number: the free content of R379 (log 5). -/
def freeXa (v : Nat) : Xa :=
  ⟨sgn 320 v, sgn 16 (v / 2 ^ 320), bit v 336, v / 2 ^ 337 % 8 % 6, v / 2 ^ 340 % 2 ^ 32⟩

/-- What an accumulator holds after a record stopped by an uncorrectable word (R379): XA_FILL leaves its earlier content
or, from a slot without poison, what the slot holds; a MATMUL leaves anything. -/
def uncorrCell (r : List Byte) (bad : Nat → Nat → Bool) (v : Nat) (k : Nat) (old new : Xa) : Xa :=
  if recOp r = 0x06 then (if bad ((spillOf r).addr + 48 * (k % 32)) 48 || v % 2 == 0 then old else new)
  else freeXa v

end Sys2Proof.Machine
end

