-- ==== Sys2Proof/Machine/Sequencer.lean ====
section
/-! DEFINITION. Chapter 3: issue (R65, R68, R98), the records, completion and halts. A record's effect on
scratch, accumulators and handles is taken when it issues; the hazards of R98 make that the program
order's effect. -/

namespace Sys2Proof.Machine

open Sys2Proof

/-! ## What acts once earlier records have gone on (R81, R93, R96, R97) -/

/-- Every record of a unit among `fs` is complete. -/
def unitDone (u : Nat) (fs : List Flight) : Bool := fs.all (fun f => f.done || unitOf (recOp f.slot.bytes) != u)

/-- An earlier SIGNAL has taken effect, and a remote one is acknowledged (R96). -/
def State.signalSettled (s : State) (i : Nat) (f : Flight) : Bool :=
  let g := signalOf f.slot.bytes
  f.acted && (!g.remote || s.signalAcked i g.peer f.seq)

/-- The conditions of a FENCE on the records before it (R96). -/
def State.fenceOk (s : State) (i mask : Nat) (fs : List Flight) : Bool :=
  let m := if mask = 0 then 15 else mask
  (!bit m 0 || unitDone 0 fs) && (!bit m 1 || unitDone 1 fs) && (!bit m 2 || unitDone 2 fs)
    && (!bit m 3 || fs.all (fun f => recOp f.slot.bytes != 0x09 || s.signalSettled i f))

/-- RETURN: cancels re-requests first, then returns held tickets; COUNT = 0 stands for all (R81). -/
def State.returnTickets (s : State) (i count : Nat) : State :=
  let c := s.core i
  let n := if count = 0 then c.held + c.back else count
  let k := min n c.back
  let s := (s.boxCancel i k).modCore i (fun c => { c with back := c.back - k })
  s.boxReturn i (n - k)

/-- END acts: tickets back, END_CODE, and the core halts behind it (R97). DEDUCED (log 63): QHEAD and QDONE are then the
slot after the END, and slots fetched ahead are dropped. -/
def State.endActs (s : State) (i : Nat) (f : Flight) : State :=
  let s := s.boxReturn i (s.core i).held
  let code := leAt f.slot.bytes 4 4
  let s := s.setReg (aCore i + rCORE_END_CODE) (BitVec.ofNat 32 code)
  let next := (f.slot.idx + 1) % s.qSlots i
  let end_ := s.endCode i f
  let s := s.endFlight i f.slot.idx
  if end_ = stECC then s.faultAt i f.slot.idx stECC
  else
    let s := s.modCore i (fun c => { c with
      st := cHALTED, cause := 1, qhead := next, qdone := next, fetched := [], flight := [], skip := [], fault := none })
    s.evCore i evCORE_HALT_END code 0

/-- One unacted record, if its condition holds. -/
def State.act (s : State) (i : Nat) (f : Flight) : State :=
  let op := recOp f.slot.bytes
  let idx := f.slot.idx
  let fs := (s.core i).before idx
  let acted := fun (s : State) => s.modFlight i idx (fun f => { f with acted := true })
  let failed := fun (s : State) code => s.modFlight i idx (fun f => { f with code := code })
  if f.unacted = false then s
  else if op = 0x09 then
    (if fs.all (fun g => g.done && g.code == stOK) then
      let g := signalOf f.slot.bytes
      (if g.remote then
        let r := s.remoteSignal i g.peer g.set g.obj g.value
        match r.2 with
        | .sent q => r.1.modFlight i idx (fun f => { f with acted := true, seq := q })
        | .refused c => failed r.1 c
        | .held => r.1
      else acted (s.objOp (partOfCore i) g.obj g.set g.value))
    else s)
  else if op = 0x0C then
    (if fs.all (fun g => g.done || recOp g.slot.bytes != 0x01) then
      let n := leAt f.slot.bytes 4 2
      (if n > (s.core i).held + (s.core i).back then failed s stFIELD else acted (s.returnTickets i n))
    else s)
  else if op = 0x0E then
    (if s.fenceOk i (recF f.slot.bytes 4 1 3 0) fs then acted s else s)
  else if fs.all (fun g => g.done) then s.endActs i f
  else s

/-- Every record that can act acts, in program order. -/
def State.settle (s : State) (i : Nat) : State :=
  ((s.core i).flight.map (fun f => f.slot.idx)).foldl (fun s idx =>
    match s.flightAt i idx with
    | some f => s.act i f
    | none => s) s

/-- The cores of a partition whose records a sync answer may let act. -/
def State.settleAll (s : State) (p : Nat) : State :=
  ((s.cores.map Prod.fst).filter (fun i => i / 576 == p)).foldl (fun s i => s.settle i) s

/-- Signals of a partition were acknowledged or lost: what waited for their places goes on (R145). -/
def State.roomFreed (s : State) (p : Nat) : State := (s.resendMore p).settleAll p

/-- A TICKET record waits in the sync port until the core's earlier ones have completed, and then asks (R292). -/
def State.askTickets (s : State) (i : Nat) : State :=
  match (s.core i).flight.find? (fun f => recOp f.slot.bytes == 0x0B && !f.done) with
  | none => s
  | some f =>
    if f.asked || f.acted || f.code != stOK then s
    else (s.modFlight i f.slot.idx (fun f => { f with asked := true })).boxRequest i (leAt f.slot.bytes 4 2)

/-- A record completes, the ones behind it act, a TICKET that waited for it asks, and fetching goes on. -/
def State.complete (s : State) (i idx : Nat) : State := (((s.finish i idx).settle i).askTickets i).fetch i

/-! ## Issue (R65, R69, R79, R80, R98) -/

/-- The records in flight that have not completed. -/
def CoreSt.open_ (c : CoreSt) : List Flight := c.flight.filter (fun f => !f.done)

/-- Whether a dot-array record uses a bank: a MATMUL of one tile its BANK only, one of several both. -/
def dotUses (r : List Byte) (b : Nat) : Bool :=
  if recOp r = 0x01 then (matmulOf r).m != 8 || (matmulOf r).n != 4 || (matmulOf r).bank == b
  else (spillOf r).bank == b

/-- The bank of a MATMUL's last tile. -/
def lastBank (o : MatmulOp) : Nat := (o.bank + o.m / 8 * (o.n / 4) - 1) % 2

/-- The first bank of a dot-array record. -/
def firstBank (r : List Byte) : Nat := if recOp r = 0x01 then (matmulOf r).bank else (spillOf r).bank

/-- R79: the dot array is free, or its one record is a MATMUL that rounds its last tile from the other bank. A MATMUL
with KEEP = 1 rounds nothing, so the next record waits for it. -/
def dotFree (fs : List Flight) (paused : Bool) (r : List Byte) : Bool :=
  match fs.filter (fun f => unitOf (recOp f.slot.bytes) == 0) with
  | [] => true
  | [f] => recOp f.slot.bytes == 0x01 && !paused && f.code == stOK && !(matmulOf f.slot.bytes).keep
      && lastBank (matmulOf f.slot.bytes) != firstBank r
      && (recOp r == 0x01 || !dotUses f.slot.bytes (firstBank r))
  | _ => false

/-- The unit of a record has room (Table 3-1). -/
def unitFree (fs : List Flight) (paused : Bool) (r : List Byte) : Bool :=
  let u := unitOf (recOp r)
  if u = 0 then dotFree fs paused r
  else decide ((fs.filter (fun f => unitOf (recOp f.slot.bytes) == u)).length < unitLimit u)

/-- R98: no overlap at 64 B granules with what records in flight write, or read where this one writes, and no handle byte
shared with a LOAD or STORE in flight where one of the two writes it. -/
def noHazard (fs : List Flight) (r : List Byte) : Bool :=
  let p := recRegions r
  let hit := fun (a b : Nat × Nat) => a.2 != 0 && b.2 != 0 && overlaps (granules a) (granules b)
  fs.all (fun f => p.1.all (fun a => f.writes.all (fun b => !hit a b))
    && p.2.all (fun a => (f.writes ++ f.reads).all (fun b => !hit a b))
    && (recHands r).all (fun a => f.hand.all (fun b => !handsMeet a b)))

/-- The tickets a core has asked for and not been granted: those requested back (R82) and those of its TICKETs (R292). -/
def CoreSt.asking (c : CoreSt) : Nat :=
  c.back + ((c.flight.filter (fun f => recOp f.slot.bytes == 0x0B && f.waits)).map (fun f => leAt f.slot.bytes 4 2)).sum

/-- The code of a record's checks at issue, TICKET_SHORT and the count of a TICKET included (R381, R81, R292). -/
def State.issueCode (s : State) (i : Nat) (r : List Byte) : Nat :=
  let c := s.core i
  let k := recCheck r (s.queueRegions i)
  if k ≠ stOK then k
  else if recOp r = 0x01 ∧ c.held < s.ticketCost i r ∧ (c.back = 0 ∨ c.held + c.back < s.ticketCost i r) then stTKSHORT
  else if recOp r = 0x0B ∧ c.held + c.asking + leAt r 4 2 > 8 then stFIELD
  else if recOp r = 0x09 ∧ (signalOf r).remote = true ∧ (signalOf r).peer = 0 then stFIELD
  else stOK

/-- Whether the next fetched record may issue now. DEDUCED (log 63): a record more than 7 slots after one that has not
completed does not issue, as DONE_MASK could not mark it (R72). -/
def State.mayIssue (s : State) (i : Nat) (x : Slot) : Bool :=
  let c := s.core i
  let fs := c.open_
  let r := x.bytes
  let op := recOp r
  c.st == cRUNNING && decide (fs.length < 8)
    && c.flight.all (fun f => f.done || decide (s.ahead i f.slot.idx x.idx ≤ 7))
    && fs.all (fun f => f.acted || !(recOp f.slot.bytes == 0x0A || recOp f.slot.bytes == 0x0D
      || recOp f.slot.bytes == 0x0E || recOp f.slot.bytes == 0x0F))
    && (!recSERIAL r || fs.isEmpty)
    && unitFree fs c.paused r
    && (recCheck r (s.queueRegions i) != stOK || noHazard fs r)
    && (op != 0x01 || (fs.all (fun f => recOp f.slot.bytes != 0x0B || f.acted)
      && !(s.issueCode i r == stOK && decide (c.held < s.ticketCost i r))))

/-- The next fetched slot, if it holds this record without poison and may issue. -/
def State.nextRec (s : State) (i op : Nat) : Option Slot :=
  match (s.core i).fetched with
  | [] => none
  | x :: _ => if x.poison = false ∧ recOp x.bytes = op ∧ s.mayIssue i x = true then some x else none

/-- A record enters flight with its code; one that failed its checks touches nothing. -/
def State.enter (s : State) (i : Nat) (x : Slot) (code : Nat) : State :=
  let p := if code = stOK then recRegions x.bytes else ([], [])
  s.modCore i (fun c => { c with
    fetched := c.fetched.drop 1
    flight := c.flight ++ [⟨x, false, false, code, 0, false, 0, p.1, p.2, if code = stOK then recHands x.bytes else [],
      s.ctrlClk, false, []⟩] })

/-- Issues the next record if it is of opcode `op`: its checks, its effect, what can act, and the refill. -/
def State.issue (s : State) (i op : Nat) (effect : State → Slot → State) : State :=
  match s.nextRec i op with
  | none => s
  | some x =>
    let code := s.issueCode i x.bytes
    let s := s.enter i x code
    let s := if code = stOK then effect s x else s
    (s.settle i).fetch i

/-! ## Effects on scratch -/

/-- Reads scratch without meeting errors: used after the regions were read once. -/
def State.scr (s : State) (i : Nat) (a n : Nat) : List Byte := memRead 0 s.mem (scratchAddr i a) n

/-- Merges writes in address order into runs of adjacent bytes. -/
def mergeRuns : List (Nat × List Byte) → List (Nat × List Byte)
  | [] => []
  | w :: r =>
    match mergeRuns r with
    | [] => [w]
    | v :: q => if w.1 + w.2.length = v.1 then (w.1, w.2 ++ v.2) :: q else w :: v :: q

def mergeWrites (ws : List (Nat × List Byte)) : List (Nat × List Byte) :=
  mergeRuns (ws.mergeSort (fun a b => decide (a.1 ≤ b.1)))

/-- Writes a record's results into scratch; answers whether a partly written word was poisoned. -/
def State.scrWrite (s : State) (i : Nat) (ws : List (Nat × List Byte)) : State × Bool :=
  (mergeWrites ws).foldl (fun (a : State × Bool) w =>
    let r := a.1.writeMem (scratchAddr i w.1) w.2
    (r.1, a.2 || r.2)) (s, false)

/-- The writes of a record stopped by an uncorrectable word: of each byte, the new value or none (log 5), and none of a
byte that is computed from a poisoned word (R379). -/
def uncorrWrites (ctr : Nat) (taint : Nat → Bool) (ws : List (Nat × List Byte)) : List (Nat × List Byte) :=
  (ws.flatMap (fun w => w.2.zipIdx.map (fun b => (w.1 + b.2, [b.1])))).filter (fun w =>
    Config.uncorrTook ctr w.1 && !taint w.1)

/-- Whether a word of `n` bytes of scratch from offset `a` is poisoned. -/
def State.scrBad (s : State) (i a n : Nat) : Bool :=
  (wordsOf (scratchAddr i a) n).any (fun w => decide (s.health w = .poisoned))

/-- What a record's writes replace, word by word (Table 11-7). -/
def State.undoOf (s : State) (i : Nat) (ws : List (Nat × List Byte)) : List UndoWord :=
  ws.flatMap (fun w =>
    let a := scratchAddr i w.1
    (wordsOf a w.2.length).map (fun k => ⟨k, decide (s.health k = .poisoned),
      (List.range 8).filterMap (fun b =>
        if a ≤ 8 * k + b ∧ 8 * k + b < a + w.2.length then
          some (8 * k + b, tblGet 0 s.mem (8 * k + b), w.2.getD (8 * k + b - a) 0)
        else none)⟩))

/-- Meets the words of the regions a record reads; answers whether one is poisoned. -/
def State.scrMeet (s : State) (i : Nat) (rs : List (Nat × Nat)) : State × Bool :=
  rs.foldl (fun (a : State × Bool) r =>
    let t := a.1.readMem (scratchAddr i r.1) r.2
    (t.1, a.2 || anyPoison t.2)) (s, false)

/-- The effect of a record that computes: its writes, flags and accumulators, or what R379 leaves of them. -/
def State.computed (s : State) (i : Nat) (x : Slot) (poison : Bool) (ws : List (Nat × List Byte))
    (xs : List (Nat × Xa)) (fl : Flags) : State :=
  let ctr := s.freeCtr
  let bad := fun a n => s.scrBad i a n
  let ws := if poison then uncorrWrites ctr (recTaint x.bytes bad) ws else ws
  let undo := s.undoOf i (mergeWrites ws)
  let r := s.scrWrite i ws
  let s := if poison then r.1.tick else r.1
  let cell := fun (old : Tbl Xa) (e : Nat × Xa) =>
    if poison then uncorrCell x.bytes bad (Config.uncorrXa ctr e.1) e.1 (tblGet Xa.none old e.1) e.2 else e.2
  let s := s.modCore i (fun c => { c with xa := xs.foldl (fun t e => tblSet Xa.none t e.1 (cell c.xa e)) c.xa })
  s.modFlight i x.idx (fun f => { f with
    code := if poison || r.2 then stECC else stOK
    flags := if poison then Config.uncorrFlags ctr % 512 else flagBits fl
    undo := undo })

/-! ## The records -/

/-- MATMUL (R76 to R80). -/
def State.matmul (s : State) (i : Nat) : State :=
  s.issue i 0x01 (fun s x =>
    let o := matmulOf x.bytes
    let c := s.core i
    let m := s.scrMeet i (recRegions x.bytes).1
    let out := runMatmul (m.1.scr i) (fun k => tblGet Xa.none c.xa k) m.1.freeCtr o
    let s := { m.1 with freeCtr := m.1.freeCtr + o.m * o.n }
    s.computed i x m.2 out.writes out.banks out.flags)

/-- VECOP (R83 to R87). -/
def State.vecop (s : State) (i : Nat) : State :=
  s.issue i 0x02 (fun s x =>
    let o := vecOf x.bytes
    let m := s.scrMeet i (recRegions x.bytes).1
    let out := runVec (m.1.scr i) o
    m.1.computed i x m.2 out.writes [] out.flags)

/-- SOFTMAX_STREAM (R88, R89). -/
def State.softmax (s : State) (i : Nat) : State :=
  s.issue i 0x03 (fun s x =>
    let m := s.scrMeet i (recRegions x.bytes).1
    let out := runSoft (m.1.scr i) (softOf x.bytes)
    m.1.computed i x m.2 out.writes [] out.flags)

/-- CONVERT (R90). -/
def State.convert (s : State) (i : Nat) : State :=
  s.issue i 0x04 (fun s x =>
    let m := s.scrMeet i (recRegions x.bytes).1
    let out := runConv (m.1.scr i) (convOf x.bytes)
    m.1.computed i x m.2 out.writes [] out.flags)

/-- XA_SPILL (R91). -/
def State.xaSpill (s : State) (i : Nat) : State :=
  s.issue i 0x05 (fun s x =>
    s.computed i x false (runSpill (fun k => tblGet Xa.none (s.core i).xa k) (spillOf x.bytes)) [] noFlags)

/-- XA_FILL (R91). -/
def State.xaFill (s : State) (i : Nat) : State :=
  s.issue i 0x06 (fun s x =>
    let m := s.scrMeet i (recRegions x.bytes).1
    let out := runFill (m.1.scr i) (spillOf x.bytes)
    m.1.computed i x m.2 [] out.1 (if out.2 then fInvalid else noFlags))

/-- The context that runs on a core's partition. -/
def State.runningCtx (s : State) (p : Nat) : Nat := (s.usher p).running

/-- The first code that the rows of a LOAD or STORE meet at the handle. -/
def State.rowsCheck (s : State) (i : Nat) (o : CopyOp) : Nat :=
  let p := partOfCore i
  ((List.range o.nr).map (fun j =>
    s.handleCheck p (s.runningCtx p) p o.handle (o.offset + j * o.hPitch) o.rowBytes)).foldl
    (fun a c => if a = stOK then c else a) stOK

/-- Copies the rows of a LOAD (into scratch) or a STORE, poison marks included (R92, R379). DEDUCED (log 63): when a row
fails its check at the handle, no row is copied. -/
def State.copyRows (s : State) (i : Nat) (x : Slot) (load : Bool) : State :=
  let o := copyOf x.bytes
  let p := partOfCore i
  let clu := some (cluOfCore i % 12)
  let k := s.rowsCheck i o
  if k ≠ stOK then s.modFlight i x.idx (fun f => { f with code := k })
  else
    let r := (List.range o.nr).foldl (fun (a : State × Bool) j =>
      let h := o.offset + j * o.hPitch
      let c := scratchAddr i (o.scr + j * o.scrPitch)
      if load then
        let t := a.1.readHandle p o.handle h o.rowBytes clu
        let w := t.1.writeMarked c t.2
        (w.1, a.2 || anyPoison t.2 || w.2)
      else
        let t := a.1.readMem c o.rowBytes
        let w := t.1.writeHandle p o.handle h t.2 clu
        (w.1, a.2 || anyPoison t.2 || w.2)) (s, false)
    r.1.modFlight i x.idx (fun f => { f with code := if r.2 then stECC else stOK })

/-- LOAD and STORE (R92). -/
def State.load (s : State) (i : Nat) : State := s.issue i 0x07 (fun s x => s.copyRows i x true)
def State.store (s : State) (i : Nat) : State := s.issue i 0x08 (fun s x => s.copyRows i x false)

/-- SIGNAL: acts once every earlier record has completed (R93). -/
def State.signal (s : State) (i : Nat) : State := s.issue i 0x09 (fun s _ => s)

/-- WAIT: registers with the sync unit (R94, R140). -/
def State.wait (s : State) (i : Nat) : State :=
  s.issue i 0x0A (fun s x =>
    let o := waitOf x.bytes
    let p := partOfCore i
    s.addWaiter p ⟨i, o.obj, o.eq, o.value, if o.timeout = 0 then s.waitDef p else o.timeout, s.tsu.gts, false⟩)

/-- TICKET: joins the box office's queue once the core's earlier TICKETs have completed (R81, R292). -/
def State.ticket (s : State) (i : Nat) : State := s.issue i 0x0B (fun s _ => s.askTickets i)

/-- RETURN: acts once every earlier MATMUL has completed (R81). -/
def State.return_ (s : State) (i : Nat) : State := s.issue i 0x0C (fun s _ => s)

/-- CUE_WAIT: met at once when the GTS has reached TARGET, LATE when it has passed it (R95). -/
def State.cueWait (s : State) (i : Nat) : State :=
  s.issue i 0x0D (fun s x =>
    let t := leAt x.bytes 4 8
    s.modFlight i x.idx (fun f => { f with acted := decide (t ≤ s.tsu.gts), late := decide (t < s.tsu.gts) }))

/-- FENCE (R96) and END (R97) act when their conditions hold. -/
def State.fence (s : State) (i : Nat) : State := s.issue i 0x0E (fun s _ => s)
def State.end_ (s : State) (i : Nat) : State := s.issue i 0x0F (fun s _ => s)

/-! ## Completion, halts and the sequencer's registers -/

/-- Whether a record in flight can complete now. The dot array's records complete in program order, and none of its
MATMULs while it is paused (R64, R79, R82). -/
def State.ready (s : State) (i : Nat) (f : Flight) : Bool :=
  let op := recOp f.slot.bytes
  if unitOf op = 0 ∧ unitDone 0 ((s.core i).before f.slot.idx) = false then false
  else if f.code ≠ stOK then true
  else if op = 0x01 then !(s.core i).paused
  else if op = 0x09 then s.signalSettled i f
  else if 0x0A ≤ op then f.acted
  else true

/-- A slot that no record row issues: a reserved opcode, or a slot fetched with a poisoned word (R70, R379). -/
def badSlot (x : Slot) : Option Nat :=
  if x.poison then some stECC else if opKnown (recOp x.bytes) then none else some stOPCODE

/-- RECORD_COMPLETE: the record of a slot completes (R71); a slot that holds no record of Table 3-5 issues and
completes in one step. -/
def State.recordComplete (s : State) (i idx : Nat) : State :=
  match s.flightAt i idx with
  | some f => if s.ready i f then s.complete i idx else s
  | none =>
    match (s.core i).fetched with
    | [] => s
    | x :: _ =>
      match badSlot x with
      | none => s
      | some code => if x.idx = idx ∧ s.mayIssue i x = true then (s.enter i x code).complete i idx else s

/-- DONE_MASK: which of the 7 slots after `idx` completed (R72). -/
def State.doneMask (s : State) (i idx : Nat) : Nat :=
  let c := s.core i
  ((List.range 7).map (fun b =>
    let x := (idx + b + 1) % s.qSlots i
    if x ∈ c.skip ∨ c.flight.any (fun f => f.slot.idx == x && f.done && f.code == stOK) = true then 2 ^ b else 0)).sum

/-- The slot QHEAD and QDONE take at a halt: the faulting one (R72), or the first not completed (R74). An earlier record
that a STOP ended with ABORTED while the fault drained comes first, as it runs again (R74). -/
def State.haltSlot (s : State) (i : Nat) : Nat :=
  let c := s.core i
  match c.fault with
  | none => s.oldest i
  | some e => if s.ahead i c.qdone (s.oldest i) < s.ahead i c.qdone e.1 then s.oldest i else e.1

/-- The slots from a halt slot on whose records completed, which the next START skips (R72; log 15 for a STOP). -/
def State.haltSkip (s : State) (i idx : Nat) : List Nat :=
  let c := s.core i
  let n := s.ahead i c.qdone idx
  (((c.flight.filter (fun f => f.done && f.code == stOK)).map (fun f => f.slot.idx)) ++ c.skip).filter (fun x =>
    decide (n ≤ s.ahead i c.qdone x))

/-- CORE_HALT: the drain ends (R72, R74); a STOP is no fault and leaves FAULT_REC alone. -/
def State.coreHalt (s : State) (i : Nat) : State :=
  let c := s.core i
  if c.st ≠ cDRAINING ∨ c.open_ ≠ [] then s
  else
    let idx := s.haltSlot i
    let a := aCore i + rCORE_FAULT_REC
    let s := match c.fault with
      | some e => ((s.setFld a 30 24 (s.doneMask i e.1)).setFld a 11 0 e.1).setFld a 23 16 e.2
      | none => s
    let s := s.modCore i (fun c => { c with
      st := cHALTED, cause := (if c.fault.isSome then 3 else 2), qhead := idx, qdone := idx
      fetched := [], flight := [], fault := none, skip := s.haltSkip i idx })
    match c.fault with
    | some e => s.evCore i evCORE_HALT_FAULT e.1 e.2
    | none => s.evCore i evCORE_HALT_STOP 0 0

/-- SEQ_CMD.START while HALTED (R68, R72). -/
def State.start (s : State) (i : Nat) : State :=
  if (s.core i).st ≠ cHALTED then s
  else (s.modCore i (fun c => { c with st := cRUNNING, fault := none })).fetch i

/-- SEQ_CMD.STOP (R74): no effect while HALTED. While a fault drains it ends the waits too, and the halt keeps the fault's
cause (DESIGN CHOICE, log 15). -/
def State.stop (s : State) (i : Nat) : State :=
  if (s.core i).st = cHALTED then s
  else ((s.modCore i (fun c => { c with st := cDRAINING })).abortWaits i).settle i

/-- SEQ_CMD.RETURN_ALL while HALTED (R75). -/
def State.returnAll (s : State) (i : Nat) : State :=
  if (s.core i).st ≠ cHALTED then s else s.boxReturn i (s.core i).held

/-- A write of QHEAD while HALTED also sets QDONE and clears DONE_MASK (R67). -/
def State.writeQhead (s : State) (i : Nat) (v : W32) : State :=
  if (s.core i).st ≠ cHALTED then s
  else (s.modCore i (fun c => { c with qhead := rf v 11 0, qdone := rf v 11 0, skip := [] })).setFld
    (aCore i + rCORE_FAULT_REC) 30 24 0

/-- A write of QTAIL: ignored while TAIL_SRC = 1 (Table 3-2). -/
def State.writeQtail (s : State) (i : Nat) (v : W32) : State :=
  if s.tailSrc i then s else (s.setFld (aCore i + rCORE_QTAIL) 11 0 v.toNat).fetch i

/-- A pending CUE_WAIT whose target the GTS has reached completes (R95). -/
def State.cueWaitTarget (s : State) (i : Nat) : State :=
  match (s.core i).flight.find? (fun f => recOp f.slot.bytes == 0x0D && f.waits && decide (leAt f.slot.bytes 4 8 ≤ s.tsu.gts)) with
  | none => s
  | some f => (s.modFlight i f.slot.idx (fun f => { f with acted := true })).complete i f.slot.idx

/-- Whether a TICKET's TIMEOUT has passed since it issued: in µs, 0 standing for 1,000,000 (Table 3-9). -/
def State.ticketLate (s : State) (f : Flight) : Bool :=
  let us := leAt f.slot.bytes 8 4
  decide (f.issued + 1000 * (if us = 0 then 1000000 else us) ≤ s.ctrlClk)

/-- The oldest TICKET not granted within its TIMEOUT completes with TICKET_TIMEOUT, and its request leaves the queue (R81). -/
def State.ticketTimeout (s : State) (i : Nat) : State :=
  match (s.core i).flight.find? (fun f => recOp f.slot.bytes == 0x0B && f.waits && s.ticketLate f) with
  | none => s
  | some f =>
    let s := if f.asked then s.boxCancel i (leAt f.slot.bytes 4 2) else s
    (s.modFlight i f.slot.idx (fun f => { f with code := stTKTIME })).complete i f.slot.idx

/-! ## The commands -/

/-- START. -/
def execStart (core : Nat) (s : State) : Host.Outcome State Fault Refusal := .next (s.onPage .core core (fun s => s.start core))
/-- STOP. -/
def execStop (core : Nat) (s : State) : Host.Outcome State Fault Refusal := .next (s.onPage .core core (fun s => s.stop core))
/-- RETURN_ALL. -/
def execReturnAll (core : Nat) (s : State) : Host.Outcome State Fault Refusal := .next (s.onPage .core core (fun s => s.returnAll core))
/-- QHEAD_WRITE. -/
def execQheadWrite (core : Nat) (v : W32) (s : State) : Host.Outcome State Fault Refusal := .next (s.onPage .core core (fun s => s.writeQhead core v))
/-- QTAIL_WRITE. -/
def execQtailWrite (core : Nat) (v : W32) (s : State) : Host.Outcome State Fault Refusal := .next (s.onPage .core core (fun s => s.writeQtail core v))
/-- MATMUL. -/
def execMatmul (core : Nat) (s : State) : Host.Outcome State Fault Refusal := .next (s.matmul core)
/-- VECOP. -/
def execVecop (core : Nat) (s : State) : Host.Outcome State Fault Refusal := .next (s.vecop core)
/-- SOFTMAX_STREAM. -/
def execSoftmaxStream (core : Nat) (s : State) : Host.Outcome State Fault Refusal := .next (s.softmax core)
/-- CONVERT. -/
def execConvert (core : Nat) (s : State) : Host.Outcome State Fault Refusal := .next (s.convert core)
/-- XA_SPILL. -/
def execXaSpill (core : Nat) (s : State) : Host.Outcome State Fault Refusal := .next (s.xaSpill core)
/-- XA_FILL. -/
def execXaFill (core : Nat) (s : State) : Host.Outcome State Fault Refusal := .next (s.xaFill core)
/-- LOAD. -/
def execLoad (core : Nat) (s : State) : Host.Outcome State Fault Refusal := .next (s.load core)
/-- STORE. -/
def execStore (core : Nat) (s : State) : Host.Outcome State Fault Refusal := .next (s.store core)
/-- SIGNAL. -/
def execSignal (core : Nat) (s : State) : Host.Outcome State Fault Refusal := .next (s.signal core)
/-- WAIT. -/
def execWait (core : Nat) (s : State) : Host.Outcome State Fault Refusal := .next (s.wait core)
/-- TICKET. -/
def execTicket (core : Nat) (s : State) : Host.Outcome State Fault Refusal := .next (s.ticket core)
/-- RETURN. -/
def execRet (core : Nat) (s : State) : Host.Outcome State Fault Refusal := .next (s.return_ core)
/-- CUE_WAIT. -/
def execCueWait (core : Nat) (s : State) : Host.Outcome State Fault Refusal := .next (s.cueWait core)
/-- CUE_WAIT_TARGET. -/
def execCueWaitTarget (core : Nat) (s : State) : Host.Outcome State Fault Refusal := .next (s.cueWaitTarget core)
/-- FENCE. -/
def execFence (core : Nat) (s : State) : Host.Outcome State Fault Refusal := .next (s.fence core)
/-- END. -/
def execEndRec (core : Nat) (s : State) : Host.Outcome State Fault Refusal := .next (s.end_ core)
/-- RECORD_COMPLETE. -/
def execRecordComplete (core slot : Nat) (s : State) : Host.Outcome State Fault Refusal := .next (s.recordComplete core slot)
/-- CORE_HALT. -/
def execCoreHalt (core : Nat) (s : State) : Host.Outcome State Fault Refusal := .next (s.coreHalt core)
/-- TICKET_TIMEOUT. -/
def execTicketTimeout (core : Nat) (s : State) : Host.Outcome State Fault Refusal := .next (s.ticketTimeout core)

end Sys2Proof.Machine
end

