-- ==== Sys2Proof/Machine/Sync.lean ====
section
/-! DEFINITION. Chapter 5: host operations on sync objects (R142), remote signals and their recovery (R143
to R148), and Bloodhound (R149 to R153). -/

namespace Sys2Proof.Machine

open Sys2Proof

/-! ## The sender's side -/

/-- The issued SIGNAL record that sent a sequence to a peer. -/
def Flight.sentTo (f : Flight) (c seq : Nat) : Bool :=
  !f.done && recOp f.slot.bytes == 0x09 && f.acted && f.seq == seq
    && (signalOf f.slot.bytes).remote && (signalOf f.slot.bytes).peer == c

/-- A saved core's SIGNAL record takes the code with which it completes when its context runs again. -/
def SavedCore.signalEnds (x : SavedCore) (c seq code : Nat) : SavedCore :=
  { x with core := { x.core with
      flight := x.core.flight.map (fun f => if f.sentTo c seq then { f with code := code } else f) } }

/-- The SIGNAL record that sent a sequence to a peer completes with a code, if it is still in flight. -/
def State.signalEnds (s : State) (core c seq code : Nat) : State :=
  match (s.core core).flight.find? (fun f => f.sentTo c seq) with
  | none => s.modUsher (partOfCore core) (fun u => { u with ctxs := u.ctxs.map (fun e => (e.1, { e.2 with
      cores := e.2.cores.map (fun x => if x.1 = core then (x.1, x.2.signalEnds c seq code) else x) })) })
  | some f => (s.modFlight core f.slot.idx (fun g => { g with code := code })).complete core f.slot.idx

/-- The lowest free entry of the loss list. -/
def State.freeLoss (s : State) (p : Nat) : Option Nat :=
  (List.range 256).find? (fun i => (tblGet none (s.sync p).loss i).isNone)

/-- Copies one lost signal into the loss list, if an entry is free. -/
def State.addLoss (s : State) (p : Nat) (e : LossEnt) : State :=
  match s.freeLoss p with
  | none => s
  | some i => s.modSync p (fun y => { y with loss := tblSet none y.loss i (some e) })

/-- The signals to a peer enter the loss list, with those of a RESEND that still wait, and the records end. -/
def State.loseSignals (s : State) (p c : Nat) : State :=
  let x := s.peerSeq p c
  let s := s.modPeerSeq p c (fun x => { x with state := 1, unacked := [], again := [] })
  let s := (x.unacked ++ x.again).foldl (fun s u => s.addLoss p ⟨c, false, u.part, u.set, u.obj, u.value, u.seq⟩) s
  x.unacked.foldl (fun s u => s.signalEnds u.src c u.seq stLINKDN) s

/-- The signals to a peer are declared lost (R146); with none unacknowledged nothing is lost. The cores' events come
before the sync unit's (R163). -/
def State.declareLost (s : State) (p c : Nat) : State :=
  if (s.peerSeq p c).unacked.isEmpty then s
  else ((s.loseSignals p c).roomFreed p).evSyn p evSYN_SIG_LOST 0 0

/-- A link went down: the signals to several peers, as partition and peer, are declared lost together. `during` is what
else happens between the cores' events and the sync units' (R163, R246). -/
def State.loseAll (s : State) (xs : List (Nat × Nat)) (during : State → State) : State :=
  let xs := xs.filter (fun x => !(s.peerSeq x.1 x.2).unacked.isEmpty)
  let s := xs.foldl (fun s x => s.loseSignals x.1 x.2) s
  let s := (List.range 4).foldl (fun s p => s.roomFreed p) s
  xs.foldl (fun s x => s.evSyn x.1 evSYN_SIG_LOST 0 0) (during s)

/-- The peers of a partition whose first link is `l` (R146). -/
def State.peersOver (s : State) (p l : Nat) : List Nat :=
  ((s.sync p).peers.map Prod.fst).filter (fun c => s.peerLink p c (s.peerPart c) == some l)

/-- The last sequence sent to a peer. -/
def PeerSeq.last (x : PeerSeq) : Nat := (x.tx + 2 ^ 32 - 1) % 2 ^ 32

/-- An answer names a sequence that was never sent (R148). -/
def State.neverSent (s : State) (p c q : Nat) : Bool := !seqLe q (s.peerSeq p c).last

/-- Marks the loss entries of a peer that an answer covers as APPLIED. -/
def State.markApplied (s : State) (p c q : Nat) : State :=
  s.modSync p (fun y => { y with loss := y.loss.map (fun e => (e.1, e.2.map (fun x =>
    if x.peer = c ∧ seqLe x.seq q = true then { x with applied := true } else x))) })

/-- SYNC_ACK: a cumulative acknowledgement (R145, R146, R148). -/
def State.syncAck (s : State) (p : Nat) (m : Msg) : State :=
  let s := s.takeMsg p m
  match s.contextOf p m with
  | none => s
  | some c =>
    let q := syncSeq m.body
    if syncKind m.body ≠ kACK then s
    else if s.neverSent p c q then s.evSyn p evSYN_CONSERVATION_FAULT 0 0
    else if (s.peerSeq p c).state = 1 then s.markApplied p c q
    else (s.modPeerSeq p c (fun x => { x with unacked := x.unacked.filter (fun u => !seqLe u.seq q) })).roomFreed p

/-- SEQ_QUERY leaves for a LOST peer (R146). -/
def State.sendQuery (s : State) (p c : Nat) : State :=
  if (s.peerSeq p c).state = 1 then (s.sendSync p c kQUERY false 0 0 0 (srcSync p)).1 else s

/-- SEQ_REPLY reaches the sender (R146, R148). -/
def State.seqReply (s : State) (p : Nat) (m : Msg) : State :=
  let s := s.takeMsg p m
  match s.contextOf p m with
  | none => s
  | some c =>
    let q := syncSeq m.body
    if syncKind m.body ≠ kREPLY then s
    else if s.neverSent p c q then s.evSyn p evSYN_CONSERVATION_FAULT 0 0
    else if (s.peerSeq p c).state ≠ 1 then s
    else ((s.modPeerSeq p c (fun x => { x with remoteSeq := q, state := 2 })).markApplied p c q).evSyn p
      evSYN_PEER_QUERIED 0 0

/-- REFUSED: the record that sent the sequence completes with ACCESS (R144). -/
def State.refused (s : State) (p : Nat) (m : Msg) : State :=
  let s := s.takeMsg p m
  match s.contextOf p m with
  | none => s
  | some c =>
    let q := syncSeq m.body
    match (s.peerSeq p c).unacked.find? (fun u => u.seq == q) with
    | none => s
    | some u =>
      if syncKind m.body ≠ kREFUSED then s
      else ((s.modPeerSeq p c (fun x => { x with unacked := x.unacked.filter (fun u => u.seq != q) })).signalEnds
        u.src c q stACCESS).roomFreed p

/-- DROPPED: a relay lost a signal (R148). The message comes from the relay; the peer is the one whose
unacknowledged signal carries the sequence, object and partition it names. -/
def State.dropped (s : State) (p : Nat) (m : Msg) : State :=
  let s := s.takeMsg p m
  if syncKind m.body ≠ kDROPPED then s
  else
    let q := syncSeq m.body
    match (s.sync p).peers.find? (fun e => e.2.unacked.any (fun u =>
        u.seq == q && u.obj == syncObj m.body && u.part == syncPart m.body)) with
    | some e => s.declareLost p e.1
    | none =>
      if (s.sync p).peers.any (fun e => seqLe q e.2.last && e.2.tx != 1) then s.bump (aSyn p + rSYN_SIG_DUP) 1
      else s.evSyn p evSYN_CONSERVATION_FAULT 0 0

/-- The loss entries of a peer in SEQ order. -/
def State.lossOf (s : State) (p c : Nat) : List LossEnt :=
  (((s.sync p).loss.filterMap Prod.snd).filter (fun e => e.peer == c)).mergeSort (fun a b => seqLe a.seq b.seq)

/-- Frees a peer's entries and returns it to NORMAL (R147). -/
def State.freeLossOf (s : State) (p c : Nat) : State :=
  (s.modSync p (fun y => { y with loss := y.loss.filter (fun e =>
    match e.2 with | some x => x.peer != c | none => false) })).modPeerSeq p c (fun x => { x with state := 0 })

/-- PEER_SEL of a sync unit. -/
def State.peerSel (s : State) (p : Nat) : Nat := s.fld (aSyn p + rSYN_PEER_SEL) 11 0

/-- PEER_CTL.RESEND: retransmits the entries not applied, with their sequences (R147), as places become free. -/
def State.resend (s : State) (p : Nat) : State :=
  let c := s.peerSel p
  if (s.peerSeq p c).state ≠ 2 then s
  else
    let es := (s.lossOf p c).filter (fun e => !e.applied)
    ((s.freeLossOf p c).modPeerSeq p c (fun x => { x with
      again := es.map (fun e => ⟨e.seq, srcSync p, e.part, e.obj, e.set, e.value⟩) })).resendMore p

/-- PEER_CTL.DISCARD: SEQ_SKIP with the highest lost sequence (R147). -/
def State.discard (s : State) (p : Nat) : State :=
  let c := s.peerSel p
  if (s.peerSeq p c).state ≠ 2 then s
  else
    let s' := match (s.lossOf p c).getLast? with
      | some e => (s.sendSync p c kSKIP false 0 0 e.seq (srcSync p)).1
      | none => s
    s'.freeLossOf p c

/-! ## The target's side (R144) -/

/-- Sends the cumulative acknowledgement of a peer. -/
def State.sendAck (s : State) (p c : Nat) : State :=
  let q := (s.peerSeq p c).applied
  ((s.modPeerSeq p c (fun x => { x with ackDue := 0 })).sendSync p c kACK false 0 0 q (srcSync p)).1

/-- A message's sender is of another tenant than its target partition (R144, R231). -/
def State.foreign (s : State) (p : Nat) (m : Msg) (c : Option Nat) : Bool :=
  (s.part p).st != 1 || m.tenant != (s.part p).tenant
    || (match c with | some c => s.peerTenant c != (s.part p).tenant | none => true)

/-- SIGNAL_MESSAGE. -/
def State.signalMessage (s : State) (p : Nat) (m : Msg) : State :=
  let s := if syncKind m.body = 7 then s.discardMsg p m else s.takeMsg p m
  let b := m.body
  let q := syncSeq b
  let c := s.contextOf p m
  if syncKind b ≠ kSIGNAL then s
  else if s.foreign p m c then
    let s := match c with
      | some c => s.modPeerSeq p c (fun x => { x with applied := q })
      | none => s
    let s := (s.bump (aSyn p + rSYN_SIG_REFUSED) 1).evSyn p evSYN_SIG_REFUSED 0 0
    s.reply p m tcSync 0 (syncBody kREFUSED false m.srcPart 0 0 q (srcSync p))
  else match c with
    | none => s
    | some c =>
      let a := (s.peerSeq p c).applied
      if q = (a + 1) % 2 ^ 32 then
        let s := s.objOp p (syncObj b) (syncSet b) (syncVal b)
        let s := s.modPeerSeq p c (fun x => { x with applied := q, ackDue := x.ackDue + 1 })
        if (s.peerSeq p c).ackDue ≥ 16 then s.sendAck p c else s
      else if seqLe q a then (s.bump (aSyn p + rSYN_SIG_DUP) 1).sendAck p c
      else ((s.bump (aSyn p + rSYN_SIG_GAP) 1).evSyn p evSYN_SIG_GAP 0 0).sendAck p c

/-- SYNC_ACK_TIMER: 1 µs after the first unacknowledged signal. -/
def State.ackTimer (s : State) (p c : Nat) : State :=
  if (s.peerSeq p c).ackDue = 0 then s else s.sendAck p c

/-- SEQ_QUERY is answered with APPLIED. -/
def State.seqQuery (s : State) (p : Nat) (m : Msg) : State :=
  let s := s.takeMsg p m
  match s.contextOf p m with
  | none => s
  | some c =>
    if syncKind m.body ≠ kQUERY then s
    else (s.sendSync p c kREPLY false 0 0 (s.peerSeq p c).applied (srcSync p)).1

/-- SEQ_SKIP sets APPLIED (R147). -/
def State.seqSkip (s : State) (p : Nat) (m : Msg) : State :=
  let s := s.takeMsg p m
  match s.contextOf p m with
  | none => s
  | some c =>
    if syncKind m.body ≠ kSKIP then s
    else s.modPeerSeq p c (fun x => { x with applied := syncSeq m.body })

/-! ## Bloodhound -/

/-- META of an object (Table 5-2). -/
def State.objMeta (s : State) (p o : Nat) : Nat := tblGet 0 (s.sync p).metas o

/-- A waiter of a snapshot as a node of a path. -/
def State.node (s : State) (p : Nat) (w : Waiter) : BhNode := ⟨s.device, p, w.src, w.obj, w.eq, w.gts⟩

/-- Where a path goes from a waiter: a source here, a source at a peer context, or nowhere (R149). -/
inductive BhNext where
  | here (src : Nat)
  | remote (c src : Nat)
  | stop
deriving DecidableEq, Repr

def State.bhNext (s : State) (p obj : Nat) : BhNext :=
  let m := s.objMeta p obj
  if bit m 29 = false ∨ bits m 15 0 = srcHost then .stop
  else if bit m 28 then .remote (bits m 27 16) (bits m 15 0)
  else .here (bits m 15 0)

/-- Whether two nodes are one waiter. -/
def BhNode.same (a b : BhNode) : Bool := a.device == b.device && a.part == b.part && a.src == b.src

/-- What following a path found: the nodes, a cycle, or the remote producer at its end. -/
structure BhWalk where
  nodes : List BhNode
  cycle : Option (List BhNode)
  query : Option (Nat × Nat)
deriving DecidableEq, Repr

/-- The waiter at a source, and what stands there: nothing, a node already passed, or a further node. -/
def State.nodeAt (s : State) (p : Nat) (snap : List Waiter) (src : Nat) : Option (Waiter × BhNode) :=
  (snap.find? (fun w => w.src == src)).map (fun w => (w, s.node p w))

/-- The nodes from one that is met again. -/
def cycleFrom (ns : List BhNode) (n : BhNode) : Option (List BhNode) :=
  if ns.any (fun x => x.same n) then some (ns.dropWhile (fun x => !x.same n)) else none

/-- Follows local edges from a source through a snapshot over at most the given number of further nodes; the edge that
closes a cycle leads to a node already passed and needs none. -/
def State.walk (s : State) (p : Nat) (snap : List Waiter) : Nat → List BhNode → Nat → BhWalk
  | 0, ns, src =>
    match s.nodeAt p snap src with
    | none => ⟨ns, none, none⟩
    | some x => ⟨ns, cycleFrom ns x.2, none⟩
  | k + 1, ns, src =>
    match s.nodeAt p snap src with
    | none => ⟨ns, none, none⟩
    | some x =>
      match cycleFrom ns x.2 with
      | some c => ⟨ns, some c, none⟩
      | none => match s.bhNext p x.1.obj with
        | .stop => ⟨ns ++ [x.2], none, none⟩
        | .here src' => s.walk p snap k (ns ++ [x.2]) src'
        | .remote c src' => ⟨ns ++ [x.2], none, some (c, src')⟩

/-- The order of (device number, partition, source number) (R153). -/
def BhNode.key (n : BhNode) : Nat := n.device * 2 ^ 18 + n.part * 2 ^ 16 + n.src

/-- A cycle turned to begin at its lowest member (R153). -/
def rotateCycle (c : List BhNode) : List BhNode :=
  match c.map BhNode.key |>.min? with
  | none => c
  | some k => c.dropWhile (fun n => n.key != k) ++ c.takeWhile (fun n => n.key != k)

/-- Adds a cycle once. -/
def Census.addCycle (c : Census) (ns : List BhNode) (remote : Bool) : Census :=
  let r := rotateCycle ns
  if c.cycles.any (fun x => x.1.map BhNode.key == r.map BhNode.key) then c
  else { c with cycles := c.cycles ++ [(r, remote)] }

/-- The census number of the census that runs: one more than those completed. -/
def State.censusNo (s : State) (p : Nat) : Nat := ((s.reg (aSyn p + rSYN_BH_CENSUS)).toNat + 1) % 2 ^ 32

/-- Profile and class of management messages (R283). -/
abbrev profMgmt : Nat := 3

/-- A BH_QUERY (Table 9-8). -/
def bhQueryBody (no src part : Nat) : List Byte :=
  leBytes 4 0x10 ++ leBytes 4 no ++ leBytes 2 src ++ leBytes 1 part ++ leBytes 5 0

/-- Takes what a walk found into the census: a cycle, or a query while fewer than 64 were sent (R151). A path of 64 nodes
goes no further, but its last edge may close it. -/
def State.takeWalk (s : State) (p : Nat) (w : BhWalk) (remote : Bool) : State :=
  match (s.sync p).census with
  | none => s
  | some c =>
    match w.cycle, w.query with
    | some ns, _ => s.modSync p (fun y => { y with census := some (c.addCycle ns remote) })
    | none, none => s
    | none, some (ctx, src) =>
     match (if 64 ≤ w.nodes.length then cycleFrom w.nodes ⟨s.peerDev ctx, s.peerPart ctx, src, 0, false, 0⟩ else none) with
     | some ns => s.modSync p (fun y => { y with census := some (c.addCycle ns true) })
     | none =>
      if 64 ≤ c.sent ∨ 64 ≤ w.nodes.length ∨ s.mayName p ctx = false then s
      else
        let r := s.sendPeer p ctx 7 (s.peerPart ctx) profMgmt (bhQueryBody (s.censusNo p) src (s.peerPart ctx))
        r.1.modSync p (fun y => { y with census := some { c with
          sent := c.sent + 1, paths := c.paths ++ [⟨w.nodes, some (c.sent, ctx, src)⟩] } })

/-- Snapshot, local search and the first queries (R150 steps 1 to 3). In the snapshot `met` marks the waiter
whose expiry started the census. -/
def State.startCensus (s : State) (p cause : Nat) (extra : List Waiter) : State :=
  let snap := (s.sync p).waiters.filter (fun w => !w.met) ++ extra
  let s := s.modSync p (fun y => { y with census := some ⟨cause, s.tsu.gts, snap, [], [], 0⟩ })
  snap.foldl (fun s w => s.takeWalk p (s.walk p snap 64 [] w.src) false) s

/-- A wait expiry starts a census, or queues one further census (R150). -/
def State.expiryCensus (s : State) (p : Nat) (w : Waiter) : State :=
  if (s.sync p).census.isSome then
    s.modSync p (fun y => { y with queued := some (y.queued.getD { w with met := true }) })
  else s.startCensus p 1 [{ w with met := true }]

/-- BH_CENSUS: a periodic census is due (R150). -/
def State.periodicCensus (s : State) (p : Nat) : State :=
  if rb (s.reg (aSyn p + rSYN_BH_CTL)) 31 = false then s
  else if (s.sync p).census.isSome then s.bump (aSyn p + rSYN_BH_SKIP) 1
  else s.startCensus p 0 []

/-- A member entry (Table 5-5). -/
def memberEntry (n : BhNode) : List Byte :=
  leBytes 8 (n.src + n.obj * 2 ^ 16 + n.device * 2 ^ 32 + n.part * 2 ^ 47 + b2n n.eq * 2 ^ 49)

/-- Reads a member entry. -/
def readMember (v : Nat) : BhNode := ⟨bits v 46 32, bits v 48 47, bits v 15 0, bits v 31 16, bit v 49, 0⟩

/-- BH_QUERY, refused from another tenant (R231): answered with the path from the named source, up to 16 nodes; a further remote producer
stands as the last entry, of another device or partition (log 19). -/
def State.bhQuery (s : State) (p : Nat) (m : Msg) : State :=
  let foreign := m.tenant != (s.part p).tenant
  let s := s.takeMsg p m
  if foreign = true ∨ leAt m.body 0 1 ≠ 0x10 then s
  else
    let w := s.walk p ((s.sync p).waiters.filter (fun w => !w.met)) 16 [] (leAt m.body 8 2)
    let tail := match w.query with
      | some (c, src) => if w.nodes.length < 16 then [⟨s.peerDev c, s.peerPart c, src, 0, false, 0⟩] else []
      | none => []
    let ns := w.nodes ++ tail
    let body := leBytes 4 0x11 ++ leBytes 4 (leAt m.body 4 4) ++ leBytes 1 ns.length ++ ns.flatMap memberEntry
    s.reply p m 7 profMgmt (padTo (ceilDiv body.length 16 * 16) body)

/-- Appends the nodes of a reply until one closes a cycle. -/
def bhAppend : List BhNode → List BhNode → List BhNode × Option (List BhNode)
  | ns, [] => (ns, none)
  | ns, n :: r =>
    if ns.any (fun x => x.same n) then (ns, some (ns.dropWhile (fun x => !x.same n)))
    else if 64 ≤ ns.length then (ns, none)
    else bhAppend (ns ++ [n]) r

/-- The context of partition `p` for a device and partition, if any. -/
def State.contextFor (s : State) (p dev part : Nat) : Option Nat :=
  (s.peers.find? (fun e => e.1 != 0 && rb e.2.1 31 && rf e.2.1 29 28 == p
    && rf e.2.1 14 0 == dev && rf e.2.1 17 16 == part)).map Prod.fst

/-- BH_REPLY: the path goes on from its end: closed, ended, back in this partition, or at a further peer (R151). -/
def State.bhReply (s : State) (p : Nat) (m : Msg) : State :=
  let s := s.takeMsg p m
  match (s.sync p).census, s.contextOf p m with
  | some c, some ctx =>
    match c.paths.find? (fun x => match x.query with | some q => q.2.1 == ctx | none => false) with
    | none => s
    | some path =>
      if leAt m.body 0 1 ≠ 0x11 ∨ leAt m.body 4 4 ≠ s.censusNo p then s
      else
        let s := s.modSync p (fun y => { y with census := some { c with
          paths := dropFirst (fun x => x == path) c.paths } })
        let es := (List.range (min 16 (leAt m.body 8 1))).map (fun i => readMember (leAt m.body (9 + 8 * i) 8))
        let here := es.filter (fun n => n.device == m.srcDev && n.part == m.srcPart)
        let r := bhAppend path.nodes here
        match r.2 with
        | some cyc => s.takeWalk p ⟨r.1, some cyc, none⟩ true
        | none =>
          match es.find? (fun n => !(n.device == m.srcDev && n.part == m.srcPart)) with
          | none => s
          | some n =>
            if n.device = s.device ∧ n.part = p then
              s.takeWalk p (s.walk p c.snap (64 - r.1.length) r.1 n.src) true
            else match s.contextFor p n.device n.part with
              | some ctx' => s.takeWalk p ⟨r.1, none, some (ctx', n.src)⟩ true
              | none => s
  | _, _ => s

/-- BH_QUERY_TIMEOUT: the oldest query to a peer is unanswered and its path ends (R151). -/
def State.bhTimeout (s : State) (p ctx : Nat) : State :=
  match (s.sync p).census with
  | none => s
  | some c =>
    match c.paths.find? (fun x => match x.query with | some q => q.2.1 == ctx | none => false) with
    | none => s
    | some path => (s.modSync p (fun y => { y with census := some { c with
        paths := dropFirst (fun x => x == path) c.paths } })).bump (aSyn p + rSYN_BH_UNANSWERED) 1

/-- A cycle's local edges still stand in the live waiter table (R150 step 4), or are that of the waiter
whose expiry started the census; and one member is of this partition. -/
def State.confirmed (s : State) (p : Nat) (snap : List Waiter) (ns : List BhNode) : Bool :=
  let mine := fun (n : BhNode) => n.device == s.device && n.part == p
  let live := (s.sync p).waiters.filter (fun w => !w.met) ++ snap.filter (fun w => w.met)
  ns.any mine && ns.all (fun n => !mine n || live.any (fun w => w.src == n.src && w.obj == n.obj && w.gts == n.gts))

/-- LOG2 of the report ring; values outside 6 to 20 act as 0 (R152). -/
def State.bhLog2 (s : State) (p : Nat) : Nat :=
  let n := s.fld (aSyn p + rSYN_BH_SIZE) 4 0
  if 6 ≤ n ∧ n ≤ 20 then n else 0

/-- When a member of a cycle registered: a member of this device as its partition's table has it, and for one of another
device a free value, since no message carries it (log 72). -/
def State.memberSince (s : State) (p : Nat) (n : BhNode) : Nat :=
  if n.device ≠ s.device then Config.remoteSince n.key n.obj % 2 ^ 64
  else if n.part = p then n.gts
  else match (s.sync n.part).waiters.find? (fun w => w.src == n.src && w.obj == n.obj) with
    | some w => w.gts
    | none => Config.remoteSince n.key n.obj % 2 ^ 64

/-- The header record (Table 5-4). -/
def State.bhHeader (s : State) (p : Nat) (c : Census) (ns : List BhNode) (remote : Bool) : List Byte :=
  let old := (ns.map (s.memberSince p)).min?.getD 0
  leBytes 8 c.gts ++ leBytes 2 (srcSync p) ++ leBytes 1 c.cause ++ leBytes 1 ns.length
    ++ leBytes 4 (s.censusNo p) ++ leBytes 2 s.device ++ leBytes 1 (b2n remote) ++ leBytes 1 0
    ++ leBytes 8 old ++ leBytes 4 0

/-- The member records: four entries each, unused entries all ones. -/
def memberBytes (ns : List BhNode) : List Byte :=
  let bs := ns.flatMap memberEntry
  bs ++ List.replicate (ceilDiv ns.length 4 * 32 - bs.length) 0xFF#8

/-- Writes one report, whole or not at all (R152). -/
def State.reportCycle (s : State) (p : Nat) (c : Census) (x : List BhNode × Bool) : State :=
  let k := s.bhLog2 p
  if k = 0 then s
  else
    let n := 2 ^ k
    let wr := s.fld (aSyn p + rSYN_BH_WR) 19 0 % n
    let rd := s.fld (aSyn p + rSYN_BH_RD) 19 0 % n
    let recs := s.bhHeader p c x.1 x.2 ++ memberBytes x.1
    let cnt := recs.length / 32
    if (rd + 2 * n - wr - 1) % n < cnt then (s.bump (aSyn p + rSYN_BH_DROP) 1).evSyn p evSYN_BH_DROP 0 0
    else
      let base := (s.reg (aSyn p + rSYN_BH_BASE_LO)).toNat / 32 * 32 + (s.reg (aSyn p + rSYN_BH_BASE_HI)).toNat * 2 ^ 32
      let s := (List.range cnt).foldl (fun s i => s.hostWrite (base + (wr + i) % n * 32) (slice recs (32 * i) 32)) s
      let s := s.setFld (aSyn p + rSYN_BH_WR) 19 0 ((wr + cnt) % n)
      (s.bump (aSyn p + rSYN_BH_CYCLES) 1).evSyn p evSYN_BH_CYCLE 0 0

/-- BH_REPORT: confirm and report, and the census ends; an expiry that queued one starts the next (R150, R152). -/
def State.bhReport (s : State) (p : Nat) : State :=
  match (s.sync p).census with
  | none => s
  | some c =>
    if c.paths ≠ [] then s
    else
      let s := (c.cycles.filter (fun x => s.confirmed p c.snap x.1)).foldl (fun s x => s.reportCycle p c x) s
      let s := s.setReg (aSyn p + rSYN_BH_CENSUS) (s.reg (aSyn p + rSYN_BH_CENSUS) + 1)
      let q := (s.sync p).queued
      let s := s.modSync p (fun y => { y with census := none, queued := none })
      match q with
      | some w => s.startCensus p 1 [w]
      | none => s

/-! ## Wait expiry (R141): the sync unit's part -/

/-- An expired wait counts, sets WAIT_TIMEOUT and starts a census; it has left the table. -/
def State.expireWait (s : State) (p : Nat) (w : Waiter) : State :=
  ((s.bump (aSyn p + rSYN_TIMEOUTS) 1).evSyn p evSYN_WAIT_TIMEOUT 0 0).expiryCensus p w

/-! ## The commands -/

/-- HOST_SET: a host write of VALUE in the window (R142). -/
def execHostSet (p obj : Nat) (v : W32) (s : State) : Host.Outcome State Fault Refusal :=
  .next (s.onPage .syn p (fun s => s.objOp p obj true v.toNat))
/-- HOST_ADD: a write of HOST_ADD adds to the object HOST_ADD_OBJ names (R142). -/
def execHostAdd (p : Nat) (v : W32) (s : State) : Host.Outcome State Fault Refusal :=
  .next (s.onPage .syn p (fun s => s.objOp p (s.fld (aSyn p + rSYN_HOST_ADD_OBJ) 15 0) false v.toNat))
/-- SIGNAL_MESSAGE. -/
def execSignalMessage (p : Nat) (m : Msg) (s : State) : Host.Outcome State Fault Refusal := .next (s.signalMessage p m)
/-- SYNC_ACK. -/
def execSyncAck (p : Nat) (m : Msg) (s : State) : Host.Outcome State Fault Refusal := .next (s.syncAck p m)
/-- SYNC_ACK_TIMER. -/
def execSyncAckTimer (p peer : Nat) (s : State) : Host.Outcome State Fault Refusal := .next (s.ackTimer p peer)
/-- SIG_ACK_TIMEOUT. -/
def execSigAckTimeout (p peer : Nat) (s : State) : Host.Outcome State Fault Refusal := .next (s.declareLost p peer)
/-- SEQ_QUERY. -/
def execSeqQuery (p : Nat) (m : Msg) (s : State) : Host.Outcome State Fault Refusal := .next (s.seqQuery p m)
/-- SEQ_QUERY_RETRY. -/
def execSeqQueryRetry (p peer : Nat) (s : State) : Host.Outcome State Fault Refusal := .next (s.sendQuery p peer)
/-- SEQ_REPLY. -/
def execSeqReply (p : Nat) (m : Msg) (s : State) : Host.Outcome State Fault Refusal := .next (s.seqReply p m)
/-- SEQ_SKIP. -/
def execSeqSkip (p : Nat) (m : Msg) (s : State) : Host.Outcome State Fault Refusal := .next (s.seqSkip p m)
/-- REFUSED. -/
def execRefused (p : Nat) (m : Msg) (s : State) : Host.Outcome State Fault Refusal := .next (s.refused p m)
/-- DROPPED. -/
def execDropped (p : Nat) (m : Msg) (s : State) : Host.Outcome State Fault Refusal := .next (s.dropped p m)
/-- RESEND. -/
def execResend (p : Nat) (s : State) : Host.Outcome State Fault Refusal := .next (s.onPage .syn p (fun s => s.resend p))
/-- DISCARD. -/
def execDiscard (p : Nat) (s : State) : Host.Outcome State Fault Refusal := .next (s.onPage .syn p (fun s => s.discard p))
/-- BH_CENSUS. -/
def execBhCensus (p : Nat) (s : State) : Host.Outcome State Fault Refusal := .next (s.periodicCensus p)
/-- BH_QUERY. -/
def execBhQuery (p : Nat) (m : Msg) (s : State) : Host.Outcome State Fault Refusal := .next (s.bhQuery p m)
/-- BH_REPLY. -/
def execBhReply (p : Nat) (m : Msg) (s : State) : Host.Outcome State Fault Refusal := .next (s.bhReply p m)
/-- BH_QUERY_TIMEOUT. -/
def execBhQueryTimeout (p peer : Nat) (s : State) : Host.Outcome State Fault Refusal := .next (s.bhTimeout p peer)
/-- BH_REPORT. -/
def execBhReport (p : Nat) (s : State) : Host.Outcome State Fault Refusal := .next (s.bhReport p)

end Sys2Proof.Machine
end

