-- ==== Sys2Proof/Machine/UsherBase.lean ====
section
/-! DEFINITION. Usher's pages, log, request ring, partner requests and moves (R103, R104, R108, R110 to R112,
R118, R122, R127, R133, R134). -/

namespace Sys2Proof.Machine

open Sys2Proof

/-! ## Pages (R101, R103, R104) -/

abbrev slicePages : Nat := 2048

/-- Metadata pages: the handle table of 32 B entries, then the shard map of 16 B entries. -/
def UshSt.metaPages (u : UshSt) : Nat := ceilDiv (2 ^ u.htLog2 * 32) pageBytes + ceilDiv (2 ^ u.smLog2 * 16) pageBytes

/-- Metadata pages in slice `c`: page `i` lies in slice `i mod 12`. -/
def UshSt.metaIn (u : UshSt) (c : Nat) : Nat := (u.metaPages + 11 - c) / 12

/-- PAGES.USABLE (R104). -/
def UshSt.usablePages (u : UshSt) : Nat := 24576 - (if u.carve then 512 else 0) - u.metaPages

/-- The runs in use in slice `c`, as first page and count: metadata, carve-out, hidden allocations, shards
and the places that moves and fills go to. -/
def UshSt.usedIn (u : UshSt) (c : Nat) : List (Nat × Nat) :=
  let shardRuns := u.handles.flatMap (fun e =>
    match e.2 with
    | none => []
    | some h => h.shards.zipIdx.flatMap (fun x =>
        let n := h.shardPages x.2
        (match x.1.loc with | some l => if l.1 = c then [(l.2, n)] else [] | none => [])
          ++ (match x.1.filling with | some l => if l.1 = c then [(l.2, n)] else [] | none => [])
          ++ (match x.1.move with | some m => if m.toClu = c then [(m.toPage, n)] else [] | none => [])))
  [(0, u.metaIn c)] ++ (if u.carve = true ∧ (c = 0 ∨ c = 11) then [(1792, 256)] else [])
    ++ ((u.hidden.filter (fun x => x.1 == c)).map (fun x => x.2)) ++ shardRuns

/-- The lowest free run of `n` pages among `size`, given the runs in use. -/
def lowestRun (used : List (Nat × Nat)) (size n : Nat) : Option Nat :=
  let starts := (0 :: used.map (fun r => r.1 + r.2)).filter (fun a =>
    decide (a + n ≤ size) && used.all (fun r => !(decide (a < r.1 + r.2) && decide (r.1 < a + n))))
  starts.min?

/-- A run put among runs in the order of their first pages. -/
def insertRun (r : Nat × Nat) : List (Nat × Nat) → List (Nat × Nat)
  | [] => [r]
  | x :: t => if r.1 ≤ x.1 then r :: x :: t else x :: insertRun r t

/-- Pages that at least one of the runs covers: a fill may be planned into pages that an eviction has still to free. -/
def covered (used : List (Nat × Nat)) : Nat :=
  ((used.foldr insertRun []).foldl (fun (x : Nat × Nat) r =>
    let e := max x.1 (r.1 + r.2)
    (e, x.2 + (e - max x.1 r.1))) (0, 0)).2

def freeOf (used : List (Nat × Nat)) : Nat := slicePages - covered used

/-- The used runs of all twelve slices. -/
def UshSt.usedMap (u : UshSt) : List (List (Nat × Nat)) := (List.range 12).map u.usedIn

/-- PAGES.FREE. -/
def UshSt.freePages (u : UshSt) : Nat := ((List.range 12).map (fun c => freeOf (u.usedIn c))).sum

/-- The slice with the most free pages among those where `n` pages fit, the lowest cluster first (R111). -/
def bestSlice (m : List (List (Nat × Nat))) (n : Nat) : Option (Nat × Nat) :=
  (m.zipIdx.foldl (fun (b : Option (Nat × Nat × Nat)) e =>
    match lowestRun e.1 slicePages n with
    | none => b
    | some pg =>
      match b with
      | none => some (freeOf e.1, e.2, pg)
      | some x => if freeOf e.1 > x.1 then some (freeOf e.1, e.2, pg) else b) none).map Prod.snd

/-- Where a shard of `n` pages goes: its plan where it fits, else the rule of R111. -/
def placeShard (m : List (List (Nat × Nat))) (plan : Option Nat) (n : Nat) : Option (Nat × Nat) :=
  match plan with
  | some c =>
    match lowestRun (m.getD c []) slicePages n with
    | some pg => if c < 12 then some (c, pg) else bestSlice m n
    | none => bestSlice m n
  | none => bestSlice m n

/-- A map with a run taken. -/
def takeRun (m : List (List (Nat × Nat))) (c pg n : Nat) : List (List (Nat × Nat)) := setAt m c ((pg, n) :: m.getD c [])

/-- Places shards of given plans and page counts one after another; none if one does not fit. -/
def placeAll : List (List (Nat × Nat)) → List (Option Nat × Nat) → Option (List (Nat × Nat))
  | _, [] => some []
  | m, x :: r =>
    match placeShard m x.1 x.2 with
    | none => none
    | some l => (placeAll (takeRun m l.1 l.2 x.2) r).map (fun ls => l :: ls)

/-! ## Partner space (R112) -/

/-- The runs that shards hold at partner `i`. -/
def UshSt.partnerRuns (u : UshSt) (i : Nat) : List (Nat × Nat) :=
  u.handles.flatMap (fun e =>
    match e.2 with
    | none => []
    | some h => h.shards.zipIdx.filterMap (fun x =>
        match x.1.partner with
        | some l => if l.1 = i then some (l.2, h.shardPages x.2) else none
        | none => none))

def State.partnerOn (s : State) (p i : Nat) : Bool := rb (s.reg (aUsh p + rUSH_PARTNER_A + 8 * i)) 31

/-- The capacity of partner `i` (at most 4,194,304 pages). -/
def State.partnerPages (s : State) (p i : Nat) : Nat := min 4194304 (s.fld (aUsh p + rUSH_PARTNER_B + 8 * i) 31 0)

def State.partnerPeer (s : State) (p i : Nat) : Nat := s.fld (aUsh p + rUSH_PARTNER_A + 8 * i) 11 0

/-- The first enabled partner with a run of `n` pages, and the lowest such run. -/
def State.partnerRun (s : State) (p : Nat) (used : List (List (Nat × Nat))) (n : Nat) : Option (Nat × Nat) :=
  ((List.range 8).filterMap (fun i =>
    if s.partnerOn p i then (lowestRun (used.getD i []) (s.partnerPages p i) n).map (fun pg => (i, pg)) else none)).head?

/-- Reserves partner runs for shards of the given page counts, in order; none if one lacks room. -/
def State.partnerAll (s : State) (p : Nat) : List (List (Nat × Nat)) → List Nat → Option (List (Nat × Nat))
  | _, [] => some []
  | m, n :: r =>
    match s.partnerRun p m n with
    | none => none
    | some l => (s.partnerAll p (setAt m l.1 ((l.2, n) :: m.getD l.1 [])) r).map (fun ls => l :: ls)

def State.partnerMap (s : State) (p : Nat) : List (List (Nat × Nat)) := (List.range 8).map (s.usher p).partnerRuns

/-! ## The placement log (R122) -/

abbrev locNone : Nat := 0x20000000
def locSlice (l : Nat × Nat) : Nat := l.1 * 2 ^ 24 + l.2
def locPartner (l : Nat × Nat) : Nat := 0x10000000 + l.1 * 2 ^ 24 + l.2

abbrev lPLACE : Nat := 1
abbrev lMIGRATE : Nat := 2
abbrev lABANDON : Nat := 3
abbrev lEVICT : Nat := 4
abbrev lFILL : Nat := 5
abbrev lPIN : Nat := 6
abbrev lUNPIN : Nat := 7
abbrev lBEGIN : Nat := 8
abbrev lEND : Nat := 9
abbrev lPOISON : Nat := 10

/-- Writes one placement record, or drops it when the ring is full. DURATION is a free value (log 20). -/
def State.logPlace (s : State) (p code ctx handle shard from_ to_ : Nat) : State :=
  let k := s.fld (aUsh p + rUSH_LOG_SIZE) 4 0
  if k < 6 ∨ 20 < k then s
  else
    let n := 2 ^ k
    let wr := s.fld (aUsh p + rUSH_LOG_WR) 19 0 % n
    if (wr + 1) % n = s.fld (aUsh p + rUSH_LOG_RD) 19 0 % n then
      (s.bump (aUsh p + rUSH_LOG_DROP) 1).evUsh p evUSH_LOG_DROP 0 0
    else
      let base := (s.reg (aUsh p + rUSH_LOG_BASE_LO)).toNat / 32 * 32 + (s.reg (aUsh p + rUSH_LOG_BASE_HI)).toNat * 2 ^ 32
      let rec_ := leBytes 8 s.tsu.gts ++ leBytes 2 (srcUsher p) ++ leBytes 1 code ++ leBytes 1 ctx
        ++ leBytes 4 handle ++ leBytes 4 shard ++ leBytes 4 from_ ++ leBytes 4 to_
        ++ leBytes 4 (min 0xFFFFFFFF (Config.duration s.freeCtr))
      (s.tick.hostWrite (base + 32 * wr) rec_).setFld (aUsh p + rUSH_LOG_WR) 19 0 ((wr + 1) % n)

/-- A record for a whole handle or scene. -/
def State.logWhole (s : State) (p code ctx handle : Nat) : State :=
  s.logPlace p code ctx handle 0xFFFFFFFF locNone locNone

/-! ## Status codes (Table 4-5) -/

abbrev uNOSPACE : Nat := 0x20
abbrev uPINNED : Nat := 0x21
abbrev uPARTNER : Nat := 0x23
abbrev uSCENE : Nat := 0x24
abbrev uCONSERV : Nat := 0x25

/-! ## The request ring (R108) -/

/-- Entries of the ring: 2^LOG2, values outside 4 to 16 acting as 4. -/
def State.reqSlots (s : State) (p : Nat) : Nat :=
  let n := s.fld (aUsh p + rUSH_REQ_SIZE) 4 0
  if 4 ≤ n ∧ n ≤ 16 then 2 ^ n else 16

def State.reqAddr (s : State) (p i : Nat) : Nat :=
  (s.reg (aUsh p + rUSH_REQ_BASE_LO)).toNat / 64 * 64 + (s.reg (aUsh p + rUSH_REQ_BASE_HI)).toNat * 2 ^ 32 + 64 * i

def entOp (e : List Byte) : Nat := leAt e 0 1
def entHandle (e : List Byte) : Nat := bits (leAt e 4 4) 19 0
def entCtx (e : List Byte) : Nat := bits (leAt e 4 4) 22 20
def entFlag (e : List Byte) (b : Nat) : Bool := bit (leAt e 1 1) b
/-- The bits of ARG that an opcode uses (Table 4-4), numbered from byte 16; CREATE's descriptor has its own checks. -/
def argUsed (op : Nat) : Nat :=
  if op = 0x01 then 2 ^ 256 - 1
  else if op = 0x03 then 0x1F
  else if op = 0x05 then 0x1FFFF + (2 ^ 64 - 1) * 2 ^ 64
  else if op = 0x09 then 0xFF + (2 ^ 96 - 1) * 2 ^ 32
  else if op = 0x0A then 0x1FF
  else if op = 0x0C then 0xFFFFF + 0xFFFF * 2 ^ 32
  else 0

/-- A reserved bit of the entry's own layout is set (Table 4-3), or a bit of ARG that its opcode does not use (log 59). -/
def entReserved (e : List Byte) : Bool :=
  leAt e 1 1 / 16 != 0 || leAt e 4 4 / 2 ^ 23 != 0 || leAt e 60 4 != 0
    || leAt e 16 32 &&& argUsed (entOp e) != leAt e 16 32

/-- Completes the request: STATUS and GTS, then OWN; IRQ always, SIG_OBJ only with OK. -/
def State.finishReq (s : State) (p : Nat) (r : UshReq) (code result : Nat) : State :=
  let a := s.reqAddr p r.index
  let s := s.hostWrite (a + 48) (leBytes 8 s.tsu.gts ++ leBytes 1 code ++ leBytes 3 result)
  let s := s.hostWrite (a + 1) (leBytes 1 (leAt r.entry 1 1 - leAt r.entry 1 1 % 2))
  let s := s.dropWaiter p (srcUsher p)
  let s := s.modUsher p (fun u => { u with req := none })
  let s := if entFlag r.entry 1 then s.evUsh p evUSH_REQ_DONE 0 0 else s
  if entFlag r.entry 3 && code == stOK then s.objOp p (leAt r.entry 10 2) false 1 else s

/-- Whether an opcode is one of Table 4-4. -/
def ushOpKnown (op : Nat) : Bool := (decide (1 ≤ op) && decide (op ≤ 0x0A)) || op == 0x0C

/-- Reads the next entry if no request is held; a reserved opcode completes at once. -/
def State.readReq (s : State) (p : Nat) : State :=
  let u := s.usher p
  let n := s.reqSlots p
  let h := s.fld (aUsh p + rUSH_REQ_HEAD) 15 0 % n
  if u.req.isSome ∨ u.stalled = true ∨ h = u.tail % n then s
  else
    let e := s.hostRead (s.reqAddr p h) 64
    if entFlag e 0 = false then s.modUsher p (fun u => { u with stalled := true })
    else
      let s := s.setFld (aUsh p + rUSH_REQ_HEAD) 15 0 ((h + 1) % n)
      if ushOpKnown (entOp e) = false then s.finishReq p ⟨h, e, false, 0⟩ stOPCODE 0
      else
        let s := s.modUsher p (fun u => { u with req := some ⟨h, e, entFlag e 2, 0⟩ })
        if entFlag e 2 then
          s.addWaiter p ⟨srcUsher p, leAt e 8 2, false, leAt e 12 4, s.waitDef p, s.tsu.gts, false⟩
        else s

/-- Reads the next entry, and those behind it while they complete by themselves: the whole ring at most. -/
def State.nextReq (s : State) (p : Nat) : State := forN (fun _ s => s.readReq p) (s.reqSlots p) s

/-- A request completes and the next entry is read. -/
def State.reqDone (s : State) (p : Nat) (r : UshReq) (code result : Nat) : State :=
  (s.finishReq p r code result).nextReq p

/-- The start condition is met: no WAIT_EN, or its waiter released. -/
def State.reqMet (s : State) (p : Nat) (r : UshReq) : Bool :=
  !r.waiting || (match s.waiterOf p (srcUsher p) with | some w => w.met | none => false)

/-- The request at hand if it has opcode `op` and may start. -/
def State.reqFor (s : State) (p op : Nat) : Option UshReq :=
  match (s.usher p).req with
  | some r => if entOp r.entry = op ∧ s.reqMet p r = true then some r else none
  | none => none

def State.setPhase (s : State) (p n : Nat) : State :=
  s.modUsher p (fun u => { u with req := u.req.map (fun r => { r with phase := n }) })

/-! ## Tokens and the recount (R127, R134) -/

/-- Resident shards: those with a place. -/
def UshSt.residents (u : UshSt) : Nat :=
  (u.handles.map (fun e => match e.2 with
    | some h => (h.shards.filter (fun x => x.loc.isSome)).length
    | none => 0)).sum

def UshSt.moving (u : UshSt) : Bool :=
  u.handles.any (fun e => match e.2 with
    | some h => h.shards.any (fun x => x.move.isSome)
    | none => false)

/-- The recount: a mismatch puts Usher in conservation hold. -/
def State.recount (s : State) (p : Nat) : State :=
  let u := s.usher p
  if u.moving = true ∨ u.residents = u.tokens then s
  else (s.modUsher p (fun u => { u with hold := true })).evUsh p evUSH_CONSERVATION_FAULT 0 0

/-! ## Moves (R118) -/

/-- Copies `n` bytes, poison marks included, from one place of slice memory to another. -/
def State.copySlice (s : State) (src dst n : Nat) : State × Bool :=
  let r := s.readMem src n
  let w := r.1.writeMarked dst r.2
  (w.1, anyPoison r.2)

/-- A shard changes its place: bytes copied into zero-filled pages, the map updated, MIGRATE logged, and
POISON_MOVED when a poisoned word moved (log 21). -/
def State.commitMove (s : State) (p hid k : Nat) (m : MoveSt) : State :=
  match s.handle p hid with
  | none => s
  | some h =>
    match (h.shard k).loc with
    | none => s
    | some l =>
      let dst := (m.toClu, m.toPage)
      let s := s.zeroMem (shardAddr p dst 0) (h.shardPages k * pageBytes)
      let r := s.copySlice (shardAddr p l 0) (shardAddr p dst 0) (h.shardLen k)
      let s := r.1.modShard p hid k (fun x => { x with loc := some dst, move := none })
      let s := s.logPlace p lMIGRATE h.ctx hid k (locSlice l) (locSlice dst)
      if r.2 then s.logPlace p lPOISON h.ctx hid k (locSlice l) (locSlice dst) else s

/-- Starts moves of a handle's shards. -/
def State.startMoves (s : State) (p hid : Nat) (forPin : Bool) (ms : List (Nat × Nat × Nat)) : State :=
  ms.foldl (fun s m => s.modShard p hid m.1 (fun x => { x with move := some ⟨m.2.1, m.2.2, 0, [], forPin⟩ })) s

/-! ## Placement points (R117) -/

/-- The cluster that R117 accepts as the majority of a shard. -/
def ShardSt.accepted (x : ShardSt) (thresh : Nat) : Option Nat :=
  if x.topCnt * 256 ≥ thresh * x.total then some x.topClu else none

/-- The target of a shard. -/
def ShardSt.target (x : ShardSt) (thresh : Nat) : Option Nat :=
  match x.plan with
  | some c => if x.total < 16 then some c else x.accepted thresh
  | none => x.accepted thresh

/-- The candidates in order: descending TOTAL, then handle, then shard; as handle, shard, target. -/
def State.candidates (s : State) (p : Nat) : List (Nat × Nat × Nat) :=
  let u := s.usher p
  let t := s.fld (aUsh p + rUSH_MIG_CTL) 23 16
  let cs := u.handles.flatMap (fun e =>
    match e.2 with
    | none => []
    | some h =>
      if h.resident = false ∨ h.pinned = true ∨ h.ctx ∈ u.rehearsing then []
      else h.shards.zipIdx.filterMap (fun x =>
        match x.1.loc, x.1.move, x.1.target t with
        | some l, none, some c => if l.1 = c ∨ 12 ≤ c then none else some (x.1.total, e.1, x.2, c)
        | _, _, _ => none))
  (cs.mergeSort (fun a b => decide (a.1 ≥ b.1))).map Prod.snd

/-- Plans moves within the budget; answers how many. -/
def State.planMoves (s : State) (p : Nat) : State × Nat :=
  let budget := s.fld (aUsh p + rUSH_MIG_CTL) 15 0 * 2 ^ 20
  let r := (s.candidates p).foldl (fun (a : State × Nat × Nat) c =>
    match a.1.handle p c.1 with
    | none => a
    | some h =>
      let n := h.shardPages c.2.1
      let len := h.shardLen c.2.1
      match lowestRun ((a.1.usher p).usedIn c.2.2) slicePages n with
      | some pg =>
        if a.2.1 + len ≤ budget then (a.1.startMoves p c.1 false [(c.2.1, c.2.2, pg)], a.2.1 + len, a.2.2 + 1) else a
      | none => a) (s, 0, 0)
  (r.1, r.2.2)

/-- A placement point: the recount, then the moves unless MIG_CTL.EN = 0 or Usher is in hold. -/
def State.placement (s : State) (p : Nat) : State × Nat :=
  let s := s.recount p
  if (s.usher p).hold = true ∨ rb (s.reg (aUsh p + rUSH_MIG_CTL)) 31 = false then (s, 0) else s.planMoves p

/-! ## Partner requests (R133, R134) -/

abbrev mpPiece : Nat := 4096
abbrev profMp : Nat := 2

/-- The header of Table 4-12. -/
def mpHeader (op status len tag addr poison : Nat) : List Byte :=
  leBytes 1 (op + 16 * status) ++ leBytes 1 len ++ leBytes 2 tag ++ leBytes 4 addr ++ leBytes 8 poison

def mpOp (b : List Byte) : Nat := bits (leAt b 0 1) 3 0
def mpStatus (b : List Byte) : Nat := bits (leAt b 0 1) 7 4
def mpLen (b : List Byte) : Nat := bits (leAt b 1 1) 5 0 + 1
def mpTag (b : List Byte) : Nat := leAt b 2 2
def mpAddr (b : List Byte) : Nat := leAt b 4 4
def mpPoison (b : List Byte) : Nat := leAt b 8 8

/-- The POISON bits of data: one for each 64 B unit that holds a poisoned word. -/
def poisonBits (cs : List (Byte × Bool)) : Nat :=
  ((List.range (ceilDiv cs.length 64)).map (fun i => if anyPoison ((cs.drop (64 * i)).take 64) then 2 ^ i else 0)).sum

/-- Data with the poison marks of its 64 B units. -/
def markUnits (bs : List Byte) (poison : Nat) : List (Byte × Bool) := bs.zipIdx.map (fun b => (b.1, bit poison (b.2 / 64)))

/-- The 4 KiB pieces of a shard. -/
def HandleSt.pieceCount (h : HandleSt) (k : Nat) : Nat := h.shardPages k * 16

/-- A fill's place is free: no shard that still holds pages overlaps it. -/
def UshSt.placeFree (u : UshSt) (l : Nat × Nat) (n : Nat) : Bool :=
  u.handles.all (fun e => match e.2 with
    | none => true
    | some h => h.shards.zipIdx.all (fun x => match x.1.loc with
        | some m => !(m.1 == l.1 && decide (m.2 < l.2 + n) && decide (l.2 < m.2 + h.shardPages x.2))
        | none => true))

/-- A shard becomes resident by a fill (R124, R127); the handle once all its shards have, which an EARLY fill does not
bring about (R125): only a swap that has passed its start condition makes a handle of its target resident. -/
def State.filled (s : State) (p hid k : Nat) : State :=
  match s.handle p hid with
  | none => s
  | some h =>
    let x := h.shard k
    match x.filling with
    | none => s
    | some l =>
      let s := s.modShard p hid k (fun x => { x with
        loc := some l, filling := none, waiting := 0, dirty := false, topClu := (if x.topCnt = 0 then l.1 else x.topClu) })
      let s := s.modUsher p (fun u => { u with
        tokens := u.tokens + 1, swap := u.swap.map (fun w => { w with filled := w.filled + h.shardPages k }) })
      let s := s.logPlace p lFILL h.ctx hid k (match x.partner with | some q => locPartner q | none => locNone) (locSlice l)
      match s.handle p hid with
      | none => s
      | some h =>
        if (match (s.usher p).swap with | some w => w.inn.contains hid | none => false) = true
            ∧ h.shards.all (fun x => x.loc.isSome) = true then
          s.setHandle p hid (some { h with resident := true })
        else s

/-- A shard has left its slice: its partner copy is valid, its pages are free (R124, R127). -/
def State.evicted (s : State) (p hid k : Nat) : State :=
  match s.handle p hid with
  | none => s
  | some h =>
    match (h.shard k).loc, (h.shard k).partner with
    | some l, some q =>
      let s := s.modShard p hid k (fun x => { x with loc := none, waiting := 0, dirty := false, pvalid := true })
      (s.modUsher p (fun u => { u with tokens := u.tokens - 1 })).logPlace p lEVICT h.ctx hid k (locSlice l) (locPartner q)
    | _, _ => s

/-- Fills planned into pages that stay in use are given up (log 67): their handles stay non-resident. -/
def UshSt.dropFills (u : UshSt) (l : Nat × Nat) (n : Nat) : UshSt :=
  let hits := fun (m : Nat × Nat) k => m.1 == l.1 && decide (m.2 < l.2 + n) && decide (l.2 < m.2 + k)
  let gone := u.handles.flatMap (fun e => match e.2 with
    | none => []
    | some h => h.shards.zipIdx.filterMap (fun x => match x.1.filling with
        | some m => if hits m (h.shardPages x.2) then some (e.1, x.2) else none
        | none => none))
  { u with
    mp := u.mp.filter (fun r => r.sent || !gone.contains (r.handle, r.shard))
    handles := u.handles.map (fun e => (e.1, e.2.map (fun h => { h with
      shards := h.shards.zipIdx.map (fun x =>
        if gone.contains (e.1, x.2) then { x.1 with filling := none, waiting := 0 } else x.1) }))) }

/-- An eviction failed: the shard stays in its pages. -/
def State.stays (s : State) (p hid k : Nat) : State :=
  match s.handle p hid with
  | none => s
  | some h => match (h.shard k).loc with
    | some l => s.modUsher p (fun u => u.dropFills l (h.shardPages k))
    | none => s

/-- Two entries of the list stand for one request. -/
def MpReq.same (x r : MpReq) : Bool := { x with dead := r.dead } == r

/-- A partner request fails: the shard keeps what it has, what is still to come of it counts for nothing, and the swap
ends with the first code (R126). -/
def State.mpFail (s : State) (p : Nat) (r : MpReq) (code : Nat) : State :=
  match (s.usher p).mp.find? (fun x => x.same r) with
  | none => s
  | some r =>
    let s := s.modUsher p (fun u => { u with mp := u.mp.filter (fun x => x != r) })
    let s := if r.dead then s
      else
        let mine := fun (x : MpReq) => x.handle == r.handle && x.shard == r.shard && x.read == r.read
        let s := s.modUsher p (fun u => { u with
          mp := (u.mp.filter (fun x => x.sent || !mine x)).map (fun x => if mine x then { x with dead := true } else x)
          swap := u.swap.map (fun w => if w.fail = 0 then { w with fail := code } else w) })
        let s := s.modShard p r.handle r.shard (fun x => { x with waiting := 0, filling := none })
        if r.read then s else s.stays p r.handle r.shard
    s.evUsh p evUSH_PARTNER_ERR 0 0

/-- One request leaves (Table 4-12). -/
def State.mpSend (s : State) (p : Nat) (r : MpReq) : State :=
  match s.handle p r.handle with
  | none => s
  | some h =>
    let x := h.shard r.shard
    let c := s.partnerPeer p r.partner
    match x.partner with
    | none => s
    | some q =>
      let addr := (q.2 * pageBytes + r.piece * mpPiece) / 64
      let cs : State × List (Byte × Bool) :=
        match r.read, x.loc with
        | false, some l => s.readMem (shardAddr p l (r.piece * mpPiece)) mpPiece
        | _, _ => (s, [])
      let tag := (s.usher p).nextTag
      let body := mpHeader (if r.read then 1 else 2) 0 63 tag addr (poisonBits cs.2) ++ plain cs.2
      if s.mayName p c = false then cs.1.mpFail p r uPARTNER
      else
        let t := cs.1.sendPeer p c 6 (s.peerPart c) profMp body
        if t.2 then t.1.modUsher p (fun u => { u with
          nextTag := (tag + 1) % 65536
          mp := u.mp.map (fun y => if y = r then { y with sent := true, tag := tag } else y) })
        else t.1.mpFail p r stLINKDN

/-- The next request that may leave: fewer than 1,024 outstanding, and a read only into pages that are free. -/
def State.mpNext (s : State) (p : Nat) : Option MpReq :=
  let u := s.usher p
  if 1024 ≤ (u.mp.filter (fun r => r.sent)).length then none
  else u.mp.find? (fun r => !r.sent && (!r.read || (match s.handle p r.handle with
    | none => true
    | some h => match (h.shard r.shard).filling with
      | some l => u.placeFree l (h.shardPages r.shard)
      | none => true)))

/-- Fills of shards that have no data at the partner: zeros, once their pages are free (R112). -/
def State.zeroFills (s : State) (p : Nat) : State :=
  ((s.usher p).handles.flatMap (fun e => match e.2 with
    | none => []
    | some h => h.shards.zipIdx.filterMap (fun x => if x.1.filling.isSome ∧ x.1.waiting = 0 then some (e.1, x.2) else none))).foldl
    (fun s x =>
      match s.handle p x.1 with
      | none => s
      | some h => match (h.shard x.2).filling with
        | some l => if (s.usher p).placeFree l (h.shardPages x.2) then
            (s.zeroMem (shardAddr p l 0) (h.shardPages x.2 * pageBytes)).filled p x.1 x.2 else s
        | none => s) s

/-- A planned swap whose out-set still drains (R124 step 2). -/
def UshSt.draining (u : UshSt) : Bool :=
  match u.req with
  | some r => r.phase == 4
  | none => false

/-- Sends what may leave. -/
def State.mpPump (s : State) (p : Nat) : State :=
  if (s.usher p).draining then s
  else
    forN (fun _ s => match s.mpNext p with | some r => s.mpSend p r | none => s)
      ((s.usher p).mp.filter (fun r => !r.sent)).length (s.zeroFills p)

/-- Queues the requests of one shard. -/
def State.mpQueue (s : State) (p hid k partner n : Nat) (read : Bool) : State :=
  let s := s.modUsher p (fun u => { u with
    mp := u.mp ++ (List.range n).map (fun i => ⟨0, partner, read, hid, k, i, false, false⟩) })
  s.modShard p hid k (fun x => { x with waiting := n })

/-- The partner requests of a partition whose first link is `l`. -/
def State.mpOver (s : State) (p l : Nat) : List MpReq :=
  (s.usher p).mp.filter (fun r => r.sent && s.peerLink p (s.partnerPeer p r.partner)
    (s.peerPart (s.partnerPeer p r.partner)) == some l)

/-- A link went down: the partner requests that used it fail with LINK_DOWN (R126, R246). -/
def State.mpLinkDown (s : State) (p : Nat) (rs : List MpReq) : State :=
  (rs.foldl (fun s r => s.mpFail p r stLINKDN) s).mpPump p

end Sys2Proof.Machine
end

