-- ==== Sys2Proof/Machine/Usher.lean ====
section
/-! DEFINITION. Chapter 4: the requests of Usher (R108 to R124), epochs and moves, partner traffic (R133 to
R135), and the host's BAR2 windows (R114). -/

namespace Sys2Proof.Machine

open Sys2Proof

/-- A handle ID of 2^HT_LOG2 or above (R109). -/
def State.badId (s : State) (p : Nat) (r : UshReq) : Bool := decide (2 ^ (s.usher p).htLog2 ≤ entHandle r.entry)

/-- Runs a request of opcode `op` that may start: the handle ID first where it `names` one (R109), its reserved bits and
the hold, then its own meaning. -/
def State.request (s : State) (p op : Nat) (names places : Bool) (f : State → UshReq → State) : State :=
  match s.reqFor p op with
  | none => s
  | some r =>
    if names && s.badId p r then s.reqDone p r stHANDLE 0
    else if entReserved r.entry then s.reqDone p r stFIELD 0
    else if places && (s.usher p).hold then s.reqDone p r uCONSERV 0
    else f s r

/-- The handle a request names and its checks: HANDLE_INVALID, then ACCESS. -/
def State.reqHandle (s : State) (p : Nat) (r : UshReq) : Except Nat HandleSt :=
  match s.handle p (entHandle r.entry) with
  | none => .error stHANDLE
  | some h => if h.ctx = entCtx r.entry then .ok h else .error stACCESS

/-! ## CREATE and DESTROY (R109 to R113) -/

/-- The descriptor's fields are in range (R109 step 2). -/
def descOk (d : List Byte) (usable : Nat) : Bool :=
  let size := leAt d 0 5
  let b6 := leAt d 6 1
  let rank := bits (leAt d 7 1) 1 0
  let dim := fun i => leAt d (8 + 4 * i) 4
  size != 0 && size % 16 == 0 && decide (size ≤ usable * pageBytes)
    && decide (16 ≤ leAt d 5 1) && decide (leAt d 5 1 ≤ 23)
    && !(bit b6 4 && decide (10 ≤ bits b6 3 0)) && !bit b6 7
    && leAt d 7 1 / 4 == 0
    && (List.range 4).all (fun i => if i ≤ rank then dim i != 0 else dim i == 0)
    && leAt d 24 4 / 2 ^ 20 == 0 && leAt d 28 4 == 0

/-- A handle of a descriptor, with no shard placed. -/
def handleOf (d : List Byte) (ctx : Nat) : HandleSt :=
  let b6 := leAt d 6 1
  let size := leAt d 0 5
  let sl := leAt d 5 1
  { size := size, shardLog2 := sl, fmt := bits b6 3 0, typed := bit b6 4, persist := bit b6 5
    rank := bits (leAt d 7 1) 1 0, dims := (List.range 4).map (fun i => leAt d (8 + 4 * i) 4)
    scl := bits (leAt d 24 4) 19 0, ctx := ctx, pinned := false, resident := false
    shards := List.replicate (ceilDiv size (2 ^ sl)) ShardSt.init, dying := false }

/-- Entries of the shard map in use. -/
def UshSt.shardsUsed (u : UshSt) : Nat :=
  (u.handles.map (fun e => match e.2 with | some h => h.shards.length | none => 0)).sum

/-- CREATE; `carry` names the handle, context and descriptor. -/
def State.create (s : State) (p : Nat) : State :=
  match s.reqFor p 0x01 with
  | none => s
  | some r =>
    let d := slice r.entry 16 32
    let hid := entHandle r.entry
    let ctx := entCtx r.entry
    let u := s.usher p
    let done := fun (s : State) c n => s.reqDone p r c n
    if (s.part p).st ≠ 1 then done s stACCESS 0
    else if u.hold then done s uCONSERV 0
    else if 2 ^ u.htLog2 ≤ hid ∨ (s.handle p hid).isSome then done s stHANDLE 0
    else if entReserved r.entry || !descOk d u.usable then done s stFIELD 0
    else
      let h := handleOf d ctx
      let ns := (List.range h.shards.length).map h.shardPages
      if 2 ^ u.smLog2 < u.shardsUsed + h.shards.length then done s uNOSPACE 0
      else if bit (leAt d 6 1) 6 then
        match placeAll u.usedMap (ns.map (fun n => (none, n))) with
        | none => done s uNOSPACE 0
        | some ls =>
          let h := { h with resident := true, shards := ls.map (fun l => { ShardSt.init with loc := some l, topClu := l.1 }) }
          let s := (ls.zip ns).foldl (fun s e => s.zeroMem (shardAddr p e.1 0) (e.2 * pageBytes)) s
          let s := (s.setHandle p hid (some h)).modUsher p (fun u => { u with tokens := u.tokens + ls.length })
          let s := ls.zipIdx.foldl (fun s e => s.logPlace p lPLACE ctx hid e.2 locNone (locSlice e.1)) s
          done s stOK ns.sum
      else
        match s.partnerAll p (s.partnerMap p) ns with
        | none => done s uNOSPACE 0
        | some ls =>
          let h := { h with shards := ls.map (fun l => { ShardSt.init with partner := some l }) }
          done (s.setHandle p hid (some h)) stOK 0

/-- Whether an endpoint word of a descriptor names handle `h` of partition `p`. -/
def namesHandle (ch p h w : Nat) : Bool :=
  match endpoint (cluOfChan ch) w with
  | some (.handle q k _) => q == p && k == h
  | _ => false

/-- Whether an access translated earlier still uses a handle: a started descriptor that names it has peer requests to
come, or a record in flight of the partition's cores moves its bytes (R113, R124). -/
def State.inUse (s : State) (p h : Nat) : Bool :=
  s.chans.any (fun e => e.2.started && (e.2.reqs != [] || e.2.todo != []) && (match e.2.ahead with
    | x :: _ => namesHandle e.1 p h (leAt x.bytes 12 8) || namesHandle e.1 p h (leAt x.bytes 20 8)
    | [] => false))
    || s.cores.any (fun e => partOfCore e.1 == p && e.2.flight.any (fun f => !f.done && f.hand.any (fun r => r.1 == h)))

/-- The windows that stay bound when a handle is destroyed. -/
def UshSt.unbind (u : UshSt) (hid : Nat) : UshSt :=
  { u with windows := u.windows.filter (fun w => match w.2 with | some b => b.1 != hid | none => false) }

/-- DESTROY (R113): later accesses find no handle from now on, and the request completes once the earlier ones have
(until then the command leaves it waiting, log 68). -/
def State.destroy (s : State) (p : Nat) : State :=
  s.request p 0x02 true false (fun s r =>
    match s.reqHandle p r with
    | .error c => s.reqDone p r c 0
    | .ok h =>
      if h.pinned then s.reqDone p r uPINNED 0
      else
        let hid := entHandle r.entry
        if s.inUse p hid then (s.setHandle p hid (some { h with dying := true })).modUsher p (fun u => u.unbind hid)
        else
          let held := h.shards.zipIdx.filter (fun x => x.1.loc.isSome)
          let s := (s.setHandle p hid none).modUsher p (fun u => { u.unbind hid with tokens := u.tokens - held.length })
          s.reqDone p r stOK ((held.map (fun x => h.shardPages x.2)).sum))

/-! ## PIN and UNPIN (R120) -/

def HandleSt.moving (h : HandleSt) : Bool := h.shards.any (fun x => x.move.isSome)

/-- The pin takes hold and is logged; the request completes. -/
def State.pinned (s : State) (p : Nat) (r : UshReq) (h : HandleSt) : State :=
  let hid := entHandle r.entry
  ((s.setHandle p hid (some { h with pinned := true })).logWhole p lPIN h.ctx hid).reqDone p r stOK 0

/-- PIN: moves the shards into one slice first when CLU_EN = 1; waits for a move in progress. -/
def State.pin (s : State) (p : Nat) : State :=
  s.request p 0x03 true true (fun s r =>
    match s.reqHandle p r with
    | .error c => s.reqDone p r c 0
    | .ok h =>
      let clu := bits (leAt r.entry 16 1) 3 0
      let en := bit (leAt r.entry 16 1) 4
      if h.resident = false ∨ (en = true ∧ 12 ≤ clu) then s.reqDone p r stFIELD 0
      else if h.moving then s
      else
        let out := h.shards.zipIdx.filter (fun x => match x.1.loc with | some l => l.1 != clu | none => false)
        if en = false ∨ out = [] then s.pinned p r h
        else
          let m := (List.replicate 12 [(0, slicePages)]).set clu ((s.usher p).usedIn clu)
          match placeAll m (out.map (fun x => (some clu, h.shardPages x.2))) with
          | none => s.reqDone p r uNOSPACE 0
          | some ls => (s.startMoves p (entHandle r.entry) true ((out.zip ls).map (fun x => (x.1.2, x.2.1, x.2.2)))).setPhase p 1)

/-- UNPIN. -/
def State.unpin (s : State) (p : Nat) : State :=
  s.request p 0x04 true false (fun s r =>
    match s.reqHandle p r with
    | .error c => s.reqDone p r c 0
    | .ok h =>
      if h.pinned = false then s.reqDone p r uPINNED 0
      else ((s.setHandle p (entHandle r.entry) (some { h with pinned := false })).logWhole p lUNPIN h.ctx
        (entHandle r.entry)).reqDone p r stOK 0)

/-- MIGRATE: a round of a shard's move ends: it commits with at most 256 KiB dirty, copies again, or is
abandoned after four rounds unless a PIN drives it (R118, R120). -/
def State.migrate (s : State) (p hid k : Nat) : State :=
  match s.handle p hid with
  | none => s
  | some h =>
    match (h.shard k).move with
    | none => s
    | some m =>
      if 64 < m.dirtySub.length then
        if m.forPin ∨ m.round < 4 then
          s.modShard p hid k (fun x => { x with move := some { m with round := m.round + 1, dirtySub := [] } })
        else
          let l := match (h.shard k).loc with | some l => locSlice l | none => locNone
          ((s.modShard p hid k (fun x => { x with move := none })).logPlace p lABANDON h.ctx hid k l l).evUsh p
            evUSH_MIG_ABANDON 0 0
      else
        let s := s.commitMove p hid k m
        match (s.usher p).req, s.handle p hid with
        | some r, some h =>
          if r.phase = 1 ∧ entHandle r.entry = hid ∧ h.moving = false then s.pinned p r h else s
        | _, _ => s

/-! ## MAP (R114) -/

/-- MAP and UNMAP share an opcode; UNMAP is byte 18 bit 0, and asks first that the window be bound to the handle. -/
def State.mapReq (s : State) (p : Nat) (un : Bool) : State :=
  match s.reqFor p 0x05 with
  | none => s
  | some r =>
    let e := r.entry
    let w := leAt e 16 2
    if bit (leAt e 18 1) 0 ≠ un then s
    else if s.badId p r then s.reqDone p r stHANDLE 0
    else if entReserved e || decide (1023 < w) then s.reqDone p r stFIELD 0
    else if un && (tblGet none (s.usher p).windows w).map Prod.fst != some (entHandle e) then s.reqDone p r stHANDLE 0
    else match s.reqHandle p r with
      | .error c => s.reqDone p r c 0
      | .ok h =>
        if un then (s.modUsher p (fun u => { u with windows := tblSet none u.windows w none })).reqDone p r stOK 0
        else if leAt e 24 8 % pageBytes ≠ 0 ∨ h.size ≤ leAt e 24 8 then s.reqDone p r stFIELD 0
        else (s.modUsher p (fun u => { u with
          windows := tblSet none u.windows w (some (entHandle e, leAt e 24 8)) })).reqDone p r stOK 0

/-! ## Placement points and rehearsal (R117, R121) -/

/-- PLACE_POINT. -/
def State.placePoint (s : State) (p : Nat) : State :=
  s.request p 0x06 false true (fun s r =>
    let t := s.placement p
    t.1.reqDone p r stOK t.2)

/-- Changes every shard of a context. -/
def State.ctxShards (s : State) (p ctx : Nat) (f : ShardSt → ShardSt) : State :=
  s.modUsher p (fun u => { u with handles := u.handles.map (fun e => (e.1, e.2.map (fun h =>
    if h.ctx = ctx then { h with shards := h.shards.map f } else h))) })

/-- REHEARSE_BEGIN. -/
def State.rehearseBegin (s : State) (p : Nat) : State :=
  s.request p 0x07 false false (fun s r =>
    let ctx := entCtx r.entry
    let s := s.ctxShards p ctx (fun x => { x with total := 0, topCnt := 0, plan := none })
    (s.modUsher p (fun u => { u with rehearsing := ctx :: u.rehearsing.filter (fun c => c != ctx) })).reqDone p r stOK 0)

/-- REHEARSE_END: RESULT counts the shards given a plan. -/
def State.rehearseEnd (s : State) (p : Nat) : State :=
  s.request p 0x08 false true (fun s r =>
    let ctx := entCtx r.entry
    let t := s.fld (aUsh p + rUSH_MIG_CTL) 23 16
    let s := s.ctxShards p ctx (fun x => { x with plan := x.accepted t })
    let n := ((s.usher p).handles.map (fun e => match e.2 with
      | some h => if h.ctx = ctx then (h.shards.filter (fun x => x.plan.isSome)).length else 0
      | none => 0)).sum
    let s := s.modUsher p (fun u => { u with rehearsing := u.rehearsing.filter (fun c => c != ctx) })
    (s.placement p).1.reqDone p r stOK n)

/-- EPOCH: TOTAL and TOP_CNT are halved, but for contexts that rehearse (R116, R121). -/
def State.epoch (s : State) (p : Nat) : State :=
  s.modUsher p (fun u => { u with handles := u.handles.map (fun e => (e.1, e.2.map (fun h =>
    if h.ctx ∈ u.rehearsing then h
    else { h with shards := h.shards.map (fun x => { x with total := x.total / 2, topCnt := x.topCnt / 2 }) }))) })

/-! ## Scenes (R123 to R126) -/

/-- SCENE_DEFINE. -/
def State.sceneDefine (s : State) (p : Nat) : State :=
  s.request p 0x09 false false (fun s r =>
    let n := leAt r.entry 20 4
    if n = 0 ∨ 65536 < n then s.reqDone p r stFIELD 0
    else
      let bs := s.hostRead (leAt r.entry 24 8) (4 * n)
      let hs := (List.range n).map (fun i => leAt bs (4 * i) 4)
      if hs.any (fun h => decide (2 ^ (s.usher p).htLog2 ≤ h)) then s.reqDone p r stHANDLE 0
      else (s.modUsher p (fun u => { u with
        scenes := tblSet none u.scenes (256 * entCtx r.entry + leAt r.entry 16 1) (some hs) })).reqDone p r stOK 0)

/-- The residency target of a scene: its list, the PERSIST and the pinned handles of the context. -/
def UshSt.sceneTarget (u : UshSt) (ctx : Nat) (list : List Nat) : List Nat :=
  distinct (list ++ u.handles.filterMap (fun e => match e.2 with
    | some h => if h.ctx = ctx ∧ (h.persist = true ∨ h.pinned = true) then some e.1 else none
    | none => none))

/-- The shards to fill: those of the target's non-resident handles without a place. -/
def UshSt.inShards (u : UshSt) (target : List Nat) : List (Nat × Nat × Option Nat × Nat) :=
  target.flatMap (fun hid => match tblGet none u.handles hid with
    | some h => if h.resident then [] else h.shards.zipIdx.filterMap (fun x =>
        if x.1.loc.isSome ∨ x.1.filling.isSome then none else some (hid, x.2, x.1.plan, h.shardPages x.2))
    | none => [])

/-- The out-set: handles of the context outside the target that hold pages. -/
def UshSt.outSet (u : UshSt) (ctx : Nat) (target : List Nat) : List Nat :=
  u.handles.filterMap (fun e => match e.2 with
    | some h => if h.ctx = ctx ∧ h.pinned = false ∧ h.persist = false ∧ e.1 ∉ target
        ∧ h.shards.any (fun x => x.loc.isSome) = true then some e.1 else none
    | none => none)

/-- Starts the fill of one shard into a place: reads of a valid partner copy, zeros otherwise. -/
def State.startFill (s : State) (p hid k : Nat) (l : Nat × Nat) : State :=
  match s.handle p hid with
  | none => s
  | some h =>
    let s := s.modShard p hid k (fun x => { x with filling := some l })
    match (h.shard k).partner, (h.shard k).pvalid with
    | some q, true => s.mpQueue p hid k q.1 (h.pieceCount k) true
    | _, _ => s

/-- Starts the eviction of one shard: released when clean with a valid copy, else written to its partner
place, reserved by R112 where it has none; without room the swap fails (R124, R134). -/
def State.startEvict (s : State) (p hid k : Nat) : State :=
  match s.handle p hid with
  | none => s
  | some h =>
    let x := h.shard k
    if x.loc.isNone then s
    else if x.pvalid = true ∧ x.dirty = false then s.evicted p hid k
    else
      let q := match x.partner with
        | some q => some q
        | none => s.partnerRun p (s.partnerMap p) (h.shardPages k)
      match q with
      | some q => (s.modShard p hid k (fun x => { x with partner := some q })).mpQueue p hid k q.1 (h.pieceCount k) false
      | none => ((s.modUsher p (fun u => { u with
          swap := u.swap.map (fun w => if w.fail = 0 then { w with fail := uPARTNER } else w) })).stays p hid k).evUsh p
            evUSH_PARTNER_ERR 0 0

/-- The code of the checks of a SCENE_SWAP: the scene is defined and every listed handle allocated, of the context. -/
def State.sceneCheck (s : State) (p ctx : Nat) (list : Option (List Nat)) : Nat :=
  match list with
  | none => uSCENE
  | some hs =>
    if hs.any (fun h => (s.handle p h).isNone) then uSCENE
    else if hs.any (fun h => match s.handle p h with | some x => x.ctx != ctx | none => false) then stACCESS
    else stOK

/-- Steps 3 and 4 of R124, once no access translated earlier uses a handle of the out-set: release, evict and fill. -/
def State.swapGo (s : State) (p : Nat) : State :=
  match (s.usher p).swap with
  | none => s
  | some w =>
    if w.out.any (fun hid => s.inUse p hid) then s
    else
      let s := s.setPhase p 2
      (w.out.foldl (fun s hid => match s.handle p hid with
        | some h => (List.range h.shards.length).foldl (fun s k => s.startEvict p hid k) s
        | none => s) s).mpPump p

/-- Step 2 of R124: the plan, with the places of the in-set reserved, and the out-set no longer resident; the steps behind
it follow at once where nothing has to drain. -/
def State.swapStart (s : State) (p : Nat) (r : UshReq) (list : List Nat) : State :=
  let ctx := entCtx r.entry
  let scene := leAt r.entry 16 1
  let u := s.usher p
  let target := u.sceneTarget ctx list
  let out := u.outSet ctx target
  let ins := u.inShards target
  let emptied : UshSt := { u with handles := u.handles.map (fun e =>
    if e.1 ∈ out then (e.1, e.2.map (fun h => { h with
      shards := h.shards.map (fun x => { x with loc := none, move := none }) })) else e) }
  match placeAll emptied.usedMap (ins.map (fun x => (x.2.2.1, x.2.2.2))) with
  | none => s.reqDone p r uNOSPACE 0
  | some ls =>
    let s := match tblGet none u.current ctx with
      | some old => s.logWhole p lEND ctx old
      | none => s
    let s := s.modUsher p (fun u => { u with
      swap := some ⟨ctx, scene, out, target, 0, 0⟩
      handles := u.handles.map (fun e => if e.1 ∈ out then (e.1, e.2.map (fun h => { h with
        resident := false, shards := h.shards.map (fun x => { x with move := none }) })) else e) })
    let s := s.setPhase p 4
    let s := target.foldl (fun s hid => match s.handle p hid with
      | some h => if h.shards.all (fun x => x.loc.isSome) then s.setHandle p hid (some { h with resident := true }) else s
      | none => s) s
    ((ins.zip ls).foldl (fun s x => s.startFill p x.1.1 x.1.2.1 x.2) s).swapGo p

/-- Fills of a SCENE_SWAP with EARLY = 1 before its start condition, into pages that are free (R125). -/
def State.swapEarly (s : State) (p : Nat) (list : List Nat) (ctx : Nat) : State :=
  let u := s.usher p
  let s := s.setPhase p 3
  let s := (u.inShards (u.sceneTarget ctx list)).foldl (fun s x =>
    match placeShard (s.usher p).usedMap x.2.2.1 x.2.2.2 with
    | some l => s.startFill p x.1 x.2.1 l
    | none => s) s
  s.mpPump p

/-- SCENE_SWAP. -/
def State.sceneSwap (s : State) (p : Nat) : State :=
  match (s.usher p).req with
  | none => s
  | some r =>
    let ctx := entCtx r.entry
    let list := tblGet none (s.usher p).scenes (256 * ctx + leAt r.entry 16 1)
    if entOp r.entry ≠ 0x0A ∨ r.phase = 2 then s
    else if r.phase = 4 then s.swapGo p
    else if s.reqMet p r = false then
      (if r.phase = 0 ∧ bit (leAt r.entry 17 1) 0 = true ∧ entReserved r.entry = false ∧ (s.usher p).hold = false
          ∧ s.sceneCheck p ctx list = stOK then s.swapEarly p (list.getD []) ctx else s)
    else if entReserved r.entry then s.reqDone p r stFIELD 0
    else if (s.usher p).hold then s.reqDone p r uCONSERV 0
    else if s.sceneCheck p ctx list ≠ stOK then s.reqDone p r (s.sceneCheck p ctx list) 0
    else s.swapStart p r (list.getD [])

/-- Whether a transfer of the swap is still under way. -/
def State.swapBusy (s : State) (p : Nat) : Bool :=
  (s.usher p).draining || (s.usher p).mp != [] || (s.usher p).handles.any (fun e => match e.2 with
    | some h => h.shards.any (fun x => x.filling.isSome)
    | none => false)

/-- SCENE_SWAP_COMPLETE: every transfer has ended (R124 step 5, R126). -/
def State.swapComplete (s : State) (p : Nat) : State :=
  match (s.usher p).swap, (s.usher p).req with
  | some w, some r =>
    if s.swapBusy p then s
    else
      let s := s.modUsher p (fun u => { u with swap := none })
      if w.fail ≠ 0 then
        let s := w.out.foldl (fun s hid => match s.handle p hid with
          | some h => if h.shards.all (fun x => x.loc.isSome) then s.setHandle p hid (some { h with resident := true }) else s
          | none => s) s
        s.reqDone p r w.fail w.filled
      else
        let s := s.modUsher p (fun u => { u with current := tblSet none u.current w.ctx (some w.scene) })
        let s := s.logWhole p lBEGIN w.ctx w.scene
        (s.placement p).1.reqDone p r stOK w.filled
  | _, _ => s

/-! ## Partner responses (R134) -/

/-- The outstanding request that a response answers. -/
def State.mpFor (s : State) (p : Nat) (b : List Byte) (read : Bool) : Option MpReq :=
  (s.usher p).mp.find? (fun r => r.sent && r.tag == mpTag b && r.read == read)

def State.mpTake (s : State) (p : Nat) (r : MpReq) : State :=
  s.modUsher p (fun u => { u with mp := u.mp.filter (fun x => x != r) })

/-- One piece of a shard is done; answers what remains. -/
def State.pieceDone (s : State) (p : Nat) (r : MpReq) : State × Nat :=
  let s := s.modShard p r.handle r.shard (fun x => { x with waiting := x.waiting - 1 })
  (s, match s.handle p r.handle with | some h => (h.shard r.shard).waiting | none => 1)

/-- READ_DATA for a fill: poisoned units are written back poisoned. -/
def State.mpReadData (s : State) (p : Nat) (m : Msg) : State :=
  if mpOp m.body ≠ 8 then s.discardMsg p m
  else if s.refuses p m then s.takeMsg p m
  else
   let s := s.takeMsg p m
   match s.mpFor p m.body true with
    | none => s
    | some r =>
      if mpStatus m.body ≠ 0 then ((s.mpFail p r uPARTNER).mpPump p)
      else
        let s := s.mpTake p r
        if r.dead then s.mpPump p
        else match (s.handle p r.handle).bind (fun h => (h.shard r.shard).filling) with
        | none => s.mpPump p
        | some l =>
          let cs := markUnits (slice m.body 16 mpPiece) (mpPoison m.body)
          let s := (s.writeMarked (shardAddr p l (r.piece * mpPiece)) cs).1
          let t := s.pieceDone p r
          (if t.2 = 0 then t.1.modShard p r.handle r.shard (fun x => { x with pvalid := true }) |>.filled p r.handle r.shard
           else t.1).mpPump p

/-- WRITE_ACK for an eviction. -/
def State.mpWriteAck (s : State) (p : Nat) (m : Msg) : State :=
  if mpOp m.body ≠ 9 then s.discardMsg p m
  else if s.refuses p m then s.takeMsg p m
  else
   let s := s.takeMsg p m
   match s.mpFor p m.body false with
    | none => s
    | some r =>
      if mpStatus m.body ≠ 0 then ((s.mpFail p r uPARTNER).mpPump p)
      else
        let s := s.mpTake p r
        match s.handle p r.handle with
        | none => s.mpPump p
        | some h =>
          if r.dead = true ∨ (h.shard r.shard).waiting = 0 then s.mpPump p
          else
            let t := s.pieceDone p r
            (if t.2 = 0 then t.1.evicted p r.handle r.shard else t.1).mpPump p

/-- MP_TIMEOUT: a request unanswered for MP_TIMEOUT µs fails. -/
def State.mpTimeout (s : State) (p tag : Nat) : State :=
  match (s.usher p).mp.find? (fun r => r.sent && r.tag == tag) with
  | none => s
  | some r => (s.mpFail p r uPARTNER).mpPump p

/-! ## The export window (R135) -/

/-- Pages of the window: 1 to 4,096. -/
def exportCount (v : Nat) : Nat := min 4096 (bits v 12 0)

/-- Free pages one by one, in the order of R111; none if there are too few. -/
def exportAlloc (m : List (List (Nat × Nat))) (n : Nat) : Option (List (Nat × Nat)) :=
  placeAll m (List.replicate n (none, 1))

/-- A write of EXPORT_CFG: EN from 0 to 1 allocates and zero-fills the window; without the pages, or with
none asked, EN stays 0 (log 23). PAGES is written only while EN = 0. -/
def State.writeExport (s : State) (p : Nat) (v : W32) : State :=
  let a := aUsh p + rUSH_EXPORT_CFG
  if rb (s.reg a) 31 then
    (if rb v 31 then s
    else
      let ps := (s.usher p).exportPages
      let s := s.modUsher p (fun u => { u with
        hidden := u.hidden.filter (fun h => !(h.2.2 == 1 && ps.any (fun l => l.1 == h.1 && l.2 == h.2.1))), exportPages := [] })
      s.setFld a 31 31 0)
  else
    let s := s.setFld a 12 0 (rf v 12 0)
    if rb v 31 = false ∨ exportCount v.toNat = 0 then s
    else match exportAlloc (s.usher p).usedMap (exportCount v.toNat) with
      | none => s
      | some ls =>
        let s := ls.foldl (fun s l => s.zeroMem (shardAddr p l 0) pageBytes) s
        let s := s.modUsher p (fun u => { u with
          hidden := u.hidden ++ ls.map (fun l => (l.1, l.2, 1)), exportPages := ls })
        s.setFld a 31 31 1

/-- Whether a request is inside the window and of the partition's tenant. -/
def State.exportOk (s : State) (p : Nat) (m : Msg) : Bool :=
  rb (s.reg (aUsh p + rUSH_EXPORT_CFG)) 31 && (s.part p).st == 1 && m.tenant == (s.part p).tenant
    && decide ((mpAddr m.body + mpLen m.body) * 64 ≤ (s.usher p).exportPages.length * pageBytes)

/-- Global address of a byte of the window. -/
def State.exportAddr (s : State) (p off : Nat) : Nat :=
  shardAddr p ((s.usher p).exportPages.getD (off / pageBytes) (0, 0)) (off % pageBytes)

/-- The 64 B units of a request one by one. -/
def State.exportRead (s : State) (p addr n : Nat) : State × List (Byte × Bool) :=
  (List.range n).foldl (fun (a : State × List (Byte × Bool)) i =>
    let r := a.1.readMem (s.exportAddr p ((addr + i) * 64)) 64
    (r.1, a.2 ++ r.2)) (s, [])

/-- MP_READ: answered with the data, or with ADDR_ERROR. -/
def State.mpRead (s : State) (p : Nat) (m : Msg) : State :=
  if mpOp m.body ≠ 1 then s.discardMsg p m
  else
    let s := s.takeMsg p m
    let b := m.body
    if s.exportOk p m then
      let r := s.exportRead p (mpAddr b) (mpLen b)
      r.1.reply p m 3 profMp (mpHeader 8 0 (mpLen b - 1) (mpTag b) (mpAddr b) (poisonBits r.2) ++ plain r.2)
    else s.reply p m 3 profMp (mpHeader 8 1 (mpLen b - 1) (mpTag b) (mpAddr b) 0 ++ List.replicate (64 * mpLen b) 0#8)

/-- MP_WRITE: written with its poison bits, and acknowledged. -/
def State.mpWrite (s : State) (p : Nat) (m : Msg) : State :=
  if mpOp m.body ≠ 2 then s.discardMsg p m
  else
    let s := s.takeMsg p m
    let b := m.body
    let ok := s.exportOk p m
    let s := if ok then
        (List.range (mpLen b)).foldl (fun s i =>
          (s.writeMarked (s.exportAddr p ((mpAddr b + i) * 64))
            (markUnits (slice b (16 + 64 * i) 64) (if bit (mpPoison b) i then 1 else 0))).1) s
      else s
    s.reply p m 3 profMp (mpHeader 9 (if ok then 0 else 1) (mpLen b - 1) (mpTag b) (mpAddr b) 0)

/-! ## BAR2 (R114) -/

/-- The partition, handle and offset that a BAR2 byte reaches, if it is bound, resident in its place and below SIZE. -/
def State.bar2 (s : State) (a : Nat) : Option (Nat × Nat × Nat) :=
  let p := a / 2 ^ 34
  match tblGet none (s.usher p).windows (a % 2 ^ 34 / 2 ^ 24) with
  | none => none
  | some b =>
    let off := b.2 + a % 2 ^ 24
    match s.handle p b.1 with
    | some h => if p < 4 ∧ h.resident = true ∧ off < h.size ∧ (h.shard (off / h.shardBytes)).loc.isSome = true then
        some (p, b.1, off) else none
    | none => none

/-- Host bytes grouped as runs that lie in one word of one handle: index and length within the access. -/
def wordRuns (a n : Nat) : List (Nat × Nat) :=
  (wordsOf a n).map (fun w =>
    let lo := max a (8 * w)
    (lo - a, min (a + n) (8 * w + 8) - lo))

def State.hostMiss (s : State) (a : Nat) : State := s.evUsh (a / 2 ^ 34 % 4) evUSH_HOST_MISS 0 0

/-- Whether the host's accesses reach the partition of a BAR2 address: while a ring pair of the way is down they are held
at their source, the host's side (R31, log 69). -/
def State.bar2Open (s : State) (a : Nat) : Bool := s.ringOpen 0 (a / 2 ^ 34) && s.ringOpen (a / 2 ^ 34) 0

/-- HOST_BAR2_READ: byte by byte; a miss or a poisoned word reads 0xFF. -/
def State.bar2Read (s : State) (a n : Nat) : State :=
 if s.bar2Open a = false then s
 else
  let r := (List.range n).foldl (fun (x : State × List Byte × Bool) i =>
    match x.1.bar2 (a + i) with
    | none => (x.1, x.2.1 ++ [0xFF#8], true)
    | some t =>
      let y := x.1.readHandle t.1 t.2.1 t.2.2 1 none
      (y.1, x.2.1 ++ y.2.map (fun c => if c.2 then 0xFF#8 else c.1), x.2.2)) (s, [], false)
  (if r.2.2 then r.1.hostMiss a else r.1).emit (.readData r.2.1)

/-- HOST_BAR2_WRITE: word by word, bytes that miss dropped; part of a poisoned word is dropped. -/
def State.bar2Write (s : State) (a : Nat) (bs : List Byte) : State :=
 if s.bar2Open a = false then s
 else
  let r := (wordRuns a bs.length).foldl (fun (x : State × Bool) w =>
    let cells := (List.range w.2).map (fun i => (x.1.bar2 (a + w.1 + i), bs.getD (w.1 + i) 0))
    let miss := cells.any (fun c => c.1.isNone)
    match cells.find? (fun c => c.1.isSome) with
    | some (some t, _) =>
      let live := cells.filter (fun c => c.1.isSome)
      let k := x.1.readHandle t.1 t.2.1 t.2.2 1 none
      if live.length < 8 ∧ anyPoison k.2 = true then (k.1, true)
      else ((x.1.writeHandle t.1 t.2.1 t.2.2 (live.map (fun c => (c.2, false))) none).1, x.2 || miss)
    | _ => (x.1, x.2 || miss)) (s, false)
  if r.2 then r.1.hostMiss a else r.1

/-! ## The commands -/

/-- REQ_TAIL_WRITE: the doorbell (R108). -/
def State.writeReqTail (s : State) (p : Nat) (v : W32) : State :=
  (s.modUsher p (fun u => { u with tail := rf v 15 0, stalled := false })).nextReq p

def execReqTailWrite (p : Nat) (v : W32) (s : State) : Host.Outcome State Fault Refusal := .next (s.onPage .ush p (fun s => s.writeReqTail p v))
/-- CREATE. -/
def execCreate (p : Nat) (s : State) : Host.Outcome State Fault Refusal := .next (s.create p)
/-- DESTROY. -/
def execDestroy (p : Nat) (s : State) : Host.Outcome State Fault Refusal := .next (s.destroy p)
/-- PIN. -/
def execPin (p : Nat) (s : State) : Host.Outcome State Fault Refusal := .next (s.pin p)
/-- UNPIN. -/
def execUnpin (p : Nat) (s : State) : Host.Outcome State Fault Refusal := .next (s.unpin p)
/-- MAP. -/
def execMap (p : Nat) (s : State) : Host.Outcome State Fault Refusal := .next (s.mapReq p false)
/-- UNMAP. -/
def execUnmap (p : Nat) (s : State) : Host.Outcome State Fault Refusal := .next (s.mapReq p true)
/-- PLACE_POINT. -/
def execPlacePoint (p : Nat) (s : State) : Host.Outcome State Fault Refusal := .next (s.placePoint p)
/-- REHEARSE_BEGIN. -/
def execRehearseBegin (p : Nat) (s : State) : Host.Outcome State Fault Refusal := .next (s.rehearseBegin p)
/-- REHEARSE_END. -/
def execRehearseEnd (p : Nat) (s : State) : Host.Outcome State Fault Refusal := .next (s.rehearseEnd p)
/-- SCENE_DEFINE. -/
def execSceneDefine (p : Nat) (s : State) : Host.Outcome State Fault Refusal := .next (s.sceneDefine p)
/-- SCENE_SWAP. -/
def execSceneSwap (p : Nat) (s : State) : Host.Outcome State Fault Refusal := .next (s.sceneSwap p)
/-- SCENE_SWAP_COMPLETE. -/
def execSceneSwapComplete (p : Nat) (s : State) : Host.Outcome State Fault Refusal := .next (s.swapComplete p)
/-- HOST_BAR2_READ. -/
def execHostBar2Read (addr len : Nat) (s : State) : Host.Outcome State Fault Refusal := .next (s.bar2Read addr len)
/-- HOST_BAR2_WRITE. -/
def execHostBar2Write (addr : Nat) (data : List Byte) (s : State) : Host.Outcome State Fault Refusal :=
  .next (s.bar2Write addr data)
/-- EPOCH. -/
def execEpoch (p : Nat) (s : State) : Host.Outcome State Fault Refusal := .next (s.epoch p)
/-- MIGRATE. -/
def execMigrate (p handle shard : Nat) (s : State) : Host.Outcome State Fault Refusal := .next (s.migrate p handle shard)
/-- MP_READ. -/
def execMpRead (p : Nat) (m : Msg) (s : State) : Host.Outcome State Fault Refusal := .next (s.mpRead p m)
/-- MP_WRITE. -/
def execMpWrite (p : Nat) (m : Msg) (s : State) : Host.Outcome State Fault Refusal := .next (s.mpWrite p m)
/-- MP_READ_DATA. -/
def execMpReadData (p : Nat) (m : Msg) (s : State) : Host.Outcome State Fault Refusal := .next (s.mpReadData p m)
/-- MP_WRITE_ACK. -/
def execMpWriteAck (p : Nat) (m : Msg) (s : State) : Host.Outcome State Fault Refusal := .next (s.mpWriteAck p m)
/-- MP_TIMEOUT. -/
def execMpTimeout (p tag : Nat) (s : State) : Host.Outcome State Fault Refusal := .next (s.mpTimeout p tag)
/-- EXPORT_ENABLE: a write of EXPORT_CFG. -/
def execExportEnable (p : Nat) (v : W32) (s : State) : Host.Outcome State Fault Refusal := .next (s.onPage .ush p (fun s => s.writeExport p v))

end Sys2Proof.Machine
end

