-- ==== Sys2Proof/Machine/Dma.lean ====
section
/-! DEFINITION. Chapter 6: descriptor rings, the modes and reshuffles, completion, abort, and the native
transactions of peer accesses (R232). -/

namespace Sys2Proof.Machine

open Sys2Proof

/-! ## The descriptor (Table 6-2) -/

def dHdr (d : List Byte) : Nat := leAt d 0 4
def dMode (d : List Byte) : Nat := bits (dHdr d) 3 0
def dShuf (d : List Byte) : Nat := bits (dHdr d) 7 4
def dOwn (d : List Byte) : Bool := bit (dHdr d) 8
def dIrq (d : List Byte) : Bool := bit (dHdr d) 9
def dSig (d : List Byte) : Bool := bit (dHdr d) 10
def dChain (d : List Byte) : Bool := bit (dHdr d) 11
def dStart (d : List Byte) : Nat := bits (dHdr d) 13 12
def dCond (d : List Byte) : Bool := bit (dHdr d) 14
def dTc5 (d : List Byte) : Bool := bit (dHdr d) 15
def dTag (d : List Byte) : Nat := bits (dHdr d) 31 16
def dXlen (d : List Byte) : Nat := bits (leAt d 28 4) 23 0
def dSw (d : List Byte) : Nat := bits (leAt d 28 4) 26 24
def dDw (d : List Byte) : Nat := bits (leAt d 28 4) 29 27
def dRows (d : List Byte) : Nat := leAt d 32 2 + 1
def dPlanes (d : List Byte) : Nat := leAt d 34 2 + 1
def dParam (d : List Byte) : Nat := leAt d 34 2
def dSy (d : List Byte) : Int := sgn 32 (leAt d 36 4)
def dDy (d : List Byte) : Int := sgn 32 (leAt d 40 4)
def dSz (d : List Byte) : Int := sgn 32 (leAt d 44 4)
def dDz (d : List Byte) : Int := sgn 32 (leAt d 48 4)
def dAux (d : List Byte) : Nat := leAt d 44 8

abbrev dREMOTE : Nat := 0x12

/-- The checks of the descriptor's own fields, made when it is reached (log 25). -/
def descFields (d : List Byte) : Nat :=
  let mode := dMode d
  let shuf := dShuf d
  if 2 < mode ∨ 4 < shuf ∨ dStart d = 3 ∨ dXlen d = 0 ∨ dSw d = 7 ∨ dDw d = 7 ∨ leAt d 28 4 / 2 ^ 30 ≠ 0
      ∨ (shuf ≠ 0 ∧ mode ≠ 1)
      ∨ (mode = 0 ∧ 2 ^ 40 < dXlen d * dRows d * dPlanes d)
      ∨ ((shuf = 3 ∨ shuf = 4) ∧ dParam d / 16 ≠ 0)
      ∨ ((shuf = 1 ∨ shuf = 2) ∧ (dPlanes d = 1 ∨ 16 < dPlanes d))
      ∨ (shuf = 1 ∧ dXlen d % 2 ^ dSw d ≠ 0) ∨ (shuf = 2 ∧ dXlen d % 2 ^ dDw d ≠ 0) then stFIELD
  else stOK

def Endpt.isPeer : Endpt → Bool
  | .peer _ _ _ _ => true
  | _ => false

/-- A handle of this device or scratch. -/
def Endpt.isMem : Endpt → Bool
  | .handle _ _ _ => true
  | .scratch _ _ => true
  | _ => false

/-- The 16 B alignment of a peer endpoint: offset, XLEN and, where they are used, its strides (R167). -/
def peerAligned (d : List Byte) (e : Endpt) (y z : Int) : Bool :=
  match e with
  | .peer _ _ _ off => off % 16 == 0 && dXlen d % 16 == 0
      && (dMode d == 0 || (y % 16 == 0 && (dMode d == 2 || z % 16 == 0)))
  | _ => true

/-- The endpoints of a descriptor, or the code of the check that fails when it starts. -/
def descEnds (c : Nat) (d : List Byte) : Except Nat (Endpt × Endpt) :=
  match endpoint c (leAt d 12 8), endpoint c (leAt d 20 8) with
  | some a, some b =>
    if dShuf d ≠ 0 ∧ (a.isMem && b.isMem) = false then .error stFIELD
    else if dMode d = 2 ∧ a.isPeer = true then .error stFIELD
    else if peerAligned d a (dSy d) (dSz d) && peerAligned d b (dDy d) (dDz d) then .ok (a, b)
    else .error stALIGN
  | _, _ => .error stFIELD

/-! ## The ring (R169, R170) -/

abbrev hDISABLED : Nat := 0
abbrev hIDLE : Nat := 1
abbrev hACTIVE : Nat := 2
abbrev hEVENT : Nat := 3
abbrev hSYNC : Nat := 4
abbrev hHALTED : Nat := 5
abbrev hPAUSED : Nat := 6

/-- Descriptors of the ring: 2^LOG2, values outside 4 to 16 acting as 4. -/
def State.ringSlots (s : State) (ch : Nat) : Nat :=
  let n := s.fld (aDma ch + rDMA_RING_SIZE) 4 0
  if 4 ≤ n ∧ n ≤ 16 then 2 ^ n else 16

def State.ringBase (s : State) (ch : Nat) : Nat :=
  (s.reg (aDma ch + rDMA_RING_BASE_LO)).toNat + (s.reg (aDma ch + rDMA_RING_BASE_HI)).toNat * 2 ^ 32

/-- A ring base is valid: an endpoint word, 64 B aligned, not a peer. -/
def State.ringBaseOk (s : State) (ch : Nat) : Bool :=
  s.ringBase ch % 64 == 0 && (match endpoint (cluOfChan ch) (s.ringBase ch) with
    | some e => !e.isPeer
    | none => false)

/-- A switch is stopping the channel's context, or the context takes its turns with others and is not the one that
runs (R185); a channel of a context that is not enabled takes part in no switch (log 58). -/
def State.chanOff (s : State) (ch : Nat) : Bool :=
  let p := partOfChan ch
  let x := s.chanCtx ch
  if x = (s.usher p).running then (s.usher p).stopped else rb (s.reg (aUsh p + rUSH_CTX_CTL)) (24 + x)

/-- Reads one descriptor ahead (R170): at most four behind the one that executes; it waits while the way to the ring's
endpoint is down (R31). -/
def State.readDesc (s : State) (ch : Nat) : State :=
  let c := s.chan ch
  let n := s.ringSlots ch
  if c.st = hDISABLED ∨ c.st = hHALTED ∨ c.stalled = true ∨ 5 ≤ c.ahead.length ∨ c.head % n = c.tail % n then s
  else
    let i := c.head % n
    match endpoint (cluOfChan ch) (s.ringBase ch) with
    | none => s
    | some e =>
     if s.endOpen (partOfChan ch) e = false then s
     else
      let bad := s.readCheck ch e (64 * i : Nat) 64
      let r := if bad = stOK then s.endRead ch e (64 * i : Nat) 64 else (s, List.replicate 64 (0x00#8, false))
      let d := plain r.2
      let bad := if bad ≠ stOK then bad else if anyPoison r.2 then stECC else stOK
      if bad = stOK ∧ dOwn d = false then r.1.modChan ch (fun c => { c with stalled := true })
      else r.1.modChan ch (fun c => { c with head := (i + 1) % n, ahead := c.ahead ++ [⟨i, d, bad⟩] })

/-- The first descriptor is reached: its fields are checked, and it waits or is due (R170, R179, R181). -/
def State.arm (s : State) (ch : Nat) : State :=
  let c := s.chan ch
  if c.st ≠ hIDLE ∨ s.chanOff ch = true then s
  else match c.ahead with
    | [] => s
    | x :: _ =>
      let code := if x.bad ≠ stOK then x.bad else descFields x.bytes
      if code ≠ stOK then s.modChan ch (fun c => { c with st := hACTIVE, started := true, code := code })
      else if dStart x.bytes = 1 then
        (if c.events = 0 then s.modChan ch (fun c => { c with st := hEVENT })
        else s.modChan ch (fun c => { c with st := hACTIVE, events := c.events - 1 }))
      else if dStart x.bytes = 2 then
        let p := partOfChan ch
        (s.modChan ch (fun c => { c with st := hSYNC })).addWaiter p
          ⟨srcChan ch, leAt x.bytes 6 2, dCond x.bytes, leAt x.bytes 8 4, s.waitDef p, s.tsu.gts, false⟩
      else s.modChan ch (fun c => { c with st := hACTIVE })

/-- Reads ahead and reaches the next descriptor. -/
def State.chanGo (s : State) (ch : Nat) : State := (forN (fun _ s => s.readDesc ch) 5 s).arm ch

/-- The descriptor due to start: ACTIVE and not started, or its sync condition met. -/
def State.due (s : State) (ch : Nat) : Option DescSlot :=
  let c := s.chan ch
  match c.ahead with
  | [] => none
  | x :: _ =>
    if c.started then none
    else if c.st = hACTIVE then some x
    else if c.st = hSYNC then
      (match s.waiterOf (partOfChan ch) (srcChan ch) with
       | some w => if w.met then some x else none
       | none => none)
    else none

/-- Destination bytes written (BYTES). -/
def State.countBytes (s : State) (ch n : Nat) : State := s.modChan ch (fun c => { c with bytes := (c.bytes + n) % 2 ^ 38 })

/-- The first code a descriptor meets stands. -/
def State.chanErr (s : State) (ch code : Nat) : State :=
  s.modChan ch (fun c => { c with code := if c.code = stOK then code else c.code })

/-! ## Rows of the modes -/

/-- A row: displacement at the source, at the destination, and length. -/
abbrev Row := Int × Int × Nat

/-- Rows of linear and strided mode in stream order (R173); linear rows are XLEN bytes (log 25). -/
def descRows (d : List Byte) : List Row :=
  if dMode d = 0 then
    (List.range (dRows d * dPlanes d)).map (fun i => ((i * dXlen d : Nat), (i * dXlen d : Nat), dXlen d))
  else
    (List.range (dPlanes d)).flatMap (fun (z : Nat) => (List.range (dRows d)).map (fun (y : Nat) =>
      (z * dSz d + y * dSy d, z * dDz d + y * dDy d, dXlen d)))

/-- The rows before the first that leaves an endpoint, and its code. -/
def State.rowsUntil (s : State) (ch : Nat) (a b : Endpt) (rows : List Row) : List Row × Nat :=
  rows.foldl (fun (x : List Row × Nat) r =>
    if x.2 ≠ stOK then x
    else
      let k := s.readCheck ch a r.1 r.2.2
      let l := s.endCheck ch b r.2.1 r.2.2
      if k ≠ stOK then (x.1, k) else if l ≠ stOK then (x.1, l) else (x.1 ++ [r], stOK)) ([], stOK)

/-- The space and first address of a row, for the overlap rule of R173. -/
def Endpt.span (e : Endpt) (d : Int) : Nat × Nat × Nat :=
  match e with
  | .handle p h off => (0, 2 ^ 20 * p + h, (off + d).toNat)
  | .scratch core a => (1, core, (a + d).toNat)
  | .host a => (2, 0, (a + d).toNat)
  | .peer c _ h off => (3, 2 ^ 20 * c + h, (off + d).toNat)

/-- Destination bytes that a source row of the descriptor also holds keep their old value or take the copied
one, which being free (log 16). -/
def State.overlapChoice (s : State) (ch : Nat) (a b : Endpt) (rows : List Row) (r : Row) (cs : List (Byte × Bool)) :
    List (Byte × Bool) :=
  let t := b.span r.2.1
  let hit := fun i => rows.any (fun q =>
    let u := a.span q.1
    u.1 == t.1 && u.2.1 == t.2.1 && decide (u.2.2 ≤ t.2.2 + i) && decide (t.2.2 + i < u.2.2 + q.2.2))
  if (List.range cs.length).any hit then
    let old := (s.endRead ch b r.2.1 cs.length).2
    cs.zipIdx.map (fun c => if hit c.2 = true ∧ Config.dmaKeepsOld s.freeCtr (t.2.2 + c.2) = true then old.getD c.2 c.1 else c.1)
  else cs

/-- Copies rows between local endpoints by units of their widths: every source byte is read first. -/
def State.copyLocal (s : State) (ch : Nat) (d : List Byte) (a b : Endpt) (rows : List Row) : State :=
  let r := rows.foldl (fun (x : State × List (List (Byte × Bool)) × Bool) q =>
    let t := x.1.unitRead ch a (dSw d) q.1 q.2.2
    (t.1, x.2.1 ++ [t.2.1], x.2.2 || t.2.2)) (s, [], false)
  let w := (rows.zip r.2.1).foldl (fun (x : State × Bool) q =>
    let cs := x.1.overlapChoice ch a b rows q.1 q.2
    let t := x.1.unitWrite ch b (dDw d) q.1.2.1 cs
    (t.1.countBytes ch cs.length, x.2 || t.2)) (r.1, r.2.2)
  let s := w.1.tick
  if w.2 then s.chanErr ch stECC else s

/-! ## Peer transfers (R167, R232) -/

abbrev profNative : Nat := 1

/-- The header of Table 8-8. -/
def natHeader (op status len tag handle off poison : Nat) : List Byte :=
  leBytes 1 (op + 16 * status) ++ leBytes 1 len ++ leBytes 2 tag ++ leBytes 4 handle ++ leBytes 4 off ++ leBytes 4 poison

def natOp (b : List Byte) : Nat := bits (leAt b 0 1) 3 0
def natStatus (b : List Byte) : Nat := bits (leAt b 0 1) 7 4
def natLen (b : List Byte) : Nat := 16 * (bits (leAt b 1 1) 6 0 + 1)
def natTag (b : List Byte) : Nat := leAt b 2 2
def natHandle (b : List Byte) : Nat := bits (leAt b 4 4) 19 0
def natOff (b : List Byte) : Nat := 16 * bits (leAt b 8 4) 27 0
def natPoison (b : List Byte) : Nat := leAt b 12 4

abbrev profColl : Nat := 5

/-- A collective message (Table 9-4): OP, first element and count, tag, handle, and the data zero-padded to 16 B. -/
def collBody (x : Nat × Nat × Nat) (tag handle : Nat) (bs : List Byte) : List Byte :=
  leBytes 2 x.1 ++ leBytes 2 tag ++ leBytes 4 handle ++ leBytes 2 x.2.2 ++ leBytes 2 0 ++ leBytes 4 x.2.1
    ++ padTo (16 * ceilDiv bs.length 16) bs

/-- Whether an entry of PARTp.COLLi registers a handle for a reduction mode (R276 to R278): 1 EXACT, 2 ANCHOR. -/
def State.collFor (s : State) (p h mode : Nat) : Bool :=
  ((List.range 8).map (fun i => s.reg (aPart p + rPART_COLL + 4 * i))).any (fun r =>
    rb r 31 && rf r 30 29 == mode && rf r 19 0 == h)

/-- The mode that a source handle's transfers take: that of the first entry that registers it (log 70), else 0. -/
def State.collMode (s : State) (p h : Nat) : Nat :=
  match ((List.range 8).map (fun i => s.reg (aPart p + rPART_COLL + 4 * i))).find? (fun r =>
    rb r 31 && (rf r 30 29 == 1 || rf r 30 29 == 2) && rf r 19 0 == h) with
  | some r => rf r 30 29
  | none => 0

/-- Cuts rows into messages of at most 2,048 B: position in the stream and length. -/
def rowPieces (rows : List Row) : List (Nat × Nat) :=
  (rows.foldl (fun (x : Nat × List (Nat × Nat)) r =>
    (x.1 + r.2.2, x.2 ++ (List.range (ceilDiv r.2.2 2048)).map (fun i => (x.1 + 2048 * i, min 2048 (r.2.2 - 2048 * i)))))
    (0, [])).2

/-- The row of a stream position and the offset within it. -/
def rowAtPos (rows : List Row) (pos : Nat) : Option (Row × Nat) :=
  (rows.foldl (fun (x : Nat × Option (Row × Nat)) r =>
    (x.1 + r.2.2, if x.2.isNone ∧ pos < x.1 + r.2.2 then some (r, pos - x.1) else x.2)) (0, none)).2

/-- Sends the next peer request of a channel; one that may not be named ends with ACCESS, one without a
route with LINK_DOWN. -/
def State.peerSend (s : State) (ch : Nat) (d : List Byte) (a b : Endpt) (rows : List Row) (q : PeerReq) : State :=
  let p := partOfChan ch
  let tag := ch % 192 * 256 + (s.chan ch).nextTag % 256
  match (if q.coll.1 = 0 then rowAtPos rows q.pos else some ((0, 0, 0), 0)), (if q.read then a else b) with
  | some (r, o), .peer c part h off =>
    if s.mayName p c = false then (s.modChan ch (fun c => { c with todo := [] })).chanErr ch stACCESS
    else
      let at_ := ((off : Int) + (if q.read then r.1 else r.2.1) + o).toNat / 16
      let cs := (List.range q.len).map (fun i => tblGet (0#8, false) (s.chan ch).data (q.pos + i))
      let body := if q.coll.1 ≠ 0 then collBody q.coll tag h (plain cs)
        else if q.read then natHeader 1 0 (q.len / 16 - 1) tag h at_ 0
        else natHeader 2 0 (q.len / 16 - 1) tag h at_ (poisonBits cs) ++ plain cs
      let t := s.sendPeer p c (if q.read then 2 else if dTc5 d then 5 else 4) part (if q.coll.1 = 0 then profNative else profColl) body
      if t.2 then t.1.modChan ch (fun x => { x with
          nextTag := (x.nextTag + 1) % 256, todo := x.todo.drop 1
          reqs := x.reqs ++ [{ q with tag := tag, peer := c }] })
      else (t.1.modChan ch (fun c => { c with todo := [] })).chanErr ch stLINKDN
  | _, _ => s.modChan ch (fun c => { c with todo := c.todo.drop 1 })

/-- Rows of fetch mode at the destination (R174): element `k` at `k` strides. -/
def fetchRows (d : List Byte) : List Row :=
  (List.range (dRows d * dPlanes d)).map (fun (k : Nat) => (0, k * dDy d, dXlen d))

/-- The rows of the executing descriptor that it moves. -/
def State.chanRows (s : State) (ch : Nat) : Option (List Byte × Endpt × Endpt × List Row) :=
  match (s.chan ch).ahead with
  | [] => none
  | x :: _ =>
    match descEnds (cluOfChan ch) x.bytes with
    | .ok (a, b) => some (x.bytes, a, b,
        if dMode x.bytes = 2 then fetchRows x.bytes else (s.rowsUntil ch a b (descRows x.bytes)).1)
    | .error _ => none

/-- Whether a channel may issue a request: fewer than 256 are outstanding, and a READ only with room for its READ_DATA
beside the reads outstanding and what was read and waits to be written on (R232, log 71). -/
def ChanSt.room (c : ChanSt) (q : PeerReq) : Bool :=
  let waits := c.reqs.filter (fun r => r.read) ++ c.todo.filter (fun r => !r.read)
  decide (c.reqs.length < 256) && (!q.read || waits.isEmpty || decide (waits.length ≤ Config.readRoom))

/-- Sends peer requests while there is room. -/
def State.peerPump (s : State) (ch : Nat) : State :=
  forN (fun _ s =>
    match (s.chan ch).todo, s.chanRows ch with
    | q :: _, some (d, a, b, rows) => if (s.chan ch).room q then s.peerSend ch d a b rows q else s
    | _, _ => s) 256 s

/-- Starts a transfer with a peer endpoint: reads are requested, or local data is held and written. -/
def State.copyPeer (s : State) (ch : Nat) (d : List Byte) (a : Endpt) (rows : List Row) : State :=
  let ps := rowPieces rows
  if a.isPeer then
    (s.modChan ch (fun c => { c with todo := ps.map (fun x => ⟨0, true, x.1, x.2, 0, 0, 0, 0⟩) })).peerPump ch
  else
    let r := rows.foldl (fun (x : State × List (Byte × Bool) × Bool) q =>
      let t := x.1.unitRead ch a (dSw d) q.1 q.2.2
      (t.1, x.2.1 ++ t.2.1, x.2.2 || t.2.2)) (s, [], false)
    let s := r.1.modChan ch (fun c => { c with
      data := r.2.1.zipIdx.map (fun v => (v.2, v.1)), todo := ps.map (fun x => ⟨0, false, x.1, x.2, 0, 0, 0, 0⟩) })
    let s := if r.2.2 then s.chanErr ch stECC else s
    s.peerPump ch

/-- Whether the ways to both endpoints of a descriptor are up (R31). -/
def State.endsOpen (s : State) (ch : Nat) (d : List Byte) : Bool :=
  match descEnds (cluOfChan ch) d with
  | .ok (a, b) => s.endOpen (partOfChan ch) a && s.endOpen (partOfChan ch) b
    && (!(dMode d == 2 || dShuf d == 3 || dShuf d == 4) || (match endpoint (cluOfChan ch) (dAux d) with
      | some t => s.endOpen (partOfChan ch) t
      | none => true))
  | .error _ => true

/-- Starts the descriptor that is due, if its header fits a row of the table of commands. While a ring pair on its way is
down it is held at its source: the command leaves it due (R31, log 69). -/
def State.startDesc (s : State) (ch : Nat) (fits : List Byte → Bool) (run : State → DescSlot → Endpt → Endpt → State) : State :=
  match s.due ch with
  | none => s
  | some x =>
    if fits x.bytes = false ∨ s.endsOpen ch x.bytes = false then s
    else
      let s := s.dropWaiter (partOfChan ch) (srcChan ch)
      let s := s.modChan ch (fun c => { c with st := hACTIVE, started := true, code := stOK, reqs := [], todo := [], data := [] })
      match descEnds (cluOfChan ch) x.bytes with
      | .error k => s.chanErr ch k
      | .ok (a, b) => run s x a b

/-- Groups whole elements into messages of at most 4,096 B and 2,048 elements: element lengths to byte counts
and element counts. -/
def collGroups (ls : List Nat) : List (Nat × Nat) :=
  (ls.foldl (fun (x : List (Nat × Nat)) n =>
    match x with
    | [] => [(n, 1)]
    | g :: r => if g.1 + n ≤ 4096 ∧ g.2 < 2048 then (g.1 + n, g.2 + 1) :: r else (n, 1) :: g :: r) []).reverse

/-- Sends a linear transfer as collective messages (R277): 48-byte slots each yield one fragment, or 2-byte
anchors; `first` is the element of the destination's offset. -/
def State.copyColl (s : State) (ch mode first sw : Nat) (a : Endpt) (rows : List Row) : State :=
  let w := rows.foldl (fun (x : State × List (Byte × Bool) × Bool) q =>
    let t := x.1.unitRead ch a sw q.1 q.2.2
    (t.1, x.2.1 ++ t.2.1, x.2.2 || t.2.2)) (s, [], false)
  let r := (w.1, w.2.1)
  let size := if mode = 1 then 48 else 2
  let els := (List.range (r.2.length / size)).map (fun i =>
    let e := slice (plain r.2) (size * i) size
    if mode = 1 then e.take (fragLen (bits (leAt e 2 1) 2 0)) else e)
  let todo := ((collGroups (els.map List.length)).foldl (fun (x : Nat × Nat × List PeerReq) g =>
    (x.1 + g.1, x.2.1 + g.2, x.2.2 ++ [⟨0, false, x.1, g.1, 0, (if mode = 1 then 2 else 1), x.2.1, g.2⟩]))
    (0, first, [])).2.2
  let s := r.1.modChan ch (fun c => { c with
    data := els.flatten.zipIdx.map (fun v => (v.2, (v.1, false))), todo := todo })
  let s := if w.2.2 then s.chanErr ch stECC else s
  s.peerPump ch

/-- Whether a transfer goes as collective messages: linear, TC5, a peer destination and a registered source. -/
def State.isColl (s : State) (ch : Nat) (d : List Byte) (a b : Endpt) : Nat :=
  match a, b with
  | .handle p h _, .peer _ _ _ _ =>
    if dTc5 d = true ∧ dMode d = 0 ∧ p = partOfChan ch then s.collMode p h else 0
  | _, _ => 0

/-- The destination's byte offset. -/
def Endpt.offset : Endpt → Nat
  | .handle _ _ o => o
  | .scratch _ o => o
  | .host o => o
  | .peer _ _ _ o => o

/-- Linear and strided (R173). -/
def State.moveRows (s : State) (ch mode : Nat) : State :=
  s.startDesc ch (fun d => dMode d == mode && dShuf d == 0) (fun s x a b =>
    let t := s.rowsUntil ch a b (descRows x.bytes)
    let k := s.isColl ch x.bytes a b
    let s := if k = 1 ∧ (dXlen x.bytes % 48 ≠ 0 ∨ b.offset % 48 ≠ 0) then s.chanErr ch stFIELD
      else if k ≠ 0 then s.copyColl ch k (b.offset / (if k = 1 then 48 else 2)) (dSw x.bytes) a t.1
      else if a.isPeer || b.isPeer then s.copyPeer ch x.bytes a t.1 else s.copyLocal ch x.bytes a b t.1
    if t.2 = stOK then s else s.chanErr ch t.2)

/-! ## Fetch (R174) -/

/-- One element: its index's row, or zeros; the code of a check that fails. -/
def State.fetchElem (s : State) (ch : Nat) (d : List Byte) (a b : Endpt) (k idx : Nat) : State × Nat :=
  let n := dXlen d
  let dst : Int := k * dDy d
  let src : Int := (idx * leAt d 36 4 : Nat)
  let c1 := if idx = 0xFFFFFFFF then stOK else s.readCheck ch a src n
  let c2 := s.endCheck ch b dst n
  if c1 ≠ stOK then (s, c1)
  else if c2 ≠ stOK then (s, c2)
  else
    let r := if idx = 0xFFFFFFFF then (s, List.replicate n (0#8, false), false) else s.unitRead ch a (dSw d) src n
    if b.isPeer then
      let pos := k * n
      let s := r.1.modChan ch (fun c => { c with
        data := r.2.1.zipIdx.foldl (fun t v => tblSet (0#8, false) t (pos + v.2) v.1) c.data
        todo := c.todo ++ (List.range (ceilDiv n 2048)).map (fun i => ⟨0, false, pos + 2048 * i, min 2048 (n - 2048 * i), 0, 0, 0, 0⟩) })
      (if r.2.2 then s.chanErr ch stECC else s, stOK)
    else
      let w := r.1.unitWrite ch b (dDw d) dst r.2.1
      let s := w.1.countBytes ch n
      (if r.2.2 || w.2 then s.chanErr ch stECC else s, stOK)

/-- FETCH. -/
def State.fetchMode (s : State) (ch : Nat) : State :=
  s.startDesc ch (fun d => dMode d == 2) (fun s x a b =>
    let d := x.bytes
    let n := dRows d * dPlanes d
    match endpoint (cluOfChan ch) (dAux d) with
    | none => s.chanErr ch stFIELD
    | some t =>
      if t.isMem = false then s.chanErr ch stFIELD
      else
        let k := s.endCheck ch t 0 (4 * n)
        if k ≠ stOK then s.chanErr ch k
        else
          let r := s.endRead ch t 0 (4 * n)
          if anyPoison r.2 then r.1.chanErr ch stECC
          else
            let bs := plain r.2
            let w := (List.range n).foldl (fun (x : State × Nat) k =>
              if x.2 ≠ stOK then x else x.1.fetchElem ch d a b k (leAt bs (4 * k) 4)) (r.1, stOK)
            let s := w.1.peerPump ch
            if w.2 = stOK then s else s.chanErr ch w.2)

/-! ## Interleave and de-interleave (R175) -/

/-- Interleaves `S` streams of equal length, element size `e`. -/
def interleave (e : Nat) (ss : List (List (Byte × Bool))) (xlen : Nat) : List (Byte × Bool) :=
  (List.range (xlen / e)).flatMap (fun j => ss.flatMap (fun z => (z.drop (j * e)).take e))

/-- Stream `z` of `n` out of an interleaved row. -/
def deinterleave (e n z : Nat) (row : List (Byte × Bool)) : List (Byte × Bool) :=
  (List.range (row.length / (e * n))).flatMap (fun j => (row.drop ((j * n + z) * e)).take e)

/-- Reads all, then writes all, of one row of a reshuffle, unless a part fails its check. -/
def State.reshuffleRow (s : State) (ch sw dw : Nat) (a b : Endpt) (ins outs : List (Int × Nat))
    (f : List (List (Byte × Bool)) → List (List (Byte × Bool))) : State × Nat :=
  let k := (ins.map (fun r => s.endCheck ch a r.1 r.2) ++ outs.map (fun r => s.endCheck ch b r.1 r.2)).foldl
    (fun x c => if x = stOK then c else x) stOK
  if k ≠ stOK then (s, k)
  else
    let r := ins.foldl (fun (x : State × List (List (Byte × Bool)) × Bool) q =>
      let t := x.1.unitRead ch a sw q.1 q.2
      (t.1, x.2.1 ++ [t.2.1], x.2.2 || t.2.2)) (s, [], false)
    let rows : List Row := ins.map (fun q => (q.1, 0, q.2))
    let w := (outs.zip (f r.2.1)).foldl (fun (x : State × Bool) q =>
      let cs := x.1.overlapChoice ch a b rows (0, q.1.1, q.1.2) q.2
      let t := x.1.unitWrite ch b dw q.1.1 cs
      (t.1.countBytes ch cs.length, x.2 || t.2)) (r.1, r.2.2)
    let s := w.1.tick
    (if w.2 then s.chanErr ch stECC else s, stOK)

/-- INTERLEAVE and DEINTERLEAVE. -/
def State.weave (s : State) (ch : Nat) (back : Bool) : State :=
  s.startDesc ch (fun d => dMode d == 1 && dShuf d == (if back then 2 else 1)) (fun s x a b =>
    let d := x.bytes
    let n := dPlanes d
    let xl := dXlen d
    let w := (List.range (dRows d)).foldl (fun (x : State × Nat) (y : Nat) =>
      if x.2 ≠ stOK then x
      else if back then
        x.1.reshuffleRow ch (dSw d) (dDw d) a b [(y * dSy d, n * xl)] ((List.range n).map (fun (z : Nat) => (y * dDy d + z * dDz d, xl)))
          (fun rs => (List.range n).map (fun z => deinterleave (2 ^ dDw d) n z (rs.headD [])))
      else
        x.1.reshuffleRow ch (dSw d) (dDw d) a b ((List.range n).map (fun (z : Nat) => (y * dSy d + z * dSz d, xl))) [(y * dDy d, n * xl)]
          (fun rs => [interleave (2 ^ dSw d) rs xl])) (s, stOK)
    if w.2 = stOK then w.1 else w.1.chanErr ch w.2)

/-! ## Nibble-plane and byte-plane (R176, R177) -/

/-- Element bytes per block and elements per block of a plane format: VB4, MXFP4; MXFP6, MXFP8. -/
def planeFmt (shuf fmt : Nat) : Option (Nat × Nat) :=
  if shuf = 3 then (if fmt = 0 then some (8, 16) else if fmt = 1 then some (16, 32) else none)
  else (if fmt = 0 then some (24, 32) else if fmt = 1 then some (32, 32) else none)

/-- One group in operand order from its storage rows and slice-scale rows (Table 6-5). -/
def toGroup (e nb ns g : Nat) (rows scls : List (List (Byte × Bool))) : List (Byte × Bool) :=
  let part := fun (r : List (Byte × Bool)) o n => (r.drop o).take n
  ((List.range ns).flatMap (fun s => (List.range g).flatMap (fun r => part (scls.getD r []) (4 * s) 4)))
    ++ ((List.range nb).flatMap (fun b => (List.range g).flatMap (fun r => part (rows.getD r []) (b * (e + 1)) 1)))
    ++ ((List.range nb).flatMap (fun b => (List.range g).flatMap (fun r => part (rows.getD r []) (b * (e + 1) + 1) e)))

/-- Storage row `r` of a group in operand order. -/
def rowOfGroup (e nb ns g r : Nat) (grp : List (Byte × Bool)) : List (Byte × Bool) :=
  let bb := 4 * ns * g
  let eb := bb + nb * g
  (List.range nb).flatMap (fun b => ((grp.drop (bb + b * g + r)).take 1) ++ ((grp.drop (eb + e * (b * g + r))).take e))

/-- Slice-scale row `r` of a group in operand order. -/
def scalesOfGroup (ns g r : Nat) (grp : List (Byte × Bool)) : List (Byte × Bool) :=
  (List.range ns).flatMap (fun s => (grp.drop (4 * (s * g + r))).take 4)

/-- The first code among checks. -/
def firstCode (ks : List Nat) : Nat := ks.foldl (fun x c => if x = stOK then c else x) stOK

/-- One group of g rows, from storage to operand order or back. -/
def State.planeGroup (s : State) (ch : Nat) (d : List Byte) (a b : Endpt) (aux : Option Endpt) (e nb ns g i : Nat) :
    State × Nat :=
  let xl := dXlen d
  let gb := 4 * ns * g + nb * g + e * nb * g
  let rows := (List.range g).map (fun r => i * g + r)
  let dir := bit (dParam d) 1
  let sclCheck := match aux with
    | some t => if ns = 0 then stOK else firstCode (rows.map (fun y => s.endCheck ch t (4 * ns * y : Nat) (4 * ns)))
    | none => if ns = 0 then stOK else stFIELD
  let read := fun (s : State) (t : Endpt) (off : Int) n => s.unitRead ch t (dSw d) off n
  if dir = false then
    let k := firstCode (rows.map (fun (y : Nat) => s.endCheck ch a (y * dSy d) xl) ++ [sclCheck, s.endCheck ch b (gb * i : Nat) gb])
    if k ≠ stOK then (s, k)
    else
      let r := rows.foldl (fun (x : State × List (List (Byte × Bool)) × Bool) (y : Nat) =>
        let t := read x.1 a (y * dSy d) xl
        (t.1, x.2.1 ++ [t.2.1], x.2.2 || t.2.2)) (s, [], false)
      let q := match aux with
        | some t => if ns = 0 then (r.1, [], r.2.2) else rows.foldl (fun (x : State × List (List (Byte × Bool)) × Bool) y =>
            let v := read x.1 t (4 * ns * y : Nat) (4 * ns)
            (v.1, x.2.1 ++ [v.2.1], x.2.2 || v.2.2)) (r.1, [], r.2.2)
        | none => (r.1, [], r.2.2)
      let cs := toGroup e nb ns g r.2.1 q.2.1
      let w := q.1.unitWrite ch b (dDw d) (gb * i : Nat) cs
      let s := w.1.countBytes ch gb
      (if q.2.2 || w.2 then s.chanErr ch stECC else s, stOK)
  else
    let k := firstCode ([s.endCheck ch a (gb * i : Nat) gb] ++ rows.map (fun (y : Nat) => s.endCheck ch b (y * dDy d) xl) ++ [sclCheck])
    if k ≠ stOK then (s, k)
    else
      let r := read s a (gb * i : Nat) gb
      let w := (List.range g).foldl (fun (x : State × Bool) j =>
        let y := i * g + j
        let t := x.1.unitWrite ch b (dDw d) (y * dDy d) (rowOfGroup e nb ns g j r.2.1)
        let u := match aux with
          | some q => if ns = 0 then (t.1, false)
            else t.1.unitWrite ch q (dDw d) (4 * ns * y : Nat) (scalesOfGroup ns g j r.2.1)
          | none => (t.1, false)
        (u.1, x.2 || t.2 || u.2)) (r.1, false)
      let s := w.1.countBytes ch gb
      (if r.2.2 || w.2 then s.chanErr ch stECC else s, stOK)

/-- An auxiliary endpoint that is not in memory. -/
def noMem (t : Option Endpt) : Bool :=
  match t with
  | some t => !t.isMem
  | none => true

/-- NIBBLE_PLANE (SHUF = 3) and BYTE_PLANE (SHUF = 4). -/
def State.plane (s : State) (ch shuf : Nat) : State :=
  s.startDesc ch (fun d => dMode d == 1 && dShuf d == shuf) (fun s x a b =>
    let d := x.bytes
    let g := if bit (dParam d) 0 then 4 else 8
    match planeFmt shuf (bits (dParam d) 3 2) with
    | none => s.chanErr ch stFORMAT
    | some (e, per) =>
      let nb := dXlen d / (e + 1)
      let ns := if shuf = 3 ∧ bits (dParam d) 3 2 = 0 then ceilDiv (nb * per) 2048 else 0
      let aux := endpoint (cluOfChan ch) (dAux d)
      if ns ≠ 0 ∧ noMem aux = true then s.chanErr ch stFIELD
      else if dRows d % g ≠ 0 ∨ dXlen d % (e + 1) ≠ 0 then s.chanErr ch stFORMAT
      else
        let w := (List.range (dRows d / g)).foldl (fun (x : State × Nat) i =>
          if x.2 ≠ stOK then x else x.1.planeGroup ch d a b aux e nb ns g i) (s, stOK)
        let s := w.1.tick
        if w.2 = stOK then s else s.chanErr ch w.2)

/-! ## Completion (R171, R180, R183) -/

/-- One event at a channel: counted, consumed by a waiting descriptor, or lost (R179). -/
def State.chanEvent (s : State) (ch : Nat) : State :=
  let c := s.chan ch
  if c.st = hDISABLED ∨ 255 ≤ c.events then (s.bump (aDma ch + rDMA_EVT_LOST) 1).evChan ch evDMA_EVT_LOST 0
  else if c.st = hEVENT then s.modChan ch (fun c => { c with st := hACTIVE })
  else s.modChan ch (fun c => { c with events := c.events + 1 })

/-- The event of CHAIN_OUT: to the channel CHAIN names, unless it belongs to another context (R180). -/
def State.chainOut (s : State) (ch : Nat) : State :=
  let r := s.reg (aDma ch + rDMA_CHAIN)
  if rb r 31 = false ∨ 191 < rf r 7 0 then s
  else
    let t := 192 * partOfChan ch + rf r 7 0
    if s.chanCtx t ≠ s.chanCtx ch then s.evChan ch evDMA_CHAIN_REFUSED 0 else s.chanEvent t

/-- Steps 1 to 3 of R171: status, OWN and RING_DONE. -/
def State.descBack (s : State) (ch : Nat) (x : DescSlot) (code : Nat) : State :=
  let s := match endpoint (cluOfChan ch) (s.ringBase ch) with
    | none => s
    | some e =>
      if s.endCheck ch e (64 * x.idx : Nat) 64 ≠ stOK then s
      else
        let at_ := fun (n : Nat) => ((64 * x.idx + n : Nat) : Int)
        let w := fun (s : State) (n : Nat) (bs : List Byte) => (s.endWrite ch e (at_ n) (bs.map (fun v => (v, false)))).1
        let s := w s 52 (leBytes 4 (code + 256) ++ leBytes 8 s.tsu.gts)
        w s 1 (leBytes 1 (bits (dHdr x.bytes) 15 8 / 2 * 2))
  let s := s.modChan ch (fun c => { c with done := (x.idx + 1) % s.ringSlots ch })
  s.setReg (aDma ch + rDMA_DESC_DONE) (s.reg (aDma ch + rDMA_DESC_DONE) + 1)

/-- The channel halts: descriptors read ahead are discarded, RING_HEAD returns to RING_DONE (R183). -/
def State.chanHalt (s : State) (ch : Nat) : State :=
  (s.dropWaiter (partOfChan ch) (srcChan ch)).modChan ch (fun c => { c with
    st := hHALTED, head := c.done, ahead := [], started := false, reqs := [], todo := [], data := [], stalled := false })

def State.setErr (s : State) (ch idx code : Nat) : State :=
  s.setReg (aDma ch + rDMA_ERR) (BitVec.ofNat 32 (code * 2 ^ 24 + idx))

/-- The executing descriptor ends with a code, by R171 and R183. -/
def State.descEnd (s : State) (ch : Nat) (x : DescSlot) (code : Nat) : State :=
  let s := s.descBack ch x code
  let s := if code = stOK ∧ dSig x.bytes = true then s.objOp (partOfChan ch) (leAt x.bytes 4 2) false 1 else s
  let s := if code = stOK ∧ dChain x.bytes = true then s.chainOut ch else s
  let s := if dIrq x.bytes then s.evChan ch evDMA_DESC_IRQ (dTag x.bytes) else s
  if code = stOK then
    let s := s.modChan ch (fun c => { c with
      ahead := c.ahead.drop 1, started := false, code := stOK, reqs := [], todo := [], data := []
      st := (if s.chanOff ch then hPAUSED else hIDLE), resume := hIDLE })
    s.chanGo ch
  else
    let s := (s.chanHalt ch).setErr ch x.idx code
    s.raiseAll (aDma ch) (srcChan ch) false [⟨false, 0, evDMA_HALT_ERR, x.idx, code⟩]

/-- Whether the way to the ring's endpoint is up (R31). -/
def State.ringWay (s : State) (ch : Nat) : Bool :=
  match endpoint (cluOfChan ch) (s.ringBase ch) with
  | some e => s.endOpen (partOfChan ch) e
  | none => true

/-- DESCRIPTOR_COMPLETE: the executing descriptor has nothing outstanding, and its write-back may leave. -/
def State.descComplete (s : State) (ch : Nat) : State :=
  let c := s.chan ch
  match c.ahead with
  | [] => s
  | x :: _ => if c.started = true ∧ c.reqs = [] ∧ c.todo = [] ∧ s.ringWay ch = true then s.descEnd ch x c.code else s

/-- A wait of a channel expired: its descriptor completes with WAIT_TIMEOUT (R181). -/
def State.chanTimeout (s : State) (ch : Nat) : State :=
  match (s.chan ch).ahead with
  | [] => s
  | x :: _ => if (s.chan ch).st = hSYNC then s.descEnd ch x stWAITTO else s

/-- CMD.ABORT (R184): an executing descriptor is written back with ABORTED; one that was reached and has not
started halts before it starts, and its wait is dropped (log 26). -/
def State.abort (s : State) (ch : Nat) : State :=
  let c := s.chan ch
  if c.st = hDISABLED ∨ c.st = hHALTED then s
  else
    let s := match c.ahead with
      | x :: _ => if c.started then (s.descBack ch x stABORT).setErr ch x.idx stABORT else s
      | [] => s
    let s := match c.ahead with
      | x :: _ => if c.started = true ∧ dIrq x.bytes = true then s.evChan ch evDMA_DESC_IRQ (dTag x.bytes) else s
      | [] => s
    (s.chanHalt ch).evChan ch evDMA_ABORT_DONE 0

/-- CMD.RESUME leaves HALTED. -/
def State.resumeChan (s : State) (ch : Nat) : State :=
  if (s.chan ch).st ≠ hHALTED then s
  else (s.modChan ch (fun c => { c with st := (if s.chanOff ch then hPAUSED else hIDLE), resume := hIDLE, code := stOK })).chanGo ch

/-- A write of RING_TAIL; ignored while EN = 0. -/
def State.writeRingTail (s : State) (ch : Nat) (v : W32) : State :=
  if (s.chan ch).st = hDISABLED then s
  else (s.modChan ch (fun c => { c with tail := rf v 15 0, stalled := false })).chanGo ch

def State.setPrio (s : State) (ch : Nat) (v : W32) : State := s.setFld (aDma ch + rDMA_CTL) 9 8 (rf v 9 8)

/-- A write of CTL with EN = 1 (R169). -/
def State.enableChan (s : State) (ch : Nat) (v : W32) : State :=
  let s := s.setPrio ch v
  if (s.chan ch).st ≠ hDISABLED then s
  else if s.ringBaseOk ch = false then s.modChan ch (fun c => { c with cfgErr := true })
  else (s.modChan ch (fun c => { ChanSt.init with
      st := (if s.chanOff ch then hPAUSED else hIDLE), resume := hIDLE, nextTag := c.nextTag, bytes := c.bytes })).setFld
    (aDma ch + rDMA_CTL) 31 31 1

/-- A write of CTL with EN = 0 acts as ABORT and clears EVENTS (R184). -/
def State.disableChan (s : State) (ch : Nat) (v : W32) : State :=
  let s := s.setPrio ch v
  if (s.chan ch).st = hDISABLED then s
  else (((s.abort ch).modChan ch (fun c => { c with st := hDISABLED, events := 0 }))).setFld (aDma ch + rDMA_CTL) 31 31 0

/-! ## The peer's side, and responses (R232) -/

/-- The STATUS of a native request: tenant, handle, residency, range. -/
def State.natCheck (s : State) (p : Nat) (m : Msg) : Nat :=
  if (s.part p).st ≠ 1 ∨ m.tenant ≠ (s.part p).tenant then 1
  else match s.handle p (natHandle m.body) with
    | none => 3
    | some h =>
      if h.dying then 3
      else if h.resident = false then 4
      else if h.size < natOff m.body + natLen m.body then 2
      else 0

def State.natError (s : State) (p : Nat) (m : Msg) (status : Nat) : State :=
  s.reply p m 3 profNative (natHeader 5 status 0 (natTag m.body) (natHandle m.body) (natOff m.body / 16) 0)

/-- NATIVE_READ arrives at the partition that holds the handle. -/
def State.nativeRead (s : State) (p : Nat) (m : Msg) : State :=
  if natOp m.body ≠ 1 then s.discardMsg p m
  else
    let s := s.takeMsg p m
    let k := s.natCheck p m
    if k ≠ 0 then s.natError p m k
    else
      let r := s.readHandle p (natHandle m.body) (natOff m.body) (natLen m.body) none
      r.1.reply p m 3 profNative (natHeader 3 0 (natLen m.body / 16 - 1) (natTag m.body) (natHandle m.body)
        (natOff m.body / 16) (poisonBits r.2) ++ plain r.2)

/-- NATIVE_WRITE arrives; it is acknowledged once it is written. -/
def State.nativeWrite (s : State) (p : Nat) (m : Msg) : State :=
  if natOp m.body ≠ 2 then s.discardMsg p m
  else
    let s := s.takeMsg p m
    let k := s.natCheck p m
    if k ≠ 0 then s.natError p m k
    else
      let cs := markUnits (slice m.body 16 (natLen m.body)) (natPoison m.body)
      let w := s.writeHandle p (natHandle m.body) (natOff m.body) cs none
      w.1.reply p m 3 profNative (natHeader 4 0 (natLen m.body / 16 - 1) (natTag m.body) (natHandle m.body)
        (natOff m.body / 16) 0)

/-- The channel and request that a response answers: the tag carries the channel. -/
def State.natFor (s : State) (p : Nat) (b : List Byte) (read : Bool) : Option (Nat × PeerReq) :=
  let ch := 192 * p + natTag b / 256
  if natTag b / 256 < 192 then
    ((s.chan ch).reqs.find? (fun r => r.tag == natTag b && r.read == read)).map (fun r => (ch, r))
  else none

def State.natTake (s : State) (ch : Nat) (r : PeerReq) : State :=
  s.modChan ch (fun c => { c with reqs := dropFirst (fun x => x == r) c.reqs })

/-- The code that a response's STATUS gives (R232). -/
def natCode (status : Nat) : Nat := if status = 1 then stACCESS else if status = 6 then stLINKDN else dREMOTE

/-- A peer request failed: nothing further is requested for the descriptor. -/
def State.natFail (s : State) (ch : Nat) (r : PeerReq) (code : Nat) : State :=
  ((s.natTake ch r).modChan ch (fun c => { c with todo := [] })).chanErr ch code

/-- The data of a READ_DATA: written to its place in the stream, or sent on to a peer destination. -/
def State.gotData (s : State) (ch : Nat) (r : PeerReq) (cs : List (Byte × Bool)) : State :=
  let s := s.natTake ch r
  let s := if anyPoison cs then s.chanErr ch stECC else s
  match s.chanRows ch with
  | none => s
  | some (d, _, b, rows) =>
    match rowAtPos rows r.pos with
    | none => s
    | some (row, o) =>
      (if b.isPeer then
        s.modChan ch (fun c => { c with
          data := cs.zipIdx.foldl (fun t v => tblSet (0#8, false) t (r.pos + v.2) v.1) c.data
          todo := c.todo ++ [⟨0, false, r.pos, r.len, 0, 0, 0, 0⟩] })
      else
        let w := s.unitWrite ch b (dDw d) (row.2.1 + o) cs
        let s := w.1.countBytes ch cs.length
        if w.2 then s.chanErr ch stECC else s).peerPump ch

/-- Whether the data of a channel's peer reads may be written: the way to its destination is up (R31). -/
def State.dataWay (s : State) (ch : Nat) : Bool :=
  match s.chanRows ch with
  | some (_, _, b, _) => s.endOpen (partOfChan ch) b
  | none => true

/-- READ_DATA; a message of another tenant is refused (R231), a STATUS other than OK ends the request (R232). -/
def State.readData (s : State) (p : Nat) (m : Msg) : State :=
  if s.refuses p m ∨ natOp m.body ≠ 3 then s.takeMsg p m
  else match s.natFor p m.body true with
    | none => s.takeMsg p m
    | some (ch, r) =>
      if s.dataWay ch = false then s
      else if natStatus m.body ≠ 0 then (s.takeMsg p m).natFail ch r (natCode (natStatus m.body))
      else (s.takeMsg p m).gotData ch r (markUnits (slice m.body 16 r.len) (natPoison m.body))

/-- WRITE_ACK. -/
def State.writeAck (s : State) (p : Nat) (m : Msg) : State :=
  let foreign := s.refuses p m
  let s := s.takeMsg p m
  if foreign ∨ natOp m.body ≠ 4 then s
  else match s.natFor p m.body false with
    | none => s
    | some (ch, r) =>
      if natStatus m.body ≠ 0 then s.natFail ch r (natCode (natStatus m.body))
      else ((s.natTake ch r).countBytes ch r.len).peerPump ch

/-- NATIVE_ERROR. -/
def State.nativeError (s : State) (p : Nat) (m : Msg) : State :=
  let foreign := s.refuses p m
  let s := s.takeMsg p m
  if foreign ∨ natOp m.body ≠ 5 then s
  else match s.natFor p m.body true, s.natFor p m.body false with
    | some (ch, r), _ => s.natFail ch r (natCode (natStatus m.body))
    | none, some (ch, r) => s.natFail ch r (natCode (natStatus m.body))
    | none, none => s

/-- The peer requests of a partition whose first link is `l`. -/
def State.natOver (s : State) (p l : Nat) : List (Nat × PeerReq) :=
  ((s.chans.filter (fun e => e.1 / 192 == p)).flatMap (fun e => e.2.reqs.map (fun r => (e.1, r)))).filter
    (fun x => s.peerLink p x.2.peer (s.peerPart x.2.peer) == some l)

/-- A link went down: the peer requests that used it end with LINK_DOWN (R246). -/
def State.natLinkDown (s : State) (xs : List (Nat × PeerReq)) : State :=
  xs.foldl (fun s x => s.natFail x.1 x.2 stLINKDN) s

/-! ## The commands -/

/-- RING_TAIL_WRITE. -/
def execRingTailWrite (ch : Nat) (v : W32) (s : State) : Host.Outcome State Fault Refusal := .next (s.onPage .dma ch (fun s => s.writeRingTail ch v))
/-- CHANNEL_ENABLE. -/
def execChannelEnable (ch : Nat) (v : W32) (s : State) : Host.Outcome State Fault Refusal := .next (s.onPage .dma ch (fun s => s.enableChan ch v))
/-- CHANNEL_DISABLE. -/
def execChannelDisable (ch : Nat) (v : W32) (s : State) : Host.Outcome State Fault Refusal := .next (s.onPage .dma ch (fun s => s.disableChan ch v))
/-- ABORT. -/
def execAbort (ch : Nat) (s : State) : Host.Outcome State Fault Refusal := .next (s.onPage .dma ch (fun s => s.abort ch))
/-- DMA_RESUME. -/
def execDmaResume (ch : Nat) (s : State) : Host.Outcome State Fault Refusal := .next (s.onPage .dma ch (fun s => s.resumeChan ch))
/-- LINEAR. -/
def execLinear (ch : Nat) (s : State) : Host.Outcome State Fault Refusal := .next (s.moveRows ch 0)
/-- STRIDED. -/
def execStrided (ch : Nat) (s : State) : Host.Outcome State Fault Refusal := .next (s.moveRows ch 1)
/-- FETCH. -/
def execFetch (ch : Nat) (s : State) : Host.Outcome State Fault Refusal := .next (s.fetchMode ch)
/-- INTERLEAVE. -/
def execInterleave (ch : Nat) (s : State) : Host.Outcome State Fault Refusal := .next (s.weave ch false)
/-- DEINTERLEAVE. -/
def execDeinterleave (ch : Nat) (s : State) : Host.Outcome State Fault Refusal := .next (s.weave ch true)
/-- NIBBLE_PLANE. -/
def execNibblePlane (ch : Nat) (s : State) : Host.Outcome State Fault Refusal := .next (s.plane ch 3)
/-- BYTE_PLANE. -/
def execBytePlane (ch : Nat) (s : State) : Host.Outcome State Fault Refusal := .next (s.plane ch 4)
/-- DESCRIPTOR_COMPLETE. -/
def execDescriptorComplete (ch : Nat) (s : State) : Host.Outcome State Fault Refusal := .next (s.descComplete ch)
/-- CHAIN_EVENT. -/
def execChainEvent (ch : Nat) (s : State) : Host.Outcome State Fault Refusal := .next (s.chanEvent ch)
/-- NATIVE_READ. -/
def execNativeRead (p : Nat) (m : Msg) (s : State) : Host.Outcome State Fault Refusal := .next (s.nativeRead p m)
/-- NATIVE_WRITE. -/
def execNativeWrite (p : Nat) (m : Msg) (s : State) : Host.Outcome State Fault Refusal := .next (s.nativeWrite p m)
/-- READ_DATA. -/
def execReadData (p : Nat) (m : Msg) (s : State) : Host.Outcome State Fault Refusal := .next (s.readData p m)
/-- WRITE_ACK. -/
def execWriteAck (p : Nat) (m : Msg) (s : State) : Host.Outcome State Fault Refusal := .next (s.writeAck p m)
/-- NATIVE_ERROR. -/
def execNativeError (p : Nat) (m : Msg) (s : State) : Host.Outcome State Fault Refusal := .next (s.nativeError p m)

end Sys2Proof.Machine
end

