-- ==== Sys2Proof/Machine/CoreReset.lean ====
section
/-! DEFINITION. Core and cluster resets (R327, R329, R377). A reset is one step of the model (log 47): what a
record writes is written when it issues, and a core reset that meets it in flight leaves of each word its earlier or its
new value. -/

namespace Sys2Proof.Machine

open Sys2Proof

/-- PAGE_CTL.LOCK of a page is set (R377). -/
def State.lockPage (s : State) (page : Nat) : State := s.setFld (page + rHDR_PAGE_CTL) 29 29 1

/-- A word that a stopped record had not written: its bytes, where nothing else has written them, and its poison mark. -/
def State.undoWord (s : State) (u : UndoWord) : State :=
  let t := u.cells.foldl (fun (s : State) c => if tblGet 0 s.mem c.1 = c.2.2 then s.putBytes c.1 [c.2.1] else s) s
  if u.poisoned then t.setHealth u.word .poisoned else t

/-- The records that a core reset stops: a running MATMUL, VECOP, SOFTMAX_STREAM, CONVERT or XA_SPILL has written some words
of its destination and not the others, which ones being free (Table 11-7, log 61). -/
def State.stopRecords (s : State) (i : Nat) : State :=
  let us := (((s.core i).open_.filter (fun f => decide (recOp f.slot.bytes ≤ 5))).flatMap Flight.undo).reverse
  if us.isEmpty then s
  else (us.filter (fun u => !Config.resetTook s.freeCtr u.word)).foldl State.undoWord s.tick

/-- A core reset takes effect: the running records stop, waits and ticket requests are withdrawn, tickets returned, accumulators, sequencer
and registers cleared, the lock set again; scratch and the signals already in the sync unit stay. -/
def State.resetCoreNow (s : State) (i : Nat) : State :=
  let asked := (((s.box (partOfCore i)).queue.filter (fun e => e.core == i)).map BoxEnt.count).sum
  let s := (s.stopRecords i).dropWaiter (partOfCore i) i
  let s := (s.boxCancel i asked).boxReturn i (s.core i).held
  let s := s.setCore i CoreSt.init
  (s.resetPages (aCore i) (aCore i + 0x1000) (fun _ => false)).lockPage (aCore i)

/-- A channel aborts and returns to DISABLED. -/
def State.resetChanNow (s : State) (ch : Nat) : State :=
  let s := (s.abort ch).dropWaiter (partOfChan ch) (srcChan ch)
  s.modChan ch (fun c => { ChanSt.init with nextTag := c.nextTag })

/-- A move into or out of a slice is abandoned, and the shard stays at its source (log 48). -/
def State.abandonMove (s : State) (p hid k : Nat) (ctx : Nat) : State :=
  let l := match (s.handle p hid).bind (fun h => (h.shard k).loc) with
    | some l => locSlice l
    | none => locNone
  ((s.modShard p hid k (fun x => { x with move := none })).logPlace p lABANDON ctx hid k l l).evUsh p evUSH_MIG_ABANDON 0 0

/-- Whether a shard moves into or out of cluster `c` of its partition. -/
def ShardSt.movesBy (x : ShardSt) (c : Nat) : Bool :=
  match x.move with
  | none => false
  | some m => m.toClu == c || (match x.loc with | some l => l.1 == c | none => false)

/-- The moves of a slice end; a PIN that waited for them completes (log 48). -/
def State.abandonMoves (s : State) (p c : Nat) : State :=
  let hs := (s.usher p).handles.filterMap (fun e => e.2.map (fun h => (e.1, h)))
  let s := hs.foldl (fun s e => e.2.shards.zipIdx.foldl (fun s x =>
    if x.1.movesBy c then s.abandonMove p e.1 x.2 e.2.ctx else s) s) s
  match (s.usher p).req with
  | none => s
  | some r =>
    match s.handle p (entHandle r.entry) with
    | none => s
    | some h => if r.phase = 1 ∧ h.moving = false then s.pinned p r h else s

/-- A cluster reset takes effect. -/
def State.resetClusterNow (s : State) (c : Nat) : State :=
  let p := partOfClu c
  let s := (List.range 48).foldl (fun s n => s.resetCoreNow (48 * c + n)) s
  let s := (List.range 16).foldl (fun s n => s.resetChanNow (16 * c + n)) s
  let s := s.abandonMoves p (c % 12)
  let s := s.resetPages (aClu c) (aClu c + 0x11000) (fun _ => false)
  s.modClu c (fun x => { CluSt.init with repaired := x.repaired, repairing := x.repairing })

/-- The end of a core or cluster reset. -/
def State.localResetDone (s : State) (p : Nat) : State := s.evPart p evPART_LOCAL_RESET_DONE

/-- One core or cluster reset (marked true), with its event. -/
def State.localReset (s : State) (p : Nat) (x : Bool × Nat) : State :=
  (if x.1 then s.resetClusterNow x.2 else s.resetCoreNow x.2).localResetDone p

/-- A core or cluster reset is asked for: during a context switch it waits for the switch to end (R329). -/
def State.askReset (s : State) (p : Nat) (x : Bool × Nat) : State :=
  if (s.usher p).stopped then s.modUsher p (fun u => { u with waitReset := u.waitReset ++ [x] }) else s.localReset p x

/-- A write of RESET_CTL: a LEVEL, cluster or core that is not there is ignored. -/
def State.writeResetCtl (s : State) (p : Nat) (v : W32) : State :=
  if rf v 11 8 < 12 then
    (if rf v 31 30 = 1 ∧ rf v 5 0 < 48 then s.askReset p (false, 576 * p + 48 * rf v 11 8 + rf v 5 0)
     else if rf v 31 30 = 2 then s.askReset p (true, 12 * p + rf v 11 8)
     else s)
  else s

/-- The resets that waited for a context switch. -/
def State.runWaiting (s : State) (p : Nat) : State :=
  let xs := (s.usher p).waitReset
  xs.foldl (fun s x => s.localReset p x) (s.modUsher p (fun u => { u with waitReset := [] }))

/-- CORE_RESET. -/
def execCoreReset (core : Nat) (s : State) : Host.Outcome State Fault Refusal :=
  .next (s.onPage .part (partOfCore core) (fun s => s.askReset (partOfCore core) (false, core)))
/-- CLUSTER_RESET. -/
def execClusterReset (clu : Nat) (s : State) : Host.Outcome State Fault Refusal :=
  .next (s.onPage .part (partOfClu clu) (fun s => s.askReset (partOfClu clu) (true, clu)))

end Sys2Proof.Machine
end

