-- ==== Sys2Proof/Machine/Context.lean ====
section
/-! DEFINITION. Contexts and time slicing (R128 to R132, R185), and what a wait's expiry does to its owner
(R141). -/

namespace Sys2Proof.Machine

open Sys2Proof

/-! ## Contexts (R128, R129) -/

def State.ctx (s : State) (p x : Nat) : CtxSt := tblGet CtxSt.init (s.usher p).ctxs x

def State.modCtx (s : State) (p x : Nat) (f : CtxSt → CtxSt) : State :=
  s.modUsher p (fun u => { u with ctxs := tblSet CtxSt.init u.ctxs x (f (s.ctx p x)) })

/-- The cores of a partition. -/
def coresOf (p : Nat) : List Nat := (List.range 576).map (· + 576 * p)

/-- The channels of a context (R166). -/
def State.chansOf (s : State) (p x : Nat) : List Nat :=
  ((List.range 192).map (· + 192 * p)).filter (fun ch => s.chanCtx ch == x)

/-- The registers of a core page that belong to its sequencer (DEDUCED, log 27). -/
def seqRegs : List Nat :=
  [rCORE_QBASE, rCORE_QSIZE, rCORE_QTAIL, rCORE_QCTL, rCORE_FAULT_REC, rCORE_END_CODE, rCORE_LAST_TAG, rCORE_ARITH_FLAGS]

/-- SAVE of a context in bytes. -/
def CtxSt.save (x : CtxSt) : Nat := x.save4k * 4096

/-- Pages of a save area in one cluster (R129). -/
def savePages (save4k : Nat) : Nat := ceilDiv (48 * (save4k * 4096 + 3328)) pageBytes

/-- The places of a save area: the lowest run of every slice, or none where one does not fit. -/
def saveArea (m : List (List (Nat × Nat))) (n : Nat) : Option (List (Nat × Nat × Nat)) :=
  (m.zipIdx.map (fun e => (e.2, lowestRun e.1 slicePages n))).foldr (fun e acc =>
    match e.2, acc with
    | some pg, some r => some ((e.1, pg, n) :: r)
    | _, _ => none) (some [])

/-- What CTX_INIT gives a core: its queue start, QHEAD = tail and RUNNING. -/
def State.freshCore (s : State) (i qbase qlog2 obj : Nat) (old : CoreSt) : CoreSt × List W32 :=
  let n := if 4 ≤ qlog2 ∧ qlog2 ≤ 12 then 2 ^ qlog2 else 16
  let t := s.objVal (partOfCore i) obj % n
  ({ CoreSt.init with st := cRUNNING, qhead := t, qdone := t, held := old.held, back := old.back },
    [BitVec.ofNat 32 qbase, BitVec.ofNat 32 qlog2, s.reg (aCore i + rCORE_QTAIL), BitVec.ofNat 32 (obj * 65536 + 1),
      0, 0, 0, 0])

/-- Writes the sequencer registers of a core. -/
def State.putSeqRegs (s : State) (i : Nat) (vs : List W32) : State :=
  (seqRegs.zip vs).foldl (fun s r => s.setReg (aCore i + r.1) r.2) s

/-- Every core of the running context, or of a saved one, has its queue start at its slot of a sync object's array. The
running context runs first here, so its scratch is zeroed (R128). -/
def State.queueStarts (s : State) (p x qbase qlog2 obj : Nat) : State :=
  if x = (s.usher p).running then
    (coresOf p).foldl (fun s i =>
      let c := s.freshCore i qbase qlog2 obj (s.core i)
      (((s.zeroMem (scratchAddr i 0) scratchBytes).dropWaiter p i).setCore i c.1).putSeqRegs i c.2) s
  else s.modCtx p x (fun y => { y with cores := (coresOf p).map (fun i =>
    let c := s.freshCore i qbase qlog2 obj CoreSt.init
    (i, ⟨c.1, 0, [], [], c.2⟩)) })

/-- The cores of the running context fetch. -/
def State.fetchAll (s : State) (p x : Nat) : State :=
  if x = (s.usher p).running then (coresOf p).foldl (fun s i => s.fetch i) s else s

/-- What stays hidden from Usher when a context's save area is given up. -/
def State.withoutArea (s : State) (p x : Nat) : UshSt :=
  { s.usher p with hidden := (s.usher p).hidden.filter (fun h => !(s.ctx p x).area.contains h) }

/-- CTX_INIT: the save area, and the queue start of every core. The running context takes it at once. -/
def State.ctxInit (s : State) (p : Nat) : State :=
  s.request p 0x0C false false (fun s r =>
    let x := entCtx r.entry
    let k := s.fld (aUsh p + rUSH_CTX_CFG + 4 * x) 22 16
    if 64 < k ∨ 0xFFF < leAt r.entry 16 2 then s.reqDone p r stFIELD 0
    else
      let u := s.withoutArea p x
      match saveArea u.usedMap (savePages k) with
      | none => s.reqDone p r uNOSPACE 0
      | some area =>
        let s := (s.setUsher p { u with hidden := u.hidden ++ area }).modCtx p x
          (fun _ => ⟨true, k, area, x != (s.usher p).running, []⟩)
        let s := s.queueStarts p x (leAt r.entry 16 2) (bits (leAt r.entry 18 1) 3 0) (leAt r.entry 20 2)
        (s.fetchAll p x).reqDone p r stOK 0)

/-! ## Which context runs next (R130) -/

/-- A channel with nothing to do. -/
def State.chanIdle (s : State) (ch : Nat) : Bool :=
  let c := s.chan ch
  c.st == hDISABLED || c.st == hHALTED
    || (c.ahead.isEmpty && (c.head % s.ringSlots ch == c.tail % s.ringSlots ch || c.stalled))

/-- A context with work: a core not HALTED, or a channel not idle (CTX_STAT.RUNNABLE). -/
def State.hasWork (s : State) (p x : Nat) : Bool :=
  (if x = (s.usher p).running then (coresOf p).any (fun i => (s.core i).st != cHALTED)
   else (s.ctx p x).cores.any (fun e => e.2.core.st != cHALTED))
    || (s.chansOf p x).any (fun ch => !s.chanIdle ch)

/-- The next enabled context in ascending order, wrapping around, that has a save area and work. -/
def State.nextCtx (s : State) (p : Nat) : Option Nat :=
  let r := (s.usher p).running
  ((List.range 7).map (fun k => (r + k + 1) % 8)).find? (fun x =>
    rb (s.reg (aUsh p + rUSH_CTX_CTL)) (24 + x) && (s.ctx p x).inited && s.hasWork p x)

/-! ## Steps 1 and 2: stopping and saving -/

/-- Every record in flight that can complete does, but for a MATMUL, which pauses at its tile boundary. -/
def State.drainRecords (s : State) (i : Nat) : State :=
  ((s.core i).flight.map (fun f => f.slot.idx)).foldl (fun s idx =>
    match s.flightAt i idx with
    | some f => if recOp f.slot.bytes != 0x01 && s.ready i f then (s.finish i idx).settle i else s
    | none => s) s

/-- A core's queue as its context will find it: the records behind the first aborted wait, and the fetched
slots, are read again, but for the completed ones. -/
def CoreSt.rewind (c : CoreSt) : CoreSt :=
  let aborted := fun (f : Flight) => f.done && f.code == stABORT
  let keep := c.flight.takeWhile (fun f => !aborted f)
  let back := c.flight.dropWhile (fun f => !aborted f)
  let head := match back with
    | f :: _ => f.slot.idx
    | [] => match c.fetched with
      | x :: _ => x.idx
      | [] => c.qhead
  { c with
    qhead := head
    fetched := []
    flight := keep
    skip := c.skip ++ (back.filter (fun f => f.done && f.code == stOK)).map (fun f => f.slot.idx) }

/-- Step 1 for one core: issue stops by the rules of STOP, and the drain. -/
def State.stopCore (s : State) (i : Nat) : State :=
  if (s.core i).st = cHALTED then s
  else
    let s := if (s.core i).st = cRUNNING then s.abortWaits i else s
    let s := s.drainRecords i
    let s := s.coreHalt i
    if (s.core i).st = cRUNNING then s.modCore i CoreSt.rewind else s

/-- Step 2 for one core: its state and scratch go to the save area, and its tickets back. -/
def State.saveCore (s : State) (p x i : Nat) : State :=
  let c := s.core i
  let a := scratchAddr i 0
  let n := (s.ctx p x).save
  let bytes := (s.mem.filter (fun e => decide (a ≤ e.1) && decide (e.1 < a + n))).map (fun e => (e.1 - a, e.2))
  let marks := (s.ecc.filter (fun e => decide (a ≤ 8 * e.1) && decide (8 * e.1 < a + n))).map (fun e => (e.1 - a / 8, e.2))
  let v : SavedCore := ⟨{ c with held := 0, back := 0, paused := false }, c.held + c.back, bytes, marks,
    seqRegs.map (fun r => s.reg (aCore i + r))⟩
  let s := s.modCtx p x (fun y => { y with cores := tblSet SavedCore.init y.cores i v })
  let s := (s.boxCancel i c.back).boxReturn i c.held
  s.setCore i { CoreSt.init with held := (s.core i).held }

/-- A channel of the outgoing context (R185): an executing descriptor with nothing outstanding runs to its
completion, a pending START wait is dropped. -/
def State.pauseChan (s : State) (ch : Nat) : State :=
  let c := s.chan ch
  if c.st = hIDLE ∨ c.st = hEVENT then s.modChan ch (fun c => { c with st := hPAUSED, resume := hIDLE })
  else if c.st = hSYNC then
    (s.dropWaiter (partOfChan ch) (srcChan ch)).modChan ch (fun c => { c with st := hPAUSED, resume := hIDLE })
  else if c.st = hACTIVE then
    (if c.started then s.descComplete ch else s.modChan ch (fun c => { c with st := hPAUSED, resume := hACTIVE }))
  else s

/-- Step 2: once no channel of the outgoing context executes a descriptor any more (T_dma of R131), its cores are saved
and the incoming context is settled. -/
def State.switchSave (s : State) (p y : Nat) : State :=
  let x := (s.usher p).running
  if (s.chansOf p x).any (fun ch => (s.chan ch).started) then s
  else
    let s := s.modUsher p (fun u => { u with switching := some y })
    let s := s.modCtx p x (fun c => { c with fresh := false })
    (coresOf p).foldl (fun s i => s.saveCore p x i) s

/-- The context that a switch which has begun goes to: the next with work, or the next that could run at all. -/
def State.switchTo (s : State) (p : Nat) : Nat :=
  match s.nextCtx p with
  | some y => y
  | none => ((List.range 7).map (fun k => ((s.usher p).running + k + 1) % 8)).find? (fun x =>
      rb (s.reg (aUsh p + rUSH_CTX_CTL)) (24 + x) && (s.ctx p x).inited) |>.getD (s.usher p).running

/-- CONTEXT_SWITCH: the quantum expired or all cores are HALTED. Without another context to run, and for a
context that CTX_INIT never gave a save area, nothing happens (log 28). A switch whose channels still execute goes on at
the next CONTEXT_SWITCH (log 1). -/
def State.contextSwitch (s : State) (p : Nat) : State :=
  let x := (s.usher p).running
  if (s.usher p).switching.isSome = true ∨ (s.ctx p x).inited = false then s
  else if (s.usher p).stopped then
    ((s.chansOf p x).foldl (fun s ch => s.pauseChan ch) s).switchSave p (s.switchTo p)
  else match s.nextCtx p with
    | none => s
    | some y =>
      let s := s.modUsher p (fun u => { u with stopped := true })
      let s := (coresOf p).foldl (fun s i => s.stopCore i) s
      let s := (s.chansOf p x).foldl (fun s ch => s.pauseChan ch) s
      s.switchSave p y

/-! ## Step 3: restoring -/

/-- The saved scratch of a core is written to its place. -/
def State.putSaved (s : State) (a : Nat) (v : SavedCore) : State :=
  { s with
    mem := v.scratch.foldl (fun (m : Tbl Byte) (e : Nat × Byte) => tblSet 0 m (a + e.1) e.2) s.mem
    ecc := v.health.foldl (fun (m : Tbl Health) (e : Nat × Health) => tblSet Health.ok m (a / 8 + e.1) e.2) s.ecc }

/-- A core's saved state comes back: scratch (all zero where its context runs first, R128), accumulators and queue; it
asks for its tickets again, and a running MATMUL stays paused until its cost is held. -/
def State.loadCore (s : State) (p x i : Nat) : State :=
  let v := tblGet SavedCore.init (s.ctx p x).cores i
  let a := scratchAddr i 0
  let s := s.zeroMem a (if (s.ctx p x).fresh then scratchBytes else (s.ctx p x).save)
  let s := s.putSaved a v
  let s := s.setCore i { v.core with held := (s.core i).held, back := v.tickets }
  let s := if v.regs = [] then s else s.putSeqRegs i v.regs
  let s := if v.tickets = 0 then s else s.boxRequest i v.tickets
  s.modCore i (fun c => { c with paused := !c.running.isEmpty && decide (c.held < s.runCost i) })

/-- CONTEXT_RESUME. -/
def State.contextResume (s : State) (p : Nat) : State :=
  match (s.usher p).switching with
  | none => s
  | some x =>
    let s := s.modUsher p (fun u => { u with stopped := false, switching := none, running := x })
    let s := (coresOf p).foldl (fun s i => s.loadCore p x i) s
    let s := s.modCtx p x (fun c => { c with fresh := false })
    let s := (s.setReg (aUsh p + rUSH_SWITCH_LAST) (BitVec.ofNat 32 (Config.duration s.freeCtr))).tick
    let s := (coresOf p).foldl (fun s i => (s.settle i).fetch i) s
    let s := (s.chansOf p x).foldl (fun s ch =>
      if (s.chan ch).st = hPAUSED then (s.modChan ch (fun c => { c with st := c.resume })).chanGo ch else s) s
    s.runWaiting p

/-! ## A wait expires (R141) -/

/-- The record, descriptor or request that waited ends with WAIT_TIMEOUT. -/
def State.waiterEnds (s : State) (p src : Nat) : State :=
  if src < 2304 then
    match (s.core src).flight.find? (fun f => recOp f.slot.bytes == 0x0A && f.waits) with
    | none => s
    | some f => (s.modFlight src f.slot.idx (fun f => { f with code := stWAITTO })).complete src f.slot.idx
  else if srcChan 0 ≤ src ∧ src < srcChan 768 then s.chanTimeout (src - srcChan 0)
  else if src = srcUsher p then
    match (s.usher p).req with
    | none => s
    | some r => s.reqDone p r stWAITTO 0
  else s

/-- WAIT_TIMEOUT: the wait leaves the table, its owner's record, descriptor or request ends, and the sync unit counts; the
owner's events come first, its source number being the lower (R163). -/
def State.waitTimeout (s : State) (p src : Nat) : State :=
  match s.waiterOf p src with
  | none => s
  | some w => if w.met then s else ((s.dropWaiter p src).waiterEnds p src).expireWait p w

/-! ## The commands -/

/-- CTX_INIT. -/
def execCtxInit (p : Nat) (s : State) : Host.Outcome State Fault Refusal := .next (s.ctxInit p)
/-- CONTEXT_SWITCH. -/
def execContextSwitch (p : Nat) (s : State) : Host.Outcome State Fault Refusal := .next (s.contextSwitch p)
/-- CONTEXT_RESUME. -/
def execContextResume (p : Nat) (s : State) : Host.Outcome State Fault Refusal := .next (s.contextResume p)
/-- WAIT_TIMEOUT. -/
def execWaitTimeout (p src : Nat) (s : State) : Host.Outcome State Fault Refusal := .next (s.waitTimeout p src)

end Sys2Proof.Machine
end

