-- ==== Sys2Proof/Machine/Lanes.lean ====
section
/-! DEFINITION. Widths, speeds and the assignment of lanes to rings and lines (R188, R189, R200, R202, R204). -/

namespace Sys2Proof.Machine

open Sys2Proof

/-! ## Port and ring states (Tables 7-18, 7-20) -/

abbrev pDOWN : Nat := 0
abbrev pACQ : Nat := 1
abbrev pTRAIN : Nat := 2
abbrev pUP : Nat := 3
abbrev pPAUSED : Nat := 4
abbrev pINTER : Nat := 5
abbrev pFAILED : Nat := 6

abbrev gPARKED : Nat := 0
abbrev gACQ : Nat := 1
abbrev gLOCKED : Nat := 2
abbrev gRELOCK : Nat := 3
abbrev gSTANDBY : Nat := 4
abbrev gFAILED : Nat := 5

/-- No lane, no line. -/
abbrev gNone : Nat := 0x1F

/-- The rings of a bank: transmit, else receive. -/
def bankOf (port : Nat) (rx : Bool) : List Nat := (List.range 18).map (· + (36 * port + 18 * b2n rx))

def portOfRing (g : Nat) : Nat := g / 36
def isRxRing (g : Nat) : Bool := g / 18 % 2 == 1

/-! ## Widths and speeds -/

/-- Lanes of a width code: 16, 12, 8, 4. -/
def lanesOf (code : Nat) : Nat := 16 - 4 * min code 3

def State.portCtl (s : State) (port : Nat) : W32 := s.reg (aPort port + rOIOPORT_CTL)

def State.portEn (s : State) (port : Nat) : Bool := rb (s.portCtl port) 31

/-- PORTn_CTL.AUTO. -/
def State.portAuto (s : State) (port : Nat) : Bool := rb (s.portCtl port) 8

/-- The restricted mode of a settings fallback: no settings blob is in use (R348). -/
def State.restricted (s : State) : Bool := s.sec.settings.isEmpty

/-! ## The chiplet's capabilities (R320, R321) -/

/-- The site's chiplet is in use (R320). -/
def State.siteUsed (s : State) (k : Nat) : Bool := (s.site k).status == 2

/-- A field of the SELECT record in force; `d` before the exchange. -/
def State.selField (s : State) (k i n d : Nat) : Nat := if s.siteUsed k then leAt (s.site k).sel i n else d

/-- The chiplet's generation: 1 is the DL8, 0 the previous one (Table 11-4). -/
def State.siteGen (s : State) (k : Nat) : Nat := if s.siteUsed k then leAt (s.site k).desc 2 1 else 1
def State.siteVer (s : State) (k : Nat) : Nat := s.selField k 6 1 0x21
/-- A feature bit: 0 BURST, 1 EXT_REPLAY, 2 UNDERSTUDY, 3 MONITOR. -/
def State.siteFeat (s : State) (k i : Nat) : Bool := bit (s.selField k 4 2 15) i

/-- The site has the port, and the features that its role needs (R321). -/
def State.siteServes (s : State) (port : Nat) : Bool :=
  let k := port / 8
  decide (port % 8 < s.selField k 1 1 8) && (s.roleLevel port != 1 || s.siteFeat k 0)
    && (s.roleLevel port != 2 || s.siteFeat k 1)

/-- The port runs by the rules of the previous generation, its own chiplet's or its partner's (R189, R202, R321). -/
def State.oldPort (s : State) (port : Nat) : Bool := (s.port port).peerOld || s.siteGen (port / 8) == 0

/-- The caps in effect: those last taken over, the chiplet's width, 8 lanes on a house port (Table 9-1), and 8 lanes at
32 Gb/s in the restricted mode (R204, R321). -/
def State.effCapW (s : State) (port : Nat) : Nat :=
  max (max (s.port port).capW (s.selField (port / 8) 2 1 0 % 4)) (if s.restricted = true ∨ s.isHouse port = true then 2 else 0)

/-- The highest speed of the port's ladder that does not exceed a cap and that the chiplet allows; without one,
the slowest that it allows (R202, R321, log 51). -/
def State.ladder (s : State) (port cap : Nat) : Nat :=
  let ok := [0, 1, 2].filter (fun c => bit (s.selField (port / 8) 3 1 7) (2 - c))
  match (ok.filter (fun c => decide (cap ≤ c) && (if s.oldPort port then c != 0 else c != 1))).head? with
  | some c => c
  | none => ok.getLast?.getD 2

def State.effCapS (s : State) (port : Nat) : Nat := s.ladder port (if s.restricted then 2 else (s.port port).capS)

/-- Healthy rings of a bank. -/
def State.healthyRings (s : State) (port : Nat) (rx : Bool) : Nat :=
  ((bankOf port rx).filter (fun g => (s.ring g).st != gFAILED)).length

/-- The lines that a port may use: a house port takes no line beside another (R266), a port with a previous-generation
partner only λ1 to λ12 (R189). -/
def State.anyLine (s : State) (port line : Nat) : Bool :=
  (s.level port != 1 || line % 2 == 1) && (!s.oldPort port || (decide (1 ≤ line) && decide (line ≤ 12)))

/-- Lines not marked failed in a direction, of those that the partner's generation leaves (R189). -/
def State.healthyLines (s : State) (port : Nat) (rx : Bool) : Nat :=
  let bad := if rx then (s.port port).rxBad else (s.port port).txBad
  ((List.range 18).filter (fun line => !bit bad line && (!s.oldPort port || (decide (1 ≤ line) && decide (line ≤ 12))))).length

/-- U of the transmit direction (R200). -/
def State.uTx (s : State) (port : Nat) : Nat :=
  min (min (s.healthyRings port false) (s.healthyLines port false)) (s.port port).peerRx

/-- U of the receive direction, as far as this end knows it. -/
def State.uRx (s : State) (port : Nat) : Nat := min (s.healthyRings port true) (s.healthyLines port true)

/-- The width code R200 gives: the largest that no limit forbids. -/
def State.fitWidth (s : State) (port : Nat) : Option Nat :=
  let lo := max (s.port port).minW (max (s.effCapW port) (max (s.port port).peerW (if s.oldPort port then 1 else 0)))
  ([0, 1, 2, 3].filter (fun w => decide (lo ≤ w))).find? (fun w =>
    decide (lanesOf w ≤ min (s.uTx port) (s.uRx port)))

/-! ## Assignment (R189, R192, R266) -/

/-- Gives each ring of a bank its lane: the first `n` of the locked rings on healthy lines among `lines`, in
ascending line, take the lanes in order; any other that held a lane stands by. -/
def State.assignBank (s : State) (port : Nat) (rx : Bool) (n : Nat) (lines : Nat → Bool) : State :=
  let bad := if rx then (s.port port).rxBad else (s.port port).txBad
  let okRing := fun g => ((s.ring g).st == gLOCKED || (s.ring g).st == gSTANDBY) && decide ((s.ring g).line < 18)
    && !bit bad (s.ring g).line && lines (s.ring g).line
  let pick := ((List.range 18).filterMap (fun line => ((bankOf port rx).filter okRing).find? (fun g =>
    (s.ring g).line == line))).take n
  (bankOf port rx).foldl (fun s g =>
    match pick.findIdx? (fun x => x == g) with
    | some i => s.modRing g (fun r => { r with st := gLOCKED, lane := i })
    | none => if (s.ring g).lane = gNone then s
      else s.modRing g (fun r => { r with st := (if r.st = gLOCKED then gSTANDBY else r.st), lane := gNone })) s

/-- The lines that carry lanes first: λ1, λ3, …, λ15 on a house port, λ1 to λ12 with a previous-generation partner,
else λ1 to λ16. -/
def State.mainLine (s : State) (port line : Nat) : Bool :=
  if s.level port = 1 then line % 2 == 1 && decide (line < 16) && s.anyLine port line
  else if s.oldPort port then decide (1 ≤ line) && decide (line ≤ 12)
  else decide (1 ≤ line) && decide (line ≤ 16)

/-- How many rings of a bank could carry a lane on given lines. -/
def State.lanesOn (s : State) (port : Nat) (rx : Bool) (lines : Nat → Bool) : Nat :=
  let bad := if rx then (s.port port).rxBad else (s.port port).txBad
  ((bankOf port rx).filter (fun g => ((s.ring g).st == gLOCKED || (s.ring g).st == gSTANDBY)
    && decide ((s.ring g).line < 18) && !bit bad (s.ring g).line && lines (s.ring g).line)).length

/-- A bank takes a width: on its main lines, or with the spares where they are too few. -/
def State.assignWide (s : State) (port : Nat) (rx : Bool) (n : Nat) : State :=
  if n ≤ s.lanesOn port rx (s.mainLine port) then s.assignBank port rx n (s.mainLine port)
  else s.assignBank port rx n (s.anyLine port)

/-- Both banks of a port take a width. -/
def State.assignPort (s : State) (port w : Nat) : State :=
  (s.assignWide port false (lanesOf w)).assignWide port true (lanesOf w)

/-- The controller that is not in control. -/
def SiteSt.other (x : SiteSt) : CtlSt := if x.lead = 0 then x.c1 else x.c0

/-- The Understudy, or a recovering controller, is in sync and acknowledges segments (R307). -/
def SiteSt.mirrored (x : SiteSt) : Bool := x.sync && x.other.role != 3

/-- Both banks of a port take a width, in a change that does not wait for the Understudy: its lane maps are mirrored
beside it (R307, log 73). -/
def State.assignMap (s : State) (port w : Nat) : State :=
  (s.assignPort port w).modSite (port / 8) (fun x =>
    if x.mirrored then { x with wt := x.wt ++ [(.map port false, 4), (.map port true, 4)] } else x)

/-! ## Spotlight (R207, R208) -/

/-- The spotlight stands on an output; a change is a steer. -/
def State.steerTo (s : State) (port out : Nat) : State :=
  if (s.port port).spot = out then s else (s.modPort port (fun x => { x with spot := out })).emit (.steer port out)

/-- PORTn_CTL.BURST. -/
def State.bursts (s : State) (port : Nat) : Bool := rb (s.portCtl port) 7

/-- Without burst mode the engine uses only output PORTn_SPOT.HOME. -/
def State.steerHome (s : State) (port : Nat) : State :=
  if s.bursts port then s else s.steerTo port (s.fld (aPort port + rOIOPORT_SPOT) 1 0)

/-! ## The monitor photodiodes (R206) -/

/-- The latest codes of the four photodiodes of a port: the laser input that feeds it, then after the splitter, after the
modulator bank and at the receive-bank input (Table 7-12). -/
def State.photodiodes (s : State) (port : Nat) : List Nat :=
  let x := s.site (port / 8)
  let n := port % 8
  let src := if x.cross = 1 then 1 else if x.cross = 2 then 0 else n / 4
  [src, 2 + n, 10 + n, 18 + n].map (fun ch => rf (tblGet 0 x.adc ch) 11 0)

/-- A code that is linear in power fell by 3.0 dB or more: by a factor of 10^0.3. -/
def fell3dB (old now : Nat) : Bool := old != 0 && decide (1000 * now ^ 10 ≤ old ^ 10)

/-- LOSS_STAGE of a loss of light: the first stage that fell since the last training; 0 where none did or the chiplet has
no monitor (Table 7-9, R321). -/
def State.lossStage (s : State) (port : Nat) : Nat :=
  if s.siteFeat (port / 8) 3 then
    match (List.zipWith fell3dB (s.port port).lit (s.photodiodes port)).findIdx? (fun b => b) with
    | some i => i + 1
    | none => 0
  else 0

/-- The port has trained: the photodiodes' values stand for later comparisons, and LOSS_STAGE is cleared. -/
def State.noteTraining (s : State) (port : Nat) : State :=
  let lit := s.photodiodes port
  s.modPort port (fun x => { x with lit := lit, lossStage := 0 })

/-- The mask of lines that carry lanes in a direction. -/
def State.lineMask (s : State) (port : Nat) (rx : Bool) : Nat :=
  ((bankOf port rx).filterMap (fun g => if (s.ring g).lane ≠ gNone ∧ (s.ring g).line < 18 then
    some (2 ^ (s.ring g).line) else none)).sum

/-! ## Lanes of a bank -/

/-- The failed lines of a direction. -/
def State.badLines (s : State) (port : Nat) (rx : Bool) : Nat :=
  if rx then (s.port port).rxBad else (s.port port).txBad

/-- The ring that carries a lane. -/
def State.ringOfLane (s : State) (port : Nat) (rx : Bool) (lane : Nat) : Option Nat :=
  (bankOf port rx).find? (fun g => (s.ring g).lane == lane)

/-- The lines of a bank that carry a lane or are being acquired for one. -/
def State.usedLines (s : State) (port : Nat) (rx : Bool) : List Nat :=
  ((bankOf port rx).filter (fun g => (s.ring g).lane != gNone || (s.ring g).nextLane != gNone)).map (fun g => (s.ring g).line)

/-! ## Whether a port can work -/

/-- Light and clock let the port send. -/
def State.transmits (s : State) (port : Nat) : Bool :=
  let k := s.site (port / 8)
  !(k.laserA.lost && k.laserB.lost) && decide (port / 8 ∉ s.pwr.synthBad) && !s.pwr.clockFatal && !s.pwr.trip

/-- The port may train: enabled, not FAILED, its chiplet in use and serving it, its clocks running (R246), its partition in
service, and the device not unlocked for test (R314, R345). -/
def State.canTrain (s : State) (port : Nat) : Bool :=
  s.portEn port && (s.port port).st != pFAILED && s.siteUsed (port / 8) && s.siteServes port && decide (port / 8 ∉ s.pwr.synthBad)
    && !s.pwr.clockFatal && !s.pwr.trip && !s.pwr.inReset
    && decide ((s.part (partOfPort port)).st < 2) && !s.sec.unlocked

end Sys2Proof.Machine
end

