-- ==== Sys2Proof/Machine/Thermal.lean ====
section
/-! DEFINITION. Sensors, rate limits, alarms and the write window (R300 to R304). Temperatures are in
1/8 °C. -/

namespace Sys2Proof.Machine

open Sys2Proof

def State.sens (s : State) (i : Nat) : SensSt := tblGet SensSt.init s.thm.sens i

def State.setSens (s : State) (i : Nat) (x : SensSt) : State :=
  { s with thm := { s.thm with sens := tblSet SensSt.init s.thm.sens i x } }

/-- A sensor in service: valid and not suspect. -/
def SensSt.ok (x : SensSt) : Bool := x.valid && !x.suspect

/-- EXTi_CFG of an external input: 0 to 7 the thermistors, 8 to 11 the remote diodes (Table 10-8). -/
def State.extCfg (s : State) (i : Nat) : W32 := s.reg (aThm + rTHM_EXT_CFG + 4 * i)

/-- ROLE of an external input; reserved values act as unused (Table 10-10), as does EN = 0. -/
def State.extRole (s : State) (i : Nat) : Nat :=
  let r := rf (s.extCfg i) 30 28
  if rb (s.extCfg i) 31 = true ∧ r < 6 then r else 0

/-- The bring-up step from which a sensor reports (R316). -/
def sensStep (i : Nat) : Nat := if i < 64 then 1 else if i < 0x140 then 3 else 2

/-- Whether the device reads a sensor: its source is up, and an external input has a role (R300). -/
def State.sensRead (s : State) (i : Nat) : Bool :=
  decide (sensStep i ≤ s.pwr.step) && decide (i < 0x14C) && (decide (i < 0x140) || s.extRole (i - 0x140) != 0)

/-- The named neighbours of Table 10-2. -/
def State.neighbours (s : State) (i : Nat) : List Nat :=
  if i < 0x100 then
    let r := i / 8 % 8
    let c := i % 8
    (if r = 0 then [] else [i - 8]) ++ (if r = 7 then [] else [i + 8])
      ++ (if c = 0 then [] else [i - 1]) ++ (if c = 7 then [] else [i + 1])
  else if i < 0x120 then
    let p := (i - 0x100) / 8
    let r := i / 4 % 2
    let c := i % 4
    [1, 2].flatMap (fun a => [0, 1].map (fun b => p * 64 + 8 * (4 * r + a) + 2 * c + b))
  else if i < 0x140 then
    (List.range 4).filterMap (fun j => if j = i % 4 then none else some (i - i % 4 + j))
  else
    let g := s.extCfg (i - 0x140)
    ([rf g 26 18, rf g 17 9, rf g 8 0]).filter (fun x => x != 0x1FF)

/-- Twice the median of a list; the mean of the two middle values for an even count (R301). -/
def median2 (xs : List Int) : Int :=
  let ys := xs.mergeSort
  let n := ys.length
  if n % 2 = 1 then 2 * ys.getD (n / 2) 0 else ys.getD (n / 2 - 1) 0 + ys.getD (n / 2) 0

/-- What the cross-check of R301 finds of one sensor: its new state, and whether it became suspect or returned. -/
def State.crossCheck (s : State) (i : Nat) : SensSt × Bool × Bool :=
  let x := s.sens i
  let ns := (s.neighbours i).filter (fun j => (s.sens j).ok)
  if x.valid = false ∨ ns.length < 2 then (x, false, false)
  else
    let d := (2 * x.temp - median2 (ns.map (fun j => (s.sens j).temp))).natAbs
    if d > 96 then ({ x with suspect := true, okRun := 0 }, !x.suspect, false)
    else if x.suspect = false then (x, false, false)
    else if d ≤ 64 then
      (if x.okRun + 1 ≥ 100 then ({ x with suspect := false, okRun := 0 }, false, true)
       else ({ x with okRun := x.okRun + 1 }, false, false))
    else ({ x with okRun := 0 }, false, false)

/-- One sample joins a history of the last ten, newest last. -/
def pushHist (h : List Int) (v : Int) : List Int := if h.length < 10 then h ++ [v] else h.drop 1 ++ [v]

/-- Whether a sample rises by more than `lim` above the one ten samples before it. -/
def rose (h : List Int) (v lim : Int) : Bool := h.length == 10 && decide (v - h.getD 0 0 > lim)

/-- R302 for one sensor after the cross-check: the new state, and whether it gives a junction or a coolant
rate event. A sensor out of service starts its comparisons again. -/
def State.rateCheck (s : State) (i : Nat) : SensSt × Bool × Bool :=
  let x := s.sens i
  if x.ok = false then ({ x with hist := [], rateRun := 0, cool := [], coolRun := 0 }, false, false)
  else
    let limJ : Int := s.fld (aThm + rTHM_RATE_J) 15 0
    let limC : Int := s.fld (aThm + rTHM_RATE_C) 15 0
    let run := if decide (i < 0x140) && decide (limJ ≠ 0) && rose x.hist x.temp limJ then x.rateRun + 1 else 0
    let x' := { x with hist := pushHist x.hist x.temp, rateRun := run }
    let coolant := decide (0x140 ≤ i) && decide (i < 0x148)
      && (s.extRole (i - 0x140) == 1 || s.extRole (i - 0x140) == 2)
    if coolant = true ∧ s.thm.samples % 1000 = 0 then
      let runC := if decide (limC ≠ 0) && rose x.cool (8 * x.temp) limC then x.coolRun + 1 else 0
      ({ x' with cool := pushHist x.cool (8 * x.temp), coolRun := runC }, decide (run ≥ 2), decide (runC ≥ 2))
    else (x', decide (run ≥ 2), false)

/-- The readings are taken over: an input that is not read has VALID = 0. -/
def State.takeReadings (s : State) (rs : List SensRead) : State :=
  (List.range 0x14C).foldl (fun s i =>
    let x := s.sens i
    match rs.find? (fun r => r.index == i) with
    | some r => if s.sensRead i then
        s.setSens i { x with valid := r.valid, temp := if r.valid then r.temp else x.temp }
      else s.setSens i { x with valid := false }
    | none => if s.sensRead i then s else s.setSens i { x with valid := false }) s

/-- THM.EVT_STAT bits of one edge. -/
def State.thmEvents (s : State) (bs : List (Nat × Bool)) : State :=
  s.raiseAll aThm srcThm false ((bs.filter (fun b => b.2)).map (fun b => ev b.1))

/-- SENSOR_SAMPLE: readings, cross-check, rate limits and T_HIGH (R300 to R302). -/
def State.sample (s : State) (rs : List SensRead) : State :=
  let s := s.takeReadings rs
  let cc := (List.range 0x14C).map (fun i => s.crossCheck i)
  let s := (List.range 0x14C).foldl (fun t i => t.setSens i (s.crossCheck i).1) s
  let rc := (List.range 0x14C).map (fun i => s.rateCheck i)
  let s := (List.range 0x14C).foldl (fun t i => t.setSens i (s.rateCheck i).1) s
  let s := { s with thm := { s.thm with samples := s.thm.samples + 1 } }
  let nj := (rc.filter (fun r => r.2.1)).length
  let nc := (rc.filter (fun r => r.2.2)).length
  let hot := (List.range 0x14C).any (fun i => (s.sens i).ok && decide ((s.sens i).temp > sgn 16 (s.fld (aThm + rTHM_T_HIGH) 15 0)))
  let s := s.thmEvents [(evTHM_RATE_JUNCTION, nj != 0), (evTHM_RATE_COOLANT, nc != 0), (evTHM_T_HIGH, hot),
    (evTHM_SENSOR_SUSPECT, cc.any (fun r => r.2.1)), (evTHM_SENSOR_RESTORED, cc.any (fun r => r.2.2))]
  if nj + nc = 0 then s else s.rateEvent (nj + nc)

/-- The sensors of a die in the order of Table 11-9: compute 0 to 3, memory 4 to 7, DL8 8 to 15. -/
def dieSensors (d : Nat) : List Nat :=
  if d < 4 then (List.range 64).map (· + 64 * d)
  else if d < 8 then (List.range 8).map (· + (0x100 + 8 * (d - 4)))
  else (List.range 4).map (· + (0x120 + 4 * (d - 8)))

/-- How many compute and memory dies have fewer than a quarter of their sensors in service (R301). -/
def State.shortDies (s : State) : Nat :=
  ((List.range 8).filter (fun d =>
    4 * ((dieSensors d).filter (fun i => (s.sens i).ok)).length < (dieSensors d).length)).length

/-- SENSOR_SHORTAGE: a rate event for every die that is short. -/
def State.shortage (s : State) : State :=
  if s.shortDies = 0 then s else (s.evThm evTHM_RATE_JUNCTION 0).rateEvent s.shortDies

/-! ## Write window (R304) -/

/-- Whether a reading lies within 0 to 85 °C. -/
def inWindowC (t : Int) : Bool := decide (0 ≤ t) && decide (t ≤ 680)

/-- A fuse write to a die may start. -/
def State.fuseWindow (s : State) (d : Nat) : Bool :=
  let on := (dieSensors d).filter (fun i => (s.sens i).ok)
  on ≠ [] && on.all (fun i => inWindowC (s.sens i).temp)

/-- A flash write may start: WIN_STAT.FLASH_OK. -/
def State.flashWindow (s : State) : Bool :=
  s.fuseWindow 0 && (List.range 8).all (fun i =>
    s.extRole i != 5 || ((s.sens (0x140 + i)).ok && inWindowC (s.sens (0x140 + i)).temp))

/-- A refused or stopped write sets WINDOW_REFUSED. -/
def State.windowRefused (s : State) : State := s.evThm evTHM_WINDOW_REFUSED 0

/-- The hottest in-service on-die sensor, as index and reading (SENS_MAX). -/
def State.hottest (s : State) : Nat × Int :=
  ((List.range 0x140).filter (fun i => (s.sens i).ok)).foldl
    (fun b i => if b.1 = 0x1FF ∨ (s.sens i).temp > b.2 then (i, (s.sens i).temp) else b) (0x1FF, 0)

/-- SENSOR_SAMPLE. -/
def execSensorSample (reads : List SensRead) (s : State) : Host.Outcome State Fault Refusal := .next (s.sample reads)
/-- SENSOR_SHORTAGE. -/
def execSensorShortage (s : State) : Host.Outcome State Fault Refusal := .next s.shortage

end Sys2Proof.Machine
end

