-- ==== Sys2Proof/Machine/Link.lean ====
section
/-! DEFINITION. Chapter 8: link down, initialisation, acknowledgement and replay, credits, messages, relays,
pause and retrain (R223 to R249, R270, R273, R274). -/

namespace Sys2Proof.Machine

open Sys2Proof

/-! ## Link states and causes (Tables 8-13, 8-14, 8-19) -/

abbrev lDOWN : Nat := 0
abbrev lPHY : Nat := 1
abbrev lCAP : Nat := 2
abbrev lUP : Nat := 3
abbrev lPAUSED : Nat := 4

abbrev cHOST : Nat := 0x01
abbrev cLOS : Nat := 0x02
abbrev cPORT : Nat := 0x03
abbrev cCREDIT : Nat := 0x04
abbrev cREPLAY : Nat := 0x05
abbrev cRETRAIN : Nat := 0x06
abbrev cVERSION : Nat := 0x07
abbrev cFEATURE : Nat := 0x08
abbrev cCAPTO : Nat := 0x09
abbrev cPEER : Nat := 0x0A
abbrev cRESET : Nat := 0x0B
abbrev cCONSERV : Nat := 0x0C
abbrev cCLOCK : Nat := 0x0D
abbrev cLASER : Nat := 0x0E

/-- An event of a port's links. -/
def State.evLink (s : State) (l bit a0 : Nat) : State := s.evLnk (portOfLink l) bit a0

/-! ## A message that cannot go on (R246 step 3, R271) -/

/-- A message of another device is dropped here: a native or collective request is answered with LINK_DOWN, a
signal with DROPPED, anything else counts in RELAY_DROP of the site (log 34). -/
def State.dropMsg (s : State) (p : Nat) (m : Msg) (l status : Nat) : State :=
  let count := fun (s : State) => s.bump (aOio (portOfLink l / 8) + rOIO_RELAY_DROP) 1
  let isReq := (m.profile == 1 && (natOp m.body == 1 || natOp m.body == 2)) || m.profile == profColl
  if isReq then
    let r := s.forward p (s.newMsg p 3 m.srcDev m.srcPart profNative (natHeader 5 status 0 (natTag m.body) 0 0 0)) none
    if r.2 then r.1 else count r.1
  else if m.profile = 0 ∧ syncKind m.body = kSIGNAL then
    let r := s.forward p (s.newMsg p tcSync m.srcDev m.srcPart 0
      (leBytes 1 (leAt m.body 0 1 / 8 * 8 + kDROPPED) ++ m.body.drop 1)) none
    if r.2 then r.1 else count r.1
  else count s

/-! ## Link down (R245 to R247) -/

/-- The DOWN ordered set leaves, if the port still transmits and the operating version has it (Table 8-12). -/
def State.sendDown (s : State) (l cause : Nat) : State :=
  let port := portOfLink l
  if s.transmits port = true ∧ 0x11 ≤ (s.link l).ver then
    let os := osBytes 4 cause 0 0 (s.healthyRings port true) (s.link (64 * port)).expected
    if s.isHouse port then s.emit (.linkSet l os) else s.emit (.orderedSet port os)
  else s

/-- A message asks for a response: a native request, a memory-profile request or a collective message. -/
def wantsAnswer (m : Msg) : Bool :=
  (m.profile == 1 && (natOp m.body == 1 || natOp m.body == 2)) || (m.profile == 2 && m.tc == 6) || m.profile == profColl

/-- An arrived message is a request of a link's partner: what this end owes it goes with the link (R246 step 4, log 80). -/
def State.owed (s : State) (l : Nat) (a : Arrived) : Bool :=
  a.link == l && wantsAnswer a.msg && s.linkPeer l == some a.msg.srcDev

/-- What came over a link that goes down: requests of the partner are discarded, other messages stay and owe it no credit
any more; those that waited in its receive buffer stand in the relay buffers. -/
def State.forgetLink (s : State) (l : Nat) : State :=
  let box := s.inbox.map (fun e => (e.1, (e.2.filter (fun a => !s.owed l a)).map (fun a =>
    if a.link = l then { a with link := noLink } else a)))
  let s := { s with inbox := box.filter (fun e => !e.2.isEmpty) }
  (List.range 4).foldl (fun s p =>
    let buf := s.relayOf (4 + p)
    (s.setRelay p (s.relayOf p ++ buf.filter (fun a => a.link == l))).setRelay (4 + p) (buf.filter (fun a => a.link != l))) s

/-- A link is declared down with a cause (R246). -/
def State.linkDown (s : State) (l cause : Nat) : State :=
  let k := s.link l
  if k.state = lDOWN then s
  else
    let port := portOfLink l
    let sigs := (List.range 4).flatMap (fun p => (s.peersOver p l).map (fun c => (p, c)))
    let mps := (List.range 4).map (fun p => (p, s.mpOver p l))
    let nats := (List.range 4).flatMap (fun p => s.natOver p l)
    let s := s.sendDown l cause
    let old := k.txq ++ k.opened.filterMap (fun e => e.2.map Prod.fst)
    let s := s.forgetLink l
    let next := if s.canTrain port then lPHY else lDOWN
    let s := (s.setLink l { LinkSt.init with cause := cause, state := next }).modSite (port / 8) (fun x =>
      { x with marks := tblClear (fun i => i / 65536 == l) x.marks })
    let s := s.loseAll sigs (fun s => mps.foldl (fun s x => s.mpLinkDown x.1 x.2) (s.natLinkDown nats))
    let s := (old.filter (fun m => m.srcDev != s.device)).foldl (fun s m => s.dropMsg (partOfPort port) m l 6) s
    let s := (s.bump (aLnk port + rOIOLINK_DOWNS) 1).setFld (aLnk port + rOIOLINK_LNK_STAT) 7 0 cause
    let s := s.evLink l evLNK_LINK_DOWN cause
    if s.isHouse port ∧ (s.linksOf port).any (fun l => s.linkUp l) = true then s
    else
      let idle := if s.canTrain port then pTRAIN else pDOWN
      s.modPort port (fun x =>
        let st := if x.st = pFAILED then pFAILED else idle
        { x with st := st, imRun := none, want := x.want.map (fun _ => 0) })

/-- Every link of a port goes down (causes 0x01 to 0x03, 0x0B, 0x0D and 0x0E take the whole port). -/
def State.portDown (s : State) (port cause : Nat) : State :=
  (s.linksOf port).foldl (fun s l => s.linkDown l cause) s

/-- The ports of a site go down. -/
def State.siteDown (s : State) (k cause : Nat) : State :=
  (List.range 8).foldl (fun s n => s.portDown (8 * k + n) cause) s

/-! ## Pause, retrain and resume (R248, R249) -/

/-- Whether any link of the port is up and in no retrain. -/
def State.portCarries (s : State) (port : Nat) : Bool :=
  (s.linksOf port).any (fun l => (s.link l).state == lUP && !(s.link l).paused)

/-- A retrain of the port runs: from the PAUSE until both ends' RESUME. -/
def State.portPaused (s : State) (port : Nat) : Bool := (s.linksOf port).any (fun l => (s.link l).paused)

/-- This end's RESUME left, and the retrain still runs: a further reason can no longer join it. -/
def State.portResumed (s : State) (port : Nat) : Bool :=
  (s.linksOf port).any (fun l => (s.link l).paused && (s.link l).resumed)

/-- The PAUSE or RESUME of a port. -/
def State.sendOs (s : State) (port type reason : Nat) : State :=
  let x := s.port port
  s.emit (.orderedSet port (osBytes type reason x.width x.speed (s.healthyRings port true) (s.link (64 * port)).expected))

/-- Every UP link of the port pauses and PAUSE leaves; a reason that arises while the port is paused joins the
running retrain. A running intermission ends (R216). `st` is the port's state meanwhile. -/
def State.pausePort (s : State) (port reason st : Nat) : State :=
  let s := if (s.port port).imRun.isSome ∧ reason ≠ 5 then
      s.modPort port (fun x => { x with imRun := none, imEnd := s.ctrlClk, st := st })
    else s
  if s.portCarries port = false then s
  else
    let s := (s.linksOf port).foldl (fun s l =>
      if (s.link l).state = lUP ∧ (s.link l).paused = false then
        s.modLink l (fun k => { k with state := lPAUSED, paused := true, resumed := false, heard := none, reason := reason })
      else s) s
    let s := (s.sendOs port 2 reason).bump (aLnk port + rOIOLINK_RETRAINS) 1
    s.modPort port (fun x => { x with st := st })

/-- A retrain; while the lead handles the events of one control cycle, the first reason is kept for the one combined
change (R203), and a reason that arises after this end's RESUME left waits for the end of the retrain (log 79). -/
def State.retrain (s : State) (port reason : Nat) : State :=
  match (s.port port).want with
  | none =>
    if s.portResumed port then s.modPort port (fun x => { x with want := some reason }) else s.pausePort port reason pTRAIN
  | some r => if r = 0 then s.modPort port (fun x => { x with want := some reason }) else s

/-- The lead begins to handle the events of a cycle at a port; a change that waits joins them. -/
def State.collect (s : State) (port : Nat) : State := s.modPort port (fun x => { x with want := some (x.want.getD 0) })

/-- The one combined change that the events of the cycle ask for. -/
def State.combine (s : State) (port : Nat) : State :=
  let r := (s.port port).want.getD 0
  if r ≠ 0 ∧ s.portResumed port = true then s
  else
    let s := s.modPort port (fun x => { x with want := none })
    if r = 0 then s else s.pausePort port r pTRAIN

/-- The port takes the width and speed that its limits now allow, or fails (R200, R202). -/
def State.refit (s : State) (port : Nat) : State :=
  let old := s.port port
  match s.fitWidth port with
  | none =>
    let s := s.modPort port (fun x => { x with st := pFAILED })
    (s.evPort port evOIO_PORT_FAILED).portDown port cPORT
  | some w =>
    let sp := max old.minS (max (s.ladder port old.peerS) (s.effCapS port))
    let s := s.modPort port (fun x => { x with width := w, speed := sp })
    if w = old.width then s else s.assignMap port w

/-- A refit, with PORT_DEGRADED when width or speed fell. -/
def State.refitEv (s : State) (port : Nat) : State :=
  let old := s.port port
  let s := s.refit port
  if (s.port port).st ≠ pFAILED ∧ ((s.port port).width > old.width ∨ (s.port port).speed > old.speed) then
    s.evPort port evOIO_PORT_DEGRADED
  else s

/-- One combined change of width, speed or lanes by a retrain (R203); once this end's RESUME has left, the change waits
for the end of the retrain. -/
def State.reshape (s : State) (port reason : Nat) : State :=
  if s.portResumed port then s.retrain port reason
  else
  let old := s.port port
  let s := s.refitEv port
  if (s.port port).st = pFAILED then s
  else s.retrain port (if (s.port port).width ≠ old.width then 2 else if (s.port port).speed ≠ old.speed then 3 else reason)

/-! ## Replay (R242) -/

/-- Retransmits the held flits from a sequence number on, ahead of anything queued. -/
def State.resendFrom (s : State) (l seq : Nat) : State :=
  let fs := (s.link l).replay.filter (fun f => decide ((f.1 + 65536 - seq) % 65536 < 32768))
  let s := s.bump (aLnk (portOfLink l) + rOIOLINK_REPLAY_FLITS) fs.length
  if s.isHouse (portOfLink l) then
    s.modLink l (fun k =>
      let rest := k.outq.filter (fun q => !isSet q && flitType q.bytes != 1)
      { k with outq := k.outq.filter isSet ++ fs.map (fun f => ⟨f.2.1, f.2.2, true⟩) ++ rest })
  else fs.foldl (fun s f => s.emit (.flit l f.2.2)) s

/-- A replay starts from a number; after 8 without progress the port retrains, and after 8 more the link goes
down (log 30). A paused link sends no DATA flit; the partner's RESUME says where it resumes (R248). -/
def State.replayFrom (s : State) (l seq : Nat) : State :=
  let k := s.link l
  if k.replay.isEmpty = true ∨ k.state ≠ lUP then s
  else if 8 ≤ k.replays then
    let s := s.evLink l evLNK_REPLAY_LIMIT 0
    if k.replayRetrained then s.linkDown l cREPLAY
    else (s.modLink l (fun k => { k with replays := 0, replayRetrained := true })).retrain (portOfLink l) 7
  else
    let s := (s.modLink l (fun k => { k with replays := k.replays + 1 })).bump (aLnk (portOfLink l) + rOIOLINK_REPLAYS) 1
    s.resendFrom l seq

/-! ## Applying the ACK/CREDIT field (R237, R242) -/

/-- A failed identity of a link's credits or replay slots (R257). -/
def State.linkFault (s : State) (l : Nat) : State := (s.evLink l evLNK_CONSERVATION_FAULT 0).linkDown l cCONSERV

/-- An ACK or NAK: the flits it covers are freed, those that a NAK asks for go again, and then new ones. -/
def State.applyAck (s : State) (l q : Nat) (nak : Bool) : State :=
  let k := s.link l
  let d := (q + 65536 - k.acked) % 65536
  let occ := (k.next + 2 * 65536 - 1 - k.acked) % 65536
  if occ < d then s.linkFault l
  else
    let s := if d = 0 then s
      else (s.modLink l (fun k => { k with
        acked := q, replays := 0, replayRetrained := false
        replay := k.replay.filter (fun f => decide (d ≤ (f.1 + 65536 - k.acked - 1) % 65536)) }))
    let s := if nak then s.replayFrom l ((q + 1) % 65536) else s
    if d = 0 then s else s.pump l

/-- Drops `n` credits from the front of what is outstanding. -/
def poolDrop : Nat → List (Bool × Nat) → List (Bool × Nat)
  | _, [] => []
  | n, e :: r => if e.2 ≤ n then poolDrop (n - e.2) r else (e.1, e.2 - n) :: r

/-- A credit return. -/
def State.applyReturn (s : State) (l i ret : Nat) : State :=
  let k := s.link l
  let inc := (ret + 65536 - tblGet 0 k.returned i) % 65536
  let out := (tblGet 0 k.consumed i + 65536 - tblGet 0 k.returned i) % 65536
  if out < inc then s.linkFault l
  else s.modLink l (fun k => { k with
    returned := tblSet 0 k.returned i ret, pool := tblSet [] k.pool i (poolDrop inc (tblGet [] k.pool i)) })

/-- The field of a flit that passed its CRC. -/
def State.applyField (s : State) (l f : Nat) : State :=
  if bit f 31 then (if bit f 19 then s else s.applyReturn l (2 * bits f 18 16 + bits f 20 20) (bits f 15 0))
  else if bit f 17 then s.applyAck l (bits f 15 0) (bit f 16)
  else s

/-! ## Receiving (R228, R240, R241) -/

/-- An acknowledgement or NAK becomes due; it leaves with the next flit. A NAK that is due stays one. -/
def State.oweAck (s : State) (l : Nat) (nak : Bool) : State :=
  (s.modLink l (fun k => { k with ackPend := some (nak || k.ackPend == some true) })).reportCredits l

/-- A NAK may be sent: the flit expected at the last one arrived, or REPLAY_TO has passed since it was sent (R240). -/
def State.mayNak (s : State) (l : Nat) : Bool :=
  (s.link l).nakArmed || decide ((s.link l).nakAt + (s.link l).rto ≤ s.ctrlClk)

/-- A NAK, if armed. -/
def State.nak (s : State) (l : Nat) : State :=
  if s.mayNak l then (s.modLink l (fun k => { k with nakArmed := false, nakAt := s.ctrlClk })).oweAck l true else s

/-- What a failed CRC leads to: a NAK, and after 64 in a row a retrain. `counts` says whether it counts in CRC_ERR. -/
def State.crcFail (s : State) (l : Nat) (counts : Bool) : State :=
  let a := aLnk (portOfLink l)
  let s := s.bump (a + (if counts then rOIOLINK_CRC_ERR else rOIOLINK_FLIT_BAD)) 1
  let s := s.modLink l (fun k => { k with crcRun := k.crcRun + 1 })
  let s := if s.linkUp l then s.nak l else s
  if (s.link l).crcRun = 64 then (s.modLink l (fun k => { k with crcRun := 0 })).retrain (portOfLink l) 8 else s

/-- A declared intrusion has cut off the burst in reception at a house port (R211). -/
def State.interrupted (s : State) (l : Nat) : Bool :=
  s.isHouse (portOfLink l) && (match (s.port (portOfLink l)).burst with
    | some b => !b.good
    | none => false)

/-- A house port in burst mode receives only bursts. -/
def State.burstMode (s : State) (port : Nat) : Bool := s.isHouse port && s.bursts port

/-- A flit of a link belongs to the burst in reception at a port in burst mode, sound or cut off: its sender is the link's
partner, where that is known. -/
def State.inBurst (s : State) (l : Nat) : Bool :=
  match (s.port (portOfLink l)).burst with
  | some b => match s.linkPeer l with
    | some d => d == b.device
    | none => true
  | none => false

/-- A flit of the burst in reception has arrived; after its last one the receiver is armed again (R210). -/
def State.countFlit (s : State) (port : Nat) : State :=
  if s.burstMode port then
    s.modPort port (fun x => { x with burst := match x.burst with
      | some b => if b.left ≤ 1 then none else some { b with left := b.left - 1 }
      | none => none })
  else s

/-- A flit arrives: refused, or its field applied and the rest given to `f`. In burst mode a flit of no burst in reception
(its delimiter failed, it was this device's own, or an intruder's took its place) is lost. -/
def State.recvFlit (s : State) (l : Nat) (flit : List Byte) (f : State → State) : State :=
  if (s.link l).state = lDOWN ∨ (s.link l).state = lPHY
      ∨ (s.burstMode (portOfLink l) = true ∧ s.inBurst l = false) then s
  else
    let t := s.countFlit (portOfLink l)
    if flitCrcOk flit = false ∨ s.interrupted l = true then t.crcFail l true
    else if flitBad flit then t.crcFail l false
    else
      let t := t.modLink l (fun k => { k with crcRun := 0 })
      f (if t.linkUp l then t.applyField l (flitField flit) else t)

/-! ## Messages that arrived (R230, R263, R283) -/

/-- Fabric control and the digests go to the prompter. -/
def msgForPrompter (m : Msg) : Bool :=
  m.profile == 4 || (m.profile == profMgmt && (leAt m.body 0 1 == 0x20 || leAt m.body 0 1 == 0x21))

/-- A code that Table 9-8 does not name for the profile (R283). -/
def codeUnknown (m : Msg) : Bool :=
  let c := leAt m.body 0 1
  (m.profile == 4 && !(decide (1 ≤ c) && decide (c ≤ 5)))
    || (m.profile == profMgmt && c != 0x10 && c != 0x11 && c != 0x20 && c != 0x21)

/-- Relayed messages in a partition's relay buffer of a rank. -/
def State.rankUsed (s : State) (p rank : Nat) : Nat :=
  ((s.relayOf p).filter (fun a => a.msg.srcDev != s.device && s.rank p a.msg (some a.link) == rank)).length

/-- The relay buffer of a message's next step has room; delivery always has (R273). -/
def State.rankRoom (s : State) (p : Nat) (a : Arrived) : Bool :=
  let r := s.rank p a.msg (some a.link)
  r == 9 || decide (s.rankUsed p r < max 1 (Config.relayRoom r))

/-- The first message in a partition's receive buffers that can move into its relay buffer: messages of one class on one
link keep their order. -/
def State.nextHeld (s : State) (p : Nat) : Option Arrived :=
  let buf := s.relayOf (4 + p)
  (buf.zipIdx.find? (fun e => s.rankRoom p e.1
    && (buf.take e.2).all (fun b => b.link != e.1.link || b.msg.tc != e.1.msg.tc))).map Prod.fst

/-- Messages move from the receive buffers into the relay buffers as there is room, and their credits are freed (R238, R273). -/
def State.moveHeld (s : State) (p : Nat) : State :=
  forN (fun _ s => match s.nextHeld p with
    | none => s
    | some a => ((s.setRelay (4 + p) (dropFirst (fun b => b == a) (s.relayOf (4 + p)))).setRelay p
        (s.relayOf p ++ [a])).freeCredits a.link a.msg) (s.relayOf (4 + p)).length s

/-- A message that goes on waits in the receive buffer of its link for room at its rank. -/
def State.holdMsg (s : State) (p : Nat) (m : Msg) (l : Nat) : State :=
  (s.setRelay (4 + p) (s.relayOf (4 + p) ++ [⟨m, l⟩])).moveHeld p

/-- A whole message arrived on a link. -/
def State.arrive (s : State) (l : Nat) (m : Msg) : State :=
  let port := portOfLink l
  let p := partOfPort port
  let cost := msgCost m
  let s := s.modLink l (fun k => { k with
    received := tblSet 0 (tblSet 0 k.received (2 * m.tc) ((tblGet 0 k.received (2 * m.tc) + cost.1) % 65536))
      (2 * m.tc + 1) ((tblGet 0 k.received (2 * m.tc + 1) + cost.2) % 65536) })
  if 6 ≤ m.profile then (s.freeCredits l m).bump (aLnk port + rOIOLINK_FLIT_BAD) 1
  else if s.heldOut = true ∧ m.tc ≠ 0 ∧ m.tc ≠ 7 then (s.freeCredits l m).dropMsg p m l 6
  else if codeUnknown m = true ∧ (m.profile = 4 ∨ m.dstDev = s.device) then
    (s.freeCredits l m).bump (aLnk port + rOIOLINK_FLIT_BAD) 1
  else if m.profile = 4 then s.deliverTo 4 m l
  else if s.deviceValid = true ∧ m.dstDev = s.device then
    (if msgForPrompter m then s.deliverTo 4 m l
    else if s.ringOpen p m.dstPart then s.deliverTo m.dstPart m l
    else s.holdMsg p m l)
  else s.holdMsg p m l

/-- The messages in the slots of a class, from the one left open on. -/
def State.parseSlots : Nat → State → Nat → Nat → List Byte → State
  | 0, s, _, _, _ => s
  | n + 1, s, l, tc, bs =>
    if bs.length < 16 then s
    else
      let body := leAt bs 6 2
      if body = 0 ∨ 258 < body then s.bump (aLnk (portOfLink l) + rOIOLINK_FLIT_BAD) 1
      else if bs.length < 16 * (body + 1) then s.modLink l (fun k => { k with rxOpen := tblSet [] k.rxOpen tc bs })
      else State.parseSlots n (s.arrive l (readMsg tc bs)) l tc (bs.drop (16 * (body + 1)))

/-- The payload of an accepted DATA flit. -/
def State.deliverFlit (s : State) (l : Nat) (flit : List Byte) : State :=
  let tc := flitTc flit
  let open_ := tblGet [] (s.link l).rxOpen tc
  let s := s.modLink l (fun k => { k with rxOpen := tblSet [] k.rxOpen tc [] })
  let pay := flitPayload flit
  if flitCont flit then
    (if open_.isEmpty then s.bump (aLnk (portOfLink l) + rOIOLINK_FLIT_BAD) 1
     else State.parseSlots 15 s l tc (open_ ++ pay))
  else State.parseSlots 15 s l tc pay

/-- DATA_FLIT. -/
def State.dataFlit (s : State) (l : Nat) (flit : List Byte) : State :=
  s.recvFlit l flit (fun s =>
    let k := s.link l
    if s.linkUp l = false ∨ flitType flit ≠ 1 then s
    else
      let d := (flitSeq flit + 65536 - k.expected) % 65536
      if d = 0 then
        let s := s.modLink l (fun k => { k with
          expected := (k.expected + 1) % 65536, nakArmed := true, ackCount := k.ackCount + 1 })
        let s := s.deliverFlit l flit
        if 16 ≤ (s.link l).ackCount then s.oweAck l false else s
      else if 32768 ≤ d then s.oweAck l false
      else s.nak l)

/-- ACK_TIMER. -/
def State.ackLapse (s : State) (l : Nat) : State :=
  if s.linkUp l = true ∧ (s.link l).ackCount ≠ 0 then s.oweAck l false else s

/-- REPLAY_TIMEOUT: the held flits go again from ACKED + 1 (R242). -/
def State.replayLapse (s : State) (l : Nat) : State :=
  if (s.link l).state ≠ lUP then s else s.replayFrom l (((s.link l).acked + 1) % 65536)

/-! ## Credits and starting a message (R233, R236, R237, R239, R254, R274) -/

/-- The partner's advertisement for class and kind `i` (Table 8-10). -/
def LinkSt.adv (k : LinkSt) (i : Nat) : Nat :=
  match k.peerCap with
  | some c => leAt c (40 + 2 * i) 2
  | none => 0

/-- Available credits (R237). -/
def LinkSt.avail (k : LinkSt) (i : Nat) : Nat :=
  ((k.adv i + tblGet 0 k.returned i) % 65536 + 65536 - tblGet 0 k.consumed i) % 65536

/-- Whether a message lies in a scope (R253). -/
def scopeCovers (x : Scope) (m : Msg) : Bool := x.tenant == m.tenant && bit x.tcMask m.tc && bit x.partMask m.srcPart

def LinkSt.isHeld (k : LinkSt) (m : Msg) : Bool := k.held.any (fun x => scopeCovers x m)

/-- A message that the port relays. -/
def State.relayed (s : State) (l : Nat) (m : Msg) : Bool := m.srcDev != s.device || m.srcPart != partOfPort (portOfLink l)

/-- The share of an advertisement that relayed, or local, messages may hold (R274). -/
def State.share (s : State) (l i : Nat) (rel : Bool) : Nat :=
  let adv := (s.link l).adv i
  let r := adv * max 1 (s.fld (aDev + rDEV_FAB_CFG) 11 8) / 16
  if rel then r else adv - r

/-- What the messages of one pool hold. -/
def LinkSt.poolHeld (k : LinkSt) (i : Nat) (rel : Bool) : Nat :=
  (((tblGet [] k.pool i).filter (fun e => e.1 == rel)).map Prod.snd).sum

/-- A message's whole cost is available, and its pool has room. -/
def State.hasCredit (s : State) (l : Nat) (m : Msg) : Bool :=
  let k := s.link l
  decide ((msgCost m).1 ≤ k.avail (2 * m.tc)) && decide ((msgCost m).2 ≤ k.avail (2 * m.tc + 1))

def State.hasPool (s : State) (l : Nat) (m : Msg) : Bool :=
  let k := s.link l
  let rel := s.relayed l m
  decide (k.poolHeld (2 * m.tc) rel + (msgCost m).1 ≤ s.share l (2 * m.tc) rel)
    && decide (k.poolHeld (2 * m.tc + 1) rel + (msgCost m).2 ≤ s.share l (2 * m.tc + 1) rel)

/-- The message of a class that would start next: the first that no curtain holds. -/
def LinkSt.first (k : LinkSt) (tc : Nat) : Option Msg := k.txq.find? (fun m => m.tc == tc && !k.isHeld m)

/-- The message of a class that can start now: the link may carry the class (R235, R263), no message of the class is open,
the replay buffer has room, and the message has its credits and its pool's room. -/
def State.startable (s : State) (l tc : Nat) : Option Msg :=
  let k := s.link l
  if k.state ≠ lUP ∨ (tblGet none k.opened tc).isSome ∨ s.replayDepth l ≤ k.replay.length ∨ s.usable l tc = false then none
  else match k.first tc with
    | some m => if s.hasCredit l m && s.hasPool l m then some m else none
    | none => none

/-- The classes that come before a class: TC0, TC1, TC3, TC7, then the bulk classes in turn (R236); before a number that is
no class, all of them in that order. -/
def LinkSt.before (k : LinkSt) (tc : Nat) : List Nat :=
  match tc with
  | 0 => []
  | 1 => [0]
  | 3 => [0, 1]
  | 7 => [0, 1, 3]
  | _ =>
    let order := match k.turn with
      | 2 => [4, 5, 6, 2] | 4 => [5, 6, 2, 4] | 5 => [6, 2, 4, 5] | _ => [2, 4, 5, 6]
    [0, 1, 3, 7] ++ order.takeWhile (fun c => c != tc)

/-- MESSAGE_START: a class's next message takes its credits and its first flits leave; those of a house link leave with its
bursts (log 78). -/
def State.messageStart (s : State) (l tc : Nat) : State :=
  match s.startable l tc with
  | none => s
  | some m =>
    if ((s.link l).before tc).any (fun c => (s.startable l c).isSome) then s
    else
      let c := msgCost m
      let rel := s.relayed l m
      let spend := fun (k : LinkSt) (i n : Nat) => if n = 0 then k else { k with
        consumed := tblSet 0 k.consumed i ((tblGet 0 k.consumed i + n) % 65536)
        pool := tblSet [] k.pool i (tblGet [] k.pool i ++ [(rel, n)]) }
      let s := s.modLink l (fun k => spend (spend { k with
        txq := dropFirst (fun x => x == m) k.txq
        turn := if tc = 2 ∨ tc = 4 ∨ tc = 5 ∨ tc = 6 then tc else k.turn
        opened := tblSet none k.opened tc (some (m, msgBytes m)) } (2 * tc) c.1) (2 * tc + 1) c.2)
      if s.isHouse (portOfLink l) then s else (s.sendData l tc true).pump l

/-- A class with a held scope (R255). -/
def LinkSt.heldClass (k : LinkSt) (tc : Nat) : Bool := k.held.any (fun x => bit x.tcMask tc)

/-- CREDIT_TIMEOUT: the class's first waiting message waits for credit, and for nothing else; a class with a held scope
runs no credit timer (R239, R255, R274). -/
def State.creditTimeout (s : State) (l tc : Nat) : State :=
  let k := s.link l
  if k.state ≠ lUP ∨ (tblGet none k.opened tc).isSome ∨ s.replayDepth l ≤ k.replay.length ∨ k.heldClass tc = true then s
  else match k.txq.find? (fun m => m.tc == tc) with
    | some m => if s.hasCredit l m then s else s.linkDown l cCREDIT
    | none => s

/-! ## Relaying (R231, R271, R273) -/

/-- A message of this device that was held for a ring pair and then finds no route: the request or signal completes with
LINK_DOWN (R271). -/
def State.refuseOwn (s : State) (p : Nat) (m : Msg) : State :=
  if m.profile = 1 ∨ m.profile = profColl then
    match s.natFor p m.body (m.profile == 1 && natOp m.body == 1) with
    | some x => s.natFail x.1 x.2 stLINKDN
    | none => s
  else if m.profile = 2 then
    match (s.usher p).mp.find? (fun r => r.sent && r.tag == mpTag m.body) with
    | some r => if m.tc = 6 then (s.mpFail p r stLINKDN).mpPump p else s
    | none => s
  else if m.profile = 0 ∧ syncKind m.body = kSIGNAL then
    match (s.sync p).peers.find? (fun e => s.peerDev e.1 == m.dstDev && e.2.unacked.any (fun u =>
        u.seq == syncSeq m.body && u.obj == syncObj m.body && u.part == syncPart m.body)) with
    | some e => s.declareLost p e.1
    | none => s
  else s

/-- RELAY_FORWARD: a waiting message takes its next step once the way is open; messages of one class that came over one
link keep their order (R236). HOPS is lowered as it leaves; the route is that of the message as it arrived. -/
def State.relayForward (s : State) (p idx : Nat) : State :=
  match (s.relayOf p)[idx]? with
  | none => s
  | some a =>
    let own := decide (a.msg.srcDev = s.device)
    let m := if own ∨ a.msg.dstDev = s.device then a.msg else { a.msg with hops := a.msg.hops - 1 }
    let via := if own then none else some a.link
    let taken := (s.setRelay p (((s.relayOf p).take idx) ++ (s.relayOf p).drop (idx + 1))).moveHeld p
    if ((s.relayOf p).take idx).any (fun b => b.link == a.link && b.msg.tc == a.msg.tc
        && (b.msg.srcDev == s.device) == own) = true then s
    else if own = false ∧ a.msg.dstDev ≠ s.device ∧ a.msg.hops = 0 then
      let s := taken.bump (aOio (portOfLink a.link / 8) + rOIO_HOPS_DROP) 1
      if a.msg.profile = 1 ∧ (natOp a.msg.body = 1 ∨ natOp a.msg.body = 2) then
        (s.forward p (s.newMsg p 3 a.msg.srcDev a.msg.srcPart profNative
          (natHeader 5 7 0 (natTag a.msg.body) 0 0 0)) none).1
      else s
    else match s.route p a.msg via with
      | .link l =>
        if s.ringOpen p (partOfPort (portOfLink l)) && decide (8 + portOfLink l / 8 ∉ s.pwr.retraining) then
          taken.enqueue l m
        else s
      | .unit q => if s.ringOpen p q then taken.deliverTo q m noLink else s
      | .nowhere => if own then taken.noRoute.refuseOwn p a.msg else taken.noRoute.dropMsg p a.msg a.link 6

/-! ## Initialisation (R234, R235, R218) -/

/-- The credits a port advertises for class and kind `i` (Table 8-13a), divided among a house port's links. -/
def credDefault (circuit : Bool) (i : Nat) : Nat :=
  if circuit then [64, 64, 4096, 0, 2048, 0, 4096, 16384, 2048, 24576, 2048, 24576, 2048, 16384, 64, 256].getD i 0
  else [64, 64, 1024, 0, 512, 0, 1024, 4096, 512, 4096, 512, 4096, 512, 4096, 64, 256].getD i 0

/-- CRED_CFG of a port. -/
def State.credCfg (s : State) (port i : Nat) : Nat :=
  let v := tblGet 0 (s.port port).creds i
  if v = 0 then credDefault (s.level port == 2) i else v - 1

/-- The CAP of a link (Table 8-10). -/
def State.capBytes (s : State) (l : Nat) : List Byte :=
  let port := portOfLink l
  let p := partOfPort port
  let x := s.port port
  leBytes 1 1 ++ leBytes 1 8 ++ leBytes 1 (s.siteVer (port / 8)) ++ leBytes 1 0x10
    ++ leBytes 2 (if s.deviceValid then 2 ^ 15 + s.device else 0)
    ++ leBytes 1 (port + 64 * s.level port) ++ leBytes 1 (s.siteGen (port / 8))
    ++ leBytes 1 (s.effCapW port + 4 * x.capS) ++ leBytes 1 (s.healthyRings port true) ++ leBytes 2 (19 + 4 * b2n (s.siteFeat (port / 8) 0) + 8 * b2n (s.siteFeat (port / 8) 1))
    ++ leBytes 4 x.dTx ++ leBytes 4 x.dRx ++ leBytes 2 (s.replayDepth l) ++ leBytes 2 250
    ++ leBytes 8 (s.link l).nonce ++ leBytes 2 (s.part p).tenant ++ leBytes 1 p ++ List.replicate 5 0#8
    ++ (List.range 16).flatMap (fun i => leBytes 2 (s.credCfg port i / s.linkCount port)) ++ List.replicate 56 0#8

/-- Random 64 bits for a nonce. -/
def State.random64 (s : State) : Nat := leOf ((List.range 8).map (fun i => Config.randomByte s.freeCtr i))

/-- A chiplet's sensors give its temperature: one of them is in service under the cross-check (R301, Table 7-15). -/
def State.chipTemp (s : State) (k : Nat) : Bool := (List.range 4).any (fun i => (s.sens (0x120 + 4 * k + i)).ok)

/-- PHY_TRAINED: physical training ended; every link that waits for it draws a nonce and sends CAP. `delayOk` says that the
chiplet gives its temperature at this moment; where it does not, or its sensors are out of service, the fused delays stand
uncorrected (Table 7-15). -/
def State.phyTrained (s : State) (port : Nat) (delayOk : Bool) : State :=
  if s.canTrain port = false ∨ (s.port port).st = pACQ ∨ (s.linksOf port).all (fun l => (s.link l).state != lPHY) = true then s
  else
    let ok := delayOk && s.chipTemp (port / 8)
    let d := fun i => if ok then (Config.portDelay (2 * port + i) s.freeCtr).toNat else tblGet 0 s.fuses.delays (2 * port + i)
    let s := ((s.noteTraining port).modPort port (fun x => { x with
      dTx := d 0, dRx := d 1, st := pTRAIN, cal := putBits x.cal 3 3 (b2n ok) })).tick
    let s := if ok then s else s.evPort port evOIO_CAL_FAIL
    (s.linksOf port).foldl (fun s l =>
      if (s.link l).state = lPHY then
        let s := (s.modLink l (fun k => { k with state := lCAP, nonce := s.random64 })).tick
        s.sendCtl l (s.capBytes l)
      else s) s

/-- CAP_RESEND. -/
def State.capResend (s : State) (l : Nat) : State :=
  if (s.link l).state = lCAP ∧ (s.link l).capAcked = false then s.sendCtl l (s.capBytes l) else s

/-- CAP_TIMEOUT. -/
def State.capTimeout (s : State) (l : Nat) : State := if (s.link l).state = lCAP then s.linkDown l cCAPTO else s

/-- The messages of a LINKCTL payload: MSG and LEN, then its bytes. -/
def ctlMessages : Nat → List Byte → List (List Byte)
  | 0, _ => []
  | n + 1, b =>
    let len := 16 * leAt b 1 1
    if b.length < 16 ∨ leAt b 0 1 = 0 ∨ len = 0 then [] else b.take len :: ctlMessages n (b.drop len)

/-- A LINKCTL flit arrives; its messages of one kind go to `f`. -/
def State.recvCtl (s : State) (l : Nat) (flit : List Byte) (msg : Nat) (f : State → List Byte → State) : State :=
  s.recvFlit l flit (fun s =>
    if flitType flit ≠ 2 then s
    else ((ctlMessages 15 (flitPayload flit)).filter (fun b => leAt b 0 1 == msg)).foldl f s)

/-- The cycle length of a house port's schedule in LSB (R267). -/
def State.cycleLsb (s : State) (port : Nat) : Nat :=
  let h := (s.port port).hs
  let slots := if h.slots = 0 then 1024 else min 1024 h.slots
  16384 + (slots - 1) * (456 + 64 * max 8 (min 64 h.flits))

/-- The link enters UP (R234 step 3). -/
def State.linkGoesUp (s : State) (l : Nat) : State :=
  let port := portOfLink l
  let k := s.link l
  match k.peerCap with
  | none => s
  | some c =>
    let op := min (s.siteVer (portOfLink l / 8)) (leAt c 2 1)
    let x := s.port port
    let asym := sgn 32 (leAt c 12 4) + sgn 32 x.dRx - sgn 32 x.dTx - sgn 32 (leAt c 16 4)
      + sgn 32 (s.reg (aPort port + rOIOPORT_FIBRE)).toNat
    let rto := Config.duration s.freeCtr + 500 + (if s.isHouse port then s.cycleLsb port / 16 else 0)
    let s := (s.setLink l { LinkSt.init with
      state := lUP, cause := k.cause, ver := op, nonce := k.nonce, peerCap := k.peerCap, capAcked := true, txq := k.txq
      outq := k.outq, rto := rto % 2 ^ 24 }).tick
    let s := { s with tsu := { s.tsu with asym := tblSet 0 s.tsu.asym port (unsgn 32 asym) } }
    let s := s.modPort port (fun x => { x with st := if x.st = pINTER ∨ x.st = pPAUSED then x.st else pUP, los := false })
    let s := s.raiseAll (aOio (port / 8)) (srcPort port) false
      (⟨true, port % 8, evLNK_LINK_UP, 0, 0⟩ ::
        (if op < 0x21 then [⟨true, port % 8, evLNK_VERSION_LOW, 0, 0⟩] else []))
    (List.range 4).foldl (fun s p => ((s.peersOver p l).filter (fun c => (s.peerSeq p c).state == 1)).foldl
      (fun s c => s.sendQuery p c) s) s

/-- Whether the link can be built with the partner of a CAP; otherwise the cause (R235). -/
def State.capCheck (s : State) (l : Nat) (c : List Byte) : Option Nat :=
  let port := portOfLink l
  let op := min (s.siteVer (port / 8)) (leAt c 2 1)
  let feat := leAt c 10 2
  if op < 0x10 ∨ op < leAt c 3 1 then some cVERSION
  else if s.level port = 1 ∧ (op < 0x20 ∨ bit feat 2 = false ∨ s.siteFeat (port / 8) 0 = false) then some cFEATURE
  else if s.level port = 2 ∧ (op < 0x21 ∨ bit feat 3 = false ∨ s.siteFeat (port / 8) 1 = false) then some cFEATURE
  else if bits (leAt c 6 1) 7 6 ≠ s.level port then some cFEATURE
  else none

/-- CAP_ACK leaves. -/
def State.sendCapAck (s : State) (l : Nat) (c : List Byte) : State :=
  s.sendCtl l (leBytes 1 2 ++ leBytes 1 1 ++ leBytes 1 (min (s.siteVer (portOfLink l / 8)) (leAt c 2 1)) ++ List.replicate 5 0#8 ++ slice c 24 8)

/-- One CAP message. -/
def State.takeCap (s : State) (l : Nat) (c : List Byte) : State :=
  let port := portOfLink l
  if (s.link l).state = lUP then (if (s.link l).peerCap = some c then s.sendCapAck l c else s)
  else if (s.link l).state ≠ lCAP then s
  else
    match s.capCheck l c with
    | some cause => s.linkDown l cause
    | none =>
      let s := s.modLink l (fun k => { k with peerCap := some c, ver := min (s.siteVer (port / 8)) (leAt c 2 1) })
      let s := s.modPort port (fun x => { x with
        peerRx := bits (leAt c 9 1) 4 0, peerW := bits (leAt c 8 1) 1 0, peerS := bits (leAt c 8 1) 3 2
        peerOld := leAt c 7 1 == 0 })
      let s := s.refit port
      if (s.link l).state ≠ lCAP then s
      else
        let s := if s.miswired l then s.evFab evFAB_MISWIRE else s
        let s := s.sendCapAck l c
        if (s.link l).capAcked then s.linkGoesUp l else s

/-- CAP. -/
def State.cap (s : State) (l : Nat) (flit : List Byte) : State := s.recvCtl l flit 1 (fun s c => s.takeCap l c)

/-- CAP_ACK: the own nonce comes back. -/
def State.capAck (s : State) (l : Nat) (flit : List Byte) : State :=
  s.recvCtl l flit 2 (fun s b =>
    if (s.link l).state ≠ lCAP ∨ leAt b 8 8 ≠ (s.link l).nonce then s
    else
      let s := s.modLink l (fun k => { k with capAcked := true })
      if (s.link l).peerCap.isSome then s.linkGoesUp l else s)

/-! ## PAUSE, RESUME, DOWN arrive (R225, R247, R248) -/

/-- An ordered set of a type arrives; one that is refused counts in OS_BAD. -/
def State.recvOs (s : State) (port : Nat) (os : List Byte) (type : Nat) (f : State → State) : State :=
  if osOk os = false then s.bump (aOio (port / 8) + rOIO_OS_BAD) 1
  else if osType os ≠ type then s
  else f s

/-- The partner's width, speed and receive rings join what this end will run. -/
def State.joinPeer (s : State) (port : Nat) (os : List Byte) : State :=
  let s := s.modPort port (fun x => { x with
    peerRx := bits (leAt os 7 1) 4 0, peerW := bits (leAt os 6 1) 1 0, peerS := bits (leAt os 6 1) 3 2 })
  s.refitEv port

/-- The partner pauses once more while this end is still in the retrain (its own one failed, R249): it waits for a new
RESUME and will send one. -/
def State.repause (s : State) (port : Nat) : State :=
  (s.linksOf port).foldl (fun s l =>
    if (s.link l).paused = true ∧ ((s.link l).resumed = true ∨ (s.link l).heard.isSome = true) then
      s.modLink l (fun k => { k with state := lPAUSED, resumed := false, heard := none })
    else s) s

/-- A lane move that the partner announces by a PAUSE (Table 7-8): the ring at this end follows to the lane's new line.
Table 8-2 carries neither direction, lane nor line (log 75). -/
def State.followMove (s : State) (port : Nat) : State :=
  let c := Config.partnerMove s.freeCtr
  let s := s.tick
  match s.ringOfLane port c.1 (c.2.1 % 16) with
  | none => s
  | some g =>
    let line := c.2.2 % 18
    if line ∈ s.usedLines port c.1 then s
    else (s.modRing g (fun r => { r with line := line })).evPort port evOIO_LANE_SPARED

/-- PAUSE: this end pauses too, unless it already has. A lane move of the partner is followed; an intermission it announces
runs at this end too (R215). -/
def State.pauseOs (s : State) (port : Nat) (os : List Byte) : State :=
  s.recvOs port os 2 (fun s =>
    if s.portCarries port = false ∧ s.portPaused port = false then s
    else
      let s := s.joinPeer port os
      if (s.port port).st = pFAILED then s
      else
        let reason := leAt os 5 1
        let s := if reason = 1 ∧ s.portPaused port = false then s.followMove port else s
        if s.portPaused port then s.repause port
        else
          let s := s.pausePort port reason (if reason = 5 then pINTER else pTRAIN)
          if reason = 5 then s.modPort port (fun x => { x with imRun := some ⟨0, false, true⟩, burst := none }) else s)

/-- The retrain ends once both ends resumed; a change that waited for its end begins (log 79). -/
def State.finishRetrain (s : State) (port : Nat) : State :=
  let ls := (s.linksOf port).filter (fun l => (s.link l).paused)
  if ls.isEmpty = true ∨ ls.all (fun l => (s.link l).resumed && (s.link l).heard.isSome) = false then s
  else
    let s := ls.foldl (fun s l => s.modLink l (fun k => { k with paused := false, resumed := false, heard := none, attempt := 0 })) s
    let r := (s.port port).want.getD 0
    let s := s.modPort port (fun x => { x with st := pUP, los := false, want := none })
    let s := s.evLnk port evLNK_RETRAIN 0
    if r = 0 then s else s.reshape port r

/-- The partner's RESUME reaches a paused link: curtains that waited leave first, then the held flits from the partner's
EXPECTED, then waiting messages (R248 step 4, R252). -/
def State.wakeLink (s : State) (l exp : Nat) : State :=
  let k := s.link l
  let s := s.setLink l { k with state := lUP, heard := some exp, curtq := [] }
  let s := k.curtq.foldl (fun s c => s.placeSet l c) s
  let s := s.resendFrom l exp
  (s.pump l).reportCredits l

/-- RESUME: link 0 learns where to resend from; a house port's other links recover by NAK. -/
def State.resumeOs (s : State) (port : Nat) (os : List Byte) : State :=
  s.recvOs port os 3 (fun s =>
    if s.portPaused port = false then s
    else
      let s := s.joinPeer port os
      let s := (s.linksOf port).foldl (fun s l =>
        if (s.link l).state = lPAUSED then s.wakeLink l (if l = 64 * port then leAt os 8 2 else (s.link l).next)
        else s) s
      s.finishRetrain port)

/-- RETRAIN_COMPLETE: the local retrain ended; RESUME leaves. -/
def State.retrainComplete (s : State) (port : Nat) : State :=
  if (s.linksOf port).any (fun l => (s.link l).paused && !(s.link l).resumed) = false ∨ (s.port port).imRun.isSome
      ∨ (s.port port).los = true ∨ (s.port port).st = pACQ then s
  else
    let s := s.sendOs port 3 0
    let s := (s.linksOf port).foldl (fun s l =>
      if (s.link l).paused then s.modLink l (fun k => { k with resumed := true }) else s) s
    s.finishRetrain port

/-- A link still waits for the partner's RESUME. -/
def LinkSt.unheard (k : LinkSt) : Bool := k.paused && k.heard.isNone

/-- RETRAIN_TIMEOUT: the partner's RESUME did not come; once more, and then the links go down. -/
def State.retrainTimeout (s : State) (port : Nat) : State :=
  if (s.linksOf port).any (fun l => (s.link l).unheard) = false then s
  else if (s.linksOf port).any (fun l => (s.link l).unheard && (s.link l).attempt != 0) then
    ((s.linksOf port).filter (fun l => (s.link l).unheard)).foldl (fun s l => s.linkDown l cRETRAIN) s
  else
    let s := (s.linksOf port).foldl (fun s l =>
      if (s.link l).unheard then s.modLink l (fun k => { k with attempt := 1, resumed := false }) else s) s
    ((s.sendOs port 2 (s.link (64 * port)).reason).bump (aLnk port + rOIOLINK_RETRAINS) 1).modPort port
      (fun x => { x with st := pTRAIN })

/-- The links a DOWN takes down: on a house port the one to the sender of the burst in reception. -/
def State.downLinks (s : State) (port : Nat) : List Nat :=
  match (s.port port).burst with
  | some b => if s.isHouse port then (s.linksOf port).filter (fun l => s.linkPeer l == some b.device) else s.linksOf port
  | none => s.linksOf port

/-- DOWN. -/
def State.downOs (s : State) (port : Nat) (os : List Byte) : State :=
  s.recvOs port os 4 (fun s => (s.downLinks port).foldl (fun s l => s.linkDown l cPEER) s)

/-! ## Census (R256, R257) -/

/-- CENSUS_SEND: at a quiescent point, on a link whose version has it (Table 8-12). -/
def State.censusSend (s : State) (l : Nat) : State :=
  let k := s.link l
  if k.state ≠ lUP ∨ k.ver < 0x20 ∨ k.replay ≠ [] ∨ k.opened ≠ [] then s
  else s.sendCtl l (leBytes 1 4 ++ leBytes 1 3 ++ (List.range 16).flatMap (fun i => leBytes 2 (tblGet 0 k.consumed i))
    ++ List.replicate 14 0#8)

/-- Credits of class and kind `i` held in the receive buffer of a link. -/
def State.buffered (s : State) (l i : Nat) : Nat :=
  ((s.inbox ++ s.relay.filter (fun e => decide (4 ≤ e.1))).flatMap (fun e => e.2.filterMap (fun a =>
    if a.link = l ∧ a.msg.tc = i / 2 then some (if i % 2 = 0 then (msgCost a.msg).1 else (msgCost a.msg).2) else none))).sum

/-- CENSUS. -/
def State.census (s : State) (l : Nat) (flit : List Byte) : State :=
  s.recvCtl l flit 4 (fun s b =>
    if s.linkUp l = false then s
    else
      let k := s.link l
      let ok := (List.range 16).all (fun i => leAt b (2 + 2 * i) 2 == tblGet 0 k.received i
        && (tblGet 0 k.received i + 65536 - tblGet 0 k.freed i) % 65536 == s.buffered l i % 65536)
      if ok then s.setReg (aLnk (portOfLink l) + rOIOLINK_CENSUS_OK) (s.reg (aLnk (portOfLink l) + rOIOLINK_CENSUS_OK) + 1)
      else s.linkFault l)

/-! ## The commands -/

/-- PHY_TRAINED. -/
def execPhyTrained (port : Nat) (delayOk : Bool) (s : State) : Host.Outcome State Fault Refusal := .next (s.phyTrained port delayOk)
/-- CAP_RESEND. -/
def execCapResend (l : Nat) (s : State) : Host.Outcome State Fault Refusal := .next (s.capResend l)
/-- CAP. -/
def execCap (l : Nat) (flit : List Byte) (s : State) : Host.Outcome State Fault Refusal := .next (s.cap l flit)
/-- CAP_ACK. -/
def execCapAck (l : Nat) (flit : List Byte) (s : State) : Host.Outcome State Fault Refusal := .next (s.capAck l flit)
/-- CAP_TIMEOUT. -/
def execCapTimeout (l : Nat) (s : State) : Host.Outcome State Fault Refusal := .next (s.capTimeout l)
/-- DATA_FLIT. -/
def execDataFlit (l : Nat) (flit : List Byte) (s : State) : Host.Outcome State Fault Refusal := .next (s.dataFlit l flit)
/-- NULL_FLIT. -/
def execNullFlit (l : Nat) (flit : List Byte) (s : State) : Host.Outcome State Fault Refusal := .next (s.recvFlit l flit (fun s => s))
/-- ACK_TIMER. -/
def execAckTimer (l : Nat) (s : State) : Host.Outcome State Fault Refusal := .next (s.ackLapse l)
/-- REPLAY_TIMEOUT. -/
def execReplayTimeout (l : Nat) (s : State) : Host.Outcome State Fault Refusal := .next (s.replayLapse l)
/-- CREDIT_TIMEOUT. -/
def execCreditTimeout (l tc : Nat) (s : State) : Host.Outcome State Fault Refusal := .next (s.creditTimeout l tc)
/-- MESSAGE_START. -/
def execMessageStart (l tc : Nat) (s : State) : Host.Outcome State Fault Refusal := .next (s.messageStart l tc)
/-- RELAY_FORWARD. -/
def execRelayForward (p idx : Nat) (s : State) : Host.Outcome State Fault Refusal := .next (s.relayForward p idx)
/-- PAUSE. -/
def execPause (port : Nat) (os : List Byte) (s : State) : Host.Outcome State Fault Refusal := .next (s.pauseOs port os)
/-- RESUME. -/
def execResume (port : Nat) (os : List Byte) (s : State) : Host.Outcome State Fault Refusal := .next (s.resumeOs port os)
/-- RETRAIN_COMPLETE. -/
def execRetrainComplete (port : Nat) (s : State) : Host.Outcome State Fault Refusal := .next (s.retrainComplete port)
/-- RETRAIN_TIMEOUT. -/
def execRetrainTimeout (port : Nat) (s : State) : Host.Outcome State Fault Refusal := .next (s.retrainTimeout port)
/-- DOWN. -/
def execDown (port : Nat) (os : List Byte) (s : State) : Host.Outcome State Fault Refusal := .next (s.downOs port os)
/-- CENSUS_SEND. -/
def execCensusSend (l : Nat) (s : State) : Host.Outcome State Fault Refusal := .next (s.censusSend l)
/-- CENSUS. -/
def execCensus (l : Nat) (flit : List Byte) (s : State) : Host.Outcome State Fault Refusal := .next (s.census l flit)

end Sys2Proof.Machine
end

