-- ==== Sys2Proof/Machine/Time.lean ====
section
/-! DEFINITION. The time-stamp unit: the GTS, its tick, TIMING exchanges and the servo (R154 to R160). -/

namespace Sys2Proof.Machine

open Sys2Proof

/-! ## TSU states and fields (Tables 5-6, 5-11) -/

abbrev tFREE : Nat := 0
abbrev tACQUIRE : Nat := 1
abbrev tLOCKED : Nat := 2
abbrev tHOLDOVER : Nat := 3

/-- Changes the TSU. -/
def State.modTsu (s : State) (f : TsuSt → TsuSt) : State := { s with tsu := f s.tsu }

def State.tsuCfg (s : State) : W32 := s.reg (aTsu + rTSU_TSU_CFG)
def State.tsuRoot (s : State) : Bool := rb s.tsuCfg 31
def State.tsuAltEn (s : State) : Bool := rb s.tsuCfg 30

/-- The port of the parent in force. -/
def State.parentPort (s : State) : Nat := if s.tsu.alt then rf s.tsuCfg 13 8 else rf s.tsuCfg 5 0

/-- A device that is no time root has a parent configured. -/
def hasParent (cfg : W32) : Bool := !rb cfg 31 && rb cfg 7

/-- A port is the alternate, not yet in force. -/
def State.isAlt (s : State) (port : Nat) : Bool :=
  s.tsuAltEn && !s.tsuRoot && !s.tsu.alt && rf s.tsuCfg 13 8 == port

/-! ## Advancing the GTS (R154, R157, R158) -/

/-- The clamp of the rate adjustment: 1,953 ppm in units of `2^-40`. -/
def rateMax : Int := 2147346209

/-- What one control-clock edge adds, in units of `2^-40` LSB. -/
def TsuSt.inc (t : TsuSt) : Nat := (16 * 2 ^ 40 + 16 * t.rate).toNat

/-- The GTS with its fraction. -/
def TsuSt.acc (t : TsuSt) : Nat := t.gts * 2 ^ 40 + t.frac

/-- The GTS set to an accumulated value. -/
def TsuSt.setAcc (t : TsuSt) (a : Nat) : TsuSt := { t with gts := a / 2 ^ 40 % 2 ^ 64, frac := a % 2 ^ 40 }

/-- The corrections of a tick: the rate; then a captured SET, or a servo step, or one LSB of phase. -/
def State.tickEffects (s : State) : State :=
  let s := s.modTsu (fun t => { t with
    rate := (match t.ratePend with
      | some r => max (-rateMax) (min rateMax r)
      | none => t.rate)
    ratePend := none })
  let t := s.tsu
  match t.setPend with
  | some (root, v) =>
    let lock := root && t.state == tFREE
    let s := s.modTsu (fun t => { t with
      gts := v, frac := 0, setPend := none, stepPend := none, backed := false,
      state := if lock then tLOCKED else t.state })
    s.raiseAll aTsu srcTsu false (⟨false, 0, evTSU_GTS_STEP, (v + 2 ^ 64 - t.gts) % 2 ^ 64, 1⟩
      :: (if lock then [ev evTSU_LOCKED] else []))
  | none =>
    match t.stepPend with
    | some d =>
      (s.modTsu (fun t => { t with gts := ((t.gts : Int) + d) % (2 ^ 64 : Nat) |>.toNat, stepPend := none, backed := false })).evTsu
        evTSU_GTS_STEP (unsgn 64 d) 0
    | none =>
      if t.phase < 0 then s.modTsu (fun t =>
        let g := (t.gts + 2 ^ 64 - 1) % 2 ^ 64
        { t with gts := g, phase := t.phase + 1, backed := g / 16000 != t.gts / 16000 })
      else if 0 < t.phase then s.modTsu (fun t => { t with gts := (t.gts + 1) % 2 ^ 64, phase := t.phase - 1 })
      else s

/-- The clocks run: the device is not held in reset and has not tripped. -/
def State.clocked (s : State) : Bool := !s.pwr.inReset && !s.pwr.trip

/-- One edge of the control clock (log 1). A multiple that the last correction had set the GTS back over is crossed again
without a further tick: there is one a µs (R158). -/
def State.edge (s : State) : State :=
  let s := { s with ctrlClk := s.ctrlClk + 1 }
  if s.clocked then
    let a := s.tsu.acc + s.tsu.inc
    let crossed := s.tsu.gts / 16000 != a / 2 ^ 40 / 16000
    let s := s.modTsu (fun t => t.setAcc a)
    if crossed = false then s
    else if s.tsu.backed then s.modTsu (fun t => { t with backed := false })
    else s.tickEffects
  else s

/-- GTS_TICK: the edges up to and with the next one that is a tick. -/
def State.runToTick (s : State) : State :=
  if s.clocked then
    let t := s.tsu
    let n := ceilDiv ((t.gts / 16000 + 1 + b2n t.backed) * 16000 * 2 ^ 40 - t.acc) t.inc
    let s := { s with ctrlClk := s.ctrlClk + n }
    (s.modTsu (fun t => { t.setAcc (t.acc + n * t.inc) with backed := false })).tickEffects
  else s

/-! ## State changes (Table 5-6) -/

/-- HOLD_US of the HOLDOVER in progress, in µs; the control clock has 1,000 edges a µs. -/
def State.holdUs (s : State) : Nat := (s.ctrlClk - s.tsu.holdAt) / 1000 % 2 ^ 32

/-- HOLDOVER begins. -/
def State.enterHoldover (s : State) : State :=
  (s.modTsu (fun t => { t with state := tHOLDOVER, holdAt := s.ctrlClk })).evTsu evTSU_HOLDOVER 0 0

/-- ACQUIRE begins; LOCKED is lost when it was in force, and HOLD_US keeps the length of a HOLDOVER. -/
def State.enterAcquire (s : State) : State :=
  let was := s.tsu.state
  let s := if was = tHOLDOVER then s.setReg (aTsu + rTSU_HOLD_US) (BitVec.ofNat 32 s.holdUs) else s
  let s := s.modTsu (fun t => { t with state := tACQUIRE, okRun := 0, badRun := 0 })
  if was = tLOCKED then (s.bump (aTsu + rTSU_LOCK_LOSS) 1).evTsu evTSU_LOCK_LOST 0 0 else s

/-- A write of TSU_CFG: a parent newly configured starts acquisition (log 32). -/
def State.writeTsuCfg (s : State) (v : W32) : State :=
  let old := s.tsuCfg
  let new := v &&& 0xC0003FBF#32
  let s := s.setReg (aTsu + rTSU_TSU_CFG) new
  if hasParent new && (!hasParent old || rf new 5 0 != rf old 5 0) then
    (s.modTsu (fun t => { t with alt := false })).enterAcquire
  else s

/-- GTS_CMD.SET. -/
def State.captureSet (s : State) : State :=
  if s.tsuRoot || s.tsu.state == tFREE then
    let v := (s.reg (aTsu + rTSU_GTS_SET_LO)).toNat + 2 ^ 32 * (s.reg (aTsu + rTSU_GTS_SET_HI)).toNat
    s.modTsu (fun t => { t with setPend := some (s.tsuRoot, v) })
  else s

/-- A host write of RATE_ADJ. -/
def State.writeRate (s : State) (v : W32) : State :=
  if s.tsuRoot then s.modTsu (fun t => { t with ratePend := some (sgn 32 v.toNat) }) else s

/-! ## TIMING (Table 8-9, R157) -/

/-- The stamp of the present moment, in 1/64 LSB. -/
def TsuSt.stamp (t : TsuSt) : Nat := t.gts * 64 + t.frac / 2 ^ 34

/-- The link of a port that carries TIMING: on a house port the one toward the parent or the alternate, else the first UP. -/
def State.timingLink (s : State) (port : Nat) : Nat :=
  if s.isHouse port then
    let ups := (s.linksOf port).filter (fun l => s.linkUp l)
    match ups.find? (fun l => s.fab.timePeers.any (fun d => s.linkPeer l == some d)) with
    | some l => l
    | none => ups.headD (64 * port)
  else 64 * port

/-- A TIMING message leaves a port: the departure of the last one and the arrival of the partner's last, and the
new departure is stamped. -/
def State.sendTiming (s : State) (port role : Nat) : State :=
  let l := s.timingLink port
  if s.linkUp l = false then s
  else
    let sent := tblGet none s.tsu.stamps (2 * port + 1)
    let got := tblGet none s.tsu.stamps (2 * port)
    let n := match sent with
      | some x => (x.1 + 1) % 2 ^ 32
      | none => 0
    let dep := match sent with
      | some x => x.2
      | none => 0
    let arr := match got with
      | some x => x.2
      | none => 0
    let s := s.modTsu (fun t => { t with stamps := tblSet none t.stamps (2 * port + 1) (some (n, t.stamp)) })
    s.sendCtl l (leBytes 1 3 ++ leBytes 1 2 ++ leBytes 2 role ++ leBytes 4 n ++ leBytes 8 (dep / 64) ++ leBytes 8 (arr / 64)
      ++ leBytes 1 (dep % 64) ++ leBytes 1 (arr % 64) ++ List.replicate 6 0#8)

/-- TIMING_SEND: the exchange with the parent or the alternate. -/
def State.timingDue (s : State) (port : Nat) : State :=
  if (hasParent s.tsuCfg && port == s.parentPort) || s.isAlt port then s.sendTiming port 1 else s

/-- The offset θ of an exchange in 1/64 LSB, from its four stamps and ASYM, rounded toward zero. -/
def thetaOf (t1 t2 t3 t4 : Nat) (asym : Int) : Int :=
  (sgn 70 (t2 + 2 ^ 70 - t1) - sgn 70 (t4 + 2 ^ 70 - t3) - asym).tdiv 2

/-- The servo takes the offset against the parent (R156, R157). -/
def State.servo (s : State) (th : Int) : State :=
  let s := s.setReg (aTsu + rTSU_THETA_LAST) (BitVec.ofNat 32 (unsgn 32 th))
  let s := if s.tsu.state = tHOLDOVER then s.enterAcquire else s
  let s :=
    if s.tsu.state = tACQUIRE ∧ 16000 * 64 ≤ th.natAbs then s.modTsu (fun t => { t with stepPend := some (-(th.tdiv 64)) })
    else s.modTsu (fun t => { t with
      ratePend := some (t.ratePend.getD t.rate - th * 8), phase := t.phase - th.tdiv 256 })
  let within := decide (th.natAbs ≤ 16 * 64)
  if s.tsu.state = tACQUIRE then
    let s := s.modTsu (fun t => { t with okRun := if within then t.okRun + 1 else 0 })
    if s.tsu.okRun = 64 then
      (s.modTsu (fun t => { t with state := tLOCKED, okRun := 0, badRun := 0 })).evTsu evTSU_LOCKED 0 0
    else s
  else if s.tsu.state = tLOCKED then
    let s := s.setReg (aTsu + rTSU_RESID_MAX)
      (BitVec.ofNat 32 (max (s.reg (aTsu + rTSU_RESID_MAX)).toNat (min th.natAbs 0xFFFFFFFF)))
    let s := s.modTsu (fun t => { t with badRun := if within then 0 else t.badRun + 1 })
    if s.tsu.badRun = 8 then s.enterAcquire else s
  else s

/-- The offset against the alternate (R160). -/
def State.altOffset (s : State) (th : Int) : State :=
  let s := s.setReg (aTsu + rTSU_RESID_ALT) (BitVec.ofNat 32 (unsgn 32 th))
  if (s.reg (aTsu + rTSU_RESID_LIMIT)).toNat < th.natAbs then s.evTsu evTSU_RESID_HIGH 0 0 else s

/-- TIMING arrives at `t` (1/64 LSB): a child's is answered; the parent's or the alternate's, if it follows
the last one received, is an exchange. -/
def State.timingIn (s : State) (port : Nat) (b : List Byte) (t : Nat) : State :=
  if s.linkUp (s.timingLink port) = false ∨ leAt b 0 1 ≠ 3 ∨ b.length ≠ 32 then s
  else
    let n := leAt b 4 4
    let got := tblGet none s.tsu.stamps (2 * port)
    let sent := tblGet none s.tsu.stamps (2 * port + 1)
    let s := s.modTsu (fun x => { x with stamps := tblSet none x.stamps (2 * port) (some (n, t % 2 ^ 70)) })
    if bit (leAt b 2 1) 0 then s.sendTiming port 0
    else
      match got, sent with
      | some g, some d =>
        if (g.1 + 1) % 2 ^ 32 ≠ n ∨ s.pwr.refLost = true then s
        else
          let th := thetaOf (64 * leAt b 8 8 + bits (leAt b 24 1) 5 0) g.2 d.2 (64 * leAt b 16 8 + bits (leAt b 25 1) 5 0)
            (sgn 32 (tblGet 0 s.tsu.asym port))
          if hasParent s.tsuCfg && port == s.parentPort then s.servo th
          else if s.isAlt port then s.altOffset th
          else s
      | _, _ => s

/-! ## The commands -/

/-- TIMING_SEND. -/
def execTimingSend (port : Nat) (s : State) : Host.Outcome State Fault Refusal := .next (s.timingDue port)
/-- TIMING. -/
def execTiming (port : Nat) (body : List Byte) (t : Nat) (s : State) : Host.Outcome State Fault Refusal :=
  .next (s.timingIn port body t)
/-- GTS_TICK. -/
def execGtsTick (s : State) : Host.Outcome State Fault Refusal := .next s.runToTick
/-- GTS_SET. -/
def execGtsSet (s : State) : Host.Outcome State Fault Refusal := .next (s.onPage .tsu 0 (fun s => s.captureSet))
/-- RATE_ADJ_WRITE. -/
def execRateAdjWrite (v : W32) (s : State) : Host.Outcome State Fault Refusal := .next (s.onPage .tsu 0 (fun s => s.writeRate v))
/-- TSU_CFG_WRITE. -/
def execTsuCfgWrite (v : W32) (s : State) : Host.Outcome State Fault Refusal := .next (s.onPage .tsu 0 (fun s => s.writeTsuCfg v))
/-- TSU_HOLDOVER: no exchange for 64 µs. -/
def execTsuHoldover (s : State) : Host.Outcome State Fault Refusal :=
  .next (if s.tsu.state = tLOCKED ∧ s.tsuRoot = false then s.enterHoldover else s)
/-- ALT_TAKEOVER. -/
def execAltTakeover (s : State) : Host.Outcome State Fault Refusal :=
  .next (if s.tsu.state = tHOLDOVER ∧ s.tsuAltEn = true ∧ s.tsuRoot = false ∧ s.tsu.alt = false ∧ s.pwr.refLost = false then
    (s.modTsu (fun t => { t with alt := true })).enterAcquire else s)

end Sys2Proof.Machine
end

