-- ==== Sys2Proof/Machine/Rings.lean ====
section
/-! DEFINITION. Rings, failed marks and lane moves, and the write-through of the slow class (R195 to R203, R307). -/

namespace Sys2Proof.Machine

open Sys2Proof

/-- One second on the control clock. -/
abbrev oneSec : Nat := 1000000000

/-- The times of a list that lie within the last second. -/
def State.recent (s : State) (ts : List Nat) : List Nat := ts.filter (fun t => decide (s.ctrlClk < t + oneSec))

/-- The site of a ring. -/
def siteOfRing (g : Nat) : Nat := g / 288

/-- The rings of a site. -/
def ringsOf (k : Nat) : List Nat := (List.range 288).map (· + 288 * k)

/-- Changes the controller that is not in control. -/
def SiteSt.modOther (x : SiteSt) (f : CtlSt → CtlSt) : SiteSt :=
  if x.lead = 0 then { x with c1 := f x.c1 } else { x with c0 := f x.c0 }

/-- The lead acts: its chiplet is in use, its clock runs, and no switch-over is under way (R310). -/
def State.leadActs (s : State) (k : Nat) : Bool := s.siteUsed k && s.clocked && (s.site k).gap == 0

/-! ## Lanes of a bank -/

/-- Healthy rings of a bank without a lane, ascending (log 36). -/
def State.spareRings (s : State) (port : Nat) (rx : Bool) : List Nat :=
  (bankOf port rx).filter (fun g => (s.ring g).lane == gNone && (s.ring g).nextLane == gNone
    && ((s.ring g).st == gPARKED || (s.ring g).st == gSTANDBY))

/-- A line is 400 GHz, two lines, or more from a list of lines. -/
def apart (line : Nat) (lines : List Nat) : Bool := lines.all (fun u => decide (u + 2 ≤ line) || decide (line + 2 ≤ u))

/-- Unused healthy lines of a direction, ascending, for a lane that leaves a line; on a house port only those that
keep 400 GHz from every other line in use (R266), with a previous-generation partner only λ1 to λ12 (R189). -/
def State.spareLines (s : State) (port : Nat) (rx : Bool) (leaving : Nat) : List Nat :=
  let used := s.usedLines port rx
  (List.range 18).filter (fun line => !bit (s.badLines port rx) line && decide (line ∉ used)
    && (s.level port != 1 || apart line (used.filter (fun u => u != leaving)))
    && (!s.oldPort port || (decide (1 ≤ line) && decide (line ≤ 12))))

/-! ## Segments of write-through items (R307) -/

/-- Segments of 48 bits (log 41): a lane map of 18 rings with lane and line takes four, a key of 256 bits with its tenant
six. -/
def WtItem.segments : WtItem → Nat
  | .ringFailed _ => 1
  | .lineFailed _ _ _ => 1
  | .laneMap _ _ _ _ _ _ => 4
  | .step _ _ _ => 4
  | .map _ _ => 4
  | .key _ _ => 6
  | .mark _ _ _ => 2
  | .losses _ _ => 2
  | .imEnd _ _ => 1

/-- An item is applied by the lead once its last segment is acknowledged; with no controller in sync, at once. `apply`
is what the lead does. -/
def State.writeThrough (s : State) (k : Nat) (it : WtItem) (apply : State → WtItem → State) : State :=
  if (s.site k).mirrored then s.modSite k (fun x => { x with wt := x.wt ++ [(it, it.segments)] }) else apply s it

/-! ## Width steps (R200 to R203) -/

/-- The width code to step down to: the next narrower that R200 allows; at 4 lanes the port stays there while U is 4 or
more. -/
def State.narrower (s : State) (port : Nat) : Nat :=
  match s.fitWidth port with
  | some w => max w (min 3 ((s.port port).width + 1))
  | none => 4

/-- No healthy ring or line is left to move to: the width steps down once both lane maps of the step are written
through (R201, R307). -/
def State.stepDown (s : State) (port : Nat) (apply : State → WtItem → State) : State :=
  let w := s.narrower port
  (s.writeThrough (port / 8) (.step port w false) apply).writeThrough (port / 8) (.step port w true) apply

/-- The width step takes effect. -/
def State.takeStep (s : State) (port minW : Nat) : State :=
  let old := (s.port port).width
  let s := s.modPort port (fun x => { x with minW := max x.minW minW })
  match s.fitWidth port with
  | none => s.reshape port 2
  | some w =>
    let s := (s.modPort port (fun x => { x with width := w })).assignPort port w
    let s := if old < w then s.evPort port evOIO_PORT_DEGRADED else s
    s.retrain port (if w = old then 1 else 2)

/-- Speed steps down one level (R202). -/
def State.speedDown (s : State) (port : Nat) : State :=
  if (s.port port).speed = 2 then s
  else
    let s := s.modPort port (fun x => { x with speed := 2, minS := 2 })
    (s.evPort port evOIO_PORT_DEGRADED).retrain port 3

/-! ## Lane moves (Table 7-8) -/

/-- A lane map takes effect: the lane has moved to another ring and line, and the port retrains. -/
def State.moveLane (s : State) (port : Nat) (rx : Bool) (lane fromRing toRing line : Nat) : State :=
  let gone := bit (s.badLines port rx) (s.ring fromRing).line
  let s := if fromRing = toRing then s else s.modRing fromRing (fun r => { r with
    lane := gNone
    st := if r.st = gFAILED then gFAILED else if gone then gPARKED else gSTANDBY
    line := if gone ∨ r.st = gFAILED then gNone else r.line })
  let s := s.modRing toRing (fun r => { r with lane := lane, line := line, nextLane := gNone, st := gLOCKED })
  (s.evPort port evOIO_LANE_SPARED).retrain port 1

/-- The lowest ring of a bank that waits begins its sweep, once no other ring of the bank sweeps (R197). -/
def State.sweepNext (s : State) (port : Nat) (rx : Bool) : State :=
  if (bankOf port rx).any (fun g => (s.ring g).st == gACQ) then s
  else match (bankOf port rx).find? (fun g => (s.ring g).waits) with
    | some g => s.modRing g (fun r => { r with st := gACQ })
    | none => s

/-- The lane of a ring is given to a spare: a ring that already stands by on the line moves at once, else the
lowest spare ring acquires the line first, while the old lane still carries data. -/
def State.sendLane (s : State) (port : Nat) (rx : Bool) (lane fromRing line : Nat) (apply : State → WtItem → State) : State :=
  let spares := s.spareRings port rx
  match spares.find? (fun g => (s.ring g).st == gSTANDBY && (s.ring g).line == line) with
  | some g => s.writeThrough (port / 8) (.laneMap port rx lane fromRing g line) apply
  | none =>
    match spares with
    | g :: _ => (s.modRing g (fun r => { r with st := gPARKED, line := line, nextLane := lane })).sweepNext port rx
    | [] => s.stepDown port apply

/-- Whether a port moves lanes by itself: AUTO is set and it is not acquiring, training anew or failed. -/
def State.spares (s : State) (port : Nat) : Bool :=
  s.portAuto port && (s.portCarries port || s.portPaused port)

/-- A lane leaves its line for an unused healthy one. -/
def State.leaveLine (s : State) (port : Nat) (rx : Bool) (lane : Nat) (apply : State → WtItem → State) : State :=
  match s.ringOfLane port rx lane with
  | none => s
  | some g =>
    if s.spares port = false then s
    else
      let free := s.spareLines port rx (s.ring g).line
      let standby := (s.spareRings port rx).find? (fun h => (s.ring h).st == gSTANDBY && decide ((s.ring h).line ∈ free))
      match standby with
      | some h => s.writeThrough (port / 8) (.laneMap port rx lane g h (s.ring h).line) apply
      | none =>
        match free with
        | line :: _ => s.sendLane port rx lane g line apply
        | [] => s.stepDown port apply

/-- A line is marked failed for a direction. -/
def PortSt.markLine (x : PortSt) (rx : Bool) (line : Nat) : PortSt :=
  if rx then { x with rxBad := x.rxBad ||| 2 ^ line } else { x with txBad := x.txBad ||| 2 ^ line }

/-- When no ring of an acquiring port is left to acquire, the port takes its width and goes on to train. -/
def State.acquired (s : State) (port : Nat) : State :=
  let rings := bankOf port false ++ bankOf port true
  if (s.port port).st ≠ pACQ
      ∨ rings.any (fun g => (s.ring g).st == gACQ || (s.ring g).st == gRELOCK || (s.ring g).waits) = true then s
  else
    let ok := rings.all (fun g => (s.ring g).st != gFAILED)
    let s := s.modPort port (fun x => { x with st := pTRAIN, cal := putBits x.cal 0 0 (b2n ok), width := 4 })
    (s.noteTraining port).refit port

/-- What the lead does with an item that is a record alone: a curtain key, a mark of tenancy, a ring's losses, the time of
a port's last intermission. -/
def State.keepItem (s : State) (k : Nat) (it : WtItem) : State :=
  match it with
  | .key tenant key => s.modSite k (fun x => { x with keys := tblSet [] x.keys tenant key })
  | .mark l tenant v => s.modSite k (fun x => { x with marks := tblSet 0 x.marks (65536 * l + tenant) v })
  | .losses g ts => s.modSite k (fun x => { x with hist := tblSet [] x.hist (g % 288) ts })
  | .imEnd port t => s.modSite k (fun x => { x with hist := tblSet [] x.hist (288 + port % 8) [t] })
  | _ => s

/-- A record alone is written through (R307). -/
def State.noteItem (s : State) (k : Nat) (it : WtItem) : State := s.writeThrough k it (fun s it => s.keepItem k it)

/-- What the lead does with an item (R198, R201). The fuel bounds how far one failure leads on to another. -/
def State.applyItemN (k : Nat) : Nat → State → WtItem → State
  | 0, s, _ => s
  | n + 1, s, it =>
    match it with
    | .ringFailed g =>
      let r := s.ring g
      if r.st = gFAILED then s
      else
        let port := portOfRing g
        let rx := isRxRing g
        let s := s.modRing g (fun r => { r with st := gFAILED, nextLane := gNone, trim := none })
        let s := s.evPort port evOIO_RING_FAILED
        let lane := if r.nextLane = gNone then r.lane else r.nextLane
        let s :=
          if lane = gNone then s
          else match s.ringOfLane port rx lane with
            | none => s
            | some h => if s.spares port then s.sendLane port rx lane h r.line (State.applyItemN k n) else s
        (s.sweepNext port rx).acquired port
    | .lineFailed port rx line =>
      let s := s.modPort port (fun x => x.markLine rx line)
      match (bankOf port rx).find? (fun g => (s.ring g).line == line && (s.ring g).lane != gNone) with
      | some g => s.leaveLine port rx (s.ring g).lane (State.applyItemN k n)
      | none => s
    | .laneMap port rx lane a b line => s.moveLane port rx lane a b line
    | .step port w rx => if rx then s.takeStep port w else s
    | it => s.keepItem k it

def State.applyItem (s : State) (k : Nat) (it : WtItem) : State := State.applyItemN k 8 s it

/-- An item of the slow class. -/
def State.slowItem (s : State) (k : Nat) (it : WtItem) : State := s.writeThrough k it (fun s it => s.applyItem k it)

/-- A ring is found FAILED (R198). -/
def State.failRing (s : State) (g : Nat) : State :=
  if (s.ring g).st = gFAILED ∨ (s.site (siteOfRing g)).wt.any (fun e => e.1 == .ringFailed g) = true then s
  else s.slowItem (siteOfRing g) (.ringFailed g)

/-- A line is found failed in a direction; with AUTO = 0 it is only recorded (R201). -/
def State.failLine (s : State) (port : Nat) (rx : Bool) (line : Nat) : State :=
  if bit (s.badLines port rx) line then s else s.slowItem (port / 8) (.lineFailed port rx line)

/-! ## Acquisition (R197, R198, R203) -/

/-- All rings of a port are to acquire, ring `j` line `j` (log 36), those of a bank one after another (R197); the first of
each bank begins. FAILED rings stay so unless `all`. -/
def State.acquirePort (s : State) (port : Nat) (all : Bool) : State :=
  let s := (bankOf port false ++ bankOf port true).foldl (fun s g =>
    if (s.ring g).st = gFAILED ∧ all = false then s.modRing g (fun r => { r with lane := gNone, line := gNone })
    else s.modRing g (fun r => { r with
      st := gPARKED, line := g % 18, lane := gNone, nextLane := gNone, badRun := 0, weakRun := 0, losses := [] })) s
  ((s.sweepNext port false).sweepNext port true).modPort port (fun x => { x with st := pACQ })

/-- An acquisition fails (Table 7-15): the ring is FAILED. -/
def State.acquireFails (s : State) (g : Nat) : State := (s.evPort (portOfRing g) evOIO_CAL_FAIL).failRing g

/-- The end of an acquisition sweep: the ring is locked on its line, the next ring of the bank sweeps, and a lane that
waits for it moves. During a switch-over no ring acquires (R310). -/
def State.ringLocks (s : State) (g code : Nat) : State :=
  let r := s.ring g
  if (r.st ≠ gACQ ∧ r.st ≠ gRELOCK) ∨ s.leadActs (siteOfRing g) = false then s
  else if code = 0 ∨ code = 4095 then s.acquireFails g
  else
    let s := s.modRing g (fun r => { r with
      code := code, badRun := 0, weakRun := 0, st := if r.lane = gNone then gSTANDBY else gLOCKED })
    let port := portOfRing g
    let rx := isRxRing g
    let s := s.sweepNext port rx
    if r.nextLane = gNone then s.acquired port
    else match s.ringOfLane port rx r.nextLane with
      | none => s.modRing g (fun r => { r with nextLane := gNone })
      | some h => s.slowItem (siteOfRing g) (.laneMap port rx r.nextLane h g r.line)

/-- Reacquisition did not lock in time; acquisitions in progress at a switch-over restart, and their time with them
(Table 10-4). -/
def State.ringStuck (s : State) (g : Nat) : State :=
  if ((s.ring g).st = gACQ ∨ (s.ring g).st = gRELOCK) ∧ s.leadActs (siteOfRing g) = true then s.acquireFails g else s

/-! ## The ring loop (R195, R196, R198) -/

/-- What one cycle of the loop finds on a ring. -/
def State.trackRing (s : State) (k : Nat) (rd : RingRead) : State :=
  let g := 288 * k + rd.ring
  let r := s.ring g
  let port := portOfRing g
  if rd.heaterBad then s.failRing g
  else if r.st ≠ gLOCKED ∧ r.st ≠ gSTANDBY then s
  else
    let weak := if rd.weak ∧ isRxRing g = false then r.weakRun + 1 else 0
    let s := s.modRing g (fun r => { r with weakRun := weak })
    match rd.err with
    | none => s
    | some e =>
      let move := max (-16) (min 16 (Config.heaterStep s.freeCtr))
      let code := (max 0 (min 4095 ((r.code : Int) + move))).toNat
      let bad := if 8000 < e.natAbs then r.badRun + 1 else 0
      let trim := if isRxRing g then none else Config.trimOf s.freeCtr g
      let s := (s.modRing g (fun r => { r with
        code := code, badRun := bad, trim := if trim.isSome then trim else r.trim })).tick
      if code = 0 ∨ code = 4095 then s.failRing g
      else if bad < 4 then s
      else
        let losses := s.recent r.losses ++ [s.ctrlClk]
        let s := (s.modRing g (fun r => { r with badRun := 0, losses := losses, st := gRELOCK })).bump
          (aPort port + rOIOPORT_LOCK_LOSS) 1
        let s := s.noteItem k (.losses g losses)
        if 3 ≤ losses.length then s.failRing g else s

/-! ## Failures of lanes (R201) -/

/-- The lines of lanes are found failed in a direction. -/
def State.failLanes (s : State) (port : Nat) (rx : Bool) (lanes : List Nat) : State :=
  lanes.foldl (fun s lane => match s.ringOfLane port rx lane with
    | some g => s.failLine port rx (s.ring g).line
    | none => s) s

/-- The marks that margin failures left on lines are taken back. -/
def State.unmark (s : State) (port : Nat) (lines : List Nat) : State :=
  (s.modPort port (fun x => { x with rxBad := lines.foldl (fun m i => if bit m i then m - 2 ^ i else m) x.rxBad })).modSite (port / 8)
    (fun x => { x with wt := x.wt.filter (fun e => lines.all (fun i => e.1 != .lineFailed port true i)) })

/-- Margin failures of one direction: on four or more lanes within a second the speed steps down and no line stays
marked for those lanes (log 74), else each lane moves. With AUTO = 0 they are only recorded. -/
def State.marginFail (s : State) (port : Nat) (lanes : List Nat) : State :=
  if lanes.isEmpty then s
  else
    let old := (s.port port).fails.filter (fun f => decide (s.ctrlClk < f.1 + oneSec))
    let fails := old ++ lanes.map (fun l => (s.ctrlClk, l, ((s.ringOfLane port true l).map (fun g => (s.ring g).line)).getD gNone))
    let s := s.modPort port (fun x => { x with fails := fails })
    if s.portAuto port = true ∧ 4 ≤ (distinct (fails.map (fun f => f.2.1))).length ∧ (s.port port).speed ≠ 2 then
      ((s.unmark port (fails.map (fun f => f.2.2))).modPort port (fun x => { x with fails := [] })).speedDown port
    else s.failLanes port true lanes

/-- A failure of a lane is found: the lead handles it in its control cycle (R203, R310). -/
def State.laneFails (s : State) (port : Nat) (rx : Bool) (lanes : List Nat) : State :=
  s.modPort port (fun x => { x with moves := x.moves ++ lanes.map (fun l => (rx, l)) })

/-- The lead takes the failures that waited: lines before margins (R203). -/
def State.takeMoves (s : State) (port : Nat) : State :=
  let ms := (s.port port).moves
  if ms.isEmpty then s
  else
    let s := s.modPort port (fun x => { x with moves := [] })
    let s := s.failLanes port false ((ms.filter (fun m => !m.1)).map Prod.snd)
    s.marginFail port ((ms.filter (fun m => m.1)).map Prod.snd)

end Sys2Proof.Machine
end

