-- ==== Sys2Proof/Machine/Under.lean ====
section
/-! DEFINITION. Chapter 10, "Understudy": fast frames, health, switch-over, recovery and revert (R305 to R311). -/

namespace Sys2Proof.Machine

open Sys2Proof

/-! ## Roles and health (Table 10-9, R308) -/

abbrev uLEAD : Nat := 0
abbrev uUNDER : Nat := 1
abbrev uRECOVER : Nat := 2
abbrev uFAILED : Nat := 3

/-- READY. -/
def SiteSt.isReady (x : SiteSt) : Bool := x.sync && x.other.ramOk && decide (1000 ≤ x.isoAge)

/-- A change of READY sets UND_READY or UND_UNHEALTHY. -/
def State.reportReady (s : State) (k : Nat) : State :=
  let now := (s.site k).isReady
  if now = (s.site k).ready then s
  else (s.modSite k (fun x => { x with ready := now })).evSite k (if now then evOIO_UND_READY else evOIO_UND_UNHEALTHY)

/-! ## The fast frame (Table 10-3) -/

/-- Field `i` of a row of fields of `w` bits. -/
def packed (w : Nat) (xs : List Nat) : Nat := xs.foldr (fun x acc => x % 2 ^ w + 2 ^ w * acc) 0

/-- A lane map as bits: port and direction, then lane and line of the 18 rings of the bank. -/
def State.mapBits (s : State) (port : Nat) (rx : Bool) : Nat :=
  port % 8 + 8 * b2n rx + 16 * packed 10 ((bankOf port rx).map (fun g => (s.ring g).lane + 32 * (s.ring g).line))

/-- The number and the bits of an item (log 41); a lane map is the one that the item leads to. -/
def State.itemBits (s : State) (it : WtItem) : Nat × Nat :=
  match it with
  | .ringFailed g => (1, g % 288)
  | .lineFailed port rx line => (2, port % 8 + 8 * b2n rx + 16 * line)
  | .laneMap port rx lane a b line => (3, (s.moveLane port rx lane a b line).mapBits port rx)
  | .step port w rx => (4, (s.takeStep port w).mapBits port rx)
  | .map port rx => (5, s.mapBits port rx)
  | .key tenant key => (6, tenant + 2 ^ 16 * leOf key)
  | .mark l tenant v => (7, l % 512 + 2 ^ 9 * tenant + 2 ^ 25 * v)
  | .losses g ts => (8, g % 288 + 2 ^ 9 * packed 29 ts)
  | .imEnd port t => (9, port % 8 + 8 * t)

/-- The slow segment in transmission: item, segment and data. -/
def State.slowSegment (s : State) (k : Nat) : Nat :=
  match (s.site k).wt with
  | [] => 0
  | (it, left) :: _ =>
    let f := s.itemBits it
    let i := it.segments - left
    f.2 / 2 ^ (48 * i) % 2 ^ 48 + 2 ^ 48 * i + 2 ^ 52 * f.1

/-- The frame of one control cycle: KIND 1 carries every ring state, KIND 0 the code changes. -/
def fastFrame (cycle : Nat) (kind1 : Bool) (deltas : List Int) (states : List Nat) (dither : Nat)
    (entries : List (Nat × Nat)) (slow : Nat) : List Byte :=
  let header := cycle % 2 ^ 24 + 2 ^ 24 * b2n kind1 + 2 ^ 28 * entries.length
  let delta := if kind1 then packed 3 states else packed 6 (deltas.map (unsgn 6))
  let state := packed 12 (entries.map (fun e => 8 * e.1 + e.2))
  let body := leBytes 4 header ++ leBytes 216 delta ++ leBytes 4 dither ++ leBytes 12 state ++ leBytes 8 slow
  body ++ leBytes 4 (crc32 body)

/-- The lead sends the frame of the cycle; `before` are the codes at its start. The state entries are the rings whose
state changed since the frames last gave it, in ring order. The Understudy has computed the same code changes from the
same dither outputs (R308). -/
def State.sendFrame (s : State) (k : Nat) (before : List Nat) : State :=
  let x := s.site k
  let now := (ringsOf k).map (fun g => s.ring g)
  let deltas := List.zipWith (fun (r : RingSt) (b : Nat) => (r.code : Int) - b) now before
  let changed := ((List.range 288).filter (fun i => (s.ring (288 * k + i)).st != tblGet 0 x.told i)).take 8
  let entries := changed.map (fun i => (i, (s.ring (288 * k + i)).st))
  let dither := leOf ((List.range 4).map (fun i => Config.randomByte s.freeCtr i))
  let f := fastFrame x.cycle x.wantKind1 deltas (now.map (fun r => r.st)) dither entries (s.slowSegment k)
  let given := if x.wantKind1 then (List.range 288).map (fun i => (i, (s.ring (288 * k + i)).st)) else entries
  ((s.modSite k (fun x => { x with
    cycle := (x.cycle + 1) % 2 ^ 24, wantKind1 := false, delta := packed 6 (deltas.map (unsgn 6))
    told := given.foldl (fun t e => tblSet 0 t e.1 e.2) x.told })).tick).emit (.frame k f)

/-! ## The Understudy takes a frame (R305, R306, R308) -/

/-- The frame is whole and its CHECK holds. -/
def frameOk (f : List Byte) : Bool := f.length == 248 && leAt f 244 4 == crc32 (f.take 244)

def frameCycle (f : List Byte) : Nat := bits (leAt f 0 4) 23 0
def frameKind1 (f : List Byte) : Bool := bits (leAt f 0 4) 27 24 == 1
/-- The state entries of a frame: ring and state. -/
def frameEntries (f : List Byte) : List (Nat × Nat) :=
  let st := leAt f 224 12
  (List.range (min 8 (bits (leAt f 0 4) 31 28))).map (fun i => (bits st (12 * i + 11) (12 * i + 3), bits st (12 * i + 2) (12 * i)))
/-- The ring states of a KIND 1 frame. -/
def frameStates (f : List Byte) : List Nat :=
  let d := leAt f 4 216
  (List.range 288).map (fun i => bits d (3 * i + 2) (3 * i))

/-- The cycles shadowed without a mismatch are no longer consecutive (R311). -/
def SiteSt.breakRun (x : SiteSt) : SiteSt := x.modOther (fun c => { c with clean := 0 })

/-- SYNC is cleared, and resynchronisation begins. -/
def State.resync (s : State) (k : Nat) : State :=
  ((s.modSite k (fun x => { x.breakRun with sync := false, resync := 2, mmRun := 0 })).bump (aOio k + rOIO_UND_RESYNC) 1).evSite k
    evOIO_MIRROR_RESYNC

/-- The items that waited for an acknowledgement are applied: no controller is left to give it. -/
def State.flushSlow (s : State) (k : Nat) : State :=
  let wt := (s.site k).wt
  wt.foldl (fun s e => s.applyItem k e.1) (s.modSite k (fun x => { x with wt := [] }))

/-- A recovery attempt of the controller not in control ends; after three in a row it is FAILED (R311). -/
def State.attemptFails (s : State) (k : Nat) : State :=
  let n := (s.site k).other.attempts + 1
  let s := s.modSite k (fun x => { x.modOther (fun c => { c with
    role := if 3 ≤ n then uFAILED else uRECOVER, attempts := n, passed := false, clean := 0 }) with sync := false, resync := 2 })
  if 3 ≤ n then (s.evSite k evOIO_LEAD_FAILED).flushSlow k else s

/-- The shadow result of a cycle (R308). -/
def State.shadow (s : State) (k : Nat) (mismatch : Bool) : State :=
  if mismatch then
    let s := (s.modSite k (fun x => { x with mmRun := x.mmRun + 1, isoAge := min 1000 (x.isoAge + 1) })).bump
      (aOio k + rOIO_UND_MISMATCH) 1
    if (s.site k).other.role = uRECOVER ∧ (s.site k).other.passed = true then s.attemptFails k else s
  else
    let x := s.site k
    let iso := x.mmRun == 1 || x.mmRun == 2
    let s := s.modSite k (fun x => { x with mmRun := 0, isoAge := if iso then 0 else min 1000 (x.isoAge + 1) })
    if x.other.role = uRECOVER ∧ x.other.passed = true then
      let n := min 1000 (x.other.clean + 1)
      let back := n == 1000 && x.lead == 0
      s.modSite k (fun x => x.modOther (fun c => { c with
        clean := n, role := if back then uUNDER else c.role, attempts := if back then 0 else c.attempts }))
    else s

/-- The comparison of a cycle (R308): a delta frame whose DELTA is not what the Understudy computed, or a computation of
its own that went wrong (`wrong`). -/
def SiteSt.mismatch (x : SiteSt) (f : List Byte) (wrong : Bool) : Bool := !frameKind1 f && (wrong || leAt f 4 216 != x.delta)

/-- FAST_FRAME: an empty frame stands for a cycle without one; `wrong` says that a fault of the Understudy falsified the
codes that it computed. Its shadow result leaves in the reverse direction (R305). A frame whose CHECK fails is taken to
have carried the number that was due (log 41). -/
def State.takeFrame (s : State) (k : Nat) (f : List Byte) (wrong : Bool) : State :=
  let x := s.site k
  if s.siteUsed k = false ∨ s.siteFeat k 2 = false ∨ x.other.role = uFAILED then s
  else if f.isEmpty then s.modSite k (fun x => { x.breakRun with missed := x.missed + 1 })
  else if frameOk f = false then
    ((s.modSite k (fun x => { x with missed := x.missed + 1, seen := (x.seen + 1) % 2 ^ 24 })).resync k).reportReady k
  else
    let follows := frameCycle f == (x.seen + 1) % 2 ^ 24
    let s := s.modSite k (fun x => { x with missed := 0, seen := frameCycle f })
    if follows = false then (s.resync k).reportReady k
    else
      let put := fun (t : Tbl Nat) => (frameEntries f).foldl (fun t e => tblSet 0 t e.1 e.2) t
      if x.sync then
        let mm := x.mismatch f wrong
        ((((s.modSite k (fun x => { x with mirror := put x.mirror })).shadow k mm).emit (.shadow k mm))).reportReady k
      else if x.resync = 2 then
        (if frameKind1 f then
          s.modSite k (fun x => { x with
            resync := 1
            mirror := put (((List.range 288).zip (frameStates f)).foldl (fun t e => tblSet 0 t e.1 e.2) []) })
        else s)
      else if frameKind1 f then s
      else
        (s.modSite k (fun x => { x with sync := true, resync := 0, mirror := put x.mirror })).reportReady k

/-! ## Switch-over (R309, R310) -/

/-- The Understudy takes control, if it is READY and switching is enabled. -/
def State.switchOver (s : State) (k : Nat) : State :=
  let x := s.site k
  let s := s.modSite k (fun x => { x with force := false })
  if s.siteUsed k = false then s
  else if x.isReady = false then s.evSite k evOIO_NO_CONTROLLER
  else if s.fld (aOio k + rOIO_UND_CTL) 0 0 = 0 then s
  else
    let gap := if 2 ≤ x.missed then 3 else 1 + Config.duration s.freeCtr % 3
    let s := s.tick
    let s := s.modSite k (fun x =>
      let y := (x.modOther (fun c => { c with role := uLEAD }))
      { y with
        lead := 1 - x.lead, lastGap := gap, gap := gap - min 2 x.missed, sync := false, resync := 2, wantKind1 := true
        mmRun := 0, missed := 0, wt := [], told := x.mirror, seen := (x.cycle + 2 ^ 24 - 1) % 2 ^ 24
        c0 := if x.lead = 0 then ⟨uRECOVER, x.c0.ramOk, false, x.c0.passEnd, 0, 0⟩ else y.c0
        c1 := if x.lead = 0 then y.c1 else ⟨uRECOVER, x.c1.ramOk, false, x.c1.passEnd, 0, 0⟩ })
    let s := (ringsOf k).foldl (fun s g => s.modRing g (fun r => { r with
      st := tblGet 0 x.mirror (g % 288), losses := tblGet [] x.hist (g % 288), trim := none, badRun := 0, weakRun := 0 })) s
    let s := ((List.range 8).map (· + 8 * k)).foldl (fun s port => s.modPort port (fun y => { y with
      imEnd := ((tblGet [] x.hist (288 + port % 8)).head?).getD y.imEnd
      imRun := y.imRun.map (fun r => { r with trims := false }) })) s
    let s := x.marks.foldl (fun s e => s.modLink (e.1 / 65536) (fun l => { l with
      ctrTx := tblSet 0 l.ctrTx (e.1 % 65536) e.2 })) s
    ((s.bump (aOio k + rOIO_UND_SWITCHES) 1).evSite k evOIO_SWITCH_OVER).reportReady k

/-! ## Recovery and revert (R308, R311) -/

/-- RAM_PASS: a full pass of a controller's RAM. -/
def State.ramPass (s : State) (k ctl : Nat) (ok : Bool) : State :=
  let x := s.site k
  let put := fun (c : CtlSt) => { c with ramOk := ok, passEnd := some s.ctrlClk }
  let s := s.modSite k (fun x => if ctl = 0 then { x with c0 := put x.c0 } else { x with c1 := put x.c1 })
  let s :=
    if ctl = x.lead then s
    else if x.other.role = uRECOVER then
      (if ok then s.modSite k (fun x => x.modOther (fun c => { c with passed := true })) else s.attemptFails k)
    else if x.other.role = uUNDER ∧ ok = false then
      s.modSite k (fun x => { x.modOther (fun c => { c with role := uRECOVER, passed := false, clean := 0, attempts := 0 }) with
        sync := false, resync := 2 })
    else s
  s.reportReady k

/-- Whether a retrain, a laser action or a REQUAL is pending at a site. -/
def State.siteBusy (s : State) (k : Nat) : Bool :=
  let x := s.site k
  x.ramp || x.crossPend || x.uncross || x.laserA.fresh || x.laserB.fresh
    || (List.range 8).any (fun n => s.portPaused (8 * k + n) || (s.port (8 * k + n)).requal || (s.port (8 * k + n)).st == pACQ)

/-- REVERT: C0 takes control back. -/
def State.revert (s : State) (k : Nat) : State :=
  let x := s.site k
  if s.fld (aOio k + rOIO_UND_CTL) 1 1 = 0 ∨ x.lead = 0 ∨ x.other.role ≠ uRECOVER ∨ x.other.clean < 1000 ∨ x.sync = false
      ∨ s.siteBusy k = true ∨ 0 < x.gap ∨ x.force = true then s
  else
    let s := s.modSite k (fun x => { x with
      lead := 0, c0 := { x.c0 with role := uLEAD, attempts := 0, clean := 0 }, c1 := { x.c1 with role := uUNDER }
      seen := (x.cycle + 2 ^ 24 - 1) % 2 ^ 24 })
    (s.evSite k evOIO_REVERT).reportReady k

/-- UND_CMD.CLEAR_FAILED. -/
def State.clearFailed (s : State) (k : Nat) : State :=
  if (s.site k).other.role = uFAILED then
    s.modSite k (fun x => { x.modOther (fun c => { c with role := uRECOVER, attempts := 0, passed := false, clean := 0 }) with
      sync := false, resync := 2, wantKind1 := true })
  else s

/-- UNDERSTUDY_ACK: a segment is acknowledged, or a KIND 1 frame is asked for. -/
def State.reverseFrame (s : State) (k : Nat) (ack kind1 : Bool) : State :=
  if (s.site k).other.role = uFAILED then s
  else
    let s := if kind1 then s.modSite k (fun x => { x with wantKind1 := true }) else s
    match ack, (s.site k).wt with
    | true, (it, n) :: rest =>
      if 1 < n then s.modSite k (fun x => { x with wt := (it, n - 1) :: rest })
      else (s.modSite k (fun x => { x with wt := rest })).applyItem k it
    | _, _ => s

/-! ## The commands -/

/-- FAST_FRAME. -/
def execFastFrame (k : Nat) (frame : List Byte) (mismatch : Bool) (s : State) : Host.Outcome State Fault Refusal :=
  .next (s.takeFrame k frame mismatch)
/-- SWITCH_OVER. -/
def execSwitchOver (k : Nat) (s : State) : Host.Outcome State Fault Refusal := .next (s.switchOver k)
/-- FORCE_SWITCH: ignored unless READY = 1. -/
def execForceSwitch (k : Nat) (s : State) : Host.Outcome State Fault Refusal :=
  .next (s.onPage .oio k (fun s => if (s.site k).isReady then s.modSite k (fun x => { x with force := true }) else s))
/-- CLEAR_FAILED. -/
def execClearFailed (k : Nat) (s : State) : Host.Outcome State Fault Refusal := .next (s.onPage .oio k (fun s => s.clearFailed k))
/-- RAM_PASS. -/
def execRamPass (k ctl : Nat) (ok : Bool) (s : State) : Host.Outcome State Fault Refusal := .next (s.ramPass k ctl ok)
/-- REVERT. -/
def execRevert (k : Nat) (s : State) : Host.Outcome State Fault Refusal := .next (s.revert k)
/-- UNDERSTUDY_ACK. -/
def execUnderstudyAck (k : Nat) (ack kind1 : Bool) (s : State) : Host.Outcome State Fault Refusal := .next (s.reverseFrame k ack kind1)

end Sys2Proof.Machine
end

