-- ==== Sys2Proof/Machine/Optic.lean ====
section
/-! DEFINITION. Chapter 7: laser failover, the control cycle, ports, loss of signal, eye margin, the monitor ADC
and intermissions (R191 to R206, R212 to R217, R220). -/

namespace Sys2Proof.Machine

open Sys2Proof

def portsOf (k : Nat) : List Nat := (List.range 8).map (· + 8 * k)

/-! ## Intermissions (R215 to R217) -/

/-- A port enters an intermission of a length in µs; in burst mode nothing is received meanwhile (R216). -/
def State.startIm (s : State) (port len : Nat) (forced : Bool) : State :=
  (s.pausePort port 5 pINTER).modPort port (fun x => { x with imReq := none, imRun := some ⟨len, forced, true⟩, burst := none })

/-- A forced intermission starts (R217). -/
def State.startForced (s : State) (port : Nat) : State :=
  ((s.startIm port (max 4 (s.fld (aOio (port / 8) + rOIO_IM_CTL) 19 16)) true).modSite (port / 8) (fun x =>
    { x with forced := x.forced.filter (fun q => q != port) })).evPort port evOIO_IM_FORCED

/-- A request: at once on a port that is UP while the lead acts, else held; a later one replaces it. -/
def State.requestIm (s : State) (port len : Nat) : State :=
  if (s.port port).st = pUP ∧ s.leadActs (port / 8) = true then s.startIm port len false
  else s.modPort port (fun x => { x with imReq := some len })

/-- IM_REQ. -/
def State.imWrite (s : State) (k : Nat) (v : W32) : State :=
  let len := min 40 (rf v 13 8)
  if len = 0 then s
  else (setBits (rf v 7 0) 0 8).foldl (fun s n => s.requestIm (8 * k + n) len) s

/-! ## Laser sources (R191 to R194) -/

/-- The source of a site: A, else B. -/
def SiteSt.laser (x : SiteSt) (b : Bool) : LaserSt := if b then x.laserB else x.laserA
def SiteSt.modLaser (x : SiteSt) (b : Bool) (f : LaserSt → LaserSt) : SiteSt :=
  if b then { x with laserB := f x.laserB } else { x with laserA := f x.laserA }

/-- LASER_LOST: the comparator or the fault input asserts; the lead acts at the end of its cycle. -/
def State.laserLost (s : State) (k : Nat) (b : Bool) : State :=
  if ((s.site k).laser b).lost ∧ ((s.site k).laser b).restored = false then s
  else
    (s.modSite k (fun x => x.modLaser b (fun l => { l with lost := true, restored := false, fresh := true }))).evSite k
      evOIO_LASER_LOST

/-- A port's width, speed and lanes before a laser loss. -/
def State.saveShape (s : State) (port : Nat) : State :=
  let lanes := ((bankOf port false ++ bankOf port true).filter (fun g => (s.ring g).lane != gNone)).map (fun g => (g, (s.ring g).lane))
  s.modPort port (fun x => { x with saved := some (x.saved.getD ⟨x.width, x.speed, x.minW, x.minS, lanes⟩) })

/-- A port whose lanes are assigned: it trains, carries, or is paused. -/
def State.shaped (s : State) (port : Nat) : Bool :=
  let st := (s.port port).st
  s.portEn port && (st == pTRAIN || st == pUP || st == pPAUSED || st == pINTER)

/-- The ramp configuration: 8 λ on λ1, λ3, …, λ15 at the current speed; a house port steps to 32 Gb/s (R192). A port
that has no lanes keeps its state. Table 7-7 leaves no time to write the lane maps through first (log 73). -/
def State.rampShape (s : State) (port : Nat) : State :=
  if s.shaped port = false then s
  else
  let old := s.port port
  let s := s.saveShape port
  let s :=
    if s.isHouse port then s.modPort port (fun x => { x with speed := 2, minS := 2 })
    else
      let odd := fun line => line % 2 == 1 && decide (line < 16)
      let n := min (s.lanesOn port false odd) (s.lanesOn port true odd)
      let w := if 8 ≤ n then max (s.port port).width 2 else 3
      let s := s.modPort port (fun x => { x with width := w, minW := w })
      ((s.assignBank port false (lanesOf w) odd).assignBank port true (lanesOf w) odd).modSite (port / 8) (fun x =>
        if x.mirrored then { x with wt := x.wt ++ [(.map port false, 4), (.map port true, 4)] } else x)
  let s := if old.width < (s.port port).width ∨ old.speed < (s.port port).speed then s.evPort port evOIO_PORT_DEGRADED else s
  s.retrain port 6

/-- Whether the rings of a saved lane map still serve. -/
def State.mapServes (s : State) (port : Nat) (lanes : List (Nat × Nat)) : Bool :=
  lanes.all (fun e => ((s.ring e.1).st == gLOCKED || (s.ring e.1).st == gSTANDBY)
    && decide ((s.ring e.1).line < 18) && !bit (s.badLines port (isRxRing e.1)) (s.ring e.1).line)

/-- The width and speed before the loss return, as far as the limits allow, with the lanes as they were where
their rings and lines are still healthy. -/
def State.restoreShape (s : State) (port : Nat) : State :=
  match (s.port port).saved with
  | none => s.retrain port 6
  | some sh =>
    let s := s.modPort port (fun x => { x with saved := none, minW := sh.minW, minS := sh.minS, peerW := 0, peerS := 0 })
    let w' := max sh.width ((s.fitWidth port).getD 3)
    let speed := max sh.speed (max sh.minS (s.effCapS port))
    let s := s.modPort port (fun x => { x with width := w', speed := speed })
    let s :=
      if w' = sh.width ∧ s.mapServes port sh.lanes = true then
        (bankOf port false ++ bankOf port true).foldl (fun s g =>
          match sh.lanes.find? (fun e => e.1 == g) with
          | some e => s.modRing g (fun r => { r with st := gLOCKED, lane := e.2 })
          | none => if (s.ring g).lane = gNone then s
            else s.modRing g (fun r => { r with st := (if r.st = gLOCKED then gSTANDBY else r.st), lane := gNone })) s
      else s.assignMap port w'
    s.retrain port 6

/-- Every light of the site is lost: the cross switch is normal or not set, and all ports go down (R193). -/
def State.allDark (s : State) (k : Nat) : State :=
  (s.modSite k (fun x => { x with cross := 3, ramp := false, crossPend := false })).siteDown k cLASER

/-- The lead acts on losses of light since its last cycle (R192, R193). -/
def State.laserAct (s : State) (k : Nat) : State :=
  let x := s.site k
  if x.laserA.fresh = false ∧ x.laserB.fresh = false then s
  else
    let s := s.modSite k (fun x => (x.modLaser false (fun l => { l with fresh := false })).modLaser true (fun l => { l with fresh := false }))
    if x.laserA.lost = true ∧ x.laserB.lost = true then s.allDark k
    else if x.cross = 1 ∧ x.laserB.lost = true ∨ x.cross = 2 ∧ x.laserA.lost = true then s.allDark k
    else if x.cross ≠ 0 then s
    else
      let b := x.laserA.lost
      let s := s.modSite k (fun x => { x.modLaser b (fun l => { l with full := true }) with
        cross := if b then 1 else 2, survivor := b2n b, ramp := true, rampFail := false, crossPend := true })
      (portsOf k).foldl (fun s port => s.rampShape port) s

/-- LASER_CROSSED once every port has resumed on the survivor. -/
def State.crossDone (s : State) (k : Nat) : State :=
  if (s.site k).crossPend = true ∧ (portsOf k).any (fun port => s.portPaused port) = false then
    (s.modSite k (fun x => { x with crossPend := false })).evSite k evOIO_LASER_CROSSED
  else s

/-- RAMP_DONE; during a switch-over no controller observes the frames, and the ramp timer restarts after it (Table
10-4). -/
def State.rampDone (s : State) (k : Nat) : State :=
  if (s.site k).ramp = true ∧ s.leadActs k = true then
    let s := s.modSite k (fun x => { x with ramp := false })
    ((portsOf k).foldl (fun s port => s.restoreShape port) s).evSite k evOIO_RAMP_DONE
  else s

/-- RAMP_FAIL. -/
def State.rampFailed (s : State) (k : Nat) : State :=
  if (s.site k).ramp = true ∧ s.leadActs k = true then
    (s.modSite k (fun x => { x with ramp := false, rampFail := true })).evSite k evOIO_RAMP_FAIL
  else s

/-- LASER_RESTORED. -/
def State.laserBack (s : State) (k : Nat) (b : Bool) : State :=
  if ((s.site k).laser b).lost then
    (s.modSite k (fun x => x.modLaser b (fun l => { l with restored := true }))).evSite k evOIO_LASER_RESTORED
  else s

/-- The lost sources are restored and the switch is not normal (Table 7-17, LASER_CMD). -/
def SiteSt.canUncross (x : SiteSt) : Bool :=
  x.cross != 0 && (!x.laserA.lost || x.laserA.restored) && (!x.laserB.lost || x.laserB.restored)

/-- LASER_CMD.UNCROSS, carried out by the lead (R194). -/
def State.uncrossNow (s : State) (k : Nat) : State :=
  let s := s.modSite k (fun x => { x with
    cross := 0, ramp := false, rampFail := false, crossPend := false, uncross := false
    laserA := LaserSt.init, laserB := LaserSt.init })
  (portsOf k).foldl (fun s port => s.restoreShape port) s

/-- A write of UNCROSS; held during a switch-over (R310). -/
def State.uncross (s : State) (k : Nat) : State :=
  if (s.site k).canUncross = false then s
  else if s.leadActs k then s.uncrossNow k else s.modSite k (fun x => { x with uncross := true })

/-! ## Ports (R203, R204, R245, R246) -/

/-- The caps of PORTn_CTL. -/
def State.capFields (s : State) (port : Nat) : Nat × Nat := (rf (s.portCtl port) 1 0, min 2 (rf (s.portCtl port) 5 4))

/-- A port begins acquisition and training anew. What its partner's CAP said of its generation holds while a link to it
is up (R202). -/
def State.beginTraining (s : State) (port : Nat) (all : Bool) : State :=
  let c := s.capFields port
  let known := s.portCarries port || s.portPaused port
  let s := s.modPort port (fun x => { x with
    capW := c.1, capS := c.2, peerRx := 18, peerW := 0, peerS := 0, peerOld := x.peerOld && known, minW := 0, minS := 0, saved := none, moves := [], fails := [], los := false })
  let sp := s.effCapS port
  (s.modPort port (fun x => { x with speed := sp })).acquirePort port all

/-- Links of a port that may train enter physical training. -/
def State.linksToPhy (s : State) (port : Nat) : State :=
  (s.linksOf port).foldl (fun s l => if (s.link l).state = lDOWN then s.modLink l (fun k => { k with state := lPHY }) else s) s

/-- PORTn_CTL.EN is written 1. A port that a link fence locks, or any port after a test unlock, stays disabled (R342, R345). -/
def State.enablePort (s : State) (port : Nat) : State :=
  if s.portEn port = true ∨ port ∈ s.sec.fenced ∨ s.sec.unlocked = true then s
  else
    let s := s.setFld (aPort port + rOIOPORT_CTL) 31 31 1
    let s := s.modPort port (fun x => { x with hs := { x.hs with ranged := false, ranging := false, rangeFail := false, tries := 0 } })
    if s.canTrain port then (s.beginTraining port false).linksToPhy port else s

/-- PORTn_CTL.EN is written 0. -/
def State.disablePort (s : State) (port : Nat) : State :=
  if s.portEn port = false then s
  else
    let s := (s.setFld (aPort port + rOIOPORT_CTL) 31 31 0).portDown port cHOST
    let s := (bankOf port false ++ bankOf port true).foldl (fun s g => s.modRing g (fun r => { r with
      st := (if r.st = gFAILED then gFAILED else gPARKED), lane := gNone, line := gNone, nextLane := gNone, trim := none })) s
    s.modPort port (fun x => { x with st := pDOWN, los := false, imRun := none, saved := none, moves := [] })

/-- A write of PORTn_CTL but for EN: a lower cap is taken over now, a higher one at the next REQUAL. -/
def State.writeCaps (s : State) (port : Nat) (v : W32) : State :=
  let en := b2n (s.portEn port)
  let s := s.setReg (aPort port + rOIOPORT_CTL) (rput (v &&& 0x800001B3#32) 31 31 en)
  let c := s.capFields port
  let s := s.modPort port (fun x => { x with capW := max x.capW c.1, capS := max x.capS c.2 })
  if s.portCarries port = false ∧ s.portPaused port = false then s
  else if (s.port port).width < s.effCapW port ∨ (s.port port).speed < s.effCapS port then s.reshape port 2 else s

/-- REQUAL, carried out by the lead. -/
def State.requalNow (s : State) (port : Nat) : State :=
  let s := s.modPort port (fun x => { x with requal := false, txBad := 0, rxBad := 0, marginRun := [], cdr := [] })
  let s := if (s.port port).st = pFAILED then s.modPort port (fun x => { x with st := pDOWN }) else s
  if s.canTrain port then
    let s := s.retrain port 2
    (s.beginTraining port true).linksToPhy port
  else
    (bankOf port false ++ bankOf port true).foldl (fun s g => s.modRing g (fun r =>
      if r.st = gFAILED then { r with st := gPARKED, line := gNone } else r)) s

/-- PORTn_CMD.REQUAL; held during a switch-over (R310). -/
def State.requal (s : State) (port : Nat) : State :=
  if s.leadActs (port / 8) then s.requalNow port else s.modPort port (fun x => { x with requal := true })

/-! ## Loss of signal (R205, R206) -/

/-- LOSS_OF_SIGNAL: the lanes `dark` lost light. The lead compares the monitor photodiodes, and LOSS_STAGE keeps the first
stage that it found until the next training (R206); a bank dark on every lane of the width is a loss of signal (R205). -/
def State.lossOfSignal (s : State) (port : Nat) (dark : List Nat) : State :=
  if s.portEn port = false ∨ s.siteUsed (port / 8) = false ∨ dark = [] then s
  else
    let stage := s.lossStage port
    let s := s.modPort port (fun x => { x with lossStage := if x.lossStage = 0 then stage else x.lossStage })
    if (List.range (lanesOf (s.port port).width)).any (fun i => i ∉ dark) then s
    else
    let s := s.modPort port (fun x => { x with los := true })
    let s := s.evPort port evOIO_LOS
    let paused := s.portPaused port
    let s := s.pausePort port 4 pPAUSED
    if paused then s.modPort port (fun x => { x with st := pPAUSED }) else s

/-- LOS_TIMEOUT. -/
def State.losLapse (s : State) (port : Nat) : State := if (s.port port).los then s.portDown port cLOS else s

/-- SIGNAL_RETURN: the retrain may complete. -/
def State.signalBack (s : State) (port : Nat) : State :=
  if (s.port port).los then
    s.modPort port (fun x => { x with los := false, st := if x.st = pPAUSED then pTRAIN else x.st })
  else s

/-! ## Eye margin (R201) -/

/-- PORTn_EYE_FAIL.PCT; 0 disables the margin rule. -/
def State.eyeFail (s : State) (port : Nat) : Nat := s.fld (aPort port + rOIOPORT_EYE_FAIL) 7 0

/-- One measurement of each lane: the smallest margin is kept, and three bad ones in a row fail a lane. -/
def State.measureEye (s : State) (port : Nat) (ms : List (Nat × Nat)) : State :=
  match ms with
  | [] => s
  | m :: rest =>
    let low := rest.foldl (fun (a b : Nat × Nat) => if b.2 < a.2 then b else a) m
    let s := s.modPort port (fun x => { x with eye := min 255 low.2, eyeLane := low.1 })
    let lim := s.eyeFail port
    let run := fun (e : Nat × Nat) => if e.2 < lim then tblGet 0 (s.port port).marginRun e.1 + 1 else 0
    let bad := (ms.filter (fun e => run e == 3)).map Prod.fst
    let runs := ms.foldl (fun t e => tblSet 0 t e.1 (if run e = 3 then 0 else run e)) (s.port port).marginRun
    (s.modPort port (fun x => { x with marginRun := runs })).laneFails port true bad

/-- CDR_LOCK_LOSS: four within a second fail the lane. -/
def State.cdrLoss (s : State) (port lane : Nat) : State :=
  let s := s.bump (aPort port + rOIOPORT_CDR_LOSS) 1
  if s.eyeFail port = 0 then s
  else
    let ts := s.recent (tblGet [] (s.port port).cdr lane) ++ [s.ctrlClk]
    let s := s.modPort port (fun x => { x with cdr := tblSet [] x.cdr lane (if 4 ≤ ts.length then [] else ts) })
    if 4 ≤ ts.length then s.laneFails port true [lane] else s

/-- LINE_WEAK: the dither response of a transmit ring was weak for 64 cycles. -/
def State.lineWeak (s : State) (g : Nat) : State :=
  let r := s.ring g
  if isRxRing g = false ∧ 64 ≤ r.weakRun ∧ r.lane ≠ gNone then
    (s.modRing g (fun r => { r with weakRun := 0 })).laneFails (portOfRing g) false [r.lane]
  else s

/-! ## Intermission end and forced intermissions -/

/-- A trim passes within ±64 codes (Table 7-15). -/
def trimOk (t : Option Int) : Bool := match t with
  | some t => decide (t.natAbs ≤ 64)
  | none => true

/-- A pending trim takes effect: one within ±64 codes moves the setpoint offset, another is discarded (R199). -/
def RingSt.applyTrim (r : RingSt) : RingSt :=
  { r with trim := none, offset := if trimOk r.trim then r.offset + r.trim.getD 0 else r.offset }

/-- The pending trims of a port's transmit rings. -/
def State.applyTrims (s : State) (port : Nat) : State :=
  let ok := (bankOf port false).all (fun g => trimOk (s.ring g).trim)
  let s := (bankOf port false).foldl (fun s g => s.modRing g RingSt.applyTrim) s
  let s := s.modPort port (fun x => { x with cal := putBits x.cal 2 2 (b2n ok) })
  if ok then s else s.evPort port evOIO_CAL_FAIL

/-- What the standby check of an intermission finds on the STANDBY rings of a port, judged as the ring loop judges
(R198, log 77). -/
def State.standbyCheck (s : State) (port : Nat) (reads : List RingRead) : State :=
  (reads.filter (fun r => decide (r.ring < 288) && decide (portOfRing (288 * (port / 8) + r.ring) = port)
    && (s.ring (288 * (port / 8) + r.ring)).st == gSTANDBY)).foldl (fun s r => s.trackRing (port / 8) r) s

/-- The lowest port of a site that waits for a forced intermission and can take it, when none runs; in burst mode its
schedule's next slot starts it (R217). -/
def State.forcedNext (s : State) (k : Nat) : Option Nat :=
  if rb (s.reg (aOio k + rOIO_IM_CTL)) 31 = false ∨ s.leadActs k = false
      ∨ (portsOf k).any (fun q => match (s.port q).imRun with
        | some r => r.forced
        | none => false) = true then none
  else (portsOf k).find? (fun q => decide (q ∈ (s.site k).forced) && (s.port q).st == pUP)

/-- It starts at once, in burst mode at the next slot boundary of its schedule. -/
def State.nextForced (s : State) (k : Nat) : State :=
  match s.forcedNext k with
  | some q => if s.bursts q = true ∧ (s.port q).hs.running = true then s else s.startForced q
  | none => s

/-- INTERMISSION_END: the work of Table 7-14, and the port resumes. An intermission that the partner announced is of a
length this end is not told: it does the work that `cal` brings results of (log 77). -/
def State.endIm (s : State) (port : Nat) (cal : CalRes) : State :=
  match (s.port port).imRun with
  | none => s
  | some im =>
    let k := port / 8
    let len := im.len
    let s := s.modPort port (fun x => { x with imRun := none, imEnd := s.ctrlClk, st := pTRAIN })
    let s := (s.modSite k (fun x => { x with forced := x.forced.filter (fun q => q != port) })).noteItem k (.imEnd port s.ctrlClk)
    let s := if im.trims = true ∧ (s.site k).gap = 0 then s.applyTrims port else s
    let s := if 20 ≤ len ∨ len = 0 then s.standbyCheck port cal.standby else s
    let s :=
      if len < 4 ∧ (len ≠ 0 ∨ cal.margins = []) then s
      else
        let ok := cal.margins.all (fun m => decide (s.eyeFail port ≤ m.2))
        let s := s.modPort port (fun x => { x with cal := putBits x.cal 1 1 (b2n ok) })
        let s := if ok then s else s.evPort port evOIO_CAL_FAIL
        s.measureEye port cal.margins
    (if 20 ≤ len ∧ (s.port port).requal = true ∧ s.leadActs k = true then s.requalNow port
     else s.retrainComplete port).nextForced k

/-- The port's last intermission ended FORCE_MS ago. -/
def State.forceDue (s : State) (port : Nat) : Bool :=
  decide ((s.port port).imEnd + 1000000 * max 1 (s.fld (aOio (port / 8) + rOIO_IM_CTL) 15 0) ≤ s.ctrlClk)

/-- FORCED_INTERMISSION: the interval of a port has passed; it waits for its turn. -/
def State.forceIm (s : State) (port : Nat) : State :=
  let k := port / 8
  if rb (s.reg (aOio k + rOIO_IM_CTL)) 31 = false ∨ s.forceDue port = false then s
  else (s.modSite k (fun x => { x with forced := if port ∈ x.forced then x.forced else x.forced ++ [port] })).nextForced k

/-! ## The monitor ADC (R212 to R214) -/

/-- ADC_CONVERSION: the channel of the frame's next slot is sampled. -/
def State.adcSample (s : State) (k : Nat) (raw : Int) : State :=
  let x := s.site k
  if s.siteUsed k = false ∨ 64 ≤ x.adcSlot then s
  else
    let ch := x.adcSlot
    let unused := decide (46 ≤ ch) && decide (ch ≤ 61)
    let ovr := !unused && decide (4095 < raw)
    let unr := !unused && decide (raw < 0)
    let code := if unused ∨ unr = true then 0 else if ovr then 0xFFF
      else Config.adcCorrected raw x.adcCorr.1 x.adcCorr.2 % 4096
    let stale := !unused && decide (0 < x.stale)
    let word := x.adcFrame % 65536 * 2 ^ 16 + b2n stale * 2 ^ 14 + b2n unr * 2 ^ 13 + b2n ovr * 2 ^ 12 + code
    let good := !ovr && !unr && !stale
    let s := s.modSite k (fun x => { x with
      adcSlot := ch + 1, adc := tblSet 0 x.adc ch (BitVec.ofNat 32 word)
      stale := if ovr || unr then 2 else x.stale - 1
      adcRefs := if ch = 62 then (good, x.adcRefs.2) else if ch = 63 then (x.adcRefs.1, good) else x.adcRefs })
    if ovr || unr then (s.bump (aOio k + rOIO_ADC_RANGE) 1).evSite k evOIO_ADC_RANGE else s

/-- ADC_FRAME: `ok` says that both references lie within 5 % of their fused test values. -/
def State.adcBoundary (s : State) (k : Nat) (ok : Bool) : State :=
  let x := s.site k
  if s.siteUsed k = false ∨ x.adcSlot ≠ 64 then s
  else
    let good := ok && x.adcRefs.1 && x.adcRefs.2
    let corr := if good then (rf (tblGet 0 x.adc 62) 11 0, rf (tblGet 0 x.adc 63) 11 0) else x.adcCorr
    let s := s.modSite k (fun x => { x with
      adcSlot := 0, adcFrame := (x.adcFrame + 1) % 65536, adcRefs := (false, false), adcCorr := corr })
    if good then s else (s.bump (aOio k + rOIO_ADC_CAL_SKIP) 1).evSite k evOIO_CAL_FAIL

/-! ## The control cycle (R195, R203, R310) -/

/-- CONTROL_CYCLE: a cycle of the gap passes, or the lead acts: held commands, laser loss, ring failures, line
and margin failures, held intermissions; the codes are written and the frame leaves. -/
def State.controlCycle (s : State) (k : Nat) (reads : List RingRead) : State :=
  if s.siteUsed k = false ∨ s.clocked = false then s
  else if 0 < (s.site k).gap then s.modSite k (fun x => { x with gap := x.gap - 1 })
  else
    let before := (ringsOf k).map (fun g => (s.ring g).code)
    let s := (portsOf k).foldl (fun s port => s.collect port) s
    let s := s.laserAct k
    let s := if (s.site k).uncross = true ∧ (s.site k).canUncross = true then s.uncrossNow k
      else s.modSite k (fun x => { x with uncross := false })
    let s := (reads.filter (fun r => decide (r.ring < 288))).foldl (fun s r => s.trackRing k r) s
    let s := (portsOf k).foldl (fun s port => s.takeMoves port) s
    let s := (portsOf k).foldl (fun s port => s.combine port) s
    let s := (portsOf k).foldl (fun s port => if (s.port port).requal ∧ (s.port port).imRun = none then s.requalNow port else s) s
    let s := (portsOf k).foldl (fun s port =>
      match (s.port port).imReq with
      | some len => if (s.port port).st = pUP then s.startIm port len false else s
      | none => s) s
    let s := ((s.nextForced k).crossDone k).sendFrame k before
    if (s.site k).force then s.switchOver k else s

/-! ## The commands -/

/-- CONTROL_CYCLE. -/
def execControlCycle (k : Nat) (reads : List RingRead) (s : State) : Host.Outcome State Fault Refusal := .next (s.controlCycle k reads)
/-- LASER_LOST. -/
def execLaserLost (k : Nat) (b : Bool) (s : State) : Host.Outcome State Fault Refusal := .next (s.laserLost k b)
/-- RAMP_DONE. -/
def execRampDone (k : Nat) (s : State) : Host.Outcome State Fault Refusal := .next (s.rampDone k)
/-- RAMP_FAIL. -/
def execRampFail (k : Nat) (s : State) : Host.Outcome State Fault Refusal := .next (s.rampFailed k)
/-- LASER_RESTORED. -/
def execLaserRestored (k : Nat) (b : Bool) (s : State) : Host.Outcome State Fault Refusal := .next (s.laserBack k b)
/-- UNCROSS. -/
def execUncross (k : Nat) (s : State) : Host.Outcome State Fault Refusal := .next (s.onPage .oio k (fun s => s.uncross k))
/-- RING_ACQUIRE. -/
def execRingAcquire (k ring code : Nat) (s : State) : Host.Outcome State Fault Refusal := .next (s.ringLocks (288 * k + ring) code)
/-- RING_REACQ_TIMEOUT. -/
def execRingReacqTimeout (k ring : Nat) (s : State) : Host.Outcome State Fault Refusal := .next (s.ringStuck (288 * k + ring))
/-- LINE_WEAK. -/
def execLineWeak (k ring : Nat) (s : State) : Host.Outcome State Fault Refusal := .next (s.lineWeak (288 * k + ring))
/-- EYE_MEASURE. -/
def execEyeMeasure (port : Nat) (margins : List (Nat × Nat)) (s : State) : Host.Outcome State Fault Refusal :=
  .next (s.measureEye port margins)
/-- CDR_LOCK_LOSS. -/
def execCdrLockLoss (port lane : Nat) (s : State) : Host.Outcome State Fault Refusal := .next (s.cdrLoss port lane)
/-- PORT_ENABLE. -/
def execPortEnable (port : Nat) (s : State) : Host.Outcome State Fault Refusal :=
  .next (s.onPage .oioPort port (fun s => s.enablePort port))
/-- PORT_DISABLE. -/
def execPortDisable (port : Nat) (s : State) : Host.Outcome State Fault Refusal :=
  .next (s.onPage .oioPort port (fun s => s.disablePort port))
/-- PORT_CAP_WRITE. -/
def execPortCapWrite (port : Nat) (v : W32) (s : State) : Host.Outcome State Fault Refusal :=
  .next (s.onPage .oioPort port (fun s => s.writeCaps port v))
/-- REQUAL. -/
def execRequal (port : Nat) (s : State) : Host.Outcome State Fault Refusal := .next (s.onPage .oioPort port (fun s => s.requal port))
/-- LOSS_OF_SIGNAL. -/
def execLossOfSignal (port : Nat) (dark : List Nat) (s : State) : Host.Outcome State Fault Refusal := .next (s.lossOfSignal port dark)
/-- LOS_TIMEOUT. -/
def execLosTimeout (port : Nat) (s : State) : Host.Outcome State Fault Refusal := .next (s.losLapse port)
/-- SIGNAL_RETURN. -/
def execSignalReturn (port : Nat) (s : State) : Host.Outcome State Fault Refusal := .next (s.signalBack port)
/-- ADC_CONVERSION. -/
def execAdcConversion (k : Nat) (raw : Int) (s : State) : Host.Outcome State Fault Refusal := .next (s.adcSample k raw)
/-- ADC_FRAME. -/
def execAdcFrame (k : Nat) (ok : Bool) (s : State) : Host.Outcome State Fault Refusal := .next (s.adcBoundary k ok)
/-- IM_REQ. -/
def execImReq (k : Nat) (v : W32) (s : State) : Host.Outcome State Fault Refusal := .next (s.onPage .oio k (fun s => s.imWrite k v))
/-- INTERMISSION_END. -/
def execIntermissionEnd (port : Nat) (cal : CalRes) (s : State) : Host.Outcome State Fault Refusal := .next (s.endIm port cal)
/-- FORCED_INTERMISSION. -/
def execForcedIntermission (port : Nat) (s : State) : Host.Outcome State Fault Refusal := .next (s.forceIm port)

end Sys2Proof.Machine
end

