-- ==== Sys2Proof/Machine/House.lean ====
section
/-! DEFINITION. The house: schedules, slots, bursts and ranging (R207 to R211, R244, R266 to R269, R284, R288). -/

namespace Sys2Proof.Machine

open Sys2Proof

/-! ## The plan of a cycle (R267) -/

/-- Changes the schedule of a port. -/
def State.modHs (s : State) (port : Nat) (f : HsSt → HsSt) : State := s.modPort port (fun x => { x with hs := f x.hs })

def State.hs (s : State) (port : Nat) : HsSt := (s.port port).hs

/-- HS_CFG.SLOTS as it acts. -/
def HsSt.slotCount (h : HsSt) : Nat := if h.slots = 0 then 1024 else min 1024 h.slots

/-- HS_CFG.FLITS as it acts. -/
def HsSt.flitCount (h : HsSt) : Nat := max 8 (min 64 h.flits)

/-- Where a slot starts in its cycle, in LSB. -/
def HsSt.slotOffset (h : HsSt) (k : Nat) : Nat := if k = 0 then 0 else 16384 + (k - 1) * (456 + 64 * h.flitCount)

/-- The slot that an offset in the cycle falls in. -/
def HsSt.slotAt (h : HsSt) (off : Nat) : Nat := if off < 16384 then 0 else 1 + (off - 16384) / (456 + 64 * h.flitCount)

/-- HS_STAT.SLOT before the first slot of a started schedule. -/
abbrev noSlot : Nat := 1024

/-- The entry of a slot in the active bank. -/
def HsSt.entry (h : HsSt) (k : Nat) : W32 × W32 := tblGet (0, 0) h.entries (1024 * h.bank + k)

/-- The four ports of a house plane. -/
def State.planePorts (port : Nat) : List Nat := (List.range 4).map (· + port / 4 * 4)

/-- The port of a plane that serves the device's own group, on which it ranges (R269). -/
def State.ownGroupPort (s : State) (port : Nat) : Nat := port / 4 * 4 + devStage s.device / 16

/-- The link of that port to the device itself (R266). -/
def State.ownLink (s : State) (port : Nat) : Nat := 64 * s.ownGroupPort port + devStage s.device % 16

/-- Ranging of a port's plane starts. -/
def State.startRanging (s : State) (port : Nat) : State :=
  s.modHs (s.ownGroupPort port) (fun h => { h with ranging := true, tries := 0 })

/-- A cue of kind 0x2 starts a schedule; for a running one it takes effect only on a cycle boundary (R267). -/
def State.startSchedule (s : State) (port target : Nat) : State :=
  let h := s.hs port
  let cyc := s.cycleLsb port
  if h.running = true ∧ (target + 2 ^ 64 - h.cycleStart) % 2 ^ 64 % cyc ≠ 0 then
    s.modHs port (fun h => { h with cueBad := satAdd h.cueBad 1 })
  else
    let s := s.modHs port (fun h => { h with
      running := true, stopPend := false, cycleStart := target % 2 ^ 64, slot := noSlot
      bank := if h.swapPend then 1 - h.bank else h.bank, swapPend := false })
    if h.ranged then s else s.startRanging port

/-! ## Bursts (R208, R209, R244, R268) -/

/-- The delimiter of Table 7-10. -/
def State.delimiter (s : State) (port out slot flits gts : Nat) : List Byte :=
  let b := [0xB5#8, 0x4E#8, 0x2A#8, 0xD1#8] ++ leBytes 2 s.device ++ leBytes 1 (port + 64 * out) ++ leBytes 1 0
    ++ leBytes 2 slot ++ leBytes 2 flits ++ leBytes 8 (gts % 2 ^ 64) ++ List.replicate 10 0#8
  b ++ beBytes 2 (crc16 b)

/-- A flit of a burst as it leaves: a resent flit bit for bit as it first left (R242), any other with what its link owes at
that moment in its ACK/CREDIT field (R244). -/
def refill (now : Nat) (q : OutFlit) (k : LinkSt) : List Byte × LinkSt :=
  if q.resent ∨ k.state ≠ lUP then (q.bytes, k)
  else
    let r := k.field now
    let b := q.bytes.take 244 ++ leBytes 4 r.1
    let f := b ++ beBytes 8 (crc64 b)
    (f, { r.2 with replay := if flitType q.bytes = 1 then
      r.2.replay.map (fun e => if e.1 = flitSeq q.bytes then (e.1, e.2.1, f) else e) else r.2.replay })

/-- An entry admits a message by its tenant (R268); 65536 stands for a flit of no message. -/
def admits (tenant of_ : Nat) : Bool := tenant == 0xFFFF || of_ == 65536 || of_ == tenant

/-- The flits that wait for a link's burst and may leave in a slot of a tenant: DATA flits keep their order. -/
def LinkSt.ready (k : LinkSt) (tenant : Nat) : List OutFlit :=
  let fs := k.outq.filter (fun q => !isSet q)
  fs.filter (fun q => flitType q.bytes != 1)
    ++ (fs.filter (fun q => flitType q.bytes == 1)).takeWhile (fun q => admits tenant q.tenant)

/-- The class whose started message gives the burst's next new flit, in the order of R236. None while a DATA flit that goes
again waits for another tenant's slot. -/
def State.nextClass (s : State) (l tenant : Nat) : Option Nat :=
  let k := s.link l
  if k.state ≠ lUP ∨ s.replayDepth l ≤ k.replay.length
      ∨ k.outq.any (fun q => !isSet q && flitType q.bytes == 1 && !admits tenant q.tenant) = true then none
  else (k.before 255).find? (fun tc =>
    match tblGet none k.opened tc with
    | some (m, _) => admits tenant m.tenant
    | none => false)

/-- The flits of started messages join what waits for the burst, up to `n` in all (log 78). -/
def State.fillBurst (s : State) (l tenant n : Nat) : State :=
  forN (fun _ s => if n ≤ ((s.link l).ready tenant).length then s
    else match s.nextClass l tenant with
      | some tc => match tblGet none (s.link l).opened tc with
        | some (m, bs) => s.sendData l tc (bs.length == (msgBytes m).length)
        | none => s
      | none => s) n s

/-- A link has something for a slot: flits, an ordered set, or an acknowledgement or return that is due. -/
def State.wants (s : State) (l tenant : Nat) : Bool :=
  let k := s.link l
  !(k.ready tenant).isEmpty || (s.nextClass l tenant).isSome || k.outq.any isSet || (k.state == lUP && k.owes)

/-- A NULL flit that waits for its field. -/
def nullFlit : OutFlit := ⟨65536, flitBytes (flitHeader 0 0 0 0 0) [] 0, false⟩

/-- The flits of a burst of at most `n`: the last place goes to a NULL flit where the others cannot carry what is owed, and
NULL flits carry the rest of what is owed while there is room (R244); a burst has at least one flit. -/
def burstOf (now n : Nat) (k : LinkSt) (qs : List OutFlit) : List (List Byte) × LinkSt :=
  let qs := if (k.state == lUP && k.owes) && qs.all (fun q => q.resent) then qs.take (n - 1) ++ [nullFlit]
    else if qs.isEmpty then [nullFlit] else qs
  let r := qs.foldl (fun (x : List (List Byte) × LinkSt) q =>
    let y := refill now q x.2
    (x.1 ++ [y.1], y.2)) ([], k)
  forN (fun _ x => if x.1.length < n ∧ (x.2.state == lUP && x.2.owes) = true then
    let y := refill now nullFlit x.2
    (x.1 ++ [y.1], y.2) else x) 17 r

/-- A TIMING message departs now: its stamp is taken as it leaves (R155). -/
def State.stampDeparture (s : State) (port : Nat) (q : OutFlit) : State :=
  if flitType q.bytes ≠ 2 then s
  else ((ctlMessages 15 (flitPayload q.bytes)).filter (fun b => leAt b 0 1 == 3)).foldl (fun s b =>
    s.modTsu (fun t => match tblGet none t.stamps (2 * port + 1) with
      | some x => if x.1 = leAt b 4 4 then { t with stamps := tblSet none t.stamps (2 * port + 1) (some (x.1, t.stamp)) } else t
      | none => t)) s

/-- A burst of a link leaves: after the delimiter the ordered sets that wait for it (R252), then the flits `qs`, which
leave the queue. `gts` is the launch time. -/
def State.launchBurst (s : State) (port l out slot n : Nat) (qs : List OutFlit) (gts : Nat) : State :=
  let s := qs.foldl (fun s q => s.stampDeparture port q) (s.steerTo port out)
  let k := s.link l
  let r := burstOf s.ctrlClk n k qs
  let s := s.setLink l { r.2 with outq := qs.foldl (fun o q => dropFirst (fun x => x == q) o) (k.outq.filter (fun q => !isSet q)) }
  s.emit (.burst port out (s.delimiter port out slot r.1.length gts) ((k.outq.filter isSet).map (·.bytes) ++ r.1))

/-- A data burst of at most `n` flits of a link. -/
def State.sendBurst (s : State) (port l out slot n tenant gts : Nat) : State :=
  let s := s.fillBurst l tenant n
  s.launchBurst port l out slot n (((s.link l).ready tenant).take n) gts

/-- The most flits of one data burst: at 32 Gb/s they take twice as long (R267). -/
def State.burstFlits (s : State) (port : Nat) : Nat :=
  let n := (s.hs port).flitCount
  if (s.port port).speed = 2 then ceilDiv n 2 - 1 else n

/-- The link of an output that is served next: in the output's rotation, never the device's own. -/
def State.nextLink (s : State) (port out tenant : Nat) : Option Nat :=
  ((List.range 4).map (fun i => 64 * port + 4 * out + (tblGet 0 (s.hs port).rots out + 1 + i) % 4)).find? (fun l =>
    l != s.ownLink port && s.wants l tenant)

/-- PORTn_SPOT.OUT_EN has an output. -/
def State.outEnabled (s : State) (port out : Nat) : Bool := bit (s.fld (aPort port + rOIOPORT_SPOT) 7 4) out

/-- The launch time of a slot's burst. -/
def HsSt.launch (h : HsSt) (slot : Nat) : Nat := (h.cycleStart + h.slotOffset slot + 2 ^ 64 - h.delay) % 2 ^ 64

/-- A data slot. -/
def State.dataSlot (s : State) (port slot : Nat) : State :=
  let h := s.hs port
  let e := (h.entry slot).1
  let out := rf e 30 29
  if rb e 31 = false ∨ h.ranged = false ∨ h.rangeFail = true ∨ s.bursts port = false
      ∨ ((s.port port).st ≠ pTRAIN ∧ (s.port port).st ≠ pUP ∧ (s.port port).st ≠ pPAUSED ∧ (s.port port).st ≠ pINTER) then s
  else if s.portPaused port = true then s.modPort port (fun x => { x with steer := some out })
  else
    let s := s.modPort port (fun x => { x with steer := none })
    match s.nextLink port out (rf e 15 0) with
    | none => s
    | some l =>
      if s.outEnabled port out = false then s.bump (aPort port + rOIOPORT_SPOT_REFUSED) 1
      else (s.modHs port (fun h => { h with rots := tblSet 0 h.rots out (l % 4) })).sendBurst port l out slot (s.burstFlits port) (rf e 15 0) (h.launch slot)

/-! ## The management slot (R269, R284) -/

/-- The offset of a management burst, 0 to 437.5 ns in steps of 62.5 ns. -/
def State.mgmtOffset (s : State) : Nat := 1000 * (Config.duration s.freeCtr % 8)

/-- A RANGE burst on the device's own link. -/
def State.sendRange (s : State) (port : Nat) : State :=
  let h := s.hs port
  let stage := devStage s.device
  let out := stage % 16 / 4
  let at_ := (h.cycleStart + s.mgmtOffset) % 2 ^ 64
  let s := s.tick
  if s.outEnabled port out = false then s.bump (aPort port + rOIOPORT_SPOT_REFUSED) 1
  else
    let p := partOfPort port
    let m := s.newMsg p 0 s.device p 4 (leBytes 1 4 ++ List.replicate 7 0#8 ++ leBytes 8 at_)
    let f := flitBytes (flitHeader 1 0 0 1 0) (msgBytes m) 0
    let s := (s.steerTo port out).modHs port (fun h => { h with tries := h.tries + 1 })
    s.emit (.burst port out (s.delimiter port out 0 1 at_) [f])

/-- A DATA flit that starts a message of fabric control. -/
def isFabricFlit (q : OutFlit) : Bool :=
  !isSet q && flitType q.bytes == 1 && flitTc q.bytes == 0 && !flitCont q.bytes && bits (leAt q.bytes 6 1) 7 4 == 4

/-- The next DATA flit of a link is a message of fabric control: one that goes again, else the started one of TC0. -/
def State.mgmtWaits (s : State) (l : Nat) : Bool :=
  let k := s.link l
  match k.outq.find? (fun q => !isSet q && flitType q.bytes == 1) with
  | some q => isFabricFlit q
  | none => match tblGet none k.opened 0 with
    | some (m, bs) => m.profile == 4 && bs.length == (msgBytes m).length && bs.length ≤ 240 && decide (k.state = lUP)
        && decide (k.replay.length < s.replayDepth l)
    | none => false

/-- The number of the house peer at the far end of a link: 8 stage + seat. -/
def State.housePeer (s : State) (l : Nat) : Nat := 8 * (16 * (portOfLink l % 4) + l % 64) + devSeat s.device

/-- W of a message: 8, doubled after each unanswered attempt, up to 256. -/
def State.backoff (s : State) (l : Nat) : Nat := min 256 (8 * 2 ^ min 5 (tblGet 0 s.fab.attempts (s.housePeer l)))

/-- Each pending message has its cycle, drawn uniformly among the next W (R284): the draws whose message is gone are
dropped, the others come a cycle nearer, and a message without a draw takes one. -/
def State.drawCycles (s : State) (port : Nat) : State :=
  let ls := (s.linksOf port).filter (fun l => l != s.ownLink port && s.mgmtWaits l)
  let s := s.modHs port (fun h => { h with
    draws := (h.draws.filter (fun d => decide (d.1 ∈ ls))).map (fun d => (d.1, d.2 - 1)) })
  (ls.filter (fun l => (s.hs port).draws.all (fun d => d.1 != l))).foldl (fun s l =>
    let c := Config.duration s.freeCtr % s.backoff l
    s.tick.modHs port (fun h => { h with draws := h.draws ++ [(l, c)] })) s

/-- The management slot: ranging first, else at most one pending message, whose cycle has come. -/
def State.mgmtSlot (s : State) (port : Nat) : State :=
  let h := s.hs port
  if s.bursts port = false ∨ s.portPaused port = true ∨ ((s.port port).st ≠ pTRAIN ∧ (s.port port).st ≠ pUP) then s
  else if h.ranging then (if h.tries < 64 then s.sendRange port else s)
  else
    let s := s.drawCycles port
    match (s.hs port).draws.find? (fun d => d.2 == 0) with
    | none => s
    | some d =>
      let l := d.1
      let s := s.modHs port (fun h => { h with draws := h.draws.filter (fun e => e.1 != l) })
      let out := l % 64 / 4
      let at_ := ((s.hs port).launch 0 + s.mgmtOffset) % 2 ^ 64
      let s := s.tick
      if s.outEnabled port out = false then s.bump (aPort port + rOIOPORT_SPOT_REFUSED) 1
      else
        let s := if (s.link l).outq.any isFabricFlit then s else s.sendData l 0 true
        match (s.link l).outq.find? isFabricFlit with
        | none => s
        | some q => s.launchBurst port l out 0 1 [q] at_

/-- At a slot boundary a waiting forced intermission of a port in burst mode starts (R217). -/
def State.slotForced (s : State) (port : Nat) : State :=
  if s.forcedNext (port / 8) = some port then s.startForced port else s

/-- HOUSE_SLOT: a slot of the running schedule starts. Slot 0 begins a cycle, at which a pending stop or swap acts. -/
def State.houseSlot (s : State) (port slot : Nat) : State :=
  let h := s.hs port
  if h.running = false ∨ h.slotCount ≤ slot then s
  else if slot = 0 then
    if h.slot ≠ noSlot ∧ h.stopPend = true then
      (s.modHs port (fun h => { h with running := false, stopPend := false, slot := 0 })).slotForced port
    else
      let next := if h.slot = noSlot then h.cycleStart else (h.cycleStart + s.cycleLsb port) % 2 ^ 64
      ((s.modHs port (fun h => { h with
        slot := 0, cycleStart := next
        bank := if h.swapPend then 1 - h.bank else h.bank, swapPend := false })).slotForced port).mgmtSlot port
  else if h.slot < slot then ((s.modHs port (fun h => { h with slot := slot })).slotForced port).dataSlot port slot
  else s

/-! ## Ranging (R269) -/

/-- RANGE: the device hears its own burst. `t` is its arrival. -/
def State.rangeHeard (s : State) (port : Nat) (m : Msg) (t : Nat) : State :=
  if (s.hs port).ranging = false ∨ m.srcDev ≠ s.device ∨ m.profile ≠ 4 ∨ leAt m.body 0 1 ≠ 4 then s
  else
    let len := (t + 2 ^ 64 - leAt m.body 8 8) % 2 ^ 64
    let d := (len + 1) / 2 % 65536
    (State.planePorts port).foldl (fun s q => s.modHs q (fun h => { h with
      ranged := true, delay := d, ranging := false, tries := 0, rangeFail := false })) s

/-- RANGE_FAIL. -/
def State.rangeFails (s : State) (port : Nat) : State :=
  if (s.hs port).ranging = true ∧ 64 ≤ (s.hs port).tries then
    ((State.planePorts port).foldl (fun s q => s.modHs q (fun h => { h with rangeFail := true, ranging := false })) s).evFab
      evFAB_RANGE_FAIL
  else s

/-! ## Receiving bursts (R210, R211, R268) -/

/-- Mark and CHECK of a delimiter hold. -/
def delimOk (d : List Byte) : Bool :=
  d.length == 32 && d.take 4 == [0xB5#8, 0x4E#8, 0x2A#8, 0xD1#8] && beOf (slice d 30 2) == crc16 (d.take 30)

/-- The arrival of an intruder's delimiter less the arrival its slot's schedule expects, in the nearest cycle (R211, R267). -/
def State.misalignOf (s : State) (port slot t : Nat) : W32 :=
  let h := s.hs port
  if h.running = false then Config.misalignIdle s.freeCtr
  else
    let cyc := s.cycleLsb port
    let expect := h.cycleStart + h.slotOffset slot + h.delay + 256
    let d := ((t : Int) - expect) % cyc
    BitVec.ofInt 32 (if d * 2 < cyc then d else d - cyc)

/-- A delimiter from a device that the slot it arrives in does not expect. -/
def State.isForeign (s : State) (port device t : Nat) : Bool :=
  let h := s.hs port
  let off := (((t : Int) - h.cycleStart - h.delay) % s.cycleLsb port).toNat
  let k := h.slotAt off
  let e := h.entry k
  h.running && k != 0 && rb e.1 28 && rf e.2 14 0 != device

/-- BURST_RECEIVE: a delimiter is read. In an intermission the slot is lost (R216). A failed CHECK or this device's own
DEVICE, but for ranging, loses the whole burst (R210); an intruder's delimiter gives INTRUDER and MISALIGN (R211). -/
def State.burstIn (s : State) (port : Nat) (d : List Byte) (t : Nat) : State :=
  if s.bursts port = false ∨ (s.port port).st = pINTER then s
  else if delimOk d = false then
    (s.modPort port (fun x => { x with burst := none })).bump (aPort port + rOIOPORT_CDR_LOSS) 1
  else
    let dev := bits (leAt d 4 2) 14 0
    let s := if s.isForeign port dev t then s.modHs port (fun h => { h with foreign := satAdd h.foreign 1 }) else s
    let s :=
      if (s.port port).rearmed then
        (s.modPort port (fun x => { x with
          rearmed := false, intruder := BitVec.ofNat 32 (2 ^ 31 + dev), misalign := s.misalignOf port (leAt d 8 2) t })).tick
      else s
    s.modPort port (fun x => { x with
      burst := if dev = s.device ∧ (s.hs port).ranging = false then none else some ⟨dev, true, leAt d 10 2⟩ })

/-- INTRUSION: the rest of the burst in reception is lost. -/
def State.intrusion (s : State) (port : Nat) : State :=
  match (s.port port).burst with
  | none => s
  | some b =>
    if (s.port port).st = pINTER then s
    else
      let s := s.modPort port (fun x => { x with burst := some { b with good := false }, rearmed := true })
      (s.bump (aPort port + rOIOPORT_COLLISION) 1).evPort port evOIO_SLOT_COLLISION

/-- DELIMITER_TIMEOUT: INTRUDER.VALID is 0, and the receiver waits for the next preamble; the flits of the interrupted
burst stay lost. -/
def State.delimLapse (s : State) (port : Nat) : State :=
  if (s.port port).rearmed then
    s.modPort port (fun x => { x with rearmed := false, burst := none, intruder := rput x.intruder 31 31 0 })
  else s

/-! ## The commands -/

/-- HOUSE_SLOT. -/
def execHouseSlot (port slot : Nat) (s : State) : Host.Outcome State Fault Refusal := .next (s.houseSlot port slot)
/-- The effect of HS_CTL.SWAP: a swap becomes pending. -/
def State.hsSwap (s : State) (port : Nat) : State := s.modHs port (fun h => { h with swapPend := true })
/-- The effect of HS_CTL.STOP on a running schedule. -/
def State.hsStop (s : State) (port : Nat) : State :=
  if (s.hs port).running then s.modHs port (fun h => { h with stopPend := true }) else s
/-- HS_SWAP. -/
def execHsSwap (port : Nat) (s : State) : Host.Outcome State Fault Refusal := .next (s.onPage .oioPort port (fun s => s.hsSwap port))
/-- HS_STOP. -/
def execHsStop (port : Nat) (s : State) : Host.Outcome State Fault Refusal := .next (s.onPage .oioPort port (fun s => s.hsStop port))
/-- RERANGE. -/
def execRerange (port : Nat) (s : State) : Host.Outcome State Fault Refusal :=
  .next (s.onPage .oioPort port (fun s => s.startRanging port))
/-- RANGE. -/
def execRange (port : Nat) (m : Msg) (t : Nat) (s : State) : Host.Outcome State Fault Refusal := .next (s.rangeHeard port m t)
/-- RANGE_FAIL. -/
def execRangeFail (port : Nat) (s : State) : Host.Outcome State Fault Refusal := .next (s.rangeFails port)
/-- BURST_RECEIVE. -/
def execBurstReceive (port : Nat) (delim : List Byte) (t : Nat) (s : State) : Host.Outcome State Fault Refusal :=
  .next (s.burstIn port delim t)
/-- INTRUSION. -/
def execIntrusion (port : Nat) (s : State) : Host.Outcome State Fault Refusal := .next (s.intrusion port)
/-- DELIMITER_TIMEOUT. -/
def execDelimiterTimeout (port : Nat) (s : State) : Host.Outcome State Fault Refusal := .next (s.delimLapse port)

end Sys2Proof.Machine
end

