-- ==== Sys2Proof/Machine/Startup.lean ====
section
/-! DEFINITION. Starting a system: HELLO, election, time parents, hold-out and the consistency check (R262, R263,
R281 to R285; choices in log 42). -/

namespace Sys2Proof.Machine

open Sys2Proof

/-! ## FAB_STAT (Table 9-11) -/

abbrev phLOCAL : Nat := 0
abbrev phSTAGE : Nat := 1
abbrev phHOUSE : Nat := 2
abbrev phCIRCUIT : Nat := 3
abbrev phCHECK : Nat := 4
abbrev phREADY : Nat := 5
abbrev phHELD : Nat := 6

abbrev aFabStat : Nat := aDev + rDEV_FAB_STAT

def State.phase (s : State) : Nat := s.fld aFabStat 2 0
def State.isLeader (s : State) : Bool := rb (s.reg aFabStat) 4
def State.isHouseRoot (s : State) : Bool := rb (s.reg aFabStat) 5
def State.isSysRoot (s : State) : Bool := rb (s.reg aFabStat) 6

/-- The root of the scope: of the stage, the house or the system (R285). -/
def State.isScopeRoot (s : State) : Bool :=
  if s.profile = 0 then s.isLeader else if s.profile = 1 then s.isHouseRoot else s.isSysRoot

/-- The package serial (R317). -/
def State.serialNo (s : State) : Nat := bits (tblGet 0 s.fuses.ident 0) 31 0

def State.modFab (s : State) (f : FabSt → FabSt) : State := { s with fab := f s.fab }

/-- Key of a peer: 8 stage + seat. -/
def peerKey (stage seat : Nat) : Nat := 8 * stage + seat

/-! ## Fabric control messages (Table 9-8) -/

/-- A message of fabric control can be sent to the neighbour at the far end of a link: the link is UP, and the same message
does not wait there already. -/
def State.canSendFabric (s : State) (l : Nat) (body : List Byte) : Bool :=
  s.linkUp l && !(s.link l).txq.any (fun m => m.profile == 4 && m.body == padTo 16 body)

/-- A TC0 message to the neighbour at the far end of a link. -/
def State.sendFabric (s : State) (l : Nat) (body : List Byte) : State :=
  let p := partOfPort (portOfLink l)
  if s.canSendFabric l body then s.enqueue l (s.newMsg p 0 ((s.linkPeer l).getD 0) p 4 (padTo 16 body)) else s

/-- Links of the stage ports that carry start-up messages: those of partition 0's first set. -/
def stageLinks : List Nat := (List.range 7).map (· * 64)

/-- Links of the house ports of partition 0's plane A, but the device's own. -/
def State.houseLinks (s : State) : List Nat :=
  if s.profile = 0 then []
  else ((List.range 64).map (fun y => 64 * (8 + y / 16) + y % 16)).filter (fun l => s.neighbour l != some (s.strapStage, s.strapSeat))

/-- The circuit ports' links. -/
def State.circuitLinks (s : State) : List Nat :=
  ((List.range 64).filter (fun port => s.roleLevel port == 2)).map (· * 64)

def State.sendAll (s : State) (ls : List Nat) (body : List Byte) : State := ls.foldl (fun s l => s.sendFabric l body) s

def State.helloBody (s : State) : List Byte :=
  leBytes 1 1 ++ leBytes 3 0 ++ leBytes 4 s.serialNo ++ leBytes 1 s.strapSeat ++ leBytes 1 s.strapStage
    ++ leBytes 1 s.profile ++ leBytes 1 (b2n s.heldOut)

/-- LEADER names the leader's device number once it is complete. -/
def State.leaderBody (s : State) : List Byte :=
  leBytes 1 2 ++ leBytes 1 0 ++ leBytes 2 (if s.deviceValid then 2 ^ 15 + s.device else 0)

def rootBody (house root start : Nat) : List Byte :=
  leBytes 1 3 ++ leBytes 1 house ++ leBytes 2 root ++ leBytes 4 0 ++ leBytes 8 start

def holdoutBody (cause number : Nat) : List Byte := leBytes 1 5 ++ leBytes 1 cause ++ leBytes 2 number

/-! ## Hold-out (R263) -/

/-- The device is held out; it leads nothing any more. -/
def State.holdOut (s : State) (cause : Nat) : State :=
  if s.heldOut then s
  else
    let v := rput (rput (rput (s.reg aFabStat) 2 0 phHELD) 11 8 cause) 6 4 0
    (s.setReg aFabStat v).raiseAll aDev srcPrompter false
      (⟨true, 0, evFAB_HELD_OUT, 0, 0⟩ :: (if cause ≤ 3 then [⟨true, 0, evFAB_DUP_NUMBER, 0, 0⟩] else []))

/-- A member is known to be held out. -/
def State.markHeld (s : State) (stage seat : Nat) : State :=
  s.modFab (fun f => { f with members := f.members.map (fun m =>
    if m.stage = stage ∧ m.seat = seat then { m with held := true } else m) })

/-! ## Time parents (R282) -/

/-- TIME_DEGRADED. -/
def State.degradeTime (s : State) : State :=
  if rb (s.reg aFabStat) 7 then s else (s.setFld aFabStat 7 7 1).evFab evFAB_TIME_DEGRADED

/-- TSU_CFG of a device of the system: a root, or a parent with an alternate. -/
def State.configTime (s : State) (root : Bool) (parent alt : Option Nat) : State :=
  s.writeTsuCfg (BitVec.ofNat 32 (2 ^ 31 * b2n root + 2 ^ 30 * b2n alt.isSome + 2 ^ 8 * alt.getD 0
    + 2 ^ 7 * b2n parent.isSome + parent.getD 0))

/-- The stage port toward a seat. -/
def State.portToSeat (s : State) (seat : Nat) : Nat := (seat + 7 - s.strapSeat) % 8

/-- The present seats of the stage that are not held out. -/
def State.liveSeats (s : State) : List Nat :=
  (List.range 8).filter (fun e => (e == s.strapSeat && !s.heldOut)
    || s.fab.members.any (fun m => m.stage == s.strapStage && m.seat == e && !m.held && s.roleLevel m.port == 0))

/-- A member follows the leader: its stage port is the parent, that of the next candidate the alternate. -/
def State.followLeader (s : State) (seat : Nat) : State :=
  let s := s.modFab (fun f => { f with leader := some seat })
  let s := s.setFld aFabStat 4 4 0
  let alt := (s.liveSeats.filter (fun e => e != seat && e != s.strapSeat)).head?
  s.configTime false (some (s.portToSeat seat)) (alt.map s.portToSeat)

/-- The device leads its stage. -/
def State.becomeLeader (s : State) : State :=
  let s := (s.modFab (fun f => { f with leader := some s.strapSeat })).setFld aFabStat 4 4 1
  let s := if s.profile = 0 then s.configTime true none none else s
  s.sendAll stageLinks s.leaderBody

/-! ## The house (R262, R282) -/

/-- The house number completes the device number. -/
def State.assignNumber (s : State) (house : Nat) : State :=
  if s.deviceValid then s
  else s.setReg (aDev + rDEV_FAB_ID) (BitVec.ofNat 32 (2 ^ 31 + 512 * (house % 64) + 8 * s.strapStage + s.strapSeat))

/-- The house ports of the device. -/
def State.housePortsOf (s : State) : List Nat := (List.range 64).filter (fun port => s.roleLevel port == 1 && s.portEn port)

/-- Schedules start at a GTS. -/
def State.startHouse (s : State) (gts : Nat) : State :=
  s.housePortsOf.foldl (fun s port => if (s.hs port).running then s else s.startSchedule port gts) s

/-- The house port that reaches a stage. -/
def State.portToStage (s : State) (stage : Nat) : Option Nat := s.housePort 0 (stage / 16) 0 0

/-- The present stages of the rail that are not held out, the own one among them. -/
def State.liveStages (s : State) : List Nat :=
  (List.range 64).filter (fun y => y == s.strapStage
    || s.fab.members.any (fun m => m.stage == y && m.seat == s.strapSeat && !m.held && s.roleLevel m.port == 1))

/-- The house root's number and start time are learnt and passed on within the house, so that the leader of every seat
hears them; a leader takes its time parent. A device that took itself for the root leads its house no more. -/
def State.learnRoot (s : State) (house root start : Nat) : State :=
  let s := (s.modFab (fun f => { f with house := some house, root := some root, startGts := start })).setFld aFabStat 5 5 0
  let s := (s.assignNumber house).startHouse start
  let s := s.sendAll (stageLinks ++ s.houseLinks) (rootBody house root start)
  if s.isLeader = false then s
  else
    let peer := 512 * house + 8 * devStage root + s.strapSeat
    let alt := (s.liveStages.filter (fun y => y != devStage root && y != s.strapStage)).head?
    let altPeer := match alt with
      | some y => [512 * house + 8 * y + s.strapSeat]
      | none => []
    let s := s.modFab (fun f => { f with timePeers := peer :: altPeer })
    let s := s.configTime false (s.portToStage (devStage root)) (alt.bind s.portToStage)
    if devSeat root = s.strapSeat then s else s.degradeTime

/-- The device is the house root. -/
def State.becomeRoot (s : State) : State :=
  let house := Config.houseId s.sec.settings % 64
  let s := (s.assignNumber house).setFld aFabStat 5 5 1
  let start := (s.tsu.gts + 16000 + Config.duration s.freeCtr) % 2 ^ 64
  let s := (s.tick.modFab (fun f => { f with house := some house, root := some s.device, startGts := start })).startHouse start
  let s := if s.profile = 1 then s.configTime true none none else s
  s.sendAll (s.houseLinks ++ stageLinks) (rootBody house s.device start)

/-! ## The circuits (R282) -/

/-- The candidates for the system root: the own house's root, and the roots of other houses whose ROOT was heard. -/
def State.rootCandidates (s : State) : List Nat := s.fab.root.toList ++ s.fab.roots

/-- The candidates in the order of their houses, one for each. -/
def byHouse (ds : List Nat) : List Nat := (List.range 64).filterMap (fun h => ds.find? (fun d => devHouse d == h))

/-- The system root as far as known: the root of the lowest house. -/
def State.systemRoot (s : State) : Option Nat := (byHouse s.rootCandidates).head?

/-- A house root takes its place: the system root, or a child of it over a circuit link. -/
def State.joinSystem (s : State) : State :=
  match byHouse s.rootCandidates with
  | [] => s
  | d :: rest =>
    let portTo := fun (d : Nat) => (s.circuitLinks.find? (fun l => s.linkUp l && s.linkPeer l == some d && !s.miswired l)).map portOfLink
    let alt := (rest.filterMap (fun e => if e = s.device then none else portTo e)).head?
    if d = s.device then (s.setFld aFabStat 6 6 1).configTime true none none
    else
      let s := s.setFld aFabStat 6 6 0
      match portTo d with
      | some port => s.configTime false (some port) alt
      | none => s.degradeTime

/-- The circuit links over which the root of a house is passed on: not back to that house. -/
def State.circuitsPast (s : State) (house : Nat) : List Nat :=
  s.circuitLinks.filter (fun l => (s.linkPeer l).map devHouse != some house)

/-! ## The consistency check (R285) -/

/-- Schema, firmware digest and common settings digest. -/
def State.digestBody (s : State) : List Byte :=
  leBytes 1 0x20 ++ leBytes 1 (leAt s.sec.settings 4 2) ++ List.replicate 14 0#8 ++ padTo 48 s.sec.fwDigest ++ padTo 48 s.sec.commonHash

/-- The root that a device reports to. -/
def State.scopeRoot (s : State) : Nat :=
  if s.profile = 0 then 8 * s.strapStage + s.fab.leader.getD 0
  else if s.profile = 1 then s.fab.root.getD 0
  else s.systemRoot.getD 0

/-- READY. -/
def State.becomeReady (s : State) : State :=
  (s.setFld aFabStat 2 0 phREADY).raiseAll aDev srcPrompter false
    [⟨true, 0, evFAB_PHASE_DONE, 0, 0⟩, ⟨true, 0, evFAB_READY, 0, 0⟩]

/-- The root of the scope passes the check, every other device reports to it. -/
def State.report (s : State) : State :=
  if s.isScopeRoot then s.becomeReady
  else (s.forward 0 (s.newMsg 0 7 s.scopeRoot 0 profMgmt s.digestBody) none).1

/-- The check begins: a fallback fails it. -/
def State.startCheck (s : State) : State :=
  let s := s.setFld aFabStat 2 0 phCHECK
  if s.restricted then s.holdOut 5 else s.report

/-- The root of another house is heard: it is passed on; a house root that had taken its place takes it anew, and a device
whose report went to another root reports again. -/
def State.noteSystemRoot (s : State) (house root start : Nat) : State :=
  if root ∈ s.fab.roots then s
  else
    let before := s.systemRoot
    let s := s.modFab (fun f => { f with roots := f.roots ++ [root] })
    let s := s.sendAll (stageLinks ++ s.houseLinks ++ s.circuitsPast house) (rootBody house root start)
    if s.phase < phCHECK ∨ s.profile < 2 then s
    else
      let s := if s.isHouseRoot then s.joinSystem else s
      if s.phase = phCHECK ∧ s.systemRoot ≠ before then s.report else s

/-! ## Phases (R281) -/

/-- The root of the house goes out over the circuits. -/
def State.tellCircuits (s : State) : State :=
  s.sendAll s.circuitLinks (rootBody (s.fab.house.getD 0) (s.fab.root.getD 0) s.fab.startGts)

/-- A phase ends and the next begins. -/
def State.nextPhase (s : State) (next : Nat) : State :=
  let s := s.evFab evFAB_PHASE_DONE
  if next = phCHECK then s.startCheck
  else
    let s := s.setFld aFabStat 2 0 next
    if next = phCIRCUIT then s.tellCircuits else s

/-- Every seat of the stage is heard or absent. -/
def State.stageHeard (s : State) : Bool :=
  (List.range 8).all (fun e => e == s.strapSeat || decide (peerKey s.strapStage e ∈ s.fab.absent)
    || s.fab.members.any (fun m => m.stage == s.strapStage && m.seat == e))

/-- Every stage of the rail is heard or absent. -/
def State.houseHeard (s : State) : Bool :=
  (List.range 64).all (fun y => y == s.strapStage || decide (peerKey y s.strapSeat ∈ s.fab.absent)
    || s.fab.members.any (fun m => m.stage == y && m.seat == s.strapSeat))

def State.timeLocked (s : State) : Bool := s.tsu.state == tLOCKED

/-- One step of the phases; `force`: the phase wait has passed. -/
def State.phaseStep (force : Bool) (s : State) : State :=
  if s.phase = phSTAGE then
    let s :=
      if s.fab.leader.isSome ∨ s.stageHeard = false then s
      else match s.liveSeats with
        | e :: _ => if e = s.strapSeat then s.becomeLeader else s.followLeader e
        | [] => s
    if s.fab.leader.isSome ∧ s.stageHeard ∧ (s.isLeader ∨ s.timeLocked) then
      (if s.profile = 0 then (s.assignNumber 0).nextPhase phCHECK else s.nextPhase phHOUSE)
    else s
  else if s.phase = phHOUSE then
    let s :=
      if s.isLeader ∧ s.fab.root.isNone ∧ s.houseHeard then
        (if s.liveStages.head? = some s.strapStage then s.becomeRoot else s)
      else s
    if s.deviceValid ∧ s.housePortsOf.all (fun port => (s.hs port).ranged || (s.hs port).rangeFail)
        ∧ (s.isHouseRoot ∨ s.timeLocked) then
      s.nextPhase (if s.profile = 1 then phCHECK else phCIRCUIT)
    else s
  else if s.phase = phCIRCUIT then
    if force ∨ (s.circuitLinks.filter (fun l => s.portEn (portOfLink l))).all (fun l => s.linkUp l) then
      let s := s.tellCircuits
      (if s.isHouseRoot then s.joinSystem else s).nextPhase phCHECK
    else s
  else s

/-- The phases go as far as they can. -/
def State.progress (s : State) (force : Bool) : State := forN (fun _ s => s.phaseStep force) 4 s

/-- The local phase ends with the power-on sequence (Table 11-1, step 8). -/
def State.enterStage (s : State) : State := s.setFld aFabStat 2 0 phSTAGE

/-! ## What arrives -/

/-- The member that a HELLO tells of. -/
def helloMember (port : Nat) (b : List Byte) : Member :=
  ⟨bits (leAt b 8 1) 2 0, bits (leAt b 9 1) 5 0, leAt b 4 4, port, bit (leAt b 11 1) 0⟩

/-- A HELLO is answered by what a device that joins has missed: a leader tells its stage that it leads, whoever knows the
house root names it, and a device past the phase tells of itself, so that a device that starts later joins a running
system (R281, log 42). LEADER and ROOT go first: the joining device elects nobody against them. -/
def State.answerHello (s : State) (port : Nat) (x : Member) : State :=
  if s.heldOut = true ∨ s.phase = phLOCAL then s
  else
    let l := if s.roleLevel port = 1 then 64 * port + x.stage % 16 else 64 * port
    let s := if s.roleLevel port = 0 ∧ s.isLeader = true then s.sendFabric l s.leaderBody else s
    let s := match s.fab.root with
      | some r => s.sendFabric l (rootBody (s.fab.house.getD 0) r s.fab.startGts)
      | none => s
    let s := s.fab.roots.foldl (fun s r => s.sendFabric l (rootBody (devHouse r) r s.fab.startGts)) s
    if (s.roleLevel port = 0 ∧ s.phase ≠ phSTAGE) ∨ (s.roleLevel port = 1 ∧ s.phase ≠ phSTAGE ∧ s.phase ≠ phHOUSE) then
      s.sendFabric l s.helloBody
    else s

/-- HELLO. -/
def State.helloIn (s : State) (port : Nat) (m : Msg) : State :=
  let s := s.takeMsg 4 m
  let x := helloMember port m.body
  if m.profile ≠ 4 ∨ leAt m.body 0 1 ≠ 1 ∨ x.serial = s.serialNo then s
  else
    let other := s.fab.members.find? (fun y => y.serial != x.serial && y.stage == x.stage && y.seat == x.seat)
    let s := s.modFab (fun f => { f with
      members := f.members.filter (fun y => y.serial != x.serial) ++ [x]
      attempts := tblSet 0 f.attempts (peerKey x.stage x.seat) 0
      absent := f.absent.filter (fun k => k != peerKey x.stage x.seat) })
    let s :=
      if s.roleLevel port = 0 ∧ x.stage = s.strapStage ∧ x.seat = s.strapSeat then
        (s.sendFabric (64 * port) (holdoutBody 1 x.seat)).holdOut 1
      else if s.roleLevel port = 1 ∧ x.stage = s.strapStage then
        (s.sendAll stageLinks (holdoutBody 2 x.stage)).holdOut 2
      else
        match other with
        | none => s
        | some y =>
          let s := s.markHeld x.stage x.seat
          let s := if x.held && y.held then s else s.evFab evFAB_DUP_NUMBER
          if s.roleLevel port = 1 then s.sendFabric (64 * port + x.stage % 16) (holdoutBody 2 x.stage)
          else (s.sendFabric (64 * port) (holdoutBody 1 x.seat)).sendFabric (64 * y.port) (holdoutBody 1 x.seat)
    (s.answerHello port x).progress false

/-- LEADER: the sender's seat is that of its number, or of the port it comes by. -/
def State.leaderIn (s : State) (port : Nat) (m : Msg) : State :=
  let s := s.takeMsg 4 m
  if m.profile ≠ 4 ∨ leAt m.body 0 1 ≠ 2 ∨ s.heldOut = true ∨ s.phase = phLOCAL then s
  else
    let n := leAt m.body 2 2
    let seat := if bit n 15 then devSeat n else match s.neighbour (64 * port) with
      | some x => x.2
      | none => s.strapSeat
    if seat = s.strapSeat ∨ s.fab.leader = some seat ∨ (s.isLeader = true ∧ s.strapSeat < seat) then s
    else (s.followLeader seat).progress false

/-- ROOT: the house's, of which that of the lowest stage holds (R282), or another house's. -/
def State.rootIn (s : State) (port : Nat) (m : Msg) : State :=
  let s := s.takeMsg 4 m
  if m.profile ≠ 4 ∨ leAt m.body 0 1 ≠ 3 ∨ s.heldOut = true ∨ s.phase = phLOCAL then s
  else
    let house := bits (leAt m.body 1 1) 5 0
    let root := bits (leAt m.body 2 2) 14 0
    let start := leAt m.body 8 8
    let s :=
      match s.fab.house with
      | none => if s.roleLevel port = 2 ∨ s.profile = 0 then s else s.learnRoot house root start
      | some h =>
        if s.roleLevel port = 2 ∧ h = house then
          (s.sendAll (stageLinks ++ s.houseLinks) (holdoutBody 3 house)).holdOut 3
        else if h = house then (if devStage root < (s.fab.root.map devStage).getD 64 then s.learnRoot house root start else s)
        else s.noteSystemRoot house root start
    s.progress false

/-- HOLDOUT; a leader passes that of a stage or house on. -/
def State.holdoutIn (s : State) (port : Nat) (m : Msg) : State :=
  let s := s.takeMsg 4 m
  let cause := leAt m.body 1 1
  if m.profile ≠ 4 ∨ leAt m.body 0 1 ≠ 5 ∨ cause = 0 ∨ 5 < cause ∨ s.heldOut = true then s
  else
    let body := holdoutBody cause (leAt m.body 2 2)
    let s := if s.roleLevel port ≠ 0 ∧ (cause = 2 ∨ cause = 3) then s.sendAll stageLinks body else s
    let s := if s.roleLevel port = 2 ∧ cause = 3 then s.sendAll s.houseLinks body else s
    s.holdOut cause

/-- DIGEST at a root of the scope. -/
def State.digestIn (s : State) (m : Msg) : State :=
  let s := s.takeMsg 4 m
  if m.profile ≠ profMgmt ∨ leAt m.body 0 1 ≠ 0x20 ∨ s.isScopeRoot = false ∨ s.heldOut = true then s
  else
    let r := if slice m.body 16 48 ≠ padTo 48 s.sec.fwDigest then 1
      else if slice m.body 64 48 ≠ padTo 48 s.sec.commonHash then 2 else 0
    s.reply 0 m 7 profMgmt (leBytes 1 0x21 ++ leBytes 1 r ++ List.replicate 14 0#8)

/-- DIGEST_RESULT. -/
def State.digestAnswer (s : State) (m : Msg) : State :=
  let s := s.takeMsg 4 m
  if m.profile ≠ profMgmt ∨ leAt m.body 0 1 ≠ 0x21 ∨ s.phase ≠ phCHECK then s
  else
    match leAt m.body 1 1 with
    | 0 => s.becomeReady
    | 1 => s.holdOut 4
    | 2 => s.holdOut 5
    | _ => s

/-! ## Repeats, absence and the phase wait (R281, R284) -/

/-- An attempt that a peer has not answered. -/
def State.countAttempt (s : State) (l : Nat) : State :=
  match s.neighbour l with
  | none => s
  | some (stage, seat) =>
    if s.fab.members.any (fun m => m.stage == stage && m.seat == seat) = true then s
    else s.modFab (fun f => { f with
      attempts := tblSet 0 f.attempts (peerKey stage seat) (tblGet 0 f.attempts (peerKey stage seat) + 1) })

/-- HELLO_RESEND. -/
def State.helloAgain (s : State) (port : Nat) : State :=
  let go := fun (s : State) (ls : List Nat) => ls.foldl (fun s l =>
    if s.canSendFabric l s.helloBody = false then s
    else
      let s := s.sendFabric l s.helloBody
      if l ∈ stageLinks ∨ l ∈ s.houseLinks then s.countAttempt l else s) s
  let s :=
    if s.phase = phLOCAL then s
    else if s.roleLevel port = 0 ∧ port % 8 < 7 ∧ (s.phase = phSTAGE ∨ s.heldOut) then go s [64 * port]
    else if s.roleLevel port = 1 ∧ (s.phase = phHOUSE ∨ s.heldOut) then
      go s ((s.linksOf port).filter (fun l => s.neighbour l != some (s.strapStage, s.strapSeat)))
    else s
  s.progress false

/-- PEER_ABSENT. -/
def State.peerGone (s : State) (peer : Nat) : State :=
  if 16 ≤ tblGet 0 s.fab.attempts peer ∧ peer ∉ s.fab.absent then
    (s.modFab (fun f => { f with absent := f.absent ++ [peer] })).progress false
  else s

/-- PHASE_WAIT_TIMEOUT; in the consistency check a report that nobody answered is made again (log 42). -/
def State.phaseLapse (s : State) : State :=
  let s := if s.phase = phCHECK then s.report else s
  let silent := fun (stage seat : Nat) => !(s.fab.members.any (fun m => m.stage == stage && m.seat == seat))
  let gone :=
    if s.phase = phSTAGE then
      ((List.range 8).filter (fun e => e != s.strapSeat && silent s.strapStage e)).map (peerKey s.strapStage)
    else if s.phase = phHOUSE then
      ((List.range 64).filter (fun y => y != s.strapStage && silent y s.strapSeat)).map (fun y => peerKey y s.strapSeat)
    else []
  (s.modFab (fun f => { f with absent := distinct (f.absent ++ gone) })).progress true

/-! ## The commands -/

/-- HELLO. -/
def execHello (port : Nat) (m : Msg) (s : State) : Host.Outcome State Fault Refusal := .next (s.helloIn port m)
/-- HELLO_RESEND. -/
def execHelloResend (port : Nat) (s : State) : Host.Outcome State Fault Refusal := .next (s.helloAgain port)
/-- LEADER. -/
def execLeader (port : Nat) (m : Msg) (s : State) : Host.Outcome State Fault Refusal := .next (s.leaderIn port m)
/-- ROOT. -/
def execRoot (port : Nat) (m : Msg) (s : State) : Host.Outcome State Fault Refusal := .next (s.rootIn port m)
/-- HOLDOUT. -/
def execHoldout (port : Nat) (m : Msg) (s : State) : Host.Outcome State Fault Refusal := .next (s.holdoutIn port m)
/-- DIGEST. -/
def execDigest (m : Msg) (s : State) : Host.Outcome State Fault Refusal := .next (s.digestIn m)
/-- DIGEST_RESULT. -/
def execDigestResult (m : Msg) (s : State) : Host.Outcome State Fault Refusal := .next (s.digestAnswer m)
/-- PEER_ABSENT. -/
def execPeerAbsent (peer : Nat) (s : State) : Host.Outcome State Fault Refusal := .next (s.peerGone peer)
/-- PHASE_WAIT_TIMEOUT. -/
def execPhaseWaitTimeout (s : State) : Host.Outcome State Fault Refusal := .next s.phaseLapse

end Sys2Proof.Machine
end

