-- ==== Sys2Proof/Machine/Collective.lean ====
section
/-! DEFINITION. The reduction unit and the peer context table (R264, R276 to R278, R289). -/

namespace Sys2Proof.Machine

open Sys2Proof

/-! ## Collective messages (Table 9-4) -/

def collCount (b : List Byte) : Nat := leAt b 8 2
def collElem (b : List Byte) : Nat := leAt b 12 4

/-- The STATUS that a message meets before its first element: tenancy and registration, handle, residency. -/
def State.collCheck (s : State) (p mode : Nat) (m : Msg) : Nat :=
  if (s.part p).st ≠ 1 ∨ m.tenant ≠ (s.part p).tenant ∨ s.collFor p (natHandle m.body) mode = false then 1
  else match s.handle p (natHandle m.body) with
    | none => 3
    | some h => if h.dying then 3 else if h.resident then 0 else 4

/-- ERROR; it counts in COLL_ERR. -/
def State.collError (s : State) (p : Nat) (m : Msg) (status : Nat) : State :=
  (s.bump (aPart p + rPART_COLL_ERR) 1).reply p m 3 profNative (natHeader 5 status 0 (natTag m.body) (natHandle m.body) 0 0)

/-- A stored element of `n` bytes: its bytes, or the STATUS that ends the message. -/
def State.collRead (s : State) (p h off n : Nat) : State × Except Nat (List Byte) :=
  let size := match s.handle p h with
    | some x => x.size
    | none => 0
  if size < off + n then (s, .error 2)
  else
    let r := s.readHandle p h off n none
    if anyPoison r.2 then (r.1, .error 5) else (r.1, .ok (plain r.2))

/-- Writes an element back. -/
def State.collWrite (s : State) (p h off : Nat) (bs : List Byte) : State :=
  (s.writeHandle p h off (bs.map (fun b => (b, false))) none).1

/-- MAX_ANCHOR of one element. -/
def State.maxOne (s : State) (p h i : Nat) (v : Nat) : State × Nat :=
  let r := s.collRead p h (2 * i) 2
  match r.2 with
  | .error e => (r.1, e)
  | .ok bs => (r.1.collWrite p h (2 * i) (leBytes 2 (unsgn 16 (max (sgn 16 (leOf bs)) (sgn 16 v)))), 0)

/-- EXACT_ADD of one fragment into a record: one above the record's anchor makes it NaN and counts. -/
def addFragment (x f : Xa) : Xa × Bool :=
  if x.anchor < f.anchor then ({ x with code := 3 }, true) else ((combineXa x f).1, false)

def State.addOneFrag (s : State) (p h i : Nat) (f : Xa) : State × Nat :=
  let r := s.collRead p h (48 * i) 48
  match r.2 with
  | .error e => (r.1, e)
  | .ok bs =>
    let y := addFragment (unspill bs).1 f
    let s := if y.2 then r.1.bump (aPart p + rPART_COLL_ANCHOR) 1 else r.1
    (s.collWrite p h (48 * i) (spillBytes y.1), 0)

/-- The elements of a MAX_ANCHOR message, from one on, until one stops it. -/
def State.maxRun (p h : Nat) : Nat → State → Nat → List Byte → State × Nat
  | 0, s, _, _ => (s, 0)
  | n + 1, s, i, bs =>
    if bs.length < 2 then (s, 2)
    else
      let r := s.maxOne p h i (leAt bs 0 2)
      if r.2 ≠ 0 then r else State.maxRun p h n r.1 (i + 1) (bs.drop 2)

/-- The fragments of an EXACT_ADD message. -/
def State.addRun (p h : Nat) : Nat → State → Nat → List Byte → State × Nat
  | 0, s, _, _ => (s, 0)
  | n + 1, s, i, bs =>
    let f := readFrag bs
    if bs.length < 3 ∨ bs.length < f.2.1 then (s, 2)
    else
      let r := s.addOneFrag p h i f.1
      if r.2 ≠ 0 then r else State.addRun p h n r.1 (i + 1) (bs.drop f.2.1)

/-- A collective message: refused, or run and answered. -/
def State.collective (s : State) (p : Nat) (m : Msg) (op mode : Nat)
    (run : Nat → State → Nat → List Byte → State × Nat) : State :=
  let o := natOp m.body
  if m.profile ≠ profColl ∨ (o ≠ op ∧ (o = 1 ∨ o = 2)) then s
  else
    let s := s.takeMsg p m
    let k := if o ≠ op then 1 else s.collCheck p mode m
    if k ≠ 0 then s.collError p m k
    else if collCount m.body = 0 ∨ 2048 < collCount m.body then s.collError p m 2
    else
      let r := run (collCount m.body) s (collElem m.body) (m.body.drop 16)
      if r.2 ≠ 0 then r.1.collError p m r.2
      else r.1.reply p m 3 profNative (natHeader 4 0 0 (natTag m.body) (natHandle m.body) 0 0)

/-! ## Peer contexts (R264) -/

/-- A write of PEER_A or PEER_B of the selected context; a change of DEVICE or PART starts its sequences again. -/
def State.writePeer (s : State) (b : Bool) (v : W32) : State :=
  let c := s.fld (aDev + rDEV_PEER_SEL) 11 0
  if c = 0 then s
  else
    let old := s.peer c
    let new := if b then (old.1, v &&& 0x0000FFFF#32) else (v &&& 0xFFC37FFF#32, old.2)
    let s := { s with peers := tblSet (0, 0) s.peers c new }
    if rf new.1 14 0 ≠ rf old.1 14 0 ∨ rf new.1 17 16 ≠ rf old.1 17 16 then
      (List.range 4).foldl (fun s p => s.modPeerSeq p c (fun x => { x with tx := 1, applied := 0 })) s
    else s

/-! ## The commands -/

/-- MAX_ANCHOR. -/
def execMaxAnchor (p : Nat) (m : Msg) (s : State) : Host.Outcome State Fault Refusal :=
  .next (s.collective p m 1 2 (State.maxRun p (natHandle m.body)))
/-- EXACT_ADD. -/
def execExactAdd (p : Nat) (m : Msg) (s : State) : Host.Outcome State Fault Refusal :=
  .next (s.collective p m 2 1 (State.addRun p (natHandle m.body)))
/-- PEER_ENTRY_WRITE. -/
def execPeerEntryWrite (b : Bool) (v : W32) (s : State) : Host.Outcome State Fault Refusal :=
  .next (s.onPage .dev 0 (fun s => s.writePeer b v))

end Sys2Proof.Machine
end

