-- ==== Sys2Proof/Machine/Cues.lean ====
section
/-! DEFINITION. Cues (R161, R162). -/

namespace Sys2Proof.Machine

open Sys2Proof

/-- A cue entry. -/
def State.cue (s : State) (i : Nat) : CueSt := tblGet CueSt.init s.tsu.cues i

def State.modCue (s : State) (i : Nat) (f : CueSt → CueSt) : State :=
  s.modTsu (fun t => { t with cues := tblSet CueSt.init t.cues i (f (tblGet CueSt.init t.cues i)) })

/-- The action names a unit of the owning partition (R161). -/
def cueUnitOk (kind part arg : Nat) : Bool :=
  match kind with
  | 1 => decide (arg < 768) && partOfChan arg == part
  | 2 | 3 => partOfPort (arg % 64) == part
  | 4 => decide (arg < 2048)
  | _ => true

/-- A write of CUE_ACT: the held TARGET and PERIOD take effect with it. -/
def State.writeCue (s : State) (v : W32) : State :=
  let i := s.fld (aTsu + rTSU_CUE_SEL) 7 0
  let kind := rf v 19 16
  let part := rf v 21 20
  let arg := rf v 15 0
  if 6 ≤ kind then s
  else if cueUnitOk kind part arg = false then s.modCue i (fun c => { c with en := false, late := false, past := false })
  else
    let target := (s.reg (aTsu + rTSU_CUE_TGT_LO)).toNat + 2 ^ 32 * (s.reg (aTsu + rTSU_CUE_TGT_HI)).toNat
    let period := (s.reg (aTsu + rTSU_CUE_PERIOD)).toNat
    s.modCue i (fun _ => ⟨rb v 31, false, rb v 31 && decide (target < s.tsu.gts), part, kind, arg, target, period⟩)

/-- What a cue does (Table 5-9). -/
def State.cueAction (s : State) (c : CueSt) : State :=
  match c.kind with
  | 1 => s.chanEvent c.arg
  | 2 => s.startSchedule (c.arg % 64) c.target
  | 3 => if c.arg / 64 = 0 then s else s.requestIm (c.arg % 64) (min 40 (c.arg / 64))
  | 4 => s.sendMsix c.arg
  | 5 => s.objOp c.part c.arg false 1
  | _ => s

/-- The next TARGET of a periodic cue and the periods it skips: none where the new TARGET has not passed (log 45). -/
def nextTarget (target period gts : Nat) : Nat × Nat :=
  let t := target + period
  if gts ≤ t then (t, 0)
  else
    let k := ceilDiv (gts - t) period
    (t + k * period, k)

/-- CUE_FIRE: the GTS has reached TARGET. -/
def State.fireCue (s : State) (i : Nat) : State :=
  let c := s.cue i
  if c.en = false ∨ s.tsu.gts < c.target then s
  else
    let s := (s.emit (.cueFired i c.target)).cueAction c
    let n := if c.period = 0 then (c.target, 0) else nextTarget c.target c.period s.tsu.gts
    let s := s.modCue i (fun x => { x with
      en := c.period != 0, target := n.1 % 2 ^ 64, late := x.late || x.past, past := false })
    let s := if n.2 = 0 then s else s.bump (aTsu + rTSU_CUE_MISSED) n.2
    s.raiseAll aTsu srcTsu false
      ((if c.past then [ev evTSU_CUE_LATE] else []) ++ (if n.2 = 0 then [] else [ev evTSU_CUE_MISSED]))

/-- CUE_ACT_WRITE. -/
def execCueActWrite (v : W32) (s : State) : Host.Outcome State Fault Refusal := .next (s.onPage .tsu 0 (fun s => s.writeCue v))
/-- CUE_FIRE. -/
def execCueFire (cue : Nat) (s : State) : Host.Outcome State Fault Refusal := .next (s.fireCue cue)

end Sys2Proof.Machine
end

