-- ==== Sys2Proof/Machine/Curtain.lean ====
section
/-! DEFINITION. Chapter 8, "Curtain": the tag, sending, verification and effect of curtains (R250 to R255). -/

namespace Sys2Proof.Machine

open Sys2Proof

abbrev kHOLD : Nat := 1
abbrev kRELEASE : Nat := 2
abbrev kFENCE : Nat := 3
abbrev kFENCEDONE : Nat := 4

/-! ## Layout and tag (R250, R251) -/

def curtKind (c : List Byte) : Nat := leAt c 5 1
def curtTenant (c : List Byte) : Nat := leAt c 6 2
def curtTcMask (c : List Byte) : Nat := leAt c 8 1
def curtPartMask (c : List Byte) : Nat := leAt c 9 1
def curtCounter (c : List Byte) : Nat := leAt c 10 6
def curtTag (c : List Byte) : List Byte := slice c 16 8
def curtOrigin (c : List Byte) : Nat := leAt c 24 2

/-- PARTMASK 0 means all four source partitions. -/
def allParts (m : Nat) : Nat := if m = 0 then 15 else m

/-- TAG over bytes 4 to 15 and 24 to 31, the receiving device and port, and both nonces. -/
def tagOf (key a b : List Byte) (device port txNonce rxNonce : Nat) : List Byte :=
  (hmac256 key (a ++ b ++ leBytes 2 device ++ leBytes 1 port ++ leBytes 8 txNonce ++ leBytes 8 rxNonce)).take 8

/-- NONCE of the partner's CAP. -/
def LinkSt.peerNonce (k : LinkSt) : Nat :=
  match k.peerCap with
  | some c => leAt c 24 8
  | none => 0

/-- The curtain key of a tenant at the site of a port; empty when none is installed. -/
def State.curtKey (s : State) (port tenant : Nat) : List Byte := tblGet [] (s.site (port / 8)).keys tenant

/-! ## Sending (R252, R254) -/

/-- A new reserve mark of COUNTER, far enough ahead, is already on its way to the Understudy. -/
def State.markComing (s : State) (l tenant n : Nat) : Bool :=
  (s.site (portOfLink l / 8)).wt.any (fun e => match e.1 with
    | .mark l' t v => l' == l && t == tenant && decide (n + 256 < v)
    | _ => false)

/-- A curtain takes the next COUNTER of its tenant on the link and is placed on the wire, or waits for the
RESUME of a retrain. The reserve mark of COUNTER moves with it (R307). -/
def State.sendCurtain (s : State) (l kind tenant tcMask partMask origin : Nat) : State :=
  let port := portOfLink l
  let k := s.link l
  let n := tblGet 0 k.ctrTx tenant + 1
  let a := leBytes 1 1 ++ leBytes 1 kind ++ leBytes 2 tenant ++ leBytes 1 tcMask ++ leBytes 1 partMask ++ leBytes 6 n
  let b := leBytes 2 (origin % 2 ^ 15) ++ List.replicate 6 0#8
  let peer := k.peerCap.getD []
  let tag := tagOf (s.curtKey port tenant) a b (bits (leAt peer 4 2) 14 0) (bits (leAt peer 6 1) 5 0) k.nonce k.peerNonce
  let os := osMark ++ a ++ tag ++ b
  let key := 65536 * l + tenant
  let s := if tblGet 0 (s.site (port / 8)).marks key ≤ n + 256 ∧ s.markComing l tenant n = false then
      s.noteItem (port / 8) (.mark l tenant (n + 1024)) else s
  let s := s.modLink l (fun k => { k with ctrTx := tblSet 0 k.ctrTx tenant n })
  if (s.link l).state = lPAUSED then s.modLink l (fun k => { k with curtq := k.curtq ++ [os] }) else s.placeSet l os

/-- A link uses curtains of a kind: HOLD and RELEASE from version 2.0, FENCE and FENCE_DONE from 2.1 (R235, Table 8-12). -/
def LinkSt.curtains (k : LinkSt) (kind : Nat) : Bool := k.uses 0x20 0 && (decide (kind < kFENCE) || k.uses 0x21 4)

/-- Whether the link refuses to send a curtain (R252). -/
def State.curtRefused (s : State) (l kind tenant : Nat) : Bool :=
  !s.linkUp l || !(s.link l).curtains kind || (s.curtKey (portOfLink l) tenant).isEmpty

/-! ## Receiving (R253) -/

/-- Everything that an accepted curtain satisfies. -/
def State.curtOk (s : State) (l : Nat) (c : List Byte) : Bool :=
  let port := portOfLink l
  let k := s.link l
  let key := s.curtKey port (curtTenant c)
  s.linkUp l && !key.isEmpty && k.curtains (curtKind c)
    && curtTag c == tagOf key (slice c 4 12) (slice c 24 8) s.device port k.peerNonce k.nonce
    && decide (tblGet 0 k.ctrRx (curtTenant c) < curtCounter c)
    && decide (1 ≤ curtKind c) && decide (curtKind c ≤ 4)
    && !bit (curtTcMask c) 0 && !bit (curtTcMask c) 7
    && decide (curtPartMask c < 16) && !bit (curtOrigin c) 15 && leAt c 26 6 == 0

/-- A curtain arrives on a link: discarded, or accepted and given to `f` where it is of the kind. -/
def State.recvCurtain (s : State) (l : Nat) (c : List Byte) (kind : Nat) (f : State → State) : State :=
  let port := portOfLink l
  let site := aOio (port / 8)
  if osOk c = false then s.bump (site + rOIO_OS_BAD) 1
  else if osType c ≠ 1 then s
  else if s.curtOk l c = false then (s.bump (site + rOIO_CURT_DISCARD) 1).evLink l evLNK_CURT_BAD 0
  else if curtKind c ≠ kind then s
  else
    let s := s.modLink l (fun k => { k with ctrRx := tblSet 0 k.ctrRx (curtTenant c) (curtCounter c) })
    f ((s.bump (site + rOIO_CURT_ACCEPT) 1).evLink l evLNK_CURT_ACCEPTED 0)

/-- The scope of a curtain. -/
def curtScope (c : List Byte) : Scope := ⟨curtTenant c, curtTcMask c, allParts (curtPartMask c)⟩

/-! ## Effects (R254, R255) -/

/-- HOLD: the scope joins the hold set. -/
def State.curtHold (s : State) (l : Nat) (c : List Byte) : State :=
  s.modLink l (fun k => { k with held := if curtScope c ∈ k.held then k.held else k.held ++ [curtScope c] })

/-- What is left of a held scope when a scope is released: the classes outside it, and of those inside the partitions
outside it (log 76). -/
def scopeMinus (x r : Scope) : List Scope :=
  if x.tenant ≠ r.tenant then [x]
  else
    let both := x.tcMask &&& r.tcMask
    let tcs := x.tcMask - both
    let parts := x.partMask - (x.partMask &&& r.partMask)
    if both = 0 ∨ parts = x.partMask then [x]
    else (if tcs = 0 then [] else [{ x with tcMask := tcs }])
      ++ (if parts = 0 then [] else [{ x with tcMask := both, partMask := parts }])

/-- RELEASE: the scope leaves the hold set. -/
def State.curtRelease (s : State) (l : Nat) (c : List Byte) : State :=
  s.modLink l (fun k => { k with held := (k.held.flatMap (fun x => scopeMinus x (curtScope c))).eraseDups })

/-- The messages that arrived over a link and wait for their unit or their next link. -/
def State.waitingFrom (s : State) (l : Nat) : List Msg :=
  (s.inbox ++ s.relay).flatMap (fun e => (e.2.filter (fun a => a.link == l)).map (fun a => a.msg))

/-- FENCE: the fence point waits for the messages in scope that arrived before it. -/
def State.curtFence (s : State) (l : Nat) (c : List Byte) : State :=
  let wait := (s.waitingFrom l).filter (fun m => scopeCovers (curtScope c) m)
  let f : FenceSt := ⟨⟨curtTenant c, curtTcMask c, curtPartMask c⟩, bits (curtOrigin c) 14 0, wait⟩
  s.modLink l (fun k => { k with fences := k.fences ++ [f] })

/-- FENCE_POINT: the first fence whose messages have all gone on answers FENCE_DONE. -/
def State.fencePoint (s : State) (l : Nat) : State :=
  let here := s.waitingFrom l
  match (s.link l).fences.find? (fun f => f.wait.all (fun m => m ∉ here)) with
  | none => s
  | some f =>
    let s := s.modLink l (fun k => { k with fences := dropFirst (fun x => x == f) k.fences })
    if s.linkUp l = true ∧ (s.curtKey (portOfLink l) f.scope.tenant).isEmpty = false then
      s.sendCurtain l kFENCEDONE f.scope.tenant f.scope.tcMask f.scope.partMask f.origin
    else s

/-- CURT_LAPSED: a held scope reaches HOLD_MAX_MS. -/
def State.curtLapse (s : State) (l : Nat) (x : Scope) : State :=
  if x ∈ (s.link l).held then
    let s := s.modLink l (fun k => { k with held := k.held.filter (fun y => y != x) })
    (s.bump (aOio (portOfLink l / 8) + rOIO_CURT_LAPSED) 1).evLink l evLNK_CURT_LAPSED 0
  else s

/-! ## The commands -/

/-- CURTAIN_HOLD. -/
def execCurtainHold (l : Nat) (os : List Byte) (s : State) : Host.Outcome State Fault Refusal :=
  .next (s.recvCurtain l os kHOLD (fun s => s.curtHold l os))
/-- CURTAIN_RELEASE. -/
def execCurtainRelease (l : Nat) (os : List Byte) (s : State) : Host.Outcome State Fault Refusal :=
  .next (s.recvCurtain l os kRELEASE (fun s => s.curtRelease l os))
/-- CURTAIN_FENCE. -/
def execCurtainFence (l : Nat) (os : List Byte) (s : State) : Host.Outcome State Fault Refusal :=
  .next (s.recvCurtain l os kFENCE (fun s => s.curtFence l os))
/-- FENCE_POINT. -/
def execFencePoint (l : Nat) (s : State) : Host.Outcome State Fault Refusal := .next (s.fencePoint l)
/-- FENCE_DONE: the event logs COUNTER. -/
def execFenceDone (l : Nat) (os : List Byte) (s : State) : Host.Outcome State Fault Refusal :=
  .next (s.recvCurtain l os kFENCEDONE (fun s => s.evLink l evLNK_FENCE_DONE (curtCounter os)))
/-- CURT_LAPSED. -/
def execCurtLapsed (l : Nat) (scope : Scope) (s : State) : Host.Outcome State Fault Refusal := .next (s.curtLapse l scope)

end Sys2Proof.Machine
end

