-- ==== Sys2Proof/Machine/RegRead.lean ====
section
/-! DEFINITION. What a register reads as (R13, R15, R373 to R378): a stored register is its value in `regs`, every
other one is computed here from the state of the unit it shows. -/

namespace Sys2Proof.Machine

open Sys2Proof

/-- A register value from its fields, as high bit, low bit and value. -/
def regOf (fs : List (Nat × Nat × Nat)) : W32 :=
  BitVec.ofNat 32 ((fs.map (fun f => f.2.2 % 2 ^ (f.1 + 1 - f.2.1) * 2 ^ f.2.1)).sum)

/-- The 32-bit two's complement of a signed field. -/
def word32 (i : Int) : W32 := BitVec.ofNat 32 (unsgn 32 i)

/-! ## Pending requests (R374, R375) -/

/-- Enabled bits of a status register. -/
def State.anyEnabled (s : State) (stat en : Nat) : Bool := (s.reg stat &&& s.reg en) != 0

/-- PAGE_STAT.IRQ_PEND of the page at an address: an enabled event bit is set. -/
def State.irqPend (s : State) (page : Nat) : Bool :=
  s.anyEnabled (page + rHDR_EVT_STAT) (page + rHDR_EVT_EN)
    || (page == aDev && s.anyEnabled (aDev + rDEV_FAB_EVT) (aDev + rDEV_FAB_EVT_EN))
    || (decide (0x100000 ≤ page) && decide (page < 0x300000) && (List.range 8).any (fun n =>
        s.anyEnabled (page + 0x300 + 0x80 * n + rOIOLINK_LNK_EVT) (page + 0x300 + 0x80 * n + rOIOLINK_LNK_EVT_EN)))

/-- A page that answers has a request pending. -/
def State.pagePend (s : State) (k : PageKind) (inst : Nat) : Bool :=
  s.pageOpen k inst false && s.irqPend (pageBase k inst)

/-- The mask of the numbers below `n` that satisfy `f`, from bit `lo`. -/
def maskOf (f : Nat → Bool) (n lo : Nat) : Nat := ((List.range n).map (fun i => b2n (f i) * 2 ^ (lo + i))).sum

/-- A page of a cluster is pending. -/
def State.cluPend (s : State) (c : Nat) : Bool :=
  s.pagePend .clu c || (List.range 16).any (fun n => s.pagePend .dma (16 * c + n))
    || (List.range 48).any (fun n => s.pagePend .core (48 * c + n))

/-- PARTp.PEND. -/
def State.partPend (s : State) (p : Nat) : Nat :=
  b2n (s.pagePend .part p) + 2 * b2n (s.pagePend .ush p) + 4 * b2n (s.pagePend .box p) + 8 * b2n (s.pagePend .syn p)
    + maskOf (fun c => s.cluPend (12 * p + c)) 12 16

/-- PROMPT.PEND. -/
def State.topPend (s : State) : Nat :=
  b2n (s.pagePend .dev 0) + 2 * b2n (s.pagePend .prompt 0) + 4 * b2n (s.pagePend .tsu 0) + 8 * b2n (s.pagePend .thm 0)
    + 16 * b2n (s.pagePend .sec 0) + 32 * b2n (s.pagePend .cmdmb 0)
    + maskOf (fun k => s.pagePend .oio k) 8 8 + maskOf (fun p => s.partPend p != 0) 4 16

/-! ## The common header (Table 13-5) -/

/-- INSTANCE of a page (Table 13-6); a core page names its physical core. -/
def State.pageInstance (s : State) (k : PageKind) (i : Nat) : Nat :=
  match k with
  | .oio => i
  | .part | .ush | .box | .syn => i
  | .clu => i / 12 * 256 + i % 12
  | .dma => i / 192 * 2 ^ 12 + i / 16 % 12 * 256 + i % 16
  | .core => i / 576 * 2 ^ 14 + i / 48 % 12 * 256 + s.physOf i
  | _ => 0

/-- A header register. -/
def State.readHeader (s : State) (k : PageKind) (i off : Nat) : W32 :=
  let page := pageBase k i
  let t := pageType k
  if off = rHDR_PAGE_ID then regOf [(31, 16, t.1), (15, 0, s.pageInstance k i)]
  else if off = rHDR_PAGE_CAP then regOf [(16, 16, t.2.2), (5, 0, t.2.1)]
  else if off = rHDR_PAGE_STAT then
    regOf [(2, 2, b2n (s.irqPend page)), (1, 1, s.fld (page + rHDR_PAGE_CTL) 29 29), (0, 0, 1)]
  else if off = rHDR_EVT_FORCE ∨ off = rHDR_ERR_COUNT_CLR then 0
  else s.reg (page + off)

/-! ## Device pages -/

/-- The control record in force: a held update supersedes the one in flash. -/
def SecSt.record (x : SecSt) : List Byte := x.held.getD x.ctrl

/-- SVN_MIN: how many bits of the pattern are blown (Table 11-6). -/
def FuseSt.svnMin (f : FuseSt) : Nat := ((List.range 32).filter (fun i => bit f.svn i)).length

def State.readDev (s : State) (off : Nat) : W32 :=
  let sel := s.fld (aDev + rDEV_PEER_SEL) 11 0
  if off = rDEV_SERIAL then BitVec.ofNat 32 s.serialNo
  else if off = rDEV_RESET_CAUSE then regOf [(3, 0, s.pwr.cause)]
  else if off = rDEV_FW_INFO then
    regOf [(31, 16, leAt s.sec.fw 4 2), (15, 8, leAt s.sec.fw 6 1), (0, 0, s.sec.fwSlot)]
  else if off = rDEV_SLOT_STAT then
    regOf [(5, 5, b2n s.sec.held.isSome), (4, 4, s.sec.setSlot), (3, 2, leAt s.sec.record 9 1 / 2), (1, 0, leAt s.sec.record 8 1 / 2)]
  else if off = rDEV_SETTINGS_INFO then regOf [(31, 16, leAt s.sec.settings 4 2), (15, 0, leAt s.sec.settings 8 2)]
  else if off = rDEV_PEER_A then (if sel = 0 then 0 else (s.peer sel).1)
  else if off = rDEV_PEER_B then (if sel = 0 then 0 else (s.peer sel).2)
  else if off = rDEV_CROUTE then s.croute (s.fld (aDev + rDEV_CROUTE_SEL) 5 0)
  else s.reg (aDev + off)

def State.readTsu (s : State) (off : Nat) : W32 :=
  let t := s.tsu
  if off = rTSU_TSU_STAT then regOf [(2, 2, b2n t.alt), (1, 0, t.state)]
  else if off = rTSU_GTS_LO then BitVec.ofNat 32 t.gts
  else if off = rTSU_GTS_HI then BitVec.ofNat 32 t.hi
  else if off = rTSU_RATE_ADJ then word32 (t.ratePend.getD t.rate)
  else if off = rTSU_HOLD_US then (if t.state = tHOLDOVER then BitVec.ofNat 32 s.holdUs else s.reg (aTsu + off))
  else if off = rTSU_ASYM_VAL then BitVec.ofNat 32 (tblGet 0 t.asym (s.fld (aTsu + rTSU_ASYM_SEL) 5 0))
  else if off = rTSU_CUE_ACT then
    let c := s.cue (s.fld (aTsu + rTSU_CUE_SEL) 7 0)
    regOf [(31, 31, b2n c.en), (30, 30, b2n c.late), (21, 20, c.part), (19, 16, c.kind), (15, 0, c.arg)]
  else if off = rTSU_GTS_CMD then 0
  else s.reg (aTsu + off)

def State.readThm (s : State) (off : Nat) : W32 :=
  if off = rTHM_SENS_VAL then
    let x := s.sens (s.fld (aThm + rTHM_SENS_SEL) 8 0)
    regOf [(31, 31, b2n x.valid), (30, 30, b2n x.suspect), (15, 0, unsgn 16 x.temp)]
  else if off = rTHM_SENS_MAX then
    let m := s.hottest
    (if m.1 = 0x1FF then 0 else regOf [(24, 16, m.1), (15, 0, unsgn 16 m.2)])
  else if off = rTHM_SUSPECT then
    regOf [(8, 0, ((List.range 0x14C).filter (fun i => (s.sens i).valid && (s.sens i).suspect)).length)]
  else if off = rTHM_WIN_STAT then regOf [(0, 0, b2n s.flashWindow)]
  else s.reg (aThm + off)

def State.readSec (s : State) (off : Nat) : W32 :=
  if off = rSEC_SEC_STAT then
    regOf [(31, 31, b2n s.fuses.provisioned), (30, 30, b2n s.sec.unlocked), (27, 24, s.fuses.revoke),
      (23, 0, leAt s.sec.record 10 4)]
  else if off = rSEC_SVN then regOf [(5, 0, s.fuses.svnMin)]
  else s.reg (aSec + off)

/-- A mailbox register of one instance above the header; `counts` are its event bits and BAD_TAG, kept apart for
the board instance. LOCKOUT.MS is a free duration (log 20). -/
def State.readMailbox (s : State) (m : MbSt) (badTag : W32) (off : Nat) : W32 :=
  if off = rCMDMB_STATUS then regOf [(31, 31, b2n m.busy), (15, 8, m.code), (7, 0, m.cmd)]
  else if off = rCMDMB_RESULT then regOf [(0, 0, b2n m.fallback)]
  else if off = rCMDMB_CTR_LAST_LO then BitVec.ofNat 32 s.sec.ctrLast
  else if off = rCMDMB_CTR_LAST_HI then BitVec.ofNat 32 (s.sec.ctrLast / 2 ^ 32 % 2 ^ 16)
  else if off = rCMDMB_BAD_TAG then badTag
  else if off = rCMDMB_LOCKOUT then
    (if s.sec.lockout then regOf [(31, 31, 1), (9, 0, Config.duration s.freeCtr % 1001)] else 0)
  else if 0x100 ≤ off ∧ off < 0x200 then BitVec.ofNat 32 (leAt m.buf (off - 0x100) 4)
  else if 0x200 ≤ off ∧ off < 0x280 then BitVec.ofNat 32 (leAt m.rsp (off - 0x200) 4)
  else 0

/-! ## Optical pages -/

/-- A_STATE or B_STATE (Table 7-18): an enable that is low shows OFF. -/
def laserState (en : Bool) (x : LaserSt) : Nat := if en = false then 0 else if x.lost then 3 else if x.full then 2 else 1

/-- The ring that RING_SEL names, if there is one. -/
def State.selRing (s : State) (k : Nat) : Option Nat :=
  let v := s.reg (aOio k + rOIO_RING_SEL)
  if rf v 8 4 < 18 then some (288 * k + 36 * rf v 2 0 + 18 * rf v 3 3 + rf v 8 4) else none

def State.readRing (s : State) (g off : Nat) : W32 :=
  let r := s.ring g
  if off = rOIO_RING_STAT then
    regOf [(31, 28, r.st), (20, 16, r.lane), (12, 8, if r.st = gPARKED then gNone else r.line), (7, 0, min 255 (s.recent r.losses).length)]
  else if off = rOIO_RING_CODE then regOf [(11, 0, r.code)]
  else match r.trim with
    | some t => regOf [(31, 31, 1), (7, 0, unsgn 8 t)]
    | none => 0

/-- The port and bank entry that HS_SEL names. -/
def State.hsPort (s : State) (k : Nat) : Nat := 8 * k + s.fld (aOio k + rOIO_HS_SEL) 18 16
def State.hsEntryKey (s : State) (k : Nat) : Nat :=
  let h := s.hs (s.hsPort k)
  let v := s.reg (aOio k + rOIO_HS_SEL)
  1024 * (if rb v 15 then h.bank else 1 - h.bank) + rf v 9 0

/-- Milliseconds of control clocks since an edge. -/
def State.msSince (s : State) (t : Nat) : Nat := min 65535 ((s.ctrlClk - t) / 1000000)

/-- UND_HEALTH; BIST_AGE reads 0 before the first pass has ended. -/
def State.undHealth (s : State) (k : Nat) : W32 :=
  let x := s.site k
  regOf [(31, 31, b2n x.isReady), (30, 30, b2n x.sync), (29, 29, b2n x.other.ramOk),
    (28, 28, b2n (decide (1000 ≤ x.isoAge) && x.mmRun == 0)), (27, 26, x.c0.role), (25, 24, x.c1.role),
    (15, 0, (x.other.passEnd.map s.msSince).getD 0)]

def State.readSite (s : State) (k off : Nat) : W32 :=
  let x := s.site k
  let h := s.hs (s.hsPort k)
  let ctl := s.reg (aOio k + rOIO_LASER_CTL)
  if off = rOIO_OIO_CAP then rput (s.reg (aOio k + off)) 23 20 (s.siteGen k)
  else if off = rOIO_LASER_STAT then
    regOf [(8, 8, b2n x.laserB.restored), (7, 7, b2n x.laserA.restored), (6, 6, b2n x.ramp), (5, 4, x.cross),
      (3, 2, laserState (rb ctl 1) x.laserB), (1, 0, laserState (rb ctl 0) x.laserA)]
  else if off = rOIO_ADC_DATA then tblGet 0 x.adc (s.fld (aOio k + rOIO_ADC_SEL) 5 0)
  else if off = rOIO_RING_STAT ∨ off = rOIO_RING_CODE ∨ off = rOIO_RING_TRIM then
    (match s.selRing k with
     | some g => s.readRing g off
     | none => 0)
  else if off = rOIO_UND_HEALTH then s.undHealth k
  else if off = rOIO_UND_LAST_GAP then regOf [(1, 0, x.lastGap)]
  else if off = rOIO_HS_ENTRY_A then (tblGet (0, 0) h.entries (s.hsEntryKey k)).1
  else if off = rOIO_HS_ENTRY_B then (tblGet (0, 0) h.entries (s.hsEntryKey k)).2
  else if off = rOIO_HS_CFG then regOf [(25, 16, h.slots), (6, 0, h.flits)]
  else if off = rOIO_HS_STAT then
    regOf [(31, 31, b2n h.running), (30, 30, h.bank), (29, 29, b2n h.swapPend), (28, 28, b2n h.ranged),
      (9, 0, if h.running then h.slot else 0)]
  else if off = rOIO_HS_RANGE then regOf [(15, 0, h.delay)]
  else if off = rOIO_HS_FOREIGN then h.foreign
  else if off = rOIO_HS_CUE_BAD then h.cueBad
  else s.reg (aOio k + off)

def State.readPort (s : State) (port off : Nat) : W32 :=
  let x := s.port port
  if off = rOIOPORT_STAT then
    regOf [(31, 28, x.st), (19, 17, x.lossStage), (16, 16, b2n x.los),
      (15, 11, if s.portEn port then s.uTx port else 0), (10, 6, if s.portEn port then s.uRx port else 0),
      (5, 4, x.speed), (1, 0, x.width)]
  else if off = rOIOPORT_TX_LINES then regOf [(17, 0, s.lineMask port false)]
  else if off = rOIOPORT_RX_LINES then regOf [(17, 0, s.lineMask port true)]
  else if off = rOIOPORT_EYE then regOf [(12, 8, x.eyeLane), (7, 0, x.eye)]
  else if off = rOIOPORT_INTRUDER then x.intruder
  else if off = rOIOPORT_MISALIGN then x.misalign
  else if off = rOIOPORT_CAL then regOf [(31, 16, s.msSince x.imEnd), (3, 0, x.cal)]
  else s.reg (aPort port + off)

/-- The classes with any scope held (CURT_HELD). -/
def LinkSt.heldClasses (k : LinkSt) : Nat := maskOf (fun t => k.held.any (fun x => bit x.tcMask t)) 8 0

def State.readLink (s : State) (port off : Nat) : W32 :=
  let sel := s.reg (aLnk port + rOIOLINK_LNK_SEL)
  let l := 64 * port + rf sel 5 0
  let i := 2 * rf sel 10 8 + rf sel 11 11
  let k := s.link l
  let k0 := s.link (64 * port)
  if off = rOIOLINK_LNK_STAT then
    regOf [(31, 28, k0.state), (27, 24, k0.ver / 16), (23, 20, k0.ver),
      (7, 0, s.fld (aLnk port + rOIOLINK_LNK_STAT) 7 0)]
  else if off = rOIOLINK_LINK_PEER then
    (match k.peerCap with
     | some c => regOf [(31, 31, 1), (29, 24, leAt c 6 1), (23, 20, leAt c 7 1), (14, 0, leAt c 4 2)]
     | none => 0)
  else if off = rOIOLINK_LINK_SEQ then regOf [(31, 16, k.acked), (15, 0, k.next)]
  else if off = rOIOLINK_LINK_RX then regOf [(15, 0, k.expected)]
  else if off = rOIOLINK_REPLAY_OCC then regOf [(14, 0, k.replay.length)]
  else if off = rOIOLINK_REPLAY_TO then regOf [(23, 0, k.rto)]
  else if off = rOIOLINK_CRED_CFG then regOf [(15, 0, s.credCfg port i)]
  else if off = rOIOLINK_CRED_TX then regOf [(31, 16, k.adv i), (15, 0, k.avail i)]
  else if off = rOIOLINK_CRED_TX_CUM then regOf [(31, 16, tblGet 0 k.returned i), (15, 0, tblGet 0 k.consumed i)]
  else if off = rOIOLINK_CRED_RX then regOf [(31, 16, tblGet 0 k.received i), (15, 0, tblGet 0 k.freed i)]
  else if off = rOIOLINK_CURT_HELD then regOf [(7, 0, k.heldClasses)]
  else s.reg (aLnk port + off)

/-! ## Partition pages -/

def State.readPart (s : State) (p off : Nat) : W32 :=
  if off = rPART_PART_STAT then regOf [(31, 28, (s.part p).st), (15, 0, (s.part p).tenant)]
  else if off = rPART_RESET_STAT then regOf [(0, 0, b2n (!(s.usher p).waitReset.isEmpty))]
  else if off = 0x060 then BitVec.ofNat 32 (s.partPend p)
  else s.reg (aPart p + off)

def State.readUsher (s : State) (p off : Nat) : W32 :=
  let u := s.usher p
  if off = rUSH_PAGES then regOf [(31, 16, u.freePages), (15, 0, u.usable)]
  else if off = rUSH_RES_TOKENS then BitVec.ofNat 32 u.tokens
  else if off = rUSH_CTX_STAT then regOf [(15, 8, maskOf (fun x => s.hasWork p x) 8 0), (2, 0, u.running)]
  else s.reg (aUsh p + off)

def State.readBox (s : State) (p off : Nat) : W32 :=
  let b := s.box p
  if off = rBOX_BOX_CAP then regOf [(15, 0, b.base)]
  else if off = rBOX_BUDGET then regOf [(15, 0, b.budget)]
  else if off = rBOX_GRANTED then regOf [(15, 0, s.granted p)]
  else if off = rBOX_FREE then regOf [(15, 0, b.free)]
  else if off = rBOX_WITHDRAWN then regOf [(15, 0, b.withdrawn)]
  else if off = rBOX_QUEUE then
    regOf [(31, 16, ((b.queue.map BoxEnt.core).head?).getD 0), (9, 0, b.queue.length)]
  else if off = rBOX_LOANS then regOf [(31, 16, s.borrowed p), (15, 0, s.lent p)]
  else if off = rBOX_GRANTS then BitVec.ofNat 32 b.grants
  else s.reg (aBox p + off)

def State.readSync (s : State) (p off : Nat) : W32 :=
  let c := s.peerSel p
  let x := s.peerSeq p c
  let e := tblGet none (s.sync p).loss (s.fld (aSyn p + rSYN_LOSS_SEL) 7 0)
  if off = rSYN_WAITERS then regOf [(9, 0, s.waiters p)]
  else if off = rSYN_SIG_UNACK then regOf [(8, 0, s.unackCount p)]
  else if off = rSYN_PEER_STAT then
    regOf [(31, 30, x.state),
      (8, 0, ((s.sync p).loss.filter (fun e => match e.2 with | some y => y.peer == c | none => false)).length)]
  else if off = rSYN_PEER_TX_SEQ then BitVec.ofNat 32 x.tx
  else if off = rSYN_PEER_RX_SEQ then BitVec.ofNat 32 x.applied
  else if off = rSYN_PEER_REMOTE_SEQ then BitVec.ofNat 32 x.remoteSeq
  else if off = rSYN_LOSS_A then
    (match e with
     | some y => regOf [(31, 31, 1), (30, 30, b2n y.applied), (29, 29, b2n y.set), (27, 16, y.peer), (15, 0, y.obj)]
     | none => 0)
  else if off = rSYN_LOSS_VALUE then (match e with | some y => BitVec.ofNat 32 y.value | none => 0)
  else if off = rSYN_LOSS_SEQ then (match e with | some y => BitVec.ofNat 32 y.seq | none => 0)
  else s.reg (aSyn p + off)

/-- MAP_VALID: the yield map is loaded in step 5, and holds 48 cores (R24, R25). -/
def State.mapValid (s : State) (c : Nat) : Bool := decide (5 ≤ s.pwr.step) && (s.enabledCores c).length == 48

def State.readClu (s : State) (c off : Nat) : W32 :=
  let x := s.clu c
  let y := tblGet 0 s.fuses.yield c
  if off = rCLU_CORE_EN_LO then (if s.mapValid c then BitVec.ofNat 32 y else 0)
  else if off = rCLU_CORE_EN_HI then (if s.mapValid c then regOf [(31, 31, 1), (19, 0, y / 2 ^ 32)] else 0)
  else if off = rCLU_SCRUB_STAT then BitVec.ofNat 32 x.passes
  else if off = rCLU_REPAIR_STAT then regOf [(31, 31, b2n (x.repaired.length == 32)), (5, 0, x.repaired.length)]
  else if rCLU_REPAIR_ENTRY ≤ off ∧ off < rCLU_REPAIR_ENTRY + 128 then
    (match x.repaired[(off - rCLU_REPAIR_ENTRY) / 4]? with
     | some row => regOf [(31, 31, 1), (17, 0, row)]
     | none => 0)
  else if off = 0x120 then
    BitVec.ofNat 32 (maskOf (fun n => s.pagePend .dma (16 * c + n)) 16 0 + 2 ^ 16 * b2n (s.pagePend .clu c))
  else if off = 0x124 then BitVec.ofNat 32 (maskOf (fun n => s.pagePend .core (48 * c + n)) 32 0)
  else if off = 0x128 then BitVec.ofNat 32 (maskOf (fun n => s.pagePend .core (48 * c + 32 + n)) 16 0)
  else s.reg (aClu c + off)

def State.readChan (s : State) (ch off : Nat) : W32 :=
  let x := s.chan ch
  if off = rDMA_RING_TAIL then regOf [(15, 0, x.tail)]
  else if off = rDMA_RING_HEAD then regOf [(15, 0, x.head)]
  else if off = rDMA_RING_DONE then regOf [(15, 0, x.done)]
  else if off = rDMA_STAT then regOf [(16, 16, b2n x.cfgErr), (15, 8, x.events), (2, 0, x.st)]
  else if off = rDMA_BYTES then BitVec.ofNat 32 (x.bytes / 64)
  else s.reg (aDma ch + off)

def State.readCore (s : State) (i off : Nat) : W32 :=
  let c := s.core i
  if off = rCORE_SEQ_STAT then
    regOf [(23, 16, c.held), (15, 12, (c.flight.filter (fun f => !f.done)).length), (5, 4, c.cause), (1, 0, c.st)]
  else if off = rCORE_QHEAD then regOf [(11, 0, c.qhead)]
  else if off = rCORE_QDONE then regOf [(11, 0, c.qdone)]
  else if off = rCORE_QTAIL then (if s.tailSrc i then regOf [(11, 0, s.qTail i)] else s.reg (aCore i + off))
  else if off = rCORE_WAIT_OBJ then
    (match s.waiterOf (partOfCore i) i with
     | some w => regOf [(16, 16, 1), (15, 0, w.obj)]
     | none => 0)
  else s.reg (aCore i + off)

/-! ## Any address -/

/-- A register of a page, of the host's path. -/
def State.readPage (s : State) (k : PageKind) (i off : Nat) : W32 :=
  if off < 0x040 then s.readHeader k i off
  else match k with
    | .dev => s.readDev off
    | .prompt => if off = rPROMPT_PEND then BitVec.ofNat 32 s.topPend else s.reg (aPrompt + off)
    | .tsu => s.readTsu off
    | .thm => s.readThm off
    | .sec => s.readSec off
    | .cmdmb => s.readMailbox s.mbHost (s.reg (aMb + rCMDMB_BAD_TAG)) off
    | .oio =>
      if 0x100 ≤ off ∧ off < 0x300 then s.readPort (8 * i + (off - 0x100) / 0x40) ((off - 0x100) % 0x40)
      else if 0x300 ≤ off ∧ off < 0x700 then s.readLink (8 * i + (off - 0x300) / 0x80) ((off - 0x300) % 0x80)
      else s.readSite i off
    | .oioPort => s.readPort i off
    | .oioLink => s.readLink i off
    | .part => s.readPart i off
    | .ush => s.readUsher i off
    | .box => s.readBox i off
    | .syn => s.readSync i off
    | .clu => s.readClu i off
    | .dma => s.readChan i off
    | .core => s.readCore i off

/-- META of a sync object: what was written, with WAITED (Table 5-2). -/
def State.metaWord (s : State) (p o : Nat) : W32 :=
  regOf [(30, 30, b2n ((s.sync p).waiters.any (fun w => w.obj == o && !w.met))), (29, 0, s.objMeta p o)]

/-- What a 4-byte aligned BAR0 address reads as; a place that does not answer reads 0 (R372). -/
def State.readAt (s : State) (a : Nat) : W32 :=
  let pl := s.place a
  if s.placeOpen false pl = false then 0
  else match pl with
    | .page k i off => s.readPage k i off
    | .obj p o m => if m then s.metaWord p o else BitVec.ofNat 32 (s.objVal p o)
    | .msix w => s.reg (aMsix + 4 * w)
    | .pba w => BitVec.ofNat 32 (maskOf (fun i => decide (32 * w + i ∈ s.pba)) 32 0)
    | .nothing => 0

end Sys2Proof.Machine
end

