-- ==== Sys2Proof/Machine/MailboxBase.lean ====
section
/-! DEFINITION. The mailbox's two instances (R334, R336): doorbell, the engine's order, completion and events. -/

namespace Sys2Proof.Machine

open Sys2Proof

/-- An instance of the mailbox: the board's, else the host's. -/
def State.mb (s : State) (board : Bool) : MbSt := if board then s.mbBoard else s.mbHost

def State.modMb (s : State) (board : Bool) (f : MbSt → MbSt) : State :=
  if board then { s with mbBoard := f s.mbBoard } else { s with mbHost := f s.mbHost }

/-- Commands of Table 11-9. -/
def cmdDefined (c : Nat) : Bool := (decide (1 ≤ c) && decide (c ≤ 9)) || (decide (0x40 ≤ c) && decide (c ≤ 0x42))

/-- An event of an instance: the host's is one of the CMDMB page, the board's shows in its own registers only. -/
def State.mbEvent (s : State) (board : Bool) (b arg : Nat) : State :=
  if board then s.modMb true (fun m => { m with
    evt := m.evt ||| (1 <<< b), errHead := BitVec.ofNat 32 (2 ^ 31 + b), errCount := satAdd m.errCount 1 })
  else s.evMb b arg

abbrev mOK : Nat := 0x00
abbrev mBADCMD : Nat := 0x01
abbrev mBADARG : Nat := 0x02
abbrev mBADTAG : Nat := 0x03
abbrev mREPLAY : Nat := 0x04
abbrev mLOCKOUT : Nat := 0x05
abbrev mBUSY : Nat := 0x06
abbrev mTEMP : Nat := 0x07
abbrev mNOPROV : Nat := 0x08
abbrev mRESTR : Nat := 0x09
abbrev mIMAGE : Nat := 0x0A
abbrev mASSIGNED : Nat := 0x0B
abbrev mREFUSED : Nat := 0x0C
abbrev mFUSE : Nat := 0x0D
abbrev mFLASH : Nat := 0x0E
abbrev mSCHEMA : Nat := 0x0F

/-- A command ends with a code: STATUS, and DONE with STATUS as its argument. -/
def State.mbEnd (s : State) (board : Bool) (code : Nat) : State :=
  let cmd := leAt (s.mb board).started 0 1
  let s := s.modMb board (fun m => { m with busy := false, code := code, cmd := cmd })
  { s with mbOrder := dropFirst (fun b => b == board) s.mbOrder }.mbEvent board evCMDMB_DONE (256 * code + cmd)

/-- The command at the head of the engine's order, if it is of no defined kind, ends with BAD_CMD. -/
def State.mbSkip (s : State) : State :=
  match s.mbOrder with
  | [] => s
  | b :: _ => if cmdDefined (leAt (s.mb b).started 0 1) then s else s.mbEnd b mBADCMD

/-- A command ends, and the engine turns to the next. -/
def State.mbDone (s : State) (board : Bool) (code : Nat) : State := ((s.mbEnd board code).mbSkip).mbSkip

/-- DOORBELL.GO: the record in CMD_BUF is taken; ignored while the instance is BUSY (R336). -/
def State.doorbell (s : State) (board : Bool) : State :=
  if (s.mb board).busy then s
  else
    let s := s.modMb board (fun m => { m with busy := true, started := m.buf, fallback := false })
    { s with mbOrder := s.mbOrder ++ [board] }.mbSkip

/-- A write into CMD_BUF. -/
def State.writeCmdBuf (s : State) (board : Bool) (i : Nat) (v : W32) : State :=
  s.modMb board (fun m => { m with buf := m.buf.take i ++ leBytes 4 v.toNat ++ m.buf.drop (i + 4) })

end Sys2Proof.Machine
end

