-- ==== Sys2Proof/Machine/RegAccess.lean ====
section
/-! DEFINITION. Register accesses (R13, R15, R364, R371 to R378): a write acts by the access code of the field, or
through the operation of the unit it belongs to; a read clears what is RC and latches GTS_HI. -/

namespace Sys2Proof.Machine

open Sys2Proof

/-! ## By access code -/

/-- PAGE_CTL.LOCK of a page. -/
def State.locked (s : State) (page : Nat) : Bool := rb (s.reg (page + rHDR_PAGE_CTL)) 29

/-- The value a register takes when software writes `v` (Table 0-8). -/
def RegRow.written (r : RegRow) (lock : Bool) (cur v : W32) : W32 :=
  let m := if lock then r.rw else r.rw ||| r.rwl
  ((cur &&& ~~~m) ||| (v &&& m)) &&& ~~~(v &&& r.w1c)

/-- A write of a register that is only storage. -/
def State.plainWrite (s : State) (k : PageKind) (i off : Nat) (v : W32) : State :=
  let page := pageBase k i
  s.setReg (page + off) ((rowAt k off).written (s.locked page) (s.reg (page + off)) v)

/-! ## The header and the enables (R373, R374, R377) -/

/-- The request of a page is active. -/
def State.requestActive (s : State) (page : Nat) : Bool := rb (s.reg (page + rHDR_PAGE_CTL)) 30 && s.irqPend page

/-- A write that makes the request active sends one message. -/
def State.enableWrite (s : State) (page : Nat) (f : State → State) : State :=
  let t := f s
  if s.requestActive page = false ∧ t.requestActive page = true then t.pageMsix page else t

/-- PAGE_CTL: LOG_EN, IRQ_EN and VECTOR, and LOCK, which only a reset clears. -/
def State.writePageCtl (s : State) (k : PageKind) (i : Nat) (v : W32) : State :=
  let page := pageBase k i
  s.enableWrite page (fun s =>
    s.setReg (page + rHDR_PAGE_CTL) ((v &&& 0xC00007FF#32) ||| ((s.reg (page + rHDR_PAGE_CTL) ||| v) &&& 0x20000000#32)))

/-- The source number of a page's block (R34). -/
def State.pageSrc (s : State) (k : PageKind) (i : Nat) : Nat :=
  match k with
  | .dev | .prompt | .part | .clu => srcPrompter
  | .tsu => srcTsu
  | .thm => srcThm
  | .sec => srcSec
  | .cmdmb => srcMb
  | .oio => 0x0C40 + 2 * i + (s.site i).lead
  | .oioPort | .oioLink => srcPort i
  | .ush => srcUsher i
  | .box => srcBox i
  | .syn => srcSync i
  | .dma => srcChan i
  | .core => i

/-- EVT_FORCE: the named bits are set as hardware would; undefined ones are ignored. -/
def State.forceEvents (s : State) (k : PageKind) (i : Nat) (v : W32) : State :=
  let m := (v &&& (rowAt k rHDR_EVT_STAT).w1c).toNat
  if m = 0 then s else s.raiseAll (pageBase k i) (s.pageSrc k i) true ((setBits m 0 32).map ev)

/-- ERR_COUNT_CLR. -/
def State.clearErrCount (s : State) (k : PageKind) (i : Nat) (v : W32) : State :=
  if rb v 0 then s.setReg (pageBase k i + rHDR_ERR_COUNT) 0 else s

def State.writeHeader (s : State) (k : PageKind) (i off : Nat) (v : W32) : State :=
  if off = rHDR_PAGE_CTL then s.writePageCtl k i v
  else if off = rHDR_EVT_EN then s.enableWrite (pageBase k i) (fun s => s.plainWrite k i off v)
  else if off = rHDR_EVT_FORCE then s.forceEvents k i v
  else if off = rHDR_ERR_COUNT_CLR then s.clearErrCount k i v
  else s.plainWrite k i off v

/-! ## Pages whose registers act -/

def State.writeDev (s : State) (off : Nat) (v : W32) : State :=
  if off = rDEV_PEER_A then s.writePeer false v
  else if off = rDEV_PEER_B then s.writePeer true v
  else if off = rDEV_CROUTE then
    { s with croutes := tblSet 0 s.croutes (s.fld (aDev + rDEV_CROUTE_SEL) 5 0) (v &&& 0xFF00003F#32) }
  else if off = rDEV_FAB_EVT_EN then s.enableWrite aDev (fun s => s.plainWrite .dev 0 off v)
  else s.plainWrite .dev 0 off v

def State.writeTsu (s : State) (off : Nat) (v : W32) : State :=
  if off = rTSU_TSU_CFG then s.writeTsuCfg v
  else if off = rTSU_GTS_CMD then (if rb v 0 then s.captureSet else s)
  else if off = rTSU_RATE_ADJ then s.writeRate v
  else if off = rTSU_ASYM_VAL then
    s.modTsu (fun t => { t with asym := tblSet 0 t.asym (s.fld (aTsu + rTSU_ASYM_SEL) 5 0) v.toNat })
  else if off = rTSU_CUE_ACT then s.writeCue v
  else s.plainWrite .tsu 0 off v

/-- A write of BOARD_CAP, over any path; before step 7 the value only waits (R298, R316). -/
def State.writeBoardCap (s : State) (v : W32) : State :=
  let s := s.setFld (aThm + rTHM_BOARD_CAP) 15 0 v.toNat
  if s.pwr.step < 7 then s else s.applyBoardCap

/-- A write of a THM register; a lowered DEV_LIMIT lowers the budgets as a lowered BOARD_CAP does (R298). -/
def State.writeThm (s : State) (off : Nat) (v : W32) : State :=
  if off = rTHM_BOARD_CAP then s.writeBoardCap v
  else if off = rTHM_DEV_LIMIT then
    let s := s.plainWrite .thm 0 off v
    if s.pwr.step < 7 then s else s.applyBoardCap
  else s.plainWrite .thm 0 off v

/-- A register of an instance of the mailbox above the header. -/
def State.writeMailbox (s : State) (board : Bool) (off : Nat) (v : W32) : State :=
  if off = rCMDMB_DOORBELL then (if rb v 0 then s.doorbell board else s)
  else if 0x100 ≤ off ∧ off < 0x200 then s.writeCmdBuf board (off - 0x100) v
  else s

/-- HS_ENTRY_A or HS_ENTRY_B of the inactive bank; the active one ignores writes. -/
def State.writeHsEntry (s : State) (k : Nat) (b : Bool) (v : W32) : State :=
  if s.fld (aOio k + rOIO_HS_SEL) 15 15 = 1 then s
  else s.modHs (s.hsPort k) (fun h =>
    let old := tblGet (0, 0) h.entries (s.hsEntryKey k)
    let new := if b then (old.1, v &&& 0x7FFF#32) else (v &&& 0xF000FFFF#32, old.2)
    { h with entries := tblSet (0, 0) h.entries (s.hsEntryKey k) new })

/-- HS_CTL: each bit acts on the selected port. -/
def State.writeHsCtl (s : State) (port : Nat) (v : W32) : State :=
  let s := if rb v 0 then s.hsSwap port else s
  let s := if rb v 1 then s.hsStop port else s
  if rb v 2 then s.startRanging port else s

def State.writeSite (s : State) (k off : Nat) (v : W32) : State :=
  if off = rOIO_LASER_CMD then (if rb v 0 then s.uncross k else s)
  else if off = rOIO_IM_REQ then s.imWrite k v
  else if off = rOIO_UND_CMD then
    let s := if rb v 0 && (s.site k).isReady then s.modSite k (fun x => { x with force := true }) else s
    if rb v 1 then s.clearFailed k else s
  else if off = rOIO_HS_ENTRY_A then s.writeHsEntry k false v
  else if off = rOIO_HS_ENTRY_B then s.writeHsEntry k true v
  else if off = rOIO_HS_CFG then
    (if (s.hs (s.hsPort k)).running then s
     else s.modHs (s.hsPort k) (fun h => { h with slots := rf v 25 16, flits := rf v 6 0 }))
  else if off = rOIO_HS_CTL then s.writeHsCtl (s.hsPort k) v
  else s.plainWrite .oio k off v

/-- PORTn_CTL: a port that is disabled goes down first; the caps; then a port that is enabled begins to train. -/
def State.writePortCtl (s : State) (port : Nat) (v : W32) : State :=
  let s := if rb v 31 then s else s.disablePort port
  let s := s.writeCaps port v
  if rb v 31 then s.enablePort port else s

def State.writePort (s : State) (port off : Nat) (v : W32) : State :=
  if off = rOIOPORT_CTL then (s.writePortCtl port v).steerHome port
  else if off = rOIOPORT_SPOT then (s.plainWrite .oioPort port off v).steerHome port
  else if off = rOIOPORT_CMD then (if rb v 0 then s.requal port else s)
  else s.plainWrite .oioPort port off v

def State.writeLink (s : State) (port off : Nat) (v : W32) : State :=
  if off = rOIOLINK_LNK_CFG then
    (if s.portEn port then s.setFld (aLnk port + rOIOLINK_LNK_CFG) 6 0 (rf v 6 0) else s.plainWrite .oioLink port off v)
  else if off = rOIOLINK_CRED_CFG then
    (if s.portEn port then s
     else
      let sel := s.reg (aLnk port + rOIOLINK_LNK_SEL)
      s.modPort port (fun x => { x with creds := tblSet 0 x.creds (2 * rf sel 10 8 + rf sel 11 11) (rf v 15 0 + 1) }))
  else if off = rOIOLINK_LNK_EVT_EN then s.enableWrite (aOio (port / 8)) (fun s => s.plainWrite .oioLink port off v)
  else s.plainWrite .oioLink port off v

def State.writeUsher (s : State) (p off : Nat) (v : W32) : State :=
  if off = rUSH_REQ_TAIL then s.writeReqTail p v
  else if off = rUSH_EXPORT_CFG then s.writeExport p v
  else s.plainWrite .ush p off v

def State.writeSync (s : State) (p off : Nat) (v : W32) : State :=
  if off = rSYN_HOST_ADD then s.objOp p (s.fld (aSyn p + rSYN_HOST_ADD_OBJ) 15 0) false v.toNat
  else if off = rSYN_PEER_CTL then
    let s := if rb v 0 then s.resend p else s
    if rb v 1 then s.discard p else s
  else s.plainWrite .syn p off v

def State.writeChan (s : State) (ch off : Nat) (v : W32) : State :=
  if off = rDMA_RING_TAIL then s.writeRingTail ch v
  else if off = rDMA_CTL then (if rb v 31 then s.enableChan ch v else s.disableChan ch v)
  else if off = rDMA_CMD then
    let s := if rb v 0 then s.abort ch else s
    if rb v 1 then s.resumeChan ch else s
  else if off = rDMA_RING_BASE_LO ∨ off = rDMA_RING_BASE_HI ∨ off = rDMA_RING_SIZE then
    (if (s.chan ch).st = hDISABLED then s.plainWrite .dma ch off v else s)
  else s.plainWrite .dma ch off v

/-- SEQ_CMD: each bit acts on the state at the write. -/
def State.writeSeqCmd (s : State) (i : Nat) (v : W32) : State :=
  let st := (s.core i).st
  let s := if rb v 2 && st == cHALTED then s.returnAll i else s
  let s := if rb v 1 && st != cHALTED then s.stop i else s
  if rb v 0 && st == cHALTED then s.start i else s

def State.writeCore (s : State) (i off : Nat) (v : W32) : State :=
  if off = rCORE_SEQ_CMD then s.writeSeqCmd i v
  else if off = rCORE_QHEAD then s.writeQhead i v
  else if off = rCORE_QTAIL then s.writeQtail i v
  else if off = rCORE_QBASE ∨ off = rCORE_QSIZE then
    (if (s.core i).st = cHALTED then s.plainWrite .core i off v else s)
  else if off = rCORE_QCTL then (s.plainWrite .core i off v).fetch i
  else s.plainWrite .core i off v

/-- A 4-byte write of a register of a page, over the host's path. -/
def State.writePage (s : State) (k : PageKind) (i off : Nat) (v : W32) : State :=
  if off < 0x040 then s.writeHeader k i off v
  else match k with
    | .dev => s.writeDev off v
    | .tsu => s.writeTsu off v
    | .thm => s.writeThm off v
    | .cmdmb => s.writeMailbox false off v
    | .oio =>
      if 0x100 ≤ off ∧ off < 0x300 then s.writePort (8 * i + (off - 0x100) / 0x40) ((off - 0x100) % 0x40) v
      else if 0x300 ≤ off ∧ off < 0x700 then s.writeLink (8 * i + (off - 0x300) / 0x80) ((off - 0x300) % 0x80) v
      else s.writeSite i off v
    | .oioPort => s.writePort i off v
    | .oioLink => s.writeLink i off v
    | .part => if off = rPART_RESET_CTL then s.writeResetCtl i v else s.plainWrite .part i off v
    | .ush => s.writeUsher i off v
    | .box => if off = rBOX_BUDGET_CTL then (if rb v 0 then s.commit i else s) else s.plainWrite .box i off v
    | .syn => s.writeSync i off v
    | .dma => s.writeChan i off v
    | .core => s.writeCore i off v
    | .prompt => s.plainWrite .prompt 0 off v
    | .sec => s.plainWrite .sec 0 off v
    | .clu => s.plainWrite .clu i off v

/-! ## MSI-X (R374) -/

/-- A vector is unmasked: a pending message is sent. -/
def State.unmask (s : State) (v : Nat) : State :=
  let s := s.setFld (aMsix + 16 * v + 12) 0 0 0
  if v ∈ s.pba then { s with pba := s.pba.filter (fun x => x != v) }.emit (.msix v) else s

/-- A write of a word of the MSI-X table: address and data as written, of the vector control only the mask. -/
def State.writeMsix (s : State) (w : Nat) (v : W32) : State :=
  if w % 4 = 3 then (if rb v 0 then s.setFld (aMsix + 4 * w) 0 0 1 else s.unmask (w / 4))
  else s.setReg (aMsix + 4 * w) v

/-! ## Any address of BAR0 (R371, R372, R376) -/

/-- An aligned 4-byte write. -/
def State.writeAt (s : State) (a : Nat) (v : W32) : State :=
  let pl := s.place a
  if s.placeOpen true pl = false then s
  else match pl with
    | .page k i off => s.writePage k i off v
    | .obj p o m =>
      if m then s.modSync p (fun y => { y with metas := tblSet 0 y.metas o (v.toNat % 2 ^ 30) }) else s.objOp p o true v.toNat
    | .msix w => s.writeMsix w v
    | .pba _ => s
    | .nothing => s

/-- An access that R376 ignores or refuses. -/
def State.badAccess (s : State) : State :=
  s.onPage .prompt 0 (fun s => (s.bump (aPrompt + rPROMPT_BAD_ACCESS) 1).evPrompt evPROMPT_ACCESS_BAD)

/-- A host write: one or two aligned words, anything else ignored and counted. -/
def State.hostWriteReg (s : State) (a : Nat) (d : List Byte) : State :=
  if d.length = 4 ∧ a % 4 = 0 then s.writeAt a (BitVec.ofNat 32 (leOf d))
  else if d.length = 8 ∧ a % 8 = 0 then
    (s.writeAt a (BitVec.ofNat 32 (leOf d))).writeAt (a + 4) (BitVec.ofNat 32 (leAt d 4 4))
  else s.badAccess

/-- What a read does to the register it reads: RC fields clear, GTS_LO latches GTS_HI. -/
def State.readEffect (s : State) (a : Nat) : State :=
  let pl := s.place a
  if s.placeOpen false pl = false then s
  else match pl with
    | .page k i off =>
      let page := pageBase k i
      if k = .tsu ∧ off = rTSU_GTS_LO then s.modTsu (fun t => { t with hi := t.gts / 2 ^ 32 })
      else if k = .oio ∧ off = rOIO_HS_FOREIGN then s.modHs (s.hsPort i) (fun h => { h with foreign := 0 })
      else if k = .oio ∧ off = rOIO_HS_CUE_BAD then s.modHs (s.hsPort i) (fun h => { h with cueBad := 0 })
      else
        let m := (rowAt k off).rc
        if m = 0 then s else s.setReg (page + off) (s.reg (page + off) &&& ~~~m)
    | _ => s

/-- An aligned 4-byte read: the new state and the value. -/
def State.readWord (s : State) (a : Nat) : State × W32 := (s.readEffect a, s.readAt a)

/-- A host read of `n` bytes, with what it answers (R376). -/
def State.hostReadReg (s : State) (a n : Nat) : State :=
  if n = 4 ∧ a % 4 = 0 then
    let r := s.readWord a
    r.1.emit (.readData (leBytes 4 r.2.toNat))
  else if n = 8 ∧ a % 8 = 0 then
    let r := s.readWord a
    let q := r.1.readWord (a + 4)
    q.1.emit (.readData (leBytes 4 r.2.toNat ++ leBytes 4 q.2.toNat))
  else if n < 4 ∧ a % 4 + n ≤ 4 ∧ n ≠ 0 then
    let r := s.readWord (a - a % 4)
    r.1.emit (.readData (slice (leBytes 4 r.2.toNat) (a % 4) n))
  else s.badAccess.emit (.readData (List.replicate n 0))

/-! ## The board's paths (R334, R364) -/

/-- The page that an address of the board's paths lies in: DEV, PROMPT, TSU, THM and SEC answer there too (R316). -/
def boardPage (a : Nat) : Option (PageKind × Nat) :=
  [(PageKind.dev, aDev), (.prompt, aPrompt), (.tsu, aTsu), (.thm, aThm), (.sec, aSec), (.cmdmb, aMb)].find? (fun x =>
    decide (x.2 ≤ a) && decide (a < x.2 + 0x1000))

/-- Whether the board's paths reach an aligned word. -/
def State.boardReach (s : State) (a : Nat) : Bool :=
  a % 4 == 0 && (match boardPage a with
    | some x => s.pageOpen x.1 0 true
    | none => false)

/-- A header register of the board's instance. -/
def State.boardHeader (s : State) (off : Nat) : W32 :=
  let m := s.mbBoard
  if off = rHDR_PAGE_CTL then m.pageCtl
  else if off = rHDR_PAGE_STAT then regOf [(2, 2, b2n ((m.evt &&& m.evtEn) != 0)), (1, 1, rf m.pageCtl 29 29), (0, 0, 1)]
  else if off = rHDR_EVT_STAT then m.evt
  else if off = rHDR_EVT_EN then m.evtEn
  else if off = rHDR_ERR_LOG_HEAD then m.errHead
  else if off = rHDR_ERR_COUNT then m.errCount
  else s.readHeader .cmdmb 0 off

/-- A word read over the board's paths; the CMDMB page shows the board's own instance. -/
def State.boardRead (s : State) (a : Nat) : W32 :=
  if s.boardReach a = false then 0
  else match boardPage a with
    | some (.cmdmb, _) =>
      if a - aMb < 0x40 then s.boardHeader (a - aMb) else s.readMailbox s.mbBoard s.mbBoard.badTag (a - aMb)
    | _ => s.readAt a

/-- A write of a header register of the board's instance. -/
def State.boardHeaderWrite (s : State) (off : Nat) (v : W32) : State :=
  s.modMb true (fun m =>
    if off = rHDR_PAGE_CTL then { m with pageCtl := (v &&& 0xC00007FF#32) ||| ((m.pageCtl ||| v) &&& 0x20000000#32) }
    else if off = rHDR_EVT_STAT then { m with evt := m.evt &&& ~~~v }
    else if off = rHDR_EVT_EN then { m with evtEn := v }
    else if off = rHDR_EVT_FORCE then
      let b := setBits v.toNat 0 3
      if b = [] then m
      else { m with
        evt := m.evt ||| (v &&& 7#32), errHead := BitVec.ofNat 32 (2 ^ 31 + b.getLast?.getD 0)
        errCount := satAdd m.errCount b.length }
    else if off = rHDR_ERR_COUNT_CLR ∧ rb v 0 = true then { m with errCount := 0 }
    else m)

/-- A word written over SMBus or I3C. -/
def State.boardWrite (s : State) (a : Nat) (v : W32) : State :=
  if s.boardReach a = false then s
  else match boardPage a with
    | some (.cmdmb, _) => if a - aMb < 0x40 then s.boardHeaderWrite (a - aMb) v else s.writeMailbox true (a - aMb) v
    | _ => s.writeAt a v

/-- A word read over SMBus or I3C. -/
def State.boardReadEffect (s : State) (a : Nat) : State :=
  if s.boardReach a = false then s
  else match boardPage a with
    | some (.cmdmb, _) => if a - aMb = rCMDMB_BAD_TAG then s.modMb true (fun m => { m with badTag := 0 }) else s
    | _ => s.readEffect a

/-! ## The commands -/

/-- REGISTER_WRITE. -/
def execRegisterWrite (path : Path) (addr : Nat) (data : List Byte) (s : State) : Host.Outcome State Fault Refusal :=
  .next (if path = .host then s.hostWriteReg addr data
    else if data.length = 4 then s.boardWrite addr (BitVec.ofNat 32 (leOf data)) else s)
/-- RC_READ: a read of any register, RC fields clearing. -/
def execRcRead (path : Path) (addr len : Nat) (s : State) : Host.Outcome State Fault Refusal :=
  .next (if path = .host then s.hostReadReg addr len
    else if len = 4 then (s.boardReadEffect addr).emit (.readData (leBytes 4 (s.boardRead addr).toNat)) else s)
/-- GTS_LO_READ. -/
def execGtsLoRead (len : Nat) (s : State) : Host.Outcome State Fault Refusal :=
  .next (s.hostReadReg (aTsu + rTSU_GTS_LO) len)
/-- EVT_FORCE_WRITE: `page` is the page's address in BAR0. -/
def execEvtForceWrite (page : Nat) (v : W32) (s : State) : Host.Outcome State Fault Refusal :=
  .next (match s.place (page / 4096 * 4096) with
    | .page k i _ => s.onPage k i (fun s => s.forceEvents k i v)
    | _ => s)
/-- EVT_EN_WRITE: a write of an enable register or of PAGE_CTL. -/
def execEvtEnWrite (addr : Nat) (v : W32) (s : State) : Host.Outcome State Fault Refusal :=
  .next (if addr % 4 ≠ 0 then s.badAccess
    else match s.place addr with
    | .page k i off =>
      if off = rHDR_EVT_EN ∨ off = rHDR_PAGE_CTL then s.onPage k i (fun s => s.writeHeader k i off v)
      else if k = .dev ∧ off = rDEV_FAB_EVT_EN then
        s.onPage k i (fun s => s.enableWrite aDev (fun s => s.plainWrite .dev 0 off v))
      else if k = .oio ∧ 0x300 ≤ off ∧ off < 0x700 ∧ off % 0x80 = rOIOLINK_LNK_EVT_EN then
        s.onPage k i (fun s => s.enableWrite (aOio i) (fun s =>
          s.plainWrite .oioLink (8 * i + (off - 0x300) / 0x80) ((off - 0x300) % 0x80) v))
      else s
    | _ => s)
/-- ERR_COUNT_CLR. -/
def execErrCountClr (page : Nat) (v : W32) (s : State) : Host.Outcome State Fault Refusal :=
  .next (match s.place (page / 4096 * 4096) with
    | .page k i _ => s.onPage k i (fun s => s.clearErrCount k i v)
    | _ => s)
/-- MSI_X_VECTOR_UNMASK. -/
def execMsiXVectorUnmask (vec : Nat) (s : State) : Host.Outcome State Fault Refusal :=
  .next (if s.placeOpen true (.msix (4 * vec)) then s.unmask vec else s)

end Sys2Proof.Machine
end

