-- ==== Sys2Proof/Machine/Reset.lean ====
section
/-! DEFINITION. Partition and device resets (R327 to R329, R247, R341). A reset is one step of the model (log 47); what
the manual leaves between its lines is in log 52. -/

namespace Sys2Proof.Machine

open Sys2Proof

/-- Replaces the state of clocks, resets and pins. -/
def State.setPwr (s : State) (x : PwrSt) : State := { s with pwr := x }

/-! ## Parts of a partition reset (Tables 11-7 and 11-8) -/

/-- A request that another partition's agent waits for: native READ or WRITE, a collective or a partner request. -/
def isRequest (m : Msg) : Bool :=
  ((m.profile == profNative || m.profile == profMp) && (leAt m.body 0 1 % 16 == 1 || leAt m.body 0 1 % 16 == 2))
    || m.profile == profColl

/-- A waiting request is answered: HANDLE_INVALID, or ADDR_ERROR of the memory profile (log 34). -/
def State.refuseRequest (s : State) (p : Nat) (m : Msg) : State :=
  let s := s.takeMsg p m
  if m.profile = profMp then
    let b := m.body
    (if mpOp b = 1 then s.reply p m 3 profMp (mpHeader 8 1 (mpLen b - 1) (mpTag b) (mpAddr b) 0 ++ List.replicate (64 * mpLen b) 0#8)
     else s.reply p m 3 profMp (mpHeader 9 1 (mpLen b - 1) (mpTag b) (mpAddr b) 0))
  else s.natError p m 3

/-- Whether a waiting message came over a link of the partition itself. -/
def overOwn (p : Nat) (a : Arrived) : Bool := a.link != noLink && partOfPort (portOfLink a.link) == p

/-- Requests of other partitions that wait at the partition complete with HANDLE_INVALID. -/
def State.refuseAll (s : State) (p : Nat) : State :=
  ((s.inboxOf p).filter (fun a => isRequest a.msg && !overOwn p a)).foldl (fun s a => s.refuseRequest p a.msg) s

/-- Requests of the partition that wait at other partitions are discarded. -/
def State.discardRequests (s : State) (p : Nat) : State :=
  (List.range 4).foldl (fun s q =>
    if q = p then s
    else ((s.inboxOf q).filter (fun a => isRequest a.msg && a.msg.srcDev == s.device && a.msg.srcPart == p)).foldl
      (fun s a => s.takeMsg q a.msg) s) s

/-- The messages that the partition held for other ranks, or in the receive buffers of its links, are dropped; those for its own units are discarded. -/
def State.dropRelay (s : State) (p : Nat) : State :=
  let as_ := s.relayOf p ++ s.relayOf (4 + p)
  let s := (s.inboxOf p).foldl (fun s a => s.takeMsg p a.msg) ((s.setRelay p []).setRelay (4 + p) [])
  as_.foldl (fun s a =>
    if a.msg.srcDev = s.device ∧ a.msg.srcPart = p then s.freeCredits a.link a.msg
    else (s.freeCredits a.link a.msg).dropMsg p a.msg (if a.link = noLink then 1024 * p else a.link) 6) s

/-- Cue entries with PART = p are disarmed. -/
def State.disarmCues (s : State) (p : Nat) : State :=
  (List.range 256).foldl (fun s i => if (s.cue i).part = p then s.modCue i (fun c => { c with en := false }) else s) s

/-- Whether another partition holds a tenant. -/
def State.tenantElsewhere (s : State) (p t : Nat) : Bool :=
  (List.range 4).any (fun q => q != p && (s.part q).st == 1 && (s.part q).tenant == t)

/-- The partition has no tenant any more; its key leaves every site, unless another partition holds the tenant (R341). -/
def State.clearTenant (s : State) (p : Nat) : State :=
  let t := (s.part p).tenant
  let s' := s.modPart p (fun x => { x with tenant := 0 })
  if t = 0 ∨ s.tenantElsewhere p t = true then s'
  else (List.range 8).foldl (fun s k => s.modSite k (fun x => { x with keys := tblSet [] x.keys t [] })) s'

/-- All memory of a partition is zero: its slices and the scratch of its cores. -/
def State.zeroPartition (s : State) (p : Nat) : State :=
  (s.zeroMem (sliceAddr p 0 0) (2 ^ 31)).zeroMem (scratchAddr (576 * p) 0) (576 * 2 ^ 18)

/-- The controllers, rings, ports and links of a site start anew; its lasers, its chiplet's selection and its keys stay. -/
def State.resetSite (s : State) (k : Nat) : State :=
  let s := s.modSite k (fun x => { SiteSt.init with
    status := x.status, checkFails := x.checkFails, sel := x.sel, desc := x.desc
    laserA := x.laserA, laserB := x.laserB, cross := x.cross, ramp := x.ramp, rampFail := x.rampFail
    survivor := x.survivor, keys := x.keys })
  let rings := tblClear (fun i => i / 288 == k) s.rings
  let ports := tblClear (fun i => i / 8 == k) s.ports
  let links := tblClear (fun i => i / 512 == k) s.links
  let s := { s with rings := rings, ports := ports, links := links }
  let s := (portsOf k).foldl (fun s port => s.modPort port (fun x => { x with imEnd := s.ctrlClk })) s
  s.resetPages (aOio k) (aOio k + 0x1000) (fun a => a == aOio k + rOIO_LASER_CTL)

/-- Usher's metadata is built by a value of META_CFG (R103, R104). -/
def State.usherStart (s : State) (p : Nat) (meta_ : W32) (carve : Bool) : State :=
  let u := { UshSt.init with
    htLog2 := max 12 (min 20 (rf meta_ 4 0)), smLog2 := max 14 (min 21 (rf meta_ 12 8)), carve := carve }
  s.setUsher p { u with usable := u.usablePages }

/-- A partition's units in reset: links down, clusters reset, memory zero, sync objects, tenant, tables and pages
cleared. -/
def State.partClear (s : State) (p : Nat) : State :=
  let s := (s.modPart p (fun x => { x with st := 2 })).disarmCues p
  let s := (s.refuseAll p).discardRequests p
  let s := ((s.siteDown (2 * p) cRESET).siteDown (2 * p + 1) cRESET).dropRelay p
  let s := (List.range 12).foldl (fun s c => s.resetClusterNow (12 * p + c)) s
  let s := ((s.zeroPartition p).setSync p SynSt.init).setUsher p UshSt.init
  let s := (s.endLoans p).clearTenant p
  let s := (s.resetSite (2 * p)).resetSite (2 * p + 1)
  s.resetPages (aPart p) (aPart p + 0x800000) (fun a => a == aBox p + rBOX_BUDGET_NEXT)

/-- Whether a BAR0 address lies in the pages of a partition or its two sites. -/
def ofPartition (p a : Nat) : Bool :=
  (decide (aPart p ≤ a) && decide (a < aPart p + 0x800000)) || (decide (aOio (2 * p) ≤ a) && decide (a < aOio (2 * p + 2)))

/-- The register writes by which firmware applies the settings, those that `f` selects. -/
def State.applySettings (s : State) (f : Nat → Bool) : State :=
  (s.sec.applied.filter (fun w => f w.1)).foldl (fun s w => s.writeAt w.1 w.2) s

/-- Locks of a partition's pages. -/
def State.lockPartition (s : State) (p : Nat) : State :=
  (List.range 576).foldl (fun s n => s.lockPage (aCore (576 * p + n))) (s.lockPage (aUsh p))

/-- An enabled port begins training. -/
def State.startPort (s : State) (port : Nat) : State :=
  if s.canTrain port && (s.port port).st == pDOWN then (s.beginTraining port false).linksToPhy port else s

/-- The rings of a site that its fuses name as failed (R317). -/
def State.fuseRings (s : State) (k : Nat) : State :=
  (s.fuses.ringsBad.filter (fun g => siteOfRing g == k)).foldl (fun s g => s.modRing g (fun r => { r with st := gFAILED })) s

/-- The ports of a site begin training. -/
def State.startSite (s : State) (k : Nat) : State := (portsOf k).foldl (fun s port => s.startPort port) (s.fuseRings k)

/-- A port takes LEVEL and LINKS from its role, and a house port the width cap of 8 λ (R261, R266). -/
def State.setRole (s : State) (port : Nat) : State :=
  let level := s.roleLevel port
  let s := (s.setFld (aLnk port + rOIOLINK_LNK_CFG) 31 30 level).setFld (aLnk port + rOIOLINK_LNK_CFG) 6 0 (if level = 1 then 16 else 1)
  if level = 1 then s.setFld (aPort port + rOIOPORT_CTL) 1 0 2 else s

/-- Firmware configures the ports by their roles and applies the settings, to the pages that `f` selects; the width cap of a
house port stands whatever the settings hold (log 82). -/
def State.configure (s : State) (f : Nat → Bool) : State :=
  let ports := (List.range 64).filter (fun port => f (aPort port))
  let s := (ports.foldl (fun s port => s.setRole port) s).applySettings f
  (ports.filter (fun port => s.roleLevel port == 1)).foldl (fun s port => s.setFld (aPort port + rOIOPORT_CTL) 1 0 2) s

/-- The schedules of a device that knows its house start again. -/
def State.restartHouse (s : State) : State := if s.deviceValid && s.fab.house.isSome then s.startHouse s.fab.startGts else s

/-- One partition reset (R328). -/
def State.partReset (s : State) (p : Nat) : State :=
  let meta_ := s.reg (aUsh p + rUSH_META_CFG)
  let budget := (s.box p).budget
  let s := (s.partClear p).boxStart p budget
  let s := (s.usherStart p meta_ (s.profile == 2)).modPart p (fun x => { x with st := 0 })
  let s := (s.configure (ofPartition p)).lockPartition p
  let s := ((s.startSite (2 * p)).startSite (2 * p + 1)).restartHouse
  s.evPart p evPART_RESET_DONE

/-- A partition that a clock fault holds in reset until a device reset (R31). -/
def State.holdPartition (s : State) (p : Nat) : State :=
  let s := if (s.part p).st = 3 then s else s.partClear p
  s.setPwr { s.pwr with pllHeld := s.pwr.pllHeld ++ (if p ∈ s.pwr.pllHeld then [] else [p]) }

/-! ## Device reset (R247, R313, R327) -/

/-- Every link goes down. -/
def State.allDown (s : State) (cause : Nat) : State := (List.range 8).foldl (fun s k => s.siteDown k cause) s

/-- What a device reset leaves: everything at its reset value but fuses, flash and what lies outside the device. -/
def State.toReset (s : State) (cause : Nat) : State :=
  { State.reset with
    freeCtr := s.freeCtr
    wire := s.wire
    host := s.host
    hostBad := s.hostBad
    flash := s.flash
    fuses := s.fuses
    pending := s.pending
    pwr := { PwrSt.init with pwrgd := s.pwr.pwrgd, perstN := s.pwr.perstN, trip := s.pwr.trip, cause := cause } }

/-- A device reset: links down with RESET first. -/
def State.devReset (s : State) (cause : Nat) : State := (s.allDown cRESET).toReset cause

/-- DEVICE_RESET: the reset that a command scheduled. -/
def execDeviceReset (s : State) : Host.Outcome State Fault Refusal :=
  .next (match s.pwr.resetDue with
    | some c => s.devReset c
    | none => s)

/-- PWRGD_FALL: the trip latch is released. -/
def execPwrgdFall (s : State) : Host.Outcome State Fault Refusal :=
  .next (let t := s.devReset 0
    t.setPwr { t.pwr with pwrgd := false, trip := false })

/-- PERST_N: no effect while PWRGD is low. -/
def execPerstN (s : State) : Host.Outcome State Fault Refusal :=
  .next (if s.pwr.pwrgd = false then s.setPwr { s.pwr with perstN := false }
    else
      let t := s.devReset 1
      t.setPwr { t.pwr with perstN := false })

/-- THERMAL_TRIP: no DOWN is sent, and nothing runs until PWRGD falls. -/
def execThermalTrip (s : State) : Host.Outcome State Fault Refusal :=
  .next (if s.pwr.trip = true ∨ s.pwr.pwrgd = false then s
    else
      let t := s.toReset s.pwr.cause
      (t.setPwr { t.pwr with trip := true }).emit .thermtrip)

/-! ## Clock faults (Table 1-9) -/

/-- The clocks of the prompter run and its logs exist. -/
def State.prompterUp (s : State) : Bool := !s.pwr.inReset && !s.pwr.trip

/-- REF_LOST: a LOCKED time-stamp unit enters HOLDOVER. -/
def execRefLost (s : State) : Host.Outcome State Fault Refusal :=
  .next (if s.prompterUp = false ∨ s.pwr.refLost = true then s
    else
      let s := (s.setPwr { s.pwr with refLost := true }).emit (.logged .refLost)
      if s.tsu.state = tLOCKED then s.enterHoldover else s)

/-- REF_RESTORED: discipline resumes with the next exchange. -/
def execRefRestored (s : State) : Host.Outcome State Fault Refusal :=
  .next (if s.prompterUp = false ∨ s.pwr.refLost = false ∨ s.pwr.clockFatal = true then s
    else (s.setPwr { s.pwr with refLost := false }).emit (.logged .refRestored))

/-- CLOCK_FATAL. -/
def execClockFatal (s : State) : Host.Outcome State Fault Refusal :=
  .next (if s.prompterUp = false ∨ s.pwr.refLost = false ∨ s.pwr.clockFatal = true then s
    else
      let s := (s.emit (.logged .clockFatal)).allDown cCLOCK
      let s := s.setPwr { s.pwr with clockFatal := true }
      (List.range 4).foldl (fun s p => s.holdPartition p) s)

/-- The ring pairs that a compute die has a module of (Table 1-3). -/
def ringsOfDie (p : Nat) : List Nat := [[0, 3], [0, 1], [2, 3], [1, 2]].getD p []

/-- PLL_UNLOCK: partition `p` is held in reset and its ring pairs and site links are down; die 0 holds the device. -/
def execPllUnlock (p : Nat) (s : State) : Host.Outcome State Fault Refusal :=
  .next (if s.prompterUp = false ∨ p ∈ s.pwr.pllHeld then s
    else
      let s := s.emit (.logged (.pllUnlock p))
      if p = 0 then
        let t := s.devReset s.pwr.cause
        t.setPwr { t.pwr with pllHeld := [0] }
      else
        let s := s.holdPartition p
        s.setPwr { s.pwr with retraining := distinct (s.pwr.retraining ++ ringsOfDie p ++ [8 + 2 * p, 9 + 2 * p]) })

/-- The ring pairs and site links with a module on a die: compute dies 0 to 3, then the DL8s. -/
def modulesOf (die : Nat) : List Nat := if die < 4 then ringsOfDie die ++ [8 + 2 * die, 9 + 2 * die] else [4 + die]

/-- D2D_PLL_UNLOCK: every module of the die retrains. -/
def execD2dPllUnlock (die : Nat) (s : State) : Host.Outcome State Fault Refusal :=
  .next (if s.prompterUp = false then s
    else s.setPwr { s.pwr with retraining := distinct (s.pwr.retraining ++ modulesOf die) })

/-- Whether a clock fault keeps a ring pair or a site link down. -/
def State.keptDown (s : State) (i : Nat) : Bool := s.pwr.pllHeld.any (fun p => decide (i ∈ modulesOf p))

/-- The messages of a partition's buffer that can go on do so, in their order; `j` of them stayed before. -/
def State.releaseFrom : Nat → Nat → Nat → State → State
  | 0, _, _, s => s
  | n + 1, p, j, s =>
    let t := s.relayForward p j
    State.releaseFrom n p (if (t.relayOf p).length < (s.relayOf p).length then j else j + 1) t

/-- Traffic that was held for a way that is back goes on: messages, and channels whose ring could not be read. -/
def State.releaseHeld (s : State) : State :=
  let s := (List.range 4).foldl (fun s p => State.releaseFrom (s.relayOf p).length p 0 s) s
  (s.chans.map Prod.fst).foldl (fun s ch => s.chanGo ch) s

/-- UCIE_RETRAIN_COMPLETE. -/
def execUcieRetrainComplete (ring : Bool) (i : Nat) (s : State) : Host.Outcome State Fault Refusal :=
  .next (
    let x := if ring then i else 8 + i
    if x ∉ s.pwr.retraining ∨ s.keptDown x = true then s
    else (s.setPwr { s.pwr with retraining := s.pwr.retraining.filter (fun y => y != x) }).releaseHeld)

/-- SYNTH_UNLOCK: the eight ports of the site go down. -/
def execSynthUnlock (k : Nat) (s : State) : Host.Outcome State Fault Refusal :=
  .next (if s.prompterUp = false then s
    else
      let s := s.setPwr { s.pwr with synthBad := distinct (s.pwr.synthBad ++ [k]) }
      s.siteDown k cCLOCK)

end Sys2Proof.Machine
end

