-- ==== Sys2Proof/Machine/Images.lean ====
section
/-! DEFINITION. The flash: programming it, the control record, firmware images and settings blobs (R331 to R333, R347,
R348). Choices are in logs 53 and 54. -/

namespace Sys2Proof.Machine

open Sys2Proof

/-! ## Programming -/

/-- Flash is erased and programmed; a program that fails leaves bytes that are not known. -/
def State.program (s : State) (a : Nat) (bs : List Byte) : State × Bool :=
  let ok := Config.flashOk s.freeCtr
  let data := if ok then bs else (List.range bs.length).map (Config.randomByte s.freeCtr)
  (s.tick.flashWrite a data, ok)

/-- Pages of 256 bytes that a write touches. -/
def pagesOf (a n : Nat) : Nat := ceilDiv (a % 256 + n) 256

/-- Where a write of `n` bytes stops: the first page after the first before which the window is found to hold no more
(R304). -/
def State.stopsAt (s : State) (a n : Nat) : Option Nat :=
  (List.range (pagesOf a n - 1)).find? (fun i => !Config.windowHolds (s.freeCtr + i))

/-- A write that stops before page `i + 1`: the pages before it are programmed; the rest was erased or not (log 53). -/
def State.programPart (s : State) (a i : Nat) (bs : List Byte) : State :=
  let n := 256 * (i + 1) - a % 256
  s.tick.flashWrite a (bs.take n ++ (List.range (bs.length - n)).map (Config.randomByte s.freeCtr))

/-- Replaces the security state. -/
def State.modSec (s : State) (f : SecSt → SecSt) : State := { s with sec := f s.sec }

/-! ## Control record (Table 11-8b) -/

/-- "CMDKEY". -/
def labelCmd : List Byte := [0x43#8, 0x4D#8, 0x44#8, 0x4B#8, 0x45#8, 0x59#8]

/-- Replaces bytes of a record. -/
def putAt (r : List Byte) (i : Nat) (bs : List Byte) : List Byte := r.take i ++ bs ++ r.drop (i + bs.length)

/-- Sets bit `b` of byte `i` of a record. -/
def putBit (r : List Byte) (i b : Nat) (v : Bool) : List Byte := putAt r i (leBytes 1 (putBits (leAt r i 1) b b (b2n v)))

def ctlGen (r : List Byte) : Nat := leAt r 4 4
def ctlActive (r : List Byte) : Nat := bits (leAt r 8 1) 0 0
def ctlCurrent (r : List Byte) : Nat := bits (leAt r 9 1) 0 0
def ctlKeyGen (r : List Byte) : Nat := leAt r 10 4
def ctlMark (r : List Byte) : Nat := leAt r 14 6
/-- The bad mark of a firmware (byte 8) or settings (byte 9) slot. -/
def ctlBad (r : List Byte) (byte slot : Nat) : Bool := bit (leAt r byte 1) (1 + slot)

/-- The mask that hides the command key of a generation. -/
def State.keyMask (s : State) (gen : Nat) : List Byte := hmac256 s.fuses.kek (labelCmd ++ leBytes 4 gen)

/-- The 96 bytes of a record in flash. -/
def State.sealed (s : State) (r : List Byte) : List Byte := r ++ hmac256 s.fuses.kek r

/-- A copy of the record, if it is valid. -/
def State.copyOf (s : State) (c : Nat) : Option (List Byte) :=
  let b := s.flashRead (0x10000 * c) 96
  if leAt b 0 4 = 0x4354524C ∧ slice b 64 32 = hmac256 s.fuses.kek (b.take 64) then some (b.take 64) else none

/-- The record to boot with: the valid copy with the higher GEN, and which copy it is. -/
def State.bootRecord (s : State) : Option (List Byte × Nat) :=
  match s.copyOf 0, s.copyOf 1 with
  | none, none => none
  | some r, none => some (r, 0)
  | none, some r => some (r, 1)
  | some r, some q => if ctlGen r < ctlGen q then some (q, 1) else some (r, 0)

/-- An update goes into the other copy with the next GEN. -/
def State.writeRecord (s : State) (r : List Byte) : State × Bool :=
  let c := 1 - s.sec.copy
  let r := putAt r 4 (leBytes 4 (ctlGen s.sec.ctrl + 1))
  let w := s.program (0x10000 * c) (s.sealed r)
  if w.2 then (w.1.modSec (fun x => { x with ctrl := r, copy := c, held := none }), true) else (w.1, false)

/-- An update that may wait: outside the temperature window it is held (R332). -/
def State.updateRecord (s : State) (f : List Byte → List Byte) : State :=
  if s.sec.ctrl.isEmpty then s
  else if s.flashWindow then (s.writeRecord (f s.sec.record)).1
  else s.modSec (fun x => { x with held := some (f x.record) })

/-- HELD_WRITE: the window is open again. -/
def execHeldWrite (s : State) : Host.Outcome State Fault Refusal :=
  .next (match s.sec.held with
    | some r => if s.flashWindow then (s.writeRecord r).1 else s
    | none => s)

/-! ## Firmware images (Table 11-7a) -/

def fwAddr (slot : Nat) : Nat := if slot = 0 then 0x100000 else 0x1900000
def fwMax : Nat := 0x1800000
def State.fwHeader (s : State) (slot : Nat) : List Byte := s.flashRead (fwAddr slot) 512
def fwSvn (h : List Byte) : Nat := leAt h 6 1
def fwBodyDigest (h : List Byte) : List Byte := slice h 24 48

/-- R331. -/
def State.imageOk (s : State) (slot : Nat) : Bool :=
  let h := s.fwHeader slot
  let i := leAt h 7 1
  let pub := slice h 120 96
  leAt h 0 4 == 0x56465731 && decide (i < 4) && !bit s.fuses.revoke i
    && sha384 pub == s.fuses.rootHash.getD i []
    && ecdsaOk pub (slice h 216 96) (sha384 (h.take 216))
    && decide (fwSvn h ≤ 32) && decide (s.fuses.svnMin ≤ fwSvn h)
    && decide (leAt h 8 4 ≤ fwMax - 512)
    && sha384 (s.flashRead (fwAddr slot + 512) (leAt h 8 4)) == fwBodyDigest h

/-- The digest of a running image: SHA-384 of header and body. -/
def State.imageDigest (s : State) (slot : Nat) : List Byte :=
  sha384 (s.flashRead (fwAddr slot) (512 + leAt (s.fwHeader slot) 8 4))

/-! ## Settings blobs (Table 11-12) -/

def setAddr (slot : Nat) : Nat := if slot = 0 then 0x3100000 else 0x3500000
def setMax : Nat := 0x400000
def State.setHeader (s : State) (slot : Nat) : List Byte := s.flashRead (setAddr slot) 512
def setSchema (h : List Byte) : Nat := leAt h 4 2

/-- R347. -/
def State.blobOk (s : State) (slot : Nat) : Bool :=
  let h := s.setHeader slot
  let n := leAt h 16 4 + leAt h 20 4
  let pub := slice h 72 96
  leAt h 0 4 == 0x56534554 && decide (512 + n ≤ setMax) && sha384 pub == s.fuses.ownerHash
    && ecdsaOk pub (slice h 168 96) (sha384 (h.take 168))
    && sha384 (s.flashRead (setAddr slot + 512) n) == slice h 24 48
    && leAt h 12 4 == s.serialNo

/-- How a firmware uses a schema (R348): 0 directly, 1 by migration, 2 not at all. -/
def schemaUse (fw : List Byte) (schema : Nat) : Nat :=
  if leAt fw 12 2 ≤ schema ∧ schema ≤ leAt fw 14 2 then 0
  else if leAt fw 16 2 ≤ schema ∧ schema < leAt fw 12 2 then 1 else 2

/-- The digest of the common section as used. -/
def State.commonDigest (s : State) (fw : List Byte) (slot : Nat) : List Byte :=
  let h := s.setHeader slot
  if schemaUse fw (setSchema h) = 0 then sha384 (s.flashRead (setAddr slot + 512) (leAt h 16 4))
  else padTo 48 (Config.migratedHash fw h)

end Sys2Proof.Machine
end

