-- ==== Sys2Proof/Machine/Mailbox.lean ====
section
/-! DEFINITION. The commands of the mailbox (R334 to R345, R349). A row runs the command at the head of the engine's
order when it is that row's, over the row's path (log 50); what the manual leaves between its lines is in log 53. -/

namespace Sys2Proof.Machine

open Sys2Proof

/-! ## The checks (R335, R336) -/

/-- BOOT_STAT.MODE (Table 11-2). -/
def State.mode (s : State) : Nat := s.fld (aDev + rDEV_BOOT_STAT) 2 0

abbrev moNORMAL : Nat := 1
abbrev moRESTRICTED : Nat := 2
abbrev moRECOVERY : Nat := 3
abbrev moHELD : Nat := 4

/-- The instance a path reaches: the board's, else the host's. -/
def onBoard : Path → Bool
  | .host => false
  | .i3c => true
  | .smbus => true

/-- The record that the last doorbell started. -/
def State.record (s : State) (board : Bool) : List Byte := (s.mb board).started

def recCtr (r : List Byte) : Nat := leAt r 4 6

/-- Check 2: 0, or BAD_CMD or RESTRICTED. -/
def modeCheck (mode cmd level : Nat) (board : Bool) : Nat :=
  let normal := mode == moNORMAL || mode == moRESTRICTED
  let ok :=
    if cmd = 0x01 then mode != moHELD || level == 2
    else if cmd = 0x02 ∨ cmd = 0x03 ∨ cmd = 0x09 then normal || mode == moRECOVERY
    else if cmd = 0x04 ∨ cmd = 0x05 ∨ cmd = 0x06 then normal
    else if cmd = 0x07 ∨ cmd = 0x40 then mode != moHELD
    else if cmd = 0x08 then mode == moNORMAL
    else if cmd = 0x41 then (normal || mode == moRECOVERY) && !board
    else (normal || mode == moRECOVERY) && board
  if ok then 0 else if cmd = 0x08 ∧ mode = moRESTRICTED then mRESTR else mBADCMD

/-- Check 3: whether keys and provisioning allow the command. -/
def State.provCheck (s : State) (cmd : Nat) : Bool :=
  if cmd ≤ 9 then s.fuses.provisioned && !s.sec.key.isEmpty else cmd != 0x42 || !s.fuses.provisioned

/-- TAG of a record (R334). -/
def State.tagRight (s : State) (r : List Byte) : Bool :=
  slice r 248 8 == (hmac256 s.sec.key (r.take 248 ++ leBytes 4 s.serialNo)).take 8

/-- A tag fails: counted, and the sixteenth in a row locks both instances. -/
def State.tagFailed (s : State) (board : Bool) : State :=
  let s := if board then s.modMb true (fun m => { m with badTag := satAdd m.badTag 1 }) else s.bump (aMb + rCMDMB_BAD_TAG) 1
  let s := s.mbEvent board evCMDMB_BAD_TAG 0
  if s.sec.tagFails = 15 then
    ((s.modSec (fun x => { x with tagFails := 0, lockout := true })).mbEvent false evCMDMB_LOCKOUT 0).mbEvent true evCMDMB_LOCKOUT 0
  else s.modSec (fun x => { x with tagFails := x.tagFails + 1 })

/-- CTR_LAST takes a value, and the mark moves when it comes within 4,096 of it. -/
def State.takeCounter (s : State) (n : Nat) : State :=
  let s := s.modSec (fun x => { x with ctrLast := n })
  if ctlMark s.sec.record ≤ n + 4096 then s.updateRecord (fun r => putAt r 14 (leBytes 6 (min (n + 65536) (2 ^ 48 - 1))))
  else s

/-- A write of CTR_MARK waits for the window, and a counter exceeds the mark in flash. -/
def State.markWaits (s : State) (n : Nat) : Bool :=
  match s.sec.held with
  | some r => ctlMark r != ctlMark s.sec.ctrl && decide (ctlMark s.sec.ctrl < n)
  | none => false

/-- Checks 1 to 6: the state they leave and the status of the first that fails, 0 when all pass. -/
def State.checks (s : State) (board : Bool) : State × Nat :=
  let r := s.record board
  let cmd := leAt r 0 1
  let m := modeCheck s.mode cmd (leAt r 16 1) board
  if m ≠ 0 then (s, m)
  else if s.provCheck cmd = false then (s, mNOPROV)
  else if s.sec.lockout then (s, mLOCKOUT)
  else if 9 < cmd then (s, if s.pwr.resetDue.isSome then mBUSY else mOK)
  else if s.tagRight r = false then (s.tagFailed board, mBADTAG)
  else
    let s := s.modSec (fun x => { x with tagFails := 0 })
    if recCtr r ≤ s.sec.ctrLast then (s, mREPLAY)
    else if s.markWaits (recCtr r) then (s.windowRefused, mTEMP)
    else (s.takeCounter (recCtr r), if s.pwr.resetDue.isSome then mBUSY else mOK)

/-- What a command answers that goes on: no status of Table 11-10. -/
abbrev mWAIT : Nat := 0x100

/-- One command of the engine: `sel` says whether the record is the row's, `run` does it after the checks. -/
def State.command (s : State) (path : Path) (sel : List Byte → Bool) (run : State → List Byte → State × Nat) : State :=
  let b := onBoard path
  if s.mbOrder.head? = some b ∧ sel (s.record b) = true then
    let c := s.checks b
    if c.2 ≠ mOK then c.1.mbDone b c.2
    else
      let r := run c.1 (s.record b)
      if r.2 = mWAIT then r.1 else r.1.mbDone b r.2
  else s

/-- Whether a record is of a command. -/
def isCmd (n : Nat) (r : List Byte) : Bool := leAt r 0 1 == n

/-- Check 8: a command that writes outside the window is refused. -/
def State.inWindowOr (s : State) (ok : Bool) (f : State → State × Nat) : State × Nat :=
  if ok then f s else (s.windowRefused, mTEMP)

/-! ## RESET (R342) -/

/-- RESET with LEVEL partition. -/
def State.cmdResetPartition (s : State) (r : List Byte) : State × Nat :=
  let ps := setBits (leAt r 17 1) 0 4
  if leAt r 16 1 ≠ 1 ∨ ps = [] ∨ ps.any (fun p => (s.part p).st == 3) = true then (s, mBADARG)
  else if ps.any (fun p => (s.part p).st == 2) then (s, mBUSY)
  else (ps.foldl (fun s p => s.partReset p) s, mOK)

/-- RESET_PARTITION: a record of RESET with any LEVEL but device. -/
def execResetPartition (path : Path) (s : State) : Host.Outcome State Fault Refusal :=
  .next (s.command path (fun r => isCmd 1 r && leAt r 16 1 != 2) State.cmdResetPartition)

/-- A device reset becomes due. -/
def State.schedule (s : State) (cause : Nat) : State := s.setPwr { s.pwr with resetDue := some cause }

/-- RESET_DEVICE. -/
def execResetDevice (path : Path) (s : State) : Host.Outcome State Fault Refusal :=
  .next (s.command path (fun r => isCmd 1 r && leAt r 16 1 == 2) (fun s _ => (s.schedule 2, mOK)))

/-! ## FW_ACTIVATE (R340) -/

/-- The next `n` bits of SVN_MIN to blow. -/
def FuseSt.nextSvn (f : FuseSt) (n : Nat) : Nat :=
  ((((List.range 32).filter (fun i => !bit f.svn i)).mergeSort (fun a b => Config.svnOrder a ≤ Config.svnOrder b)).take n
    |>.map (fun i => 2 ^ i)).sum

/-- Bits of SVN_MIN are blown. -/
def State.blowSvn (s : State) (v : Nat) : State := { s with fuses := { s.fuses with svn := s.fuses.svn ||| v } }

/-- SVN_MIN reaches a count; a failed word holds some of its new bits. The word is not begun outside the window (R304). -/
def State.raiseSvn (s : State) (svn : Nat) : State × Nat :=
  if svn ≤ s.fuses.svnMin then (s, mOK)
  else if Config.windowHolds s.freeCtr = false then (s.tick.windowRefused, mTEMP)
  else
    let s := s.tick
    let new := s.fuses.nextSvn (svn - s.fuses.svnMin)
    let ok := Config.fuseOk s.freeCtr
    let took := if ok then new else new &&& Config.fuseTook s.freeCtr
    let s := (s.tick.blowSvn took).evSec evSEC_FUSE_WRITTEN
    (s, if ok then mOK else mFUSE)

/-- A slot is marked bad: the mark and the event. -/
def State.markBad (s : State) (byte slot : Nat) : State :=
  (s.updateRecord (fun r => putBit r byte (1 + slot) true)).evDev evDEV_SLOT_BAD

/-- FW_ACTIVATE. -/
def State.cmdFwActivate (s : State) (board : Bool) (r : List Byte) : State × Nat :=
  let slot := leAt r 16 1 % 2
  s.inWindowOr s.flashWindow (fun s =>
    if s.imageOk slot = false then (s.markBad 8 slot, mIMAGE)
    else
      let h := s.fwHeader slot
      let w := s.writeRecord (putBit (putBit s.sec.record 8 0 (slot == 1)) 8 (1 + slot) false)
      if w.2 = false then (w.1, mFLASH)
      else
        let u := if bit (leAt r 17 1) 0 then w.1.raiseSvn (fwSvn h) else (w.1, mOK)
        if u.2 ≠ mOK then u
        else
          let s := u.1
          let fall := schemaUse h (setSchema (s.setHeader (ctlCurrent s.sec.record))) == 2
          let s := s.modMb board (fun m => { m with fallback := fall })
          (s.schedule 3, mOK))

def execFwActivate (path : Path) (s : State) : Host.Outcome State Fault Refusal :=
  .next (s.command path (isCmd 2) (fun s r => s.cmdFwActivate (onBoard path) r))

/-! ## KEY_ROLLOVER (R339) -/

/-- A key that travels wrapped: XOR HMAC of label, COUNTER and serial under the command key. -/
def State.unwrap (s : State) (label : List Byte) (ctr : Nat) (w : List Byte) : List Byte :=
  xorBytes w (hmac256 s.sec.key (label ++ leBytes 6 ctr ++ leBytes 4 s.serialNo))

/-- "KEYROLL" and "CURTKEY". -/
def labelRoll : List Byte := [0x4B#8, 0x45#8, 0x59#8, 0x52#8, 0x4F#8, 0x4C#8, 0x4C#8]
def labelCurt : List Byte := [0x43#8, 0x55#8, 0x52#8, 0x54#8, 0x4B#8, 0x45#8, 0x59#8]

/-- KEY_GEN and KEY_WRAP of a record for a key. -/
def State.withKey (s : State) (r : List Byte) (gen : Nat) (key : List Byte) : List Byte :=
  putAt (putAt r 10 (leBytes 4 gen)) 20 (xorBytes key (s.keyMask gen))

/-- KEY_ROLLOVER. -/
def State.cmdKeyRollover (s : State) (r : List Byte) : State × Nat :=
  s.inWindowOr s.flashWindow (fun s =>
    let key := s.unwrap labelRoll (recCtr r) (slice r 16 32)
    let gen := (ctlKeyGen s.sec.record + 1) % 2 ^ 32
    let w := s.writeRecord (s.withKey s.sec.record gen key)
    if w.2 = false then (w.1, mFLASH)
    else ((w.1.modSec (fun x => { x with key := key })).evSec evSEC_KEY_ROLLED, mOK))

def execKeyRollover (path : Path) (s : State) : Host.Outcome State Fault Refusal :=
  .next (s.command path (isCmd 3) State.cmdKeyRollover)

/-! ## FUSE_WRITE (R318) -/

/-- The word that a FUSE_WRITE names, as its existing value, or none. Rows 0 to 191 of a memory die are the 16 field
repair rows of each slice (log 53). -/
def State.fuseWord (s : State) (die region row : Nat) : Option Nat :=
  if region = 0 then (if 4 ≤ die ∧ die < 8 ∧ row < 192 then some (tblGet 0 s.fuses.repair (65536 * die + row)) else none)
  else if die ≠ 0 then none
  else if region = 1 then some s.fuses.revoke
  else if region = 2 then some s.fuses.svn
  else none

/-- Bits of a word are blown: programming is by OR (R318). -/
def State.setFuse (s : State) (die region row v : Nat) : State :=
  if region = 0 then
    { s with fuses := { s.fuses with
        repair := tblSet 0 s.fuses.repair (65536 * die + row) (tblGet 0 s.fuses.repair (65536 * die + row) ||| v) } }
  else if region = 1 then { s with fuses := { s.fuses with revoke := s.fuses.revoke ||| v } }
  else { s with fuses := { s.fuses with svn := s.fuses.svn ||| v } }

/-- FUSE_WRITE; `good` says whether the read-back is right. -/
def State.cmdFuseWrite (s : State) (good : Bool) (r : List Byte) : State × Nat :=
  let die := leAt r 16 1
  let region := leAt r 17 1
  let row := leAt r 18 2
  match s.fuseWord die region row with
  | none => (s, mBADARG)
  | some old =>
    let data := if region = 1 then leAt r 20 4 % 16 else leAt r 20 4
    if region = 1 ∧ old ||| data = 15 then (s, mBADARG)
    else s.inWindowOr (s.fuseWindow die) (fun s =>
      let took := if good then data else data &&& Config.fuseTook s.freeCtr
      let s := (s.tick.setFuse die region row took).evSec evSEC_FUSE_WRITTEN
      (s, if good then mOK else mFUSE))

def execFuseWrite (path : Path) (good : Bool) (s : State) : Host.Outcome State Fault Refusal :=
  .next (s.command path (isCmd 4) (fun s r => s.cmdFuseWrite good r))

/-! ## CURTAIN (R252) -/

/-- The links that a CURTAIN names. -/
def State.namedLinks (s : State) (ports links : Nat) : List Nat :=
  (setBits ports 0 64).flatMap (fun port =>
    if s.isHouse port then ((s.linksOf port).filter (fun l => bit links (l % 64))) else [64 * port])

/-- CURTAIN: every named link that does not refuse it sends one. -/
def State.cmdCurtain (s : State) (r : List Byte) : State × Nat :=
  let kind := leAt r 32 1
  let tcm := leAt r 33 1
  let pm := leAt r 34 1
  let tenant := leAt r 36 2
  if kind = 0 ∨ 4 < kind ∨ bit tcm 0 = true ∨ bit tcm 7 = true ∨ 15 < pm then (s, mBADARG)
  else
    let ls := s.namedLinks (leAt r 16 8) (leAt r 24 8)
    let bad := ls.any (fun l => s.curtRefused l kind tenant)
    let go := ls.filter (fun l => !s.curtRefused l kind tenant)
    (go.foldl (fun s l => s.sendCurtain l kind tenant tcm pm s.device) s, if bad then mREFUSED else mOK)

def execCurtain (path : Path) (s : State) : Host.Outcome State Fault Refusal :=
  .next (s.command path (isCmd 5) State.cmdCurtain)

/-! ## LINK_FENCE (R342) -/

/-- The named ports go down and their EN is locked at 0. -/
def State.fencePorts (s : State) (ps : List Nat) : State :=
  ps.foldl (fun s p => (s.disablePort p).modSec (fun x => { x with fenced := distinct (x.fenced ++ [p]) })) s

def execLinkFence (path : Path) (s : State) : Host.Outcome State Fault Refusal :=
  .next (s.command path (fun r => isCmd 6 r && !bit (leAt r 24 1) 0) (fun s r =>
    (s.fencePorts (setBits (leAt r 16 8) 0 64), mOK)))

/-- The fence on the named ports is released. -/
def State.unfencePorts (s : State) (ps : List Nat) : State :=
  s.modSec (fun x => { x with fenced := x.fenced.filter (fun p => p ∉ ps) })

def execUnfence (path : Path) (s : State) : Host.Outcome State Fault Refusal :=
  .next (s.command path (fun r => isCmd 6 r && bit (leAt r 24 1) 0) (fun s r =>
    (s.unfencePorts (setBits (leAt r 16 8) 0 64), mOK)))

/-! ## TEST_UNLOCK and GET_CHALLENGE (R345) -/

/-- All on-package memory reads as zero. -/
def State.wipeMem (s : State) : State := { s with mem := [], ecc := [] }

/-- Everything that a test unlock wipes beyond what the partition resets clear. -/
def State.wipe (s : State) : State :=
  let s := (List.range 8).foldl (fun s k => (s.resetSite k).modSite k (fun x => { x with keys := [] })) s
  let s := (List.range 64).foldl (fun s port => s.setFld (aPort port + rOIOPORT_CTL) 31 31 0) s
  s.wipeMem.modSec (fun x => { x with key := [] })

/-- TEST_UNLOCK. -/
def State.cmdTestUnlock (s : State) (r : List Byte) : State × Nat :=
  let good := leAt r 112 1 == 1 && !s.sec.challenge.isEmpty && sha384 Config.testKey == s.fuses.testHash
    && ecdsaOk Config.testKey (slice r 16 96) (sha384 (s.sec.challenge ++ leBytes 4 s.serialNo ++ slice r 112 1))
  if good = false then (s, mBADARG)
  else
    let s := s.modSec (fun x => { x with unlocked := true })
    let s := (List.range 4).foldl (fun s p => if (s.part p).st < 2 then s.partReset p else s) s
    ((s.allDown cRESET).wipe.evSec evSEC_TEST_UNLOCK, mOK)

def execTestUnlock (path : Path) (s : State) : Host.Outcome State Fault Refusal :=
  .next (s.command path (isCmd 7) State.cmdTestUnlock)

/-- GET_CHALLENGE. -/
def State.cmdGetChallenge (s : State) (board : Bool) : State × Nat :=
  let c := (List.range 32).map (Config.randomByte s.freeCtr)
  ((s.tick.modSec (fun x => { x with challenge := c })).modMb board (fun m => { m with rsp := padTo 128 c }), mOK)

def execGetChallenge (path : Path) (s : State) : Host.Outcome State Fault Refusal :=
  .next (s.command path (isCmd 0x40) (fun s _ => s.cmdGetChallenge (onBoard path)))

/-- CHALLENGE_EXPIRY. -/
def execChallengeExpiry (s : State) : Host.Outcome State Fault Refusal :=
  .next (s.modSec (fun x => { x with challenge := [] }))

/-- LOCKOUT_END. -/
def execLockoutEnd (s : State) : Host.Outcome State Fault Refusal :=
  .next (s.modSec (fun x => { x with lockout := false }))

/-! ## TENANT_ASSIGN (R341) -/

/-- The key that another assigned partition's tenant has. -/
def State.tenantKey (s : State) (p t : Nat) : Option (List Byte) :=
  if s.tenantElsewhere p t then some (tblGet [] (s.site 0).keys t) else none

/-- No Understudy still has a segment of a tenant's key to acknowledge. -/
def State.keyMirrored (s : State) (t : Nat) : Bool :=
  (List.range 8).all (fun k => (s.site k).wt.all (fun e => match e.1 with
    | .key u _ => u != t
    | _ => true))

/-- The assignment ends once every site has its key (R307, R341). -/
def State.endAssign (s : State) (p t : Nat) : State × Nat :=
  if s.keyMirrored t then ((s.modSec (fun x => { x with assign := none })).setPart p ⟨1, t⟩, mOK)
  else (s.modSec (fun x => { x with assign := some (p, t) }), mWAIT)

/-- TENANT_ASSIGN. -/
def State.cmdTenantAssign (s : State) (r : List Byte) : State × Nat :=
  let p := leAt r 16 1
  let t := leAt r 18 2
  let key := s.unwrap labelCurt (recCtr r) (slice r 20 32)
  if 4 ≤ p ∨ t = 0 ∨ t = 0xFFFF then (s, mBADARG)
  else if (s.part p).st = 2 then (s, mBUSY)
  else if (s.part p).st ≠ 0 then (s, mASSIGNED)
  else if (s.tenantKey p t).any (fun k => k != key) then (s, mBADARG)
  else
    ((List.range 8).foldl (fun s k => s.noteItem k (.key t key)) s).endAssign p t

/-- An assignment that waits for its key to be mirrored goes on. -/
def State.assignAgain (s : State) (path : Path) (p t : Nat) : State :=
  let b := onBoard path
  if s.mbOrder.head? = some b ∧ isCmd 8 (s.record b) = true then
    let r := s.endAssign p t
    if r.2 = mWAIT then r.1 else r.1.mbDone b r.2
  else s

/-- TENANT_ASSIGN: the command, or the end of one that waits (log 41). -/
def execTenantAssign (path : Path) (s : State) : Host.Outcome State Fault Refusal :=
  .next (match s.sec.assign with
    | some x => s.assignAgain path x.1 x.2
    | none => s.command path (isCmd 8) State.cmdTenantAssign)

/-! ## SETTINGS_COMMIT (R349) -/

/-- Whether the running firmware can use the blob of a slot. -/
def State.blobUsable (s : State) (slot : Nat) : Bool :=
  s.blobOk slot && !s.sec.fw.isEmpty && schemaUse s.sec.fw (setSchema (s.setHeader slot)) != 2

/-- SETTINGS_COMMIT. -/
def State.cmdSettingsCommit (s : State) (r : List Byte) : State × Nat :=
  let slot := leAt r 16 1 % 2
  s.inWindowOr s.flashWindow (fun s =>
    if s.blobUsable slot = false then (s, mSCHEMA)
    else
      let w := s.writeRecord (putBit (putBit s.sec.record 9 0 (slot == 1)) 9 (1 + slot) false)
      (w.1, if w.2 then mOK else mFLASH))

def execSettingsCommit (path : Path) (s : State) : Host.Outcome State Fault Refusal :=
  .next (s.command path (isCmd 9) State.cmdSettingsCommit)

/-! ## FLASH_WRITE (R343) -/

/-- The byte and slot of a region's bad mark. -/
def regionMark (region : Nat) : Nat × Nat := if region < 2 then (8, region) else (9, region - 2)

def regionAddr (region : Nat) : Nat := if region < 2 then fwAddr region else setAddr (region - 2)
def regionSize (region : Nat) : Nat := if region < 2 then fwMax else setMax

/-- The active firmware slot or the current settings slot. -/
def State.regionInUse (s : State) (region : Nat) : Bool :=
  if region < 2 then ctlActive s.sec.record == region else ctlCurrent s.sec.record == region - 2

/-- FLASH_WRITE; the window is checked before each page (R304). -/
def State.cmdFlashWrite (s : State) (r : List Byte) : State × Nat :=
  let region := leAt r 16 1
  let off := leAt r 20 4
  let n := leAt r 32 4
  if 4 ≤ region ∨ regionSize region < off + n ∨ (s.mode ≠ moRECOVERY ∧ s.regionInUse region = true) then (s, mBADARG)
  else s.inWindowOr s.flashWindow (fun s =>
    let a := regionAddr region + off
    let data := s.hostRead (leAt r 24 8) n
    match s.stopsAt a n with
    | some i => ((s.programPart a i data).windowRefused, mTEMP)
    | none =>
    let w := s.program a data
    if w.2 = false then (w.1, mFLASH)
    else
      let k := regionMark region
      if ctlBad w.1.sec.record k.1 k.2 = false ∨ w.1.sec.ctrl = [] then (w.1, mOK)
      else
        let u := w.1.writeRecord (putBit w.1.sec.record k.1 (1 + k.2) false)
        (u.1, if u.2 then mOK else mFLASH))

def execFlashWrite (path : Path) (s : State) : Host.Outcome State Fault Refusal :=
  .next (s.command path (isCmd 0x41) State.cmdFlashWrite)

/-! ## PROVISION (R344) -/

/-- The first control record: KEY_GEN 0, CTR_MARK 65,536, ACTIVE = A, CURRENT = S0, no bad marks. -/
def State.firstRecord (s : State) (key : List Byte) : List Byte :=
  putAt (s.withKey (leBytes 4 0x4354524C ++ List.replicate 60 0#8) 0 key) 14 (leBytes 6 65536)

/-- Both copies of the record are written, the second as an update of the first. -/
def State.writeBoth (s : State) (r : List Byte) : State × Bool :=
  let t := s.modSec (fun x => { x with ctrl := putAt r 4 (leBytes 4 (2 ^ 32 - 1)), copy := 1, held := none })
  let a := t.writeRecord r
  if a.2 then a.1.writeRecord r else (a.1.modSec (fun x => { x with ctrl := s.sec.ctrl, copy := s.sec.copy }), false)

/-- Bits of the owner key hash are blown, and with a good read-back PROVISIONED. -/
def State.blowOwner (s : State) (took : List Byte) (ok : Bool) : State :=
  { s with fuses := { s.fuses with
      ownerHash := s.fuses.ownerHash.zipIdx.map (fun x => x.1 ||| took.getD x.2 0)
      provisioned := s.fuses.provisioned || ok } }

/-- PROVISION. -/
def State.cmdProvision (s : State) (r : List Byte) : State × Nat :=
  s.inWindowOr s.flashWindow (fun s =>
    let key := slice r 16 32
    let ok := Config.fuseOk s.freeCtr
    let hash := slice r 48 48
    let took := if ok then hash else hash.zipIdx.map (fun x => x.1 &&& BitVec.ofNat 8 (Config.fuseTook (s.freeCtr + x.2)))
    let s := (s.tick.blowOwner took ok).evSec evSEC_FUSE_WRITTEN
    if ok = false then (s, mFUSE)
    else
      let w := s.writeBoth (s.firstRecord key)
      if w.2 = false then (w.1, mFLASH)
      else (w.1.modSec (fun x => { x with key := key, ctrLast := 65536 }), mOK))

def execProvision (path : Path) (s : State) : Host.Outcome State Fault Refusal :=
  .next (s.command path (isCmd 0x42) State.cmdProvision)

end Sys2Proof.Machine
end

