-- ==== Sys2Proof/Machine/Boot.lean ====
section
/-! DEFINITION. Bring-up: the power-on sequence (R313 to R319, R325, R326, R333, R348), the chiplet capability
exchange (R320 to R322), attestation (R346) and the test access port (R323, R324). Choices are in logs 54 to 56. -/

namespace Sys2Proof.Machine

open Sys2Proof

/-! ## BOOT_STAT (Table 11-14) -/

/-- A field of BOOT_STAT. -/
def State.setBoot (s : State) (hi lo v : Nat) : State := s.setFld (aDev + rDEV_BOOT_STAT) hi lo v

/-- A step of Table 11-1 has ended. -/
def State.endStep (s : State) (n : Nat) : State := (s.setPwr { s.pwr with step := n }).setBoot 31 28 n

abbrev fcNONE : Nat := 0
abbrev fcTIMEOUT : Nat := 1
abbrev fcIDENT : Nat := 2
abbrev fcBIST : Nat := 3
abbrev fcYIELD : Nat := 4
abbrev fcBROADCAST : Nat := 5
abbrev fcLICENCE : Nat := 6
abbrev fcROM : Nat := 7

/-- FAIL_STEP and FAIL_CODE. -/
def State.noteFail (s : State) (step code : Nat) : State := (s.setBoot 27 24 step).setBoot 23 16 code

/-- MODE becomes RECOVERY or HELD: all partitions are held in reset and no port is enabled (Table 11-2). -/
def State.stopBoot (s : State) (mode : Nat) : State :=
  let s := (List.range 4).foldl (fun s p => s.partClear p) s
  (s.setBoot 2 0 mode).evDev evDEV_RECOVERY

/-- A partition becomes FAILED: it is held in reset, and its sites and their links stay down (R314). -/
def State.failPart (s : State) (p step code : Nat) : State :=
  if (s.part p).st = 3 then s.noteFail step code
  else (((s.partClear p).setPart p ⟨3, 0⟩).noteFail step code).evDev evDEV_PART_FAILED

/-- A site becomes FAILED (R320): its ports go down. -/
def State.failSite (s : State) (k : Nat) : State :=
  (s.modSite k (fun x => { x with status := 3 })).siteDown k cRESET

/-! ## Steps 1 and 2 -/

/-- The control record is loaded: command key and counter (R332, R335). -/
def State.loadRecord (s : State) : State :=
  match s.bootRecord with
  | none => s
  | some (r, c) =>
    s.modSec (fun x => { x with
      ctrl := r, copy := c, ctrLast := ctlMark r, key := xorBytes (slice r 20 32) (s.keyMask (ctlKeyGen r)) })

/-- The slots in the order they are tried: ACTIVE first, but a slot marked bad after the other (R333). -/
def slotOrder (r : List Byte) : List Nat :=
  let a := ctlActive r
  if ctlBad r 8 a && !ctlBad r 8 (1 - a) then [1 - a, a] else [a, 1 - a]

/-- A slot is tried; one that fails is marked bad. -/
def State.trySlot (s : State) (slot : Nat) : State :=
  if !s.sec.fw.isEmpty then s
  else if s.imageOk slot then
    let s := s.modSec (fun x => { x with fw := s.fwHeader slot, fwSlot := slot, fwDigest := s.imageDigest slot })
    if ctlActive s.sec.record = slot then s else s.evDev evDEV_SLOT_BAD
  else if ctlBad s.sec.record 8 slot then s
  else s.markBad 8 slot

/-- The settings blob of a slot comes into use, or the device falls back (R348). -/
def State.useBlob (s : State) (slot : Nat) (env : BootEnv) : State :=
  let h := s.setHeader slot
  let u := schemaUse s.sec.fw (setSchema h)
  if u = 0 ∨ (u = 1 ∧ env.migrateOk = true) then
    s.modSec (fun x => { x with
      settings := h, setSlot := slot, commonHash := s.commonDigest s.sec.fw slot, applied := env.settings })
  else s.evDev evDEV_SETTINGS_FALLBACK

/-- CURRENT, then the other slot, then the fallback (R347). -/
def State.pickBlob (s : State) (env : BootEnv) : State :=
  let c := ctlCurrent s.sec.record
  if s.blobOk c then s.useBlob c env
  else
    let s := s.markBad 9 c
    if s.blobOk (1 - c) then s.useBlob (1 - c) env else s.evDev evDEV_SETTINGS_FALLBACK

/-! ## Step 3 (R319) -/

/-- Whether a die's IDENT is right for its place; a site without an IDENT array holds a chiplet of another generation
and is checked by its descriptor. -/
def State.identOk (s : State) (d : Nat) : Bool :=
  let v := tblGet 0 s.fuses.ident d
  (decide (8 ≤ d) && v == 0)
    || (bit v 39 && bits v 31 0 == s.serialNo && bits v 38 32 == bits (shippedIdent d) 38 32)

/-- The part is a reject: every die that does not match is logged. -/
def State.identFail (s : State) (dies : List (Nat × Nat)) : State :=
  ((dies.foldl (fun s d => s.emit (.logged (.identFail d.1 d.2))) s).noteFail 3 fcIDENT).stopBoot moHELD

/-! ## Steps 4 to 6 -/

/-- A fuse replaces a row of a slice: at test, or one of the slice's 16 field repair rows. -/
def State.fusedRow (s : State) (c row : Nat) : Bool :=
  decide (2 ^ 18 * c + row ∈ s.fuses.spares)
    || (List.range 16).any (fun j =>
      let e := tblGet 0 s.fuses.repair (65536 * (4 + partOfClu c) + 16 * (c % 12) + j)
      bit e 31 && bits e 17 0 == row)

/-- A row in service fails the March test: it takes a soft repair entry, or the partition fails (R325). -/
def State.badRow (s : State) (c row : Nat) : State :=
  let p := partOfClu c
  if (s.part p).st = 3 ∨ s.fusedRow c row = true ∨ row ∈ (s.clu c).repaired then s
  else if (s.clu c).repaired.length < 32 then s.modClu c (fun x => { x with repaired := x.repaired ++ [row] })
  else s.failPart p 4 fcBIST

/-- A step's failures by partition. -/
def State.failParts (s : State) (ps : List Nat) (step code : Nat) : State := ps.foldl (fun s p => s.failPart (p % 4) step code) s

/-- Partitions with a cluster whose yield map does not enable 48 cores (R24). -/
def State.badYield (s : State) : List Nat :=
  (List.range 4).filter (fun p => (List.range 12).any (fun c => (s.enabledCores (12 * p + c)).length != 48))

/-! ## Step 6 (R326) -/

/-- CORE_DIGEST of the running image. -/
def State.coreDigest (s : State) : List Byte := slice s.sec.fw 72 48

/-- The core firmware section of the running image; where it lies in the body is not given (log 83). -/
def State.coreSection (s : State) : List Byte :=
  let x := Config.coreSection s.sec.fw
  s.flashRead (fwAddr s.sec.fwSlot + 512 + x.1) (min 65536 x.2)

/-- Every core of a cluster finds CORE_DIGEST in what it received at an attempt. -/
def State.clusterTook (s : State) (env : BootEnv) (c a : Nat) : Bool :=
  (List.range 48).all (fun n =>
    sha384 (match env.received.find? (fun r => r.1 == 48 * c + n && r.2.1 == a) with
      | some r => r.2.2
      | none => s.coreSection) == s.coreDigest)

/-- The broadcast, and to a cluster with a mismatching core again up to three times; partitions with a cluster that never
matches. -/
def State.badBroadcast (s : State) (env : BootEnv) : List Nat :=
  (List.range 4).filter (fun p => (s.part p).st != 3
    && (List.range 12).any (fun c => (List.range 4).all (fun a => !s.clusterTook env (12 * p + c) a)))

/-! ## Steps 7 and 8 -/

/-- The last value that the settings give a register, else its present one. -/
def State.settingOf (s : State) (a : Nat) : W32 :=
  ((s.sec.applied.filter (fun w => w.1 == a)).getLast?.map Prod.snd).getD (s.reg a)

/-- The parts of step 7 that belong to a partition: Usher's metadata and the box-office budget. -/
def State.readyPart (s : State) (p : Nat) : State :=
  if (s.part p).st = 3 then s
  else
    let budget := min s.railLimit (s.devLimit / 4)
    (s.usherStart p (s.reg (aUsh p + rUSH_META_CFG)) (bits (s.settingOf (aDev + rDEV_FAB_CFG)).toNat 1 0 == 2)).boxStart p budget

/-- Laser enables of the sites in use. -/
def State.lightSite (s : State) (k : Nat) : State :=
  if (s.site k).status = 3 ∨ (s.part (k / 2)).st = 3 then s else s.setFld (aOio k + rOIO_LASER_CTL) 1 0 3

/-- Ports in use whose role needs a feature that the site lacks are FAILED (R321). -/
def State.failRoles (s : State) (k : Nat) : State :=
  (portsOf k).foldl (fun s port =>
    if (s.site k).status = 2 ∧ port % 8 < s.selField k 1 1 8 ∧ s.siteServes port = false then
      s.modPort port (fun x => { x with st := pFAILED })
    else s) s

/-- Step 8. -/
def State.finishBoot (s : State) : State :=
  let s := s.applySettings (fun a => a == aDev + rDEV_FAB_CFG)
  let s := s.configure (fun _ => true)
  let s := (s.lockPage aDev).lockPage aThm
  let s := (List.range 4).foldl (fun s p => if (s.part p).st = 3 then s else s.lockPartition p) s
  let s := (s.endStep 8).enterStage
  let s := s.setBoot 2 0 (if s.restricted then moRESTRICTED else moNORMAL)
  let s := (s.setReg (aDev + rDEV_BOOT_TIME) (BitVec.ofNat 32 (Config.duration s.freeCtr))).tick
  let s := (List.range 8).foldl (fun s k => (s.failRoles k).startSite k) s
  s.evDev evDEV_BOOT_DONE

/-! ## The order of the steps (R313, log 54) -/

/-- The sequence is at an end: no step is under way. -/
def State.closeBoot (s : State) : State := s.setPwr { s.pwr with boot := none }

/-- Step 1: the ROM's self-tests, the fuses of die 0 and the control records. -/
def State.bootRom (s : State) (env : BootEnv) : State :=
  let s := s.endStep 1
  if env.romOk = false then ((s.noteFail 1 fcROM).stopBoot moHELD).closeBoot
  else
    let s := s.loadRecord
    if s.sec.ctrl = [] then ((s.noteFail 1 fcNONE).stopBoot moRECOVERY).closeBoot else s

/-- Step 2: firmware and settings. -/
def State.bootImages (s : State) (env : BootEnv) : State :=
  let s := ((slotOrder s.sec.record).foldl (fun s x => s.trySlot x) s).endStep 2
  if s.sec.fw = [] then ((s.noteFail 2 fcNONE).stopBoot moRECOVERY).closeBoot else s.pickBlob env

/-- Step 3 up to the chiplet exchange: the identity check, and the dies and chiplets that fail. -/
def State.bootDies (s : State) (env : BootEnv) : State :=
  match (List.range 16).filter (fun d => !s.identOk d) with
  | [] =>
    let s := s.failParts env.partFail 3 fcNONE
    let s := env.siteFail.foldl (fun s k => (s.failSite (k % 8)).noteFail 3 fcNONE) s
    s.setPwr { s.pwr with boot := some (env, true) }
  | ds => (s.identFail (ds.map (fun d =>
      let v := tblGet 0 s.fuses.ident d
      (bits v 35 32, bits v 38 36)))).closeBoot

/-- Step 4: repair maps and the March test. -/
def State.bootMemory (s : State) (env : BootEnv) : State :=
  let s := env.badRows.foldl (fun s x => s.badRow (x.1 % 48) x.2) s
  let s := s.failParts (env.badSpares.map partOfClu ++ env.badScratch.map partOfCore) 4 fcBIST
  s.endStep 4

/-- Step 6: the broadcast. -/
def State.bootCores (s : State) (env : BootEnv) : State :=
  let bad := s.badBroadcast env
  ((s.failParts bad 6 fcBROADCAST).modSec (fun x => { x with coreFw := s.coreSection })).endStep 6

/-- Step 7: Usher's metadata, budgets, and the lasers. -/
def State.bootUnits (s : State) : State :=
  let s := ((List.range 4).foldl (fun s p => s.readyPart p) s).applyBoardCap
  ((List.range 8).foldl (fun s k => s.lightSite k) s).endStep 7

/-- The chiplet exchange has come to an end at every site of a partition in service. -/
def State.exchangeDone (s : State) : Bool :=
  (List.range 8).all (fun k => decide (2 ≤ (s.site k).status) || (s.part (k / 2)).st == 3)

/-- The step under way does not end yet: it hangs, or it is step 3 and a chiplet is not settled. -/
def State.bootWaits (s : State) (env : BootEnv) (opened : Bool) : Bool :=
  if s.pwr.step = 2 then opened && (env.hang == some 3 || !s.exchangeDone) else env.hang == some (s.pwr.step + 1)

/-- The work of the step under way. -/
def State.bootStep (s : State) (env : BootEnv) (opened : Bool) : State :=
  match s.pwr.step with
  | 0 => s.bootRom env
  | 1 => s.bootImages env
  | 2 => if opened then s.endStep 3 else s.bootDies env
  | 3 => s.bootMemory env
  | 4 => (s.failParts s.badYield 5 fcYIELD).endStep 5
  | 5 => s.bootCores env
  | 6 => s.bootUnits
  | _ => s.finishBoot.closeBoot

/-- The sequence goes on until it ends or a step waits. -/
def State.bootOn (s : State) : State :=
  forN (fun _ s => match s.pwr.boot with
    | some b => if s.bootWaits b.1 b.2 then s else s.bootStep b.1 b.2
    | none => s) 9 s

/-- Table 11-1 begins. A root PLL that does not lock keeps the device in reset. -/
def State.boot (s : State) (env : BootEnv) : State :=
  let s := s.setPwr { s.pwr with boot := some (env, false) }
  if env.hang = some 0 then s
  else
    ((s.setPwr { s.pwr with inReset := false }).setReg (aDev + rDEV_FAB_STRAP) (BitVec.ofNat 32 (env.straps % 512))).bootOn

/-- Nothing keeps the device in reset any more. -/
def State.mayBoot (s : State) : Bool :=
  s.pwr.inReset && s.pwr.pwrgd && s.pwr.perstN && !s.pwr.trip && s.pwr.pllHeld.isEmpty

/-- POWER_ON. -/
def execPowerOn (env : BootEnv) (s : State) : Host.Outcome State Fault Refusal :=
  .next (
    let s := s.setPwr { s.pwr with pwrgd := true }
    if s.mayBoot then s.boot env else s)

/-- PERST_N_DEASSERT. -/
def execPerstNDeassert (env : BootEnv) (s : State) : Host.Outcome State Fault Refusal :=
  .next (
    let s := s.setPwr { s.pwr with perstN := true }
    if s.mayBoot then s.boot env else s)

/-- What of step 3 had not finished: the named sites, and those whose exchange had not ended. -/
def State.lateSites (s : State) (sites : List Nat) : List Nat :=
  (List.range 8).filter (fun k => decide (k ∈ sites) || ((s.site k).status < 2 && (s.part (k / 2)).st != 3))

/-- The step under way overruns its budget: the row of Table 11-1 applies to what had not finished, and the sequence goes on
where that row lets it (R314). -/
def State.overrun (s : State) (env : BootEnv) (opened : Bool) (step : Nat) (parts sites : List Nat) : State :=
  let s := s.noteFail step fcTIMEOUT
  if step = 1 then (s.stopBoot moHELD).closeBoot
  else if step = 2 then (s.stopBoot moRECOVERY).closeBoot
  else
    let s := if step = 3 then ((s.lateSites sites).foldl (fun s k => s.failSite k) s).failParts parts 3 fcTIMEOUT
      else if step ≤ 6 then s.failParts parts step fcTIMEOUT else s
    (s.setPwr { s.pwr with boot := some ({ env with hang := none }, opened) }).bootOn

/-- STEP_TIMEOUT: of the step under way. -/
def execStepTimeout (step : Nat) (parts sites : List Nat) (s : State) : Host.Outcome State Fault Refusal :=
  .next (match s.pwr.boot with
    | none => s
    | some b =>
      if s.pwr.inReset then
        (if step = 0 then s.setPwr { s.pwr with pllHeld := [0], boot := none } else s)
      else if step = s.pwr.step + 1 then s.overrun b.1 b.2 step parts sites
      else s)

/-! ## The chiplet capability exchange (R320 to R322) -/

/-- What keeps a descriptor from a SELECT, apart from CHECK, identity and licence. -/
def descRefused (d : List Byte) : Bool :=
  let gen := leAt d 2 1
  leAt d 0 1 != 1 || leAt d 1 1 != 3 || decide (1 < gen ∧ gen < 8) || decide (15 < gen)
    || decide (min (leAt d 3 1) (leAt d 9 1) = 0) || bits (leAt d 5 1) 2 0 == 0 || decide (leAt d 4 1 < 4)

/-- The width code of a number of lines. -/
def widthOf (lines : Nat) : Nat := if 16 ≤ lines then 0 else if 12 ≤ lines then 1 else if 8 ≤ lines then 2 else 3

/-- The SELECT record (R321). -/
def selectFor (d : List Byte) : List Byte :=
  let b := leBytes 1 1 ++ leBytes 1 (min (min (leAt d 3 1) (leAt d 9 1)) 8) ++ leBytes 1 (widthOf (leAt d 4 1))
    ++ leBytes 1 (bits (leAt d 5 1) 2 0) ++ slice d 6 2 ++ leBytes 1 (min (leAt d 8 1) 0x21) ++ leBytes 1 0
  b ++ leBytes 4 (crc32 b)

/-- The identity that a chiplet of another generation reports, or that a DL8 must have fused (R319). -/
def State.descIdent (s : State) (k : Nat) (d : List Byte) : Bool :=
  leAt d 10 4 == s.serialNo && bits (leAt d 14 1) 2 0 == k && (leAt d 2 1 != 1 || tblGet 0 s.fuses.ident (8 + k) != 0)

/-- The licence of a third party's chiplet verifies (R322). -/
def State.licenceOk (s : State) (d licence : List Byte) : Bool :=
  decide (leAt d 2 1 < 8) || ecdsaOk (Config.licenceKey s.sec.fwDigest) licence (sha384 (d.take 10 ++ slice d 16 4))

/-- The exchange of step 3 is open. -/
def State.exchangeOpen (s : State) : Bool := s.pwr.step == 2 && (match s.pwr.boot with
  | some b => b.2
  | none => false)

/-- A descriptor reaches a site that waits for one. A wrong identity makes the part a reject, whatever else the descriptor
holds (R319). -/
def State.descriptor (s : State) (k : Nat) (d licence : List Byte) : State :=
  if s.exchangeOpen = false ∨ (s.site k).status ≠ 0 ∨ (s.part (k / 2)).st = 3 then s
  else if d.length ≠ 32 ∨ leAt d 28 4 ≠ crc32 (d.take 28) then
    let s := s.modSite k (fun x => { x with checkFails := x.checkFails + 1 })
    if (s.site k).checkFails = 2 then (s.failSite k).bootOn else s
  else if s.descIdent k d = false then (s.identFail [(leAt d 1 1, bits (leAt d 14 1) 2 0)]).closeBoot
  else if descRefused d then (s.failSite k).bootOn
  else if s.licenceOk d licence = false then
    (((s.emit (.logged (.chipletLicence k))).failSite k).noteFail 3 fcLICENCE).bootOn
  else (s.modSite k (fun x => { x with status := 1, sel := selectFor d, desc := d })).emit (.select k (selectFor d))

def execChipletDescriptor (k : Nat) (d licence : List Byte) (s : State) : Host.Outcome State Fault Refusal :=
  .next (s.descriptor k d licence)

/-- The echo of SELECT: the selection is in force, or the site FAILED. -/
def State.selectEcho (s : State) (k : Nat) (r : List Byte) : State :=
  if (s.site k).status ≠ 1 then s
  else if r ≠ (s.site k).sel then (s.failSite k).bootOn
  else (s.modSite k (fun x => { x with status := 2 })).bootOn

def execSelectEcho (k : Nat) (r : List Byte) (s : State) : Host.Outcome State Fault Refusal := .next (s.selectEcho k r)

/-- CHIPLET_DESCRIPTOR_TIMEOUT. -/
def execChipletDescriptorTimeout (k : Nat) (s : State) : Host.Outcome State Fault Refusal :=
  .next (if s.exchangeOpen = true ∧ (s.site k).status = 0 then (s.failSite k).bootOn else s)

/-! ## Attestation (R346) -/

/-- An SPDM request finds the responder in a state. -/
def State.spdmAt (s : State) (n : Nat) (f : State → State) : State :=
  if s.prompterUp = false then s else if s.sec.spdm < n then s.emit (.spdm .error) else f s

def State.spdmTo (s : State) (n : Nat) (r : SpdmRsp) : State := (s.modSec (fun x => { x with spdm := n })).emit (.spdm r)

/-- The chain of slot 0: it begins with its own length (PRESUMED, DMTF SPDM 1.2; log 56). -/
def State.certChain (s : State) : List Byte := s.flashRead 0x20000 (leAt (s.flashRead 0x20000 2) 0 2)

/-- A signature by the device identity key. -/
def State.spdmSign (s : State) : List Byte := (List.range 96).map (Config.randomByte s.freeCtr)

def execGetVersion (s : State) : Host.Outcome State Fault Refusal :=
  .next (s.spdmAt 0 (fun s => s.spdmTo 1 (.version 1 2)))

def execGetCapabilities (s : State) : Host.Outcome State Fault Refusal :=
  .next (s.spdmAt 1 (fun s => s.spdmTo 2 (.capabilities true true true)))

/-- NEGOTIATE_ALGORITHMS: only ECDSA P-384 with SHA-384 is settled on. -/
def execNegotiateAlgorithms (p384 sha384 : Bool) (s : State) : Host.Outcome State Fault Refusal :=
  .next (s.spdmAt 2 (fun s => if p384 && sha384 then s.spdmTo 3 (.algorithms true true) else s.emit (.spdm .error)))

def execGetDigests (s : State) : Host.Outcome State Fault Refusal :=
  .next (s.spdmAt 3 (fun s => s.emit (.spdm (.digests 1 (sha384 s.certChain)))))

def execGetCertificate (slot offset len : Nat) (s : State) : Host.Outcome State Fault Refusal :=
  .next (s.spdmAt 3 (fun s =>
    let c := s.certChain
    if slot ≠ 0 ∨ c.length < offset then s.emit (.spdm .error)
    else
      let part := slice c offset len
      s.emit (.spdm (.certificate slot part (c.length - offset - part.length)))))

def execChallenge (slot : Nat) (_nonce : List Byte) (s : State) : Host.Outcome State Fault Refusal :=
  .next (s.spdmAt 3 (fun s =>
    if slot ≠ 0 then s.emit (.spdm .error)
    else
      let own := (List.range 32).map (Config.randomByte (s.freeCtr + 1))
      s.tick.tick.emit (.spdm (.challengeAuth slot (sha384 s.certChain) own s.spdmSign))))

/-- Measurement block `i` (Table 11-11). -/
def State.measurement (s : State) (i : Nat) : List Byte :=
  if i = 1 then (List.range 48).map Config.romDigest
  else if i = 2 then fwBodyDigest s.sec.fw ++ leBytes 1 (fwSvn s.sec.fw) ++ leBytes 1 s.sec.fwSlot
  else if i = 3 then s.sec.commonHash ++ leBytes 1 s.mode
  else if i = 4 then
    leBytes 1 s.fuses.svnMin ++ leBytes 1 s.fuses.revoke ++ leBytes 1 (b2n s.fuses.provisioned) ++ leBytes 4 (ctlKeyGen s.sec.record)
  else leBytes 1 (b2n s.sec.unlocked) ++ leBytes 1 s.sec.fenced.length

/-- GET_MEASUREMENTS: one block, all of them (0xFF), or how many there are (0, each without content). -/
def execGetMeasurements (index : Nat) (sign : Bool) (_nonce : List Byte) (s : State) : Host.Outcome State Fault Refusal :=
  .next (s.spdmAt 3 (fun s =>
    let sig := if sign then s.spdmSign else []
    let all := [1, 2, 3, 4, 5]
    if index = 0 then s.tick.emit (.spdm (.measurements (all.map (fun i => (i, []))) sig))
    else if index = 0xFF then s.tick.emit (.spdm (.measurements (all.map (fun i => (i, s.measurement i))) sig))
    else if index ≤ 5 then s.tick.emit (.spdm (.measurements [(index, s.measurement index)] sig))
    else s.emit (.spdm .error)))

/-! ## Test access (R323, R324) -/

/-- The instruction that takes effect. -/
def tapEffect (unlocked : Bool) : Tap → Tap
  | .bypass => .bypass
  | .idcode => .idcode
  | .samplePreload => .samplePreload
  | .extest => .extest
  | .loopback b l => if unlocked then .loopback b l else .bypass
  | .wrapper b l => if unlocked then .wrapper b l else .bypass
  | .other c => if unlocked then .other c else .bypass

/-- The die that an access reaches: the die itself, or through the stack the one bonded to it (compute die p and memory die
p). A DL8 has no stack. -/
def tapDie (die : Nat) (bonded : Bool) : Nat := if bonded then (if die < 4 then die + 4 else if die < 8 then die - 4 else die) else die

/-- Key of a loopback's result. -/
def loopKey (die : Nat) : Loopback → Nat
  | .ucieNear => 8 * die
  | .ucieFar => 8 * die + 1
  | .faceLanes => 8 * die + 2
  | .faceArray => 8 * die + 3

/-- TAP_INSTRUCTION: a loopback leaves its result in the die's wrapper, and a wrapper access reads it. The result is what
the hardware tested gives: a free value. -/
def State.tapIn (s : State) (die : Nat) (inst : Tap) : State :=
  let t := tapEffect s.sec.unlocked inst
  let s := s.emit (.tap die t)
  match t with
  | .loopback b l =>
    let r := Config.loopback s.freeCtr
    s.tick.modSec (fun x => { x with loops := tblSet 0 x.loops (loopKey (tapDie die b) l) r })
  | .wrapper b l => s.emit (.tapResult (tapDie die b) (tblGet 0 s.sec.loops (loopKey (tapDie die b) l)))
  | _ => s

def execTapInstruction (die : Nat) (inst : Tap) (s : State) : Host.Outcome State Fault Refusal := .next (s.tapIn die inst)

end Sys2Proof.Machine
end

