-- ==== Sys2Proof/Machine/Dispatch.lean ====
section
/-! DEFINITION. The effect of each command on everything but the queue: one arm for each row of the table of
operations and events, each one call of the row's meaning. -/

namespace Sys2Proof.Machine

open Sys2Proof

/-- What a command does. -/
def exec (i : Instr) (s : State) : Host.Outcome State Fault Refusal :=
  match i with
  -- bring-up and clock
  | .powerOn env => Sys2Proof.Machine.execPowerOn env s
  | .stepTimeout step parts sites => Sys2Proof.Machine.execStepTimeout step parts sites s
  | .pwrgdFall => Sys2Proof.Machine.execPwrgdFall s
  | .perstN => Sys2Proof.Machine.execPerstN s
  | .refLost => Sys2Proof.Machine.execRefLost s
  | .refRestored => Sys2Proof.Machine.execRefRestored s
  | .clockFatal => Sys2Proof.Machine.execClockFatal s
  | .pllUnlock p => Sys2Proof.Machine.execPllUnlock p s
  | .d2dPllUnlock die => Sys2Proof.Machine.execD2dPllUnlock die s
  | .synthUnlock k => Sys2Proof.Machine.execSynthUnlock k s
  | .thermalTrip => Sys2Proof.Machine.execThermalTrip s
  -- registers
  | .registerWrite path addr data => Sys2Proof.Machine.execRegisterWrite path addr data s
  | .rcRead path addr len => Sys2Proof.Machine.execRcRead path addr len s
  | .gtsLoRead len => Sys2Proof.Machine.execGtsLoRead len s
  | .evtForceWrite page v => Sys2Proof.Machine.execEvtForceWrite page v s
  | .evtEnWrite addr v => Sys2Proof.Machine.execEvtEnWrite addr v s
  | .errCountClr page v => Sys2Proof.Machine.execErrCountClr page v s
  -- core
  | .start core => Sys2Proof.Machine.execStart core s
  | .stop core => Sys2Proof.Machine.execStop core s
  | .returnAll core => Sys2Proof.Machine.execReturnAll core s
  | .qheadWrite core v => Sys2Proof.Machine.execQheadWrite core v s
  | .qtailWrite core v => Sys2Proof.Machine.execQtailWrite core v s
  | .matmul core => Sys2Proof.Machine.execMatmul core s
  | .vecop core => Sys2Proof.Machine.execVecop core s
  | .softmaxStream core => Sys2Proof.Machine.execSoftmaxStream core s
  | .convert core => Sys2Proof.Machine.execConvert core s
  | .xaSpill core => Sys2Proof.Machine.execXaSpill core s
  | .xaFill core => Sys2Proof.Machine.execXaFill core s
  | .load core => Sys2Proof.Machine.execLoad core s
  | .store core => Sys2Proof.Machine.execStore core s
  | .signal core => Sys2Proof.Machine.execSignal core s
  | .wait core => Sys2Proof.Machine.execWait core s
  | .ticket core => Sys2Proof.Machine.execTicket core s
  | .ret core => Sys2Proof.Machine.execRet core s
  | .cueWait core => Sys2Proof.Machine.execCueWait core s
  | .cueWaitTarget core => Sys2Proof.Machine.execCueWaitTarget core s
  | .fence core => Sys2Proof.Machine.execFence core s
  | .endRec core => Sys2Proof.Machine.execEndRec core s
  | .recordComplete core slot => Sys2Proof.Machine.execRecordComplete core slot s
  | .coreHalt core => Sys2Proof.Machine.execCoreHalt core s
  | .ticketTimeout core => Sys2Proof.Machine.execTicketTimeout core s
  | .waitTimeout p src => Sys2Proof.Machine.execWaitTimeout p src s
  | .withdrawNotice core => Sys2Proof.Machine.execWithdrawNotice core s
  -- memory and Usher
  | .eccWriteback addr => Sys2Proof.Machine.execEccWriteback addr s
  | .scrubLine clu upsets => Sys2Proof.Machine.execScrubLine clu upsets s
  | .repairDone clu => Sys2Proof.Machine.execRepairDone clu s
  | .reqTailWrite p v => Sys2Proof.Machine.execReqTailWrite p v s
  | .create p => Sys2Proof.Machine.execCreate p s
  | .destroy p => Sys2Proof.Machine.execDestroy p s
  | .pin p => Sys2Proof.Machine.execPin p s
  | .unpin p => Sys2Proof.Machine.execUnpin p s
  | .map p => Sys2Proof.Machine.execMap p s
  | .unmap p => Sys2Proof.Machine.execUnmap p s
  | .placePoint p => Sys2Proof.Machine.execPlacePoint p s
  | .rehearseBegin p => Sys2Proof.Machine.execRehearseBegin p s
  | .rehearseEnd p => Sys2Proof.Machine.execRehearseEnd p s
  | .sceneDefine p => Sys2Proof.Machine.execSceneDefine p s
  | .sceneSwap p => Sys2Proof.Machine.execSceneSwap p s
  | .sceneSwapComplete p => Sys2Proof.Machine.execSceneSwapComplete p s
  | .ctxInit p => Sys2Proof.Machine.execCtxInit p s
  | .hostBar2Read addr len => Sys2Proof.Machine.execHostBar2Read addr len s
  | .hostBar2Write addr data => Sys2Proof.Machine.execHostBar2Write addr data s
  | .epoch p => Sys2Proof.Machine.execEpoch p s
  | .migrate p handle shard => Sys2Proof.Machine.execMigrate p handle shard s
  | .mpRead p m => Sys2Proof.Machine.execMpRead p m s
  | .mpWrite p m => Sys2Proof.Machine.execMpWrite p m s
  | .mpReadData p m => Sys2Proof.Machine.execMpReadData p m s
  | .mpWriteAck p m => Sys2Proof.Machine.execMpWriteAck p m s
  | .mpTimeout p tag => Sys2Proof.Machine.execMpTimeout p tag s
  | .exportEnable p v => Sys2Proof.Machine.execExportEnable p v s
  | .contextSwitch p => Sys2Proof.Machine.execContextSwitch p s
  | .contextResume p => Sys2Proof.Machine.execContextResume p s
  -- sync
  | .hostSet p obj v => Sys2Proof.Machine.execHostSet p obj v s
  | .hostAdd p v => Sys2Proof.Machine.execHostAdd p v s
  | .signalMessage p m => Sys2Proof.Machine.execSignalMessage p m s
  | .syncAck p m => Sys2Proof.Machine.execSyncAck p m s
  | .syncAckTimer p peer => Sys2Proof.Machine.execSyncAckTimer p peer s
  | .sigAckTimeout p peer => Sys2Proof.Machine.execSigAckTimeout p peer s
  | .seqQuery p m => Sys2Proof.Machine.execSeqQuery p m s
  | .seqQueryRetry p peer => Sys2Proof.Machine.execSeqQueryRetry p peer s
  | .seqReply p m => Sys2Proof.Machine.execSeqReply p m s
  | .seqSkip p m => Sys2Proof.Machine.execSeqSkip p m s
  | .refused p m => Sys2Proof.Machine.execRefused p m s
  | .dropped p m => Sys2Proof.Machine.execDropped p m s
  | .resend p => Sys2Proof.Machine.execResend p s
  | .discard p => Sys2Proof.Machine.execDiscard p s
  | .bhCensus p => Sys2Proof.Machine.execBhCensus p s
  | .bhQuery p m => Sys2Proof.Machine.execBhQuery p m s
  | .bhReply p m => Sys2Proof.Machine.execBhReply p m s
  | .bhQueryTimeout p peer => Sys2Proof.Machine.execBhQueryTimeout p peer s
  | .bhReport p => Sys2Proof.Machine.execBhReport p s
  -- time
  | .timingSend port => Sys2Proof.Machine.execTimingSend port s
  | .timing port body t => Sys2Proof.Machine.execTiming port body t s
  | .gtsTick => Sys2Proof.Machine.execGtsTick s
  | .gtsSet => Sys2Proof.Machine.execGtsSet s
  | .rateAdjWrite v => Sys2Proof.Machine.execRateAdjWrite v s
  | .tsuCfgWrite v => Sys2Proof.Machine.execTsuCfgWrite v s
  | .tsuHoldover => Sys2Proof.Machine.execTsuHoldover s
  | .altTakeover => Sys2Proof.Machine.execAltTakeover s
  | .cueActWrite v => Sys2Proof.Machine.execCueActWrite v s
  | .cueFire cue => Sys2Proof.Machine.execCueFire cue s
  -- DMA
  | .ringTailWrite ch v => Sys2Proof.Machine.execRingTailWrite ch v s
  | .channelEnable ch v => Sys2Proof.Machine.execChannelEnable ch v s
  | .channelDisable ch v => Sys2Proof.Machine.execChannelDisable ch v s
  | .abort ch => Sys2Proof.Machine.execAbort ch s
  | .dmaResume ch => Sys2Proof.Machine.execDmaResume ch s
  | .linear ch => Sys2Proof.Machine.execLinear ch s
  | .strided ch => Sys2Proof.Machine.execStrided ch s
  | .fetch ch => Sys2Proof.Machine.execFetch ch s
  | .interleave ch => Sys2Proof.Machine.execInterleave ch s
  | .deinterleave ch => Sys2Proof.Machine.execDeinterleave ch s
  | .nibblePlane ch => Sys2Proof.Machine.execNibblePlane ch s
  | .bytePlane ch => Sys2Proof.Machine.execBytePlane ch s
  | .descriptorComplete ch => Sys2Proof.Machine.execDescriptorComplete ch s
  | .chainEvent ch => Sys2Proof.Machine.execChainEvent ch s
  | .nativeRead p m => Sys2Proof.Machine.execNativeRead p m s
  | .nativeWrite p m => Sys2Proof.Machine.execNativeWrite p m s
  | .readData p m => Sys2Proof.Machine.execReadData p m s
  | .writeAck p m => Sys2Proof.Machine.execWriteAck p m s
  | .nativeError p m => Sys2Proof.Machine.execNativeError p m s
  -- DL8
  | .controlCycle k reads => Sys2Proof.Machine.execControlCycle k reads s
  | .laserLost k b => Sys2Proof.Machine.execLaserLost k b s
  | .rampDone k => Sys2Proof.Machine.execRampDone k s
  | .rampFail k => Sys2Proof.Machine.execRampFail k s
  | .laserRestored k b => Sys2Proof.Machine.execLaserRestored k b s
  | .uncross k => Sys2Proof.Machine.execUncross k s
  | .ringAcquire k ring code => Sys2Proof.Machine.execRingAcquire k ring code s
  | .ringReacqTimeout k ring => Sys2Proof.Machine.execRingReacqTimeout k ring s
  | .lineWeak k ring => Sys2Proof.Machine.execLineWeak k ring s
  | .eyeMeasure port margins => Sys2Proof.Machine.execEyeMeasure port margins s
  | .cdrLockLoss port lane => Sys2Proof.Machine.execCdrLockLoss port lane s
  | .portEnable port => Sys2Proof.Machine.execPortEnable port s
  | .portDisable port => Sys2Proof.Machine.execPortDisable port s
  | .portCapWrite port v => Sys2Proof.Machine.execPortCapWrite port v s
  | .requal port => Sys2Proof.Machine.execRequal port s
  | .lossOfSignal port dark => Sys2Proof.Machine.execLossOfSignal port dark s
  | .losTimeout port => Sys2Proof.Machine.execLosTimeout port s
  | .signalReturn port => Sys2Proof.Machine.execSignalReturn port s
  | .burstReceive port delim t => Sys2Proof.Machine.execBurstReceive port delim t s
  | .intrusion port => Sys2Proof.Machine.execIntrusion port s
  | .delimiterTimeout port => Sys2Proof.Machine.execDelimiterTimeout port s
  | .adcConversion k raw => Sys2Proof.Machine.execAdcConversion k raw s
  | .adcFrame k ok => Sys2Proof.Machine.execAdcFrame k ok s
  | .imReq k v => Sys2Proof.Machine.execImReq k v s
  | .intermissionEnd port cal => Sys2Proof.Machine.execIntermissionEnd port cal s
  | .forcedIntermission port => Sys2Proof.Machine.execForcedIntermission port s
  -- link
  | .phyTrained port delayOk => Sys2Proof.Machine.execPhyTrained port delayOk s
  | .capResend l => Sys2Proof.Machine.execCapResend l s
  | .cap l flit => Sys2Proof.Machine.execCap l flit s
  | .capAck l flit => Sys2Proof.Machine.execCapAck l flit s
  | .capTimeout l => Sys2Proof.Machine.execCapTimeout l s
  | .dataFlit l flit => Sys2Proof.Machine.execDataFlit l flit s
  | .nullFlit l flit => Sys2Proof.Machine.execNullFlit l flit s
  | .ackTimer l => Sys2Proof.Machine.execAckTimer l s
  | .replayTimeout l => Sys2Proof.Machine.execReplayTimeout l s
  | .creditTimeout l tc => Sys2Proof.Machine.execCreditTimeout l tc s
  | .messageStart l tc => Sys2Proof.Machine.execMessageStart l tc s
  | .relayForward p idx => Sys2Proof.Machine.execRelayForward p idx s
  | .pause port os => Sys2Proof.Machine.execPause port os s
  | .resume port os => Sys2Proof.Machine.execResume port os s
  | .retrainComplete port => Sys2Proof.Machine.execRetrainComplete port s
  | .retrainTimeout port => Sys2Proof.Machine.execRetrainTimeout port s
  | .down port os => Sys2Proof.Machine.execDown port os s
  | .curtainHold l os => Sys2Proof.Machine.execCurtainHold l os s
  | .curtainRelease l os => Sys2Proof.Machine.execCurtainRelease l os s
  | .curtainFence l os => Sys2Proof.Machine.execCurtainFence l os s
  | .fencePoint l => Sys2Proof.Machine.execFencePoint l s
  | .fenceDone l os => Sys2Proof.Machine.execFenceDone l os s
  | .curtLapsed l scope => Sys2Proof.Machine.execCurtLapsed l scope s
  | .censusSend l => Sys2Proof.Machine.execCensusSend l s
  | .census l flit => Sys2Proof.Machine.execCensus l flit s
  -- fabric
  | .houseSlot port slot => Sys2Proof.Machine.execHouseSlot port slot s
  | .hsSwap port => Sys2Proof.Machine.execHsSwap port s
  | .hsStop port => Sys2Proof.Machine.execHsStop port s
  | .rerange port => Sys2Proof.Machine.execRerange port s
  | .range port m t => Sys2Proof.Machine.execRange port m t s
  | .rangeFail port => Sys2Proof.Machine.execRangeFail port s
  | .hello port m => Sys2Proof.Machine.execHello port m s
  | .helloResend port => Sys2Proof.Machine.execHelloResend port s
  | .leader port m => Sys2Proof.Machine.execLeader port m s
  | .root port m => Sys2Proof.Machine.execRoot port m s
  | .holdout port m => Sys2Proof.Machine.execHoldout port m s
  | .digest m => Sys2Proof.Machine.execDigest m s
  | .digestResult m => Sys2Proof.Machine.execDigestResult m s
  | .peerAbsent peer => Sys2Proof.Machine.execPeerAbsent peer s
  | .phaseWaitTimeout => Sys2Proof.Machine.execPhaseWaitTimeout s
  | .maxAnchor p m => Sys2Proof.Machine.execMaxAnchor p m s
  | .exactAdd p m => Sys2Proof.Machine.execExactAdd p m s
  | .peerEntryWrite b v => Sys2Proof.Machine.execPeerEntryWrite b v s
  -- power and heat
  | .ticketGrant p => Sys2Proof.Machine.execTicketGrant p s
  | .budgetCommit p => Sys2Proof.Machine.execBudgetCommit p s
  | .sensorSample reads => Sys2Proof.Machine.execSensorSample reads s
  | .sensorShortage => Sys2Proof.Machine.execSensorShortage s
  | .rateHoldEnd => Sys2Proof.Machine.execRateHoldEnd s
  | .boardCapWrite path v => Sys2Proof.Machine.execBoardCapWrite path v s
  | .boxAudit p => Sys2Proof.Machine.execBoxAudit p s
  -- Understudy
  | .fastFrame k frame mismatch => Sys2Proof.Machine.execFastFrame k frame mismatch s
  | .switchOver k => Sys2Proof.Machine.execSwitchOver k s
  | .forceSwitch k => Sys2Proof.Machine.execForceSwitch k s
  | .clearFailed k => Sys2Proof.Machine.execClearFailed k s
  | .ramPass k ctl ok => Sys2Proof.Machine.execRamPass k ctl ok s
  | .revert k => Sys2Proof.Machine.execRevert k s
  -- trust and resets
  | .chipletDescriptor k desc licence => Sys2Proof.Machine.execChipletDescriptor k desc licence s
  | .selectEcho k rec => Sys2Proof.Machine.execSelectEcho k rec s
  | .chipletDescriptorTimeout k => Sys2Proof.Machine.execChipletDescriptorTimeout k s
  | .coreReset core => Sys2Proof.Machine.execCoreReset core s
  | .clusterReset clu => Sys2Proof.Machine.execClusterReset clu s
  | .resetPartition path => Sys2Proof.Machine.execResetPartition path s
  | .resetDevice path => Sys2Proof.Machine.execResetDevice path s
  | .deviceReset => Sys2Proof.Machine.execDeviceReset s
  | .fwActivate path => Sys2Proof.Machine.execFwActivate path s
  | .lockoutEnd => Sys2Proof.Machine.execLockoutEnd s
  | .keyRollover path => Sys2Proof.Machine.execKeyRollover path s
  | .fuseWrite path readBack => Sys2Proof.Machine.execFuseWrite path readBack s
  | .curtain path => Sys2Proof.Machine.execCurtain path s
  | .linkFence path => Sys2Proof.Machine.execLinkFence path s
  | .unfence path => Sys2Proof.Machine.execUnfence path s
  | .testUnlock path => Sys2Proof.Machine.execTestUnlock path s
  | .tenantAssign path => Sys2Proof.Machine.execTenantAssign path s
  | .settingsCommit path => Sys2Proof.Machine.execSettingsCommit path s
  | .getChallenge path => Sys2Proof.Machine.execGetChallenge path s
  | .challengeExpiry => Sys2Proof.Machine.execChallengeExpiry s
  | .flashWrite path => Sys2Proof.Machine.execFlashWrite path s
  | .provision path => Sys2Proof.Machine.execProvision path s
  | .heldWrite => Sys2Proof.Machine.execHeldWrite s
  | .getVersion => Sys2Proof.Machine.execGetVersion s
  | .getCapabilities => Sys2Proof.Machine.execGetCapabilities s
  | .negotiateAlgorithms p384 sha384 => Sys2Proof.Machine.execNegotiateAlgorithms p384 sha384 s
  | .getDigests => Sys2Proof.Machine.execGetDigests s
  | .getCertificate slot offset len => Sys2Proof.Machine.execGetCertificate slot offset len s
  | .challenge slot nonce => Sys2Proof.Machine.execChallenge slot nonce s
  | .getMeasurements index sign nonce => Sys2Proof.Machine.execGetMeasurements index sign nonce s
  | .perstNDeassert env => Sys2Proof.Machine.execPerstNDeassert env s
  | .ucieRetrainComplete ring k => Sys2Proof.Machine.execUcieRetrainComplete ring k s
  | .understudyAck k ack kind1 => Sys2Proof.Machine.execUnderstudyAck k ack kind1 s
  | .msiXVectorUnmask vec => Sys2Proof.Machine.execMsiXVectorUnmask vec s
  | .tapInstruction die inst => Sys2Proof.Machine.execTapInstruction die inst s

end Sys2Proof.Machine
end

