-- ==== Sys2Proof/Safety.lean ====
section
/-! DEFINITION. What the claims call a safe step, and the properties of a state that the machine keeps: its tables and
memories in canonical form, and what a step may never take back. -/

namespace Sys2Proof.Machine

open Sys2Proof

/-- A step that does not stop the machine. -/
def Safe (s : State) : Prop := ∃ t, step s = .next t

/-- The canonical form of every byte store and of the register store: addresses strictly rising, and no entry that holds
what an unlisted address holds. -/
def Memory.wf (s : State) : Bool :=
  tblWf (fun _ => 0#8) s.mem && tblWf (fun _ => Health.ok) s.ecc && tblWf (fun _ => 0#8) s.host
    && tblWf (fun _ => 0xFF#8) s.flash && tblWf resetAt s.regs

/-- Every bit of one number is a bit of another. -/
def bitsIn (a b : Nat) : Bool := a &&& b == a

/-- A blown fuse bit stays 1 (R318): each field that can be written in the field or at provisioning holds every bit it
held before, and the regions written only before shipping are the same. -/
def FuseSt.grows (f g : FuseSt) : Prop :=
  bitsIn f.revoke g.revoke = true ∧ bitsIn f.svn g.svn = true ∧ (f.provisioned = true → g.provisioned = true)
    ∧ (∀ k, bitsIn (tblGet 0 f.repair k) (tblGet 0 g.repair k) = true)
    ∧ (∀ i, f.ownerHash.getD i 0 &&& g.ownerHash.getD i 0 = f.ownerHash.getD i 0)
    ∧ f.ident = g.ident ∧ f.yield = g.yield ∧ f.base = g.base ∧ f.rootHash = g.rootHash
    ∧ f.testHash = g.testHash ∧ f.uds = g.uds ∧ f.kek = g.kek ∧ f.dieId = g.dieId ∧ f.delays = g.delays ∧ f.scratch = g.scratch
    ∧ f.lanes = g.lanes ∧ f.spares = g.spares ∧ f.ringsBad = g.ringsBad ∧ f.adcRef = g.adcRef ∧ f.sensors = g.sensors

/-! ## What a command may change -/

/-- The parts of the state, the queue of commands aside. -/
inductive Field where
  | ctrlClk | freeCtr | wire | regs | mem | ecc | host | flash | pba | pwr | fuses | sec | mbHost | mbBoard | mbOrder
  | fab | thm | tsu | parts | boxes | loans | ushers | syncs | clus | cores | chans | sites | rings | ports | links |
  peers | croutes | inbox | relay | hostBad
deriving DecidableEq, Repr

/-- One part has in `t` the contents it has in `s`. -/
def Field.same (f : Field) (s t : State) : Prop :=
  match f with
  | .ctrlClk => t.ctrlClk = s.ctrlClk | .freeCtr => t.freeCtr = s.freeCtr | .wire => t.wire = s.wire
  | .regs => t.regs = s.regs | .mem => t.mem = s.mem | .ecc => t.ecc = s.ecc | .host => t.host = s.host
  | .flash => t.flash = s.flash | .pba => t.pba = s.pba | .pwr => t.pwr = s.pwr | .fuses => t.fuses = s.fuses
  | .sec => t.sec = s.sec | .mbHost => t.mbHost = s.mbHost | .mbBoard => t.mbBoard = s.mbBoard
  | .mbOrder => t.mbOrder = s.mbOrder | .fab => t.fab = s.fab | .thm => t.thm = s.thm | .tsu => t.tsu = s.tsu
  | .parts => t.parts = s.parts | .boxes => t.boxes = s.boxes | .loans => t.loans = s.loans
  | .ushers => t.ushers = s.ushers | .syncs => t.syncs = s.syncs | .clus => t.clus = s.clus
  | .cores => t.cores = s.cores | .chans => t.chans = s.chans | .sites => t.sites = s.sites
  | .rings => t.rings = s.rings | .ports => t.ports = s.ports | .links => t.links = s.links
  | .peers => t.peers = s.peers | .croutes => t.croutes = s.croutes | .inbox => t.inbox = s.inbox
  | .relay => t.relay = s.relay | .hostBad => t.hostBad = s.hostBad

/-- `t` differs from `s` in the named parts at most; the queue of commands is the same. -/
def State.sameBut (F : List Field) (s t : State) : Prop :=
  t.pending = s.pending ∧ ∀ f, f ∉ F → f.same s t

/-- The registers that recording an event of a page may write (R373 to R375): its event status registers, ERR_LOG_HEAD and
ERR_COUNT, and the log's own registers with the PROMPT page's LOG_DROP event. -/
def isEventReg (page a : Nat) : Bool :=
  [page + rHDR_EVT_STAT, page + rHDR_ERR_LOG_HEAD, page + rHDR_ERR_COUNT, aPrompt + rHDR_EVT_STAT,
    aPrompt + rHDR_ERR_LOG_HEAD, aPrompt + rHDR_ERR_COUNT, aPrompt + rPROMPT_LOG_WR, aPrompt + rPROMPT_LOG_DROP].contains a
    || (page == aDev && a == aDev + rDEV_FAB_EVT)
    || (List.range 8).any (fun n => a == page + 0x300 + 0x80 * n + rOIOLINK_LNK_EVT)

/-- One byte of on-package memory, by global address. -/
def State.memByte (s : State) (a : Nat) : Byte := tblGet 0 s.mem a

/-- The memory with runs of bytes written at offsets of a core's scratch, in address order. -/
def scrMem (core : Nat) (ws : List (Nat × List Byte)) (m : Tbl Byte) : Tbl Byte :=
  (mergeWrites ws).foldl (fun m w => memWrite 0 m (scratchAddr core w.1) w.2) m

/-- A record of a core's flight list that issued with code OK and has not completed: its slot, whether its effect was
taken, its arithmetic flags and LATE. -/
def inFlight (c : CoreSt) (x : Slot) (acted : Bool) (flags : Nat) (late : Bool) : Prop :=
  ∃ f ∈ c.flight, f.slot = x ∧ f.done = false ∧ f.code = stOK ∧ f.acted = acted ∧ f.flags = flags ∧ f.late = late

/-- No record of a core waits to act: none is an issued SIGNAL, RETURN, FENCE or END whose effect is still to come. -/
def CoreSt.quiet (c : CoreSt) : Prop := ∀ f ∈ c.flight, f.unacted = false

/-- What a record that computes leaves (R65, R71): its runs of bytes in scratch, its accumulators, the record in flight with
code OK and its flags, the slot taken out of the fetched ones, and everything else as it was. -/
def Computed (core : Nat) (x : Slot) (s t : State) (ws : List (Nat × List Byte)) (xs : List (Nat × Xa)) (fl : Flags) : Prop :=
  t.mem = scrMem core ws s.mem
    ∧ (t.core core).xa = xs.foldl (fun m e => tblSet Xa.none m e.1 e.2) (s.core core).xa
    ∧ inFlight (t.core core) x false (flagBits fl) false
    ∧ (∃ l, (t.core core).fetched = (s.core core).fetched.drop 1 ++ l)
    ∧ s.sameBut [.cores, .mem, .freeCtr] t ∧ ∀ j, j ≠ core → t.core j = s.core j

/-- The bytes of a range of a handle, shard by shard, in a memory. -/
def HandleSt.bytesIn (h : HandleSt) (p off n : Nat) (m : Tbl Byte) : List Byte :=
  (h.pieces off n).flatMap (fun e =>
    match (h.shard e.1).loc with
    | none => []
    | some l => memRead 0 m (shardAddr p l e.2.1) e.2.2)

/-- A memory with bytes written into a range of a handle, shard by shard. -/
def HandleSt.memWith (h : HandleSt) (p off n : Nat) (bs : List Byte) (m : Tbl Byte) : Tbl Byte :=
  ((h.pieces off n).foldl (fun (a : Tbl Byte × List Byte) e =>
    match (h.shard e.1).loc with
    | none => a
    | some l => (memWrite 0 a.1 (shardAddr p l e.2.1) (a.2.take e.2.2), a.2.drop e.2.2)) (m, bs)).1

/-- The bytes at a displacement of a local endpoint word, given the two memories: on-package, and the host's. -/
def State.bytesAt (s : State) (m : Tbl Byte × Tbl Byte) (e : Endpt) (d : Int) (n : Nat) : List Byte :=
  match e with
  | .handle p h off => match s.handle p h with
    | some x => x.bytesIn p (off + d).toNat n m.1
    | none => []
  | .scratch core a => memRead 0 m.1 (scratchAddr core (a + d).toNat) n
  | .host a => memRead 0 m.2 ((a + d).toNat % 2 ^ 64) n
  | .peer _ _ _ _ => []

/-- The two memories with bytes written at a displacement of a local endpoint word. -/
def State.putAt (s : State) (e : Endpt) (d : Int) (bs : List Byte) (m : Tbl Byte × Tbl Byte) : Tbl Byte × Tbl Byte :=
  match e with
  | .handle p h off => match s.handle p h with
    | some x => (x.memWith p (off + d).toNat bs.length bs m.1, m.2)
    | none => m
  | .scratch core a => (memWrite 0 m.1 (scratchAddr core (a + d).toNat) bs, m.2)
  | .host a => (m.1, memWrite 0 m.2 ((a + d).toNat % 2 ^ 64) bs)
  | .peer _ _ _ _ => m

/-- Two endpoints lie in different spaces: another kind, core or handle, so that no byte of one is a byte of the other. -/
def Endpt.apart (a b : Endpt) : Bool := (a.span 0).1 != (b.span 0).1 || (a.span 0).2.1 != (b.span 0).2.1

/-- An event bit of a page is set. -/
def State.evt (s : State) (page b : Nat) : Bool := rb (s.reg (page + rHDR_EVT_STAT)) b

/-! ## What each command may change -/

/-- Every part of the state but the queue of commands. -/
def Field.all : List Field :=
  [.ctrlClk, .freeCtr, .wire, .regs, .mem, .ecc, .host, .flash, .pba, .pwr, .fuses, .sec, .mbHost, .mbBoard, .mbOrder, .fab, .thm,
    .tsu, .parts, .boxes, .loans, .ushers, .syncs, .clus, .cores, .chans, .sites, .rings, .ports, .links, .peers, .croutes,
    .inbox, .relay, .hostBad]

/-- All parts but some. -/
def allBut (F : List Field) : List Field := Field.all.filter (fun f => f ∉ F)

/-- The parts of the state that a command may change, whatever the state it meets. -/
def mayChange (i : Instr) : List Field :=
  match i with
  | .getDigests | .getCertificate _ _ _ => [.wire]
  | .errCountClr _ _ => [.regs]
  | .eccWriteback _ => [.ecc]
  | .d2dPllUnlock _ => [.pwr]
  | .lockoutEnd | .challengeExpiry => [.sec]
  | .gtsSet | .rateAdjWrite _ | .cueActWrite _ => [.tsu]
  | .epoch _ => [.ushers]
  | .forceSwitch _ | .clearFailed _ => [.sites]
  | .eyeMeasure _ _ | .signalReturn _ | .delimiterTimeout _ | .hsSwap _ | .hsStop _ | .rerange _ | .range _ _ _ => [.ports]
  | .challenge _ _ | .getMeasurements _ _ _ => [.freeCtr, .wire]
  | .refRestored => [.wire, .pwr]
  | .getVersion | .getCapabilities | .negotiateAlgorithms _ _ => [.wire, .sec]
  | .bhQueryTimeout _ _ => [.regs, .syncs]
  | .qheadWrite _ _ => [.regs, .cores]
  | .returnAll _ => [.boxes, .cores]
  | .channelEnable _ _ => [.regs, .chans]
  | .cdrLockLoss _ _ => [.regs, .ports]
  | .lineWeak _ _ => [.rings, .ports]
  | .capResend _ | .ackTimer _ | .messageStart _ _ | .censusSend _ => [.wire, .links]
  | .peerEntryWrite _ _ => [.syncs, .peers]
  | .msiXVectorUnmask _ => [.wire, .regs, .pba]
  | .tapInstruction _ _ => [.freeCtr, .wire, .sec]
  | .heldWrite => [.freeCtr, .flash, .sec]
  | .burstReceive _ _ _ => [.freeCtr, .regs, .ports]
  | .timingSend _ => [.wire, .tsu, .links]
  | .fencePoint _ => [.wire, .sites, .links]
  | .evtForceWrite _ _ | .evtEnWrite _ _ => [.wire, .regs, .host, .pba]
  | .exportEnable _ _ => [.regs, .mem, .ecc, .ushers]
  | .ticketGrant _ => [.regs, .boxes, .loans, .cores]
  | .imReq _ _ => [.wire, .regs, .ports, .links]
  | .portEnable _ => [.regs, .rings, .ports, .links]
  | .seqSkip _ _ => [.wire, .syncs, .links, .inbox]
  | .nativeError _ _ => [.wire, .chans, .links, .inbox]
  | .tsuCfgWrite _ | .tsuHoldover | .altTakeover => [.wire, .regs, .host, .pba, .tsu]
  | .boxAudit _ => [.wire, .regs, .host, .pba, .boxes]
  | .repairDone _ => [.wire, .regs, .host, .pba, .clus]
  | .coreHalt _ => [.wire, .regs, .host, .pba, .cores]
  | .chainEvent _ => [.wire, .regs, .host, .pba, .chans]
  | .laserLost _ _ | .rampFail _ | .laserRestored _ _ | .adcConversion _ _ | .adcFrame _ _ | .revert _ =>
    [.wire, .regs, .host, .pba, .sites]
  | .intrusion _ | .rangeFail _ => [.wire, .regs, .host, .pba, .ports]
  | .curtainHold _ _ | .curtainRelease _ _ | .curtainFence _ _ | .fenceDone _ _ | .curtLapsed _ _ =>
    [.wire, .regs, .host, .pba, .links]
  | .requal _ => [.wire, .regs, .rings, .ports, .links]
  | .gtsTick => [.ctrlClk, .wire, .regs, .host, .pba, .tsu]
  | .refLost => [.wire, .regs, .host, .pba, .pwr, .tsu]
  | .budgetCommit _ | .boardCapWrite _ _ => [.wire, .regs, .host, .pba, .boxes, .loans]
  | .withdrawNotice _ => [.wire, .regs, .host, .pba, .boxes, .cores]
  | .gtsLoRead _ => [.wire, .regs, .host, .pba, .tsu, .ports]
  | .timing _ _ _ => [.wire, .regs, .host, .pba, .tsu, .links]
  | .lossOfSignal _ _ => [.wire, .regs, .host, .pba, .ports, .links]
  | .uncross _ => [.wire, .regs, .sites, .rings, .ports, .links]
  | .holdout _ _ | .digestResult _ => [.wire, .regs, .host, .pba, .links, .inbox]
  | .sensorSample _ | .sensorShortage | .rateHoldEnd => [.wire, .regs, .host, .pba, .thm, .boxes, .loans]
  | .phyTrained _ _ => [.freeCtr, .wire, .regs, .host, .pba, .ports, .links]
  | .forcedIntermission _ => [.wire, .regs, .host, .pba, .sites, .ports, .links]
  | .seqReply _ _ => [.wire, .regs, .host, .pba, .syncs, .links, .inbox]
  | .seqQuery _ _ | .seqQueryRetry _ _ | .bhQuery _ _ | .digest _ => [.wire, .regs, .host, .pba, .links, .inbox, .relay]
  | .scrubLine _ _ => [.freeCtr, .wire, .regs, .mem, .ecc, .host, .pba, .clus]
  | .rcRead _ _ _ => [.wire, .regs, .host, .pba, .mbHost, .mbBoard, .tsu, .ports]
  | .rampDone _ => [.wire, .regs, .host, .pba, .sites, .rings, .ports, .links]
  | .syncAckTimer _ _ | .resend _ | .discard _ | .bhCensus _ | .bhReply _ _ | .bhReport _ =>
    [.wire, .regs, .host, .pba, .syncs, .links, .inbox, .relay]
  | .writeAck _ _ => [.wire, .regs, .host, .pba, .chans, .links, .inbox, .relay]
  | .hostBar2Read _ _ | .hostBar2Write _ _ => [.freeCtr, .wire, .regs, .mem, .ecc, .host, .pba, .ushers, .clus]
  | .start _ | .qtailWrite _ _ => [.freeCtr, .wire, .regs, .mem, .ecc, .host, .pba, .clus, .cores]
  | .houseSlot _ _ => [.freeCtr, .wire, .regs, .host, .pba, .tsu, .sites, .ports, .links]
  | .switchOver _ => [.freeCtr, .wire, .regs, .host, .pba, .sites, .rings, .ports, .links]
  | .keyRollover _ | .unfence _ | .settingsCommit _ | .getChallenge _ | .flashWrite _ =>
    [.freeCtr, .wire, .regs, .host, .flash, .pba, .sec, .mbHost, .mbBoard, .mbOrder]
  | .hostSet _ _ _ | .hostAdd _ _ => [.freeCtr, .wire, .regs, .mem, .ecc, .host, .pba, .syncs, .clus, .cores]
  | .resetDevice _ => [.freeCtr, .wire, .regs, .host, .flash, .pba, .pwr, .sec, .mbHost, .mbBoard, .mbOrder]
  | .fuseWrite _ _ | .provision _ => [.freeCtr, .wire, .regs, .host, .flash, .pba, .fuses, .sec, .mbHost, .mbBoard, .mbOrder]
  | .reqTailWrite _ _ | .create _ | .destroy _ | .pin _ | .unpin _ | .map _ | .unmap _ | .placePoint _ | .rehearseBegin _
    | .rehearseEnd _ | .sceneDefine _ | .sceneSwapComplete _ | .ctxInit _ | .migrate _ _ _ =>
    [.freeCtr, .wire, .regs, .mem, .ecc, .host, .pba, .ushers, .syncs, .clus, .cores]
  | .channelDisable _ _ | .abort _ | .interleave _ | .deinterleave _ | .nibblePlane _ | .bytePlane _ =>
    [.freeCtr, .wire, .regs, .mem, .ecc, .host, .pba, .ushers, .syncs, .clus, .chans]
  | .mpRead _ _ | .mpWrite _ _ => [.freeCtr, .wire, .regs, .mem, .ecc, .host, .pba, .clus, .links, .inbox, .relay]
  | .hello _ _ | .helloResend _ | .leader _ _ | .root _ _ | .peerAbsent _ | .phaseWaitTimeout =>
    [.freeCtr, .wire, .regs, .host, .pba, .fab, .tsu, .ports, .links, .inbox, .relay]
  | .fwActivate _ => [.freeCtr, .wire, .regs, .host, .flash, .pba, .pwr, .fuses, .sec, .mbHost, .mbBoard, .mbOrder]
  | .ringTailWrite _ _ | .dmaResume _ | .descriptorComplete _ =>
    [.freeCtr, .wire, .regs, .mem, .ecc, .host, .pba, .ushers, .syncs, .clus, .cores, .chans]
  | .tenantAssign _ => [.freeCtr, .wire, .regs, .host, .flash, .pba, .sec, .mbHost, .mbBoard, .mbOrder, .parts, .sites]
  | .curtain _ => [.freeCtr, .wire, .regs, .host, .flash, .pba, .sec, .mbHost, .mbBoard, .mbOrder, .sites, .links]
  | .mpReadData _ _ | .mpWriteAck _ _ | .mpTimeout _ _ | .nativeRead _ _ | .nativeWrite _ _ | .maxAnchor _ _ | .exactAdd _ _ =>
    [.freeCtr, .wire, .regs, .mem, .ecc, .host, .pba, .ushers, .clus, .links, .inbox, .relay]
  | .coreReset _ | .clusterReset _ =>
    [.freeCtr, .wire, .regs, .mem, .ecc, .host, .pba, .boxes, .ushers, .syncs, .clus, .cores, .chans]
  | .signalMessage _ _ => [.freeCtr, .wire, .regs, .mem, .ecc, .host, .pba, .syncs, .clus, .cores, .links, .inbox, .relay]
  | .readData _ _ => [.freeCtr, .wire, .regs, .mem, .ecc, .host, .pba, .ushers, .clus, .chans, .links, .inbox, .relay]
  | .cueFire _ => [.freeCtr, .wire, .regs, .mem, .ecc, .host, .pba, .tsu, .syncs, .clus, .cores, .chans, .ports, .links]
  | .stop _ | .matmul _ | .vecop _ | .softmaxStream _ | .convert _ | .xaSpill _ | .xaFill _ | .signal _ | .wait _ | .ticket _
    | .ret _ | .cueWait _ | .cueWaitTarget _ | .fence _ | .endRec _ | .recordComplete _ _ | .ticketTimeout _ | .syncAck _ _ =>
    [.freeCtr, .wire, .regs, .mem, .ecc, .host, .pba, .boxes, .syncs, .clus, .cores, .links, .inbox, .relay]
  | .sceneSwap _ => [.freeCtr, .wire, .regs, .mem, .ecc, .host, .pba, .ushers, .syncs, .clus, .cores, .links, .inbox, .relay]
  | .linear _ | .strided _ | .fetch _ =>
    [.freeCtr, .wire, .regs, .mem, .ecc, .host, .pba, .ushers, .syncs, .clus, .chans, .links, .inbox, .relay]
  | .load _ | .store _ | .sigAckTimeout _ _ | .refused _ _ | .dropped _ _ =>
    [.freeCtr, .wire, .regs, .mem, .ecc, .host, .pba, .boxes, .ushers, .syncs, .clus, .cores, .links, .inbox, .relay]
  | .waitTimeout _ _ | .contextSwitch _ | .contextResume _ | .relayForward _ _ =>
    [.freeCtr, .wire, .regs, .mem, .ecc, .host, .pba, .boxes, .ushers, .syncs, .clus, .cores, .chans, .links, .inbox, .relay]
  | .ucieRetrainComplete _ _ =>
    [.freeCtr, .wire, .regs, .mem, .ecc, .host, .pba, .pwr, .boxes, .ushers, .syncs, .clus, .cores, .chans, .links, .inbox, .relay]
  | .losTimeout _ | .capTimeout _ | .dataFlit _ _ | .nullFlit _ _ | .replayTimeout _ | .creditTimeout _ _ | .retrainTimeout _
    | .down _ _ | .census _ _ =>
    [.freeCtr, .wire, .regs, .mem, .ecc, .host, .pba, .boxes, .ushers, .syncs, .clus, .cores, .chans, .sites, .ports, .links
    , .inbox, .relay]
  | .synthUnlock _ =>
    [.freeCtr, .wire, .regs, .mem, .ecc, .host, .pba, .pwr, .boxes, .ushers, .syncs, .clus, .cores, .chans, .sites, .ports, .links
    , .inbox, .relay]
  | .capAck _ _ =>
    [.freeCtr, .wire, .regs, .mem, .ecc, .host, .pba, .tsu, .boxes, .ushers, .syncs, .clus, .cores, .chans, .sites, .ports, .links
    , .inbox, .relay]
  | .controlCycle _ _ | .ringAcquire _ _ _ | .ringReacqTimeout _ _ | .portDisable _ | .portCapWrite _ _ | .intermissionEnd _ _
    | .pause _ _ | .resume _ _ | .retrainComplete _ | .fastFrame _ _ _ | .ramPass _ _ _ | .understudyAck _ _ _ =>
    [.freeCtr, .wire, .regs, .mem, .ecc, .host, .pba, .boxes, .ushers, .syncs, .clus, .cores, .chans, .sites, .rings, .ports
    , .links, .inbox, .relay]
  | .cap _ _ =>
    [.freeCtr, .wire, .regs, .mem, .ecc, .host, .pba, .tsu, .boxes, .ushers, .syncs, .clus, .cores, .chans, .sites, .rings, .ports
    , .links, .inbox, .relay]
  | .clockFatal => allBut [.ctrlClk, .flash, .fuses, .sec, .mbHost, .mbBoard, .mbOrder, .fab, .thm, .peers, .croutes, .hostBad]
  | .linkFence _ => allBut [.ctrlClk, .pwr, .fuses, .fab, .thm, .tsu, .parts, .loans, .peers, .croutes, .hostBad]
  | .registerWrite _ _ _ => allBut [.ctrlClk, .flash, .pwr, .fuses, .sec, .fab, .thm, .parts, .hostBad]
  | .resetPartition _ | .testUnlock _ => allBut [.ctrlClk, .pwr, .fuses, .fab, .thm, .hostBad]
  | .powerOn _ | .stepTimeout _ _ _ | .chipletDescriptor _ _ _ | .selectEcho _ _ | .chipletDescriptorTimeout _ | .perstNDeassert _ =>
    allBut [.ctrlClk, .fuses, .fab, .thm, .hostBad]
  | .thermalTrip => allBut [.freeCtr, .host, .flash, .fuses, .hostBad]
  | .pwrgdFall | .perstN | .pllUnlock _ | .deviceReset => allBut [.flash, .fuses, .hostBad]

/-! ## What a register write does (R13, R364, chapters 3 to 11) -/

/-- The registers above the header whose write does more than store by the access code of its fields: their unit acts. -/
def writeActs (k : PageKind) (off : Nat) : Bool :=
  match k with
  | .dev => off == rDEV_PEER_A || off == rDEV_PEER_B || off == rDEV_CROUTE || off == rDEV_FAB_EVT_EN
  | .tsu => off == rTSU_TSU_CFG || off == rTSU_GTS_CMD || off == rTSU_RATE_ADJ || off == rTSU_ASYM_VAL || off == rTSU_CUE_ACT
  | .thm => off == rTHM_BOARD_CAP || off == rTHM_DEV_LIMIT
  | .cmdmb => off == rCMDMB_DOORBELL || (decide (0x100 ≤ off) && decide (off < 0x200))
  | .oio =>
    if 0x100 ≤ off ∧ off < 0x300 then
      off % 0x40 == rOIOPORT_CTL || off % 0x40 == rOIOPORT_SPOT || off % 0x40 == rOIOPORT_CMD
    else if 0x300 ≤ off ∧ off < 0x700 then
      off % 0x80 == rOIOLINK_LNK_CFG || off % 0x80 == rOIOLINK_CRED_CFG || off % 0x80 == rOIOLINK_LNK_EVT_EN
    else off == rOIO_LASER_CMD || off == rOIO_IM_REQ || off == rOIO_UND_CMD || off == rOIO_HS_ENTRY_A || off == rOIO_HS_ENTRY_B
      || off == rOIO_HS_CFG || off == rOIO_HS_CTL
  | .part => off == rPART_RESET_CTL
  | .ush => off == rUSH_REQ_TAIL || off == rUSH_EXPORT_CFG
  | .box => off == rBOX_BUDGET_CTL
  | .syn => off == rSYN_HOST_ADD || off == rSYN_PEER_CTL
  | .dma => off == rDMA_RING_TAIL || off == rDMA_CTL || off == rDMA_CMD || off == rDMA_RING_BASE_LO || off == rDMA_RING_BASE_HI
    || off == rDMA_RING_SIZE
  | .core => off == rCORE_SEQ_CMD || off == rCORE_QHEAD || off == rCORE_QTAIL || off == rCORE_QBASE || off == rCORE_QSIZE
    || off == rCORE_QCTL
  | .prompt | .sec | .clu | .oioPort | .oioLink => false

/-- The registers of a page's instance `i` whose write as a whole is a command of the table. -/
def wholeWrites (i : Nat) (v : W32) : List (PageKind × Nat × Instr) :=
  [(.dev, rDEV_PEER_A, .peerEntryWrite false v), (.dev, rDEV_PEER_B, .peerEntryWrite true v),
    (.tsu, rTSU_TSU_CFG, .tsuCfgWrite v), (.tsu, rTSU_RATE_ADJ, .rateAdjWrite v), (.tsu, rTSU_CUE_ACT, .cueActWrite v),
    (.thm, rTHM_BOARD_CAP, .boardCapWrite .host v), (.oio, rOIO_IM_REQ, .imReq (Fin.ofNat 8 i) v),
    (.ush, rUSH_REQ_TAIL, .reqTailWrite (Fin.ofNat 4 i) v), (.ush, rUSH_EXPORT_CFG, .exportEnable (Fin.ofNat 4 i) v),
    (.syn, rSYN_HOST_ADD, .hostAdd (Fin.ofNat 4 i) v), (.dma, rDMA_RING_TAIL, .ringTailWrite (Fin.ofNat 768 i) v),
    (.dma, rDMA_CTL, if rb v 31 then .channelEnable (Fin.ofNat 768 i) v else .channelDisable (Fin.ofNat 768 i) v),
    (.core, rCORE_QHEAD, .qheadWrite (Fin.ofNat 2304 i) v), (.core, rCORE_QTAIL, .qtailWrite (Fin.ofNat 2304 i) v)]

/-- The command registers of a page's instance `i`: the bit that a write sets, and the command that it gives. -/
def bitWrites (s : State) (i : Nat) : List (PageKind × Nat × Nat × Instr) :=
  [(.tsu, rTSU_GTS_CMD, 0, .gtsSet), (.oio, rOIO_LASER_CMD, 0, .uncross (Fin.ofNat 8 i)),
    (.oio, rOIO_UND_CMD, 0, .forceSwitch (Fin.ofNat 8 i)), (.oio, rOIO_UND_CMD, 1, .clearFailed (Fin.ofNat 8 i)),
    (.oio, rOIO_HS_CTL, 0, .hsSwap (Fin.ofNat 64 (s.hsPort i))), (.oio, rOIO_HS_CTL, 1, .hsStop (Fin.ofNat 64 (s.hsPort i))),
    (.oio, rOIO_HS_CTL, 2, .rerange (Fin.ofNat 64 (s.hsPort i))), (.box, rBOX_BUDGET_CTL, 0, .budgetCommit (Fin.ofNat 4 i)),
    (.syn, rSYN_PEER_CTL, 0, .resend (Fin.ofNat 4 i)), (.syn, rSYN_PEER_CTL, 1, .discard (Fin.ofNat 4 i)),
    (.dma, rDMA_CMD, 0, .abort (Fin.ofNat 768 i)), (.dma, rDMA_CMD, 1, .dmaResume (Fin.ofNat 768 i)),
    (.core, rCORE_SEQ_CMD, 0, .start (Fin.ofNat 2304 i)), (.core, rCORE_SEQ_CMD, 1, .stop (Fin.ofNat 2304 i)),
    (.core, rCORE_SEQ_CMD, 2, .returnAll (Fin.ofNat 2304 i))]
  ++ (List.range 8).map (fun n => (.oio, 0x100 + 0x40 * n + rOIOPORT_CMD, 0, .requal (Fin.ofNat 64 (8 * i + n))))

end Sys2Proof.Machine
end

