-- ==== Sys2Proof/WellFormed.lean ====
section
/-! DEFINITION. Which commands are well formed: every operand within the range that its field, pin or message has in the
manual. The machine gives every command a meaning, well formed or not; a sender of well-formed commands asks nothing that
no agent could. -/

namespace Sys2Proof

/-- A message of the link (R230): fields within their widths, a body of 16-byte slots. -/
def Msg.wf (m : Msg) : Bool :=
  decide (m.tc < 8) && decide (m.dstDev < 2 ^ 15) && decide (m.dstPart < 4) && decide (m.srcPart < 4)
    && decide (m.profile < 16) && decide (m.hops < 256) && decide (m.srcDev < 2 ^ 15) && decide (m.tenant < 2 ^ 16)
    && m.body.length % 16 == 0

/-- What a ring's dither measured: a ring of the site. -/
def RingRead.wf (r : RingRead) : Bool := decide (r.ring < 288)

/-- A sensor of Table 10-5. -/
def SensRead.wf (r : SensRead) : Bool := decide (r.index < 0x14C)

/-- A scope (R253): a tenant, a class mask, a partition mask. -/
def Scope.wf (x : Scope) : Bool := decide (x.tenant < 2 ^ 16) && decide (x.tcMask < 256) && decide (x.partMask < 16)

/-- What bring-up meets: units that exist, straps of nine bits. -/
def BootEnv.wf (e : BootEnv) : Bool :=
  e.partFail.all (fun p => decide (p < 4)) && e.siteFail.all (fun k => decide (k < 8))
    && e.badRows.all (fun x => decide (x.1 < 48) && decide (x.2 < 2 ^ 18)) && e.badScratch.all (fun i => decide (i < 2304))
    && e.badSpares.all (fun c => decide (c < 48)) && e.received.all (fun r => decide (r.1 < 2304) && decide (r.2.1 < 4))
    && e.hang.all (fun n => decide (n ≤ 8)) && e.settings.all (fun w => decide (w.1 < 2 ^ 26))
    && decide (e.straps < 512)

/-- An ordered set has 32 bytes (R225), a flit 256 (R226). -/
def osWf (b : List Byte) : Bool := b.length == 32
def flitWf (b : List Byte) : Bool := b.length == 256

/-- Every operand of a command is within its range. -/
def Instr.wf : Instr → Bool
  | .powerOn e | .perstNDeassert e => e.wf
  | .stepTimeout step ps ks => decide (step ≤ 8) && ps.all (fun p => decide (p < 4)) && ks.all (fun k => decide (k < 8))
  | .registerWrite _ a d => decide (a + d.length ≤ 2 ^ 26) && !d.isEmpty
  | .rcRead _ a n => decide (a + n ≤ 2 ^ 26) && decide (0 < n)
  | .gtsLoRead n => decide (0 < n)
  | .recordComplete _ slot => decide (slot < 2 ^ 16)
  | .waitTimeout _ src => decide (src < 2 ^ 16)
  | .eccWriteback a => decide (a < 2 ^ 33 + 2304 * 2 ^ 18)
  | .scrubLine _ us => us.all (fun u => decide (u.1 < 2 ^ 24 + 48 * 2 ^ 15))
  | .hostBar2Read a n => decide (a + n ≤ 2 ^ 36) && decide (0 < n)
  | .hostBar2Write a d => decide (a + d.length ≤ 2 ^ 36) && !d.isEmpty
  | .migrate _ h _ => decide (h < 2 ^ 20)
  | .mpTimeout _ tag => decide (tag < 2 ^ 16)
  | .timing _ b _ => b.length == 32
  | .controlCycle _ rs => rs.all RingRead.wf
  | .eyeMeasure _ ms => ms.all (fun x => decide (x.1 < 16))
  | .lossOfSignal _ ls => ls.all (fun l => decide (l < 18))
  | .burstReceive _ b _ => b.length == 32
  | .cap _ f | .capAck _ f | .dataFlit _ f | .nullFlit _ f | .census _ f => flitWf f
  | .pause _ b | .resume _ b | .down _ b | .curtainHold _ b | .curtainRelease _ b | .curtainFence _ b | .fenceDone _ b => osWf b
  | .curtLapsed _ x => x.wf
  | .range _ m _ | .hello _ m | .leader _ m | .root _ m | .holdout _ m => m.wf
  | .mpRead _ m | .mpWrite _ m | .mpReadData _ m | .mpWriteAck _ m | .signalMessage _ m | .syncAck _ m | .seqQuery _ m
  | .seqReply _ m | .seqSkip _ m | .refused _ m | .dropped _ m | .bhQuery _ m | .bhReply _ m | .nativeRead _ m
  | .nativeWrite _ m | .readData _ m | .writeAck _ m | .nativeError _ m | .maxAnchor _ m | .exactAdd _ m => m.wf
  | .digest m | .digestResult m => m.wf
  | .peerAbsent n => decide (n < 512)
  | .sensorSample rs => rs.all SensRead.wf
  | .fastFrame _ f _ => f.isEmpty || f.length == 248
  | .intermissionEnd _ cal => cal.margins.all (fun x => decide (x.1 < 16)) && cal.standby.all RingRead.wf
  | .chipletDescriptor _ d _ => d.length == 32
  | .selectEcho _ r => r.length == 12
  | .getCertificate s _ _ => decide (s < 8)
  | .challenge s n => decide (s < 8) && n.length == 32
  | .getMeasurements i _ _ => decide (i < 256)
  | .houseSlot _ n => decide (n < 1024)
  | .pwrgdFall | .perstN | .refLost | .refRestored | .clockFatal | .pllUnlock _ | .d2dPllUnlock _ | .synthUnlock _
  | .thermalTrip | .evtForceWrite _ _ | .evtEnWrite _ _ | .errCountClr _ _ => true
  | .start _ | .stop _ | .returnAll _ | .qheadWrite _ _ | .qtailWrite _ _ | .matmul _ | .vecop _ | .softmaxStream _
  | .convert _ | .xaSpill _ | .xaFill _ | .load _ | .store _ | .signal _ | .wait _ | .ticket _ | .ret _ | .cueWait _
  | .cueWaitTarget _ | .fence _ | .endRec _ | .coreHalt _ | .ticketTimeout _ | .withdrawNotice _ => true
  | .repairDone _ | .reqTailWrite _ _ | .create _ | .destroy _ | .pin _ | .unpin _ | .map _ | .unmap _ | .placePoint _
  | .rehearseBegin _ | .rehearseEnd _ | .sceneDefine _ | .sceneSwap _ | .sceneSwapComplete _ | .ctxInit _ | .epoch _
  | .exportEnable _ _ | .contextSwitch _ | .contextResume _ => true
  | .hostSet _ _ _ | .hostAdd _ _ | .syncAckTimer _ _ | .sigAckTimeout _ _ | .seqQueryRetry _ _ | .resend _ | .discard _
  | .bhCensus _ | .bhQueryTimeout _ _ | .bhReport _ => true
  | .timingSend _ | .gtsTick | .gtsSet | .rateAdjWrite _ | .tsuCfgWrite _ | .tsuHoldover | .altTakeover | .cueActWrite _
  | .cueFire _ => true
  | .ringTailWrite _ _ | .channelEnable _ _ | .channelDisable _ _ | .abort _ | .dmaResume _ | .linear _ | .strided _
  | .fetch _ | .interleave _ | .deinterleave _ | .nibblePlane _ | .bytePlane _ | .descriptorComplete _ | .chainEvent _ => true
  | .laserLost _ _ | .rampDone _ | .rampFail _ | .laserRestored _ _ | .uncross _ | .ringAcquire _ _ _ | .ringReacqTimeout _ _
  | .lineWeak _ _ | .cdrLockLoss _ _ | .portEnable _ | .portDisable _ | .portCapWrite _ _ | .requal _ | .losTimeout _
  | .signalReturn _ | .intrusion _ | .delimiterTimeout _ | .adcConversion _ _ | .adcFrame _ _ | .imReq _ _
  | .forcedIntermission _ => true
  | .phyTrained _ _ | .capResend _ | .capTimeout _ | .ackTimer _ | .replayTimeout _ | .creditTimeout _ _ | .messageStart _ _
  | .relayForward _ _ | .retrainComplete _ | .retrainTimeout _ | .fencePoint _ | .censusSend _ => true
  | .hsSwap _ | .hsStop _ | .rerange _ | .rangeFail _ | .helloResend _ | .phaseWaitTimeout | .peerEntryWrite _ _ => true
  | .ticketGrant _ | .budgetCommit _ | .sensorShortage | .rateHoldEnd | .boardCapWrite _ _ | .boxAudit _ => true
  | .switchOver _ | .forceSwitch _ | .clearFailed _ | .ramPass _ _ _ | .revert _ | .understudyAck _ _ _ => true
  | .chipletDescriptorTimeout _ | .coreReset _ | .clusterReset _ | .resetPartition _ | .resetDevice _ | .deviceReset
  | .fwActivate _ | .lockoutEnd | .keyRollover _ | .fuseWrite _ _ | .curtain _ | .linkFence _ | .unfence _ | .testUnlock _
  | .tenantAssign _ | .settingsCommit _ | .getChallenge _ | .challengeExpiry | .flashWrite _ | .provision _ | .heldWrite
  | .getVersion | .getCapabilities | .negotiateAlgorithms _ _ | .getDigests | .ucieRetrainComplete _ _
  | .msiXVectorUnmask _ | .tapInstruction _ _ => true

end Sys2Proof
end

