-- ==== Sys2Proof/Certificates/Slice0/Obligations.lean ====
section
/-! DEFINITION. The statements for the provers. -/

open Sys2Proof Sys2Proof.Machine

/-! ## The core sequencer (ch. 3) -/

/-- START, STOP, RETURN_ALL, QHEAD_WRITE and QTAIL_WRITE on a core whose page answers (R67, R68, R72, R74, R75). START of a
HALTED core makes it RUNNING, with its records in flight, tickets and accumulators as they were, and with nothing to fetch
changes nothing else; STOP of a core that is not HALTED stops issue and leaves no record waiting; STOP of a HALTED one has no
effect; RETURN_ALL of a HALTED core gives every ticket back to FREE; QHEAD is written while HALTED, with QDONE, and clears
DONE_MASK; of a core that is not HALTED none of START, RETURN_ALL and QHEAD has an effect; QTAIL is written unless TAIL_SRC is 1. No other core changes. Where the manual is open it follows logs 1 and 15. -/
def Obligations.SequencerCommandsActByState : Prop :=
  ∀ (core : Fin 2304) (s : State), s.pageOpen .core core true = true →
    ((s.core core).st = cHALTED →
      (∃ t, exec (.start core) s = .next t ∧ (t.core core).st = cRUNNING ∧ (t.core core).fault = none
        ∧ (t.core core).flight = (s.core core).flight ∧ (t.core core).held = (s.core core).held
        ∧ (t.core core).xa = (s.core core).xa ∧ (t.core core).qdone = (s.core core).qdone
        ∧ (∃ l, (t.core core).fetched = (s.core core).fetched ++ l) ∧ (∀ j, j ≠ core.1 → t.core j = s.core j)
        ∧ ((s.core core).qhead % s.qSlots core = s.qTail core →
          t = s.modCore core (fun c => { c with st := cRUNNING, fault := none })))
      ∧ exec (.stop core) s = .next s
      ∧ (∃ t, exec (.returnAll core) s = .next t ∧ (t.core core).held = 0
        ∧ ((s.box (partOfCore core)).notices = [] → t = (s.modCore core (fun c => { c with held := 0 })).modBox (partOfCore core)
          (fun b => { b with free := b.free + (s.core core).held })))
      ∧ ∀ v, exec (.qheadWrite core v) s = .next ((s.modCore core (fun c => { c with
          qhead := rf v 11 0, qdone := rf v 11 0, skip := [] })).setFld (aCore core + rCORE_FAULT_REC) 30 24 0))
    ∧ ((s.core core).st ≠ cHALTED →
      (∃ t, exec (.stop core) s = .next t ∧ (t.core core).st ≠ cRUNNING ∧ (∀ f ∈ (t.core core).flight, f.waits = false)
        ∧ ((s.core core).quiet → (∀ f ∈ (s.core core).flight, f.waits = false) →
          t = s.modCore core (fun c => { c with st := cDRAINING })))
      ∧ exec (.start core) s = .next s ∧ exec (.returnAll core) s = .next s ∧ ∀ v, exec (.qheadWrite core v) s = .next s)
    ∧ ∀ v, (s.tailSrc core = false → ∃ t, exec (.qtailWrite core v) s = .next t
        ∧ ((s.core core).st ≠ cRUNNING → t = s.setFld (aCore core + rCORE_QTAIL) 11 0 v.toNat)
        ∧ (t.core core).st = (s.core core).st ∧ (t.core core).flight = (s.core core).flight
        ∧ (∃ l, (t.core core).fetched = (s.core core).fetched ++ l) ∧ ∀ j, j ≠ core.1 → t.core j = s.core j)
      ∧ (s.tailSrc core = true → exec (.qtailWrite core v) s = .next s)

/-- MATMUL, VECOP, SOFTMAX_STREAM, CONVERT, XA_SPILL and XA_FILL, next to issue and past their checks, on memory without
errors (R76 to R91): each writes the bytes, accumulators and flags that its operation gives on the scratch and accumulators it
finds, and nothing else of memory, of the core's accumulators or of any other core. Where the manual is open it follows logs
1, 3, 4 and 6. -/
def Obligations.ComputingRecordsWriteTheirResults : Prop :=
  ∀ (core : Fin 2304) (s : State) (x : Slot), s.ecc = [] → (s.core core).quiet → s.issueCode core x.bytes = stOK →
    (∀ f ∈ (s.core core).flight, f.slot.idx ≠ x.idx) →
    (s.nextRec core 0x01 = some x →
      let out := runMatmul (s.scr core) (fun k => tblGet Xa.none (s.core core).xa k) s.freeCtr (matmulOf x.bytes)
      ∃ t, exec (.matmul core) s = .next t ∧ Computed core x s t out.writes out.banks out.flags)
    ∧ (s.nextRec core 0x02 = some x →
      let out := runVec (s.scr core) (vecOf x.bytes)
      ∃ t, exec (.vecop core) s = .next t ∧ Computed core x s t out.writes [] out.flags ∧ t.freeCtr = s.freeCtr)
    ∧ (s.nextRec core 0x03 = some x →
      let out := runSoft (s.scr core) (softOf x.bytes)
      ∃ t, exec (.softmaxStream core) s = .next t ∧ Computed core x s t out.writes [] out.flags ∧ t.freeCtr = s.freeCtr)
    ∧ (s.nextRec core 0x04 = some x →
      let out := runConv (s.scr core) (convOf x.bytes)
      ∃ t, exec (.convert core) s = .next t ∧ Computed core x s t out.writes [] out.flags ∧ t.freeCtr = s.freeCtr)
    ∧ (s.nextRec core 0x05 = some x →
      ∃ t, exec (.xaSpill core) s = .next t
        ∧ Computed core x s t (runSpill (fun k => tblGet Xa.none (s.core core).xa k) (spillOf x.bytes)) [] noFlags
        ∧ t.freeCtr = s.freeCtr)
    ∧ (s.nextRec core 0x06 = some x →
      let out := runFill (s.scr core) (spillOf x.bytes)
      ∃ t, exec (.xaFill core) s = .next t
        ∧ Computed core x s t [] out.1 (if out.2 then fInvalid else noFlags) ∧ t.freeCtr = s.freeCtr)

/-- LOAD and STORE of rows that pass their checks, on memory without errors (R92): row after row, the bytes of the handle's
range go to scratch, or those of scratch to the handle; no other byte of memory changes, and the record stands in flight with
code OK. Where the manual is open it follows log 1. -/
def Obligations.LoadAndStoreCopyRows : Prop :=
  ∀ (core : Fin 2304) (s : State) (x : Slot) (h : HandleSt), s.ecc = [] → (s.core core).quiet → s.issueCode core x.bytes = stOK →
    (∀ f ∈ (s.core core).flight, f.slot.idx ≠ x.idx) →
    let o := copyOf x.bytes
    let p := partOfCore core
    s.handle p o.handle = some h → s.rowsCheck core o = stOK →
    (s.nextRec core 0x07 = some x → ∃ t, exec (.load core) s = .next t
      ∧ t.mem = (List.range o.nr).foldl (fun m j =>
        memWrite 0 m (scratchAddr core (o.scr + j * o.scrPitch)) (h.bytesIn p (o.offset + j * o.hPitch) o.rowBytes m)) s.mem
      ∧ inFlight (t.core core) x false 0 false ∧ s.sameBut [.cores, .mem, .ushers] t ∧ ∀ j, j ≠ core.1 → t.core j = s.core j)
    ∧ (s.nextRec core 0x08 = some x → ∃ t, exec (.store core) s = .next t
      ∧ t.mem = (List.range o.nr).foldl (fun m j =>
        h.memWith p (o.offset + j * o.hPitch) o.rowBytes (memRead 0 m (scratchAddr core (o.scr + j * o.scrPitch)) o.rowBytes) m) s.mem
      ∧ inFlight (t.core core) x false 0 false ∧ s.sameBut [.cores, .mem, .ushers] t ∧ ∀ j, j ≠ core.1 → t.core j = s.core j)

/-- WAIT, TICKET and CUE_WAIT, next to issue and past their checks (R81, R94, R95, R140): WAIT is met at once when its object
meets the condition and else registers with the sync unit with its timeout; TICKET joins the box office's queue, or adds to
the core's entry, unless an earlier TICKET of the core has asked and is not granted, when it waits in the sync port; CUE_WAIT is met when the GTS has reached TARGET, with LATE when it has passed it. Where the manual is open
it follows log 1. -/
def Obligations.WaitingRecordsRegister : Prop :=
  ∀ (core : Fin 2304) (s : State) (x : Slot), s.ecc = [] → (s.core core).quiet → s.issueCode core x.bytes = stOK →
    (∀ f ∈ (s.core core).flight, f.slot.idx ≠ x.idx) →
    let p := partOfCore core
    (s.nextRec core 0x0A = some x →
      let o := waitOf x.bytes
      let w : Waiter := ⟨core, o.obj, o.eq, o.value, if o.timeout = 0 then s.waitDef p else o.timeout, s.tsu.gts, false⟩
      ∃ t, exec (.wait core) s = .next t ∧ inFlight (t.core core) x (w.holds (s.objVal p o.obj)) 0 false
        ∧ (t.sync p).waiters = (s.sync p).waiters.filter (fun y => y.src != core.1)
          ++ (if w.holds (s.objVal p o.obj) then [] else [w])
        ∧ (t.sync p).vals = (s.sync p).vals ∧ s.sameBut [.cores, .syncs] t ∧ ∀ j, j ≠ core.1 → t.core j = s.core j)
    ∧ (s.nextRec core 0x0B = some x →
      let n := leAt x.bytes 4 2
      ∃ t, exec (.ticket core) s = .next t ∧ inFlight (t.core core) x false 0 false
        ∧ ((∀ f ∈ (s.core core).flight, f.done = true ∨ recOp f.slot.bytes ≠ 0x0B) →
          ((∀ e ∈ (s.box p).queue, e.core ≠ core) → ⟨core, n, 0, s.ctrlClk⟩ ∈ (t.box p).queue
            ∧ ∀ e ∈ (s.box p).queue, e ∈ (t.box p).queue)
          ∧ ∀ e ∈ (s.box p).queue, e.core = core → { e with count := e.count + n } ∈ (t.box p).queue)
        ∧ (∀ f, (s.core core).flight.find? (fun f => recOp f.slot.bytes == 0x0B && !f.done) = some f → f.asked = true →
          t.boxes = s.boxes)
        ∧ (t.box p).free = (s.box p).free ∧ s.sameBut [.cores, .boxes] t ∧ ∀ j, j ≠ core.1 → t.core j = s.core j)
    ∧ (s.nextRec core 0x0D = some x →
      let target := leAt x.bytes 4 8
      ∃ t, exec (.cueWait core) s = .next t
        ∧ inFlight (t.core core) x (decide (target ≤ s.tsu.gts)) 0 (decide (target < s.tsu.gts))
        ∧ s.sameBut [.cores] t ∧ ∀ j, j ≠ core.1 → t.core j = s.core j)

/-- SIGNAL, RETURN, FENCE and END that issue behind records none of which waits to act and none of which holds them back (R81,
R93, R96, R97): a local SIGNAL sets or adds to its object modulo 2^32; RETURN gives COUNT tickets back, all of them for 0;
FENCE is met when the conditions of its MASK hold; END returns every ticket, copies CODE to END_CODE and halts the core with
cause END and its event. Where the manual is open it follows logs 1 and 15. -/
def Obligations.ActingRecordsActWhenTheirConditionHolds : Prop :=
  ∀ (core : Fin 2304) (s : State) (x : Slot), s.ecc = [] → (s.core core).quiet → s.issueCode core x.bytes = stOK →
    (∀ f ∈ (s.core core).flight, f.slot.idx ≠ x.idx) →
    let p := partOfCore core
    let fs := (s.core core).flight
    (s.nextRec core 0x09 = some x → (∀ f ∈ fs, f.done = true ∧ f.code = stOK) → (signalOf x.bytes).remote = false →
      let g := signalOf x.bytes
      ∃ t, exec (.signal core) s = .next t
        ∧ t.objVal p g.obj = (if g.set then g.value else s.objVal p g.obj + g.value) % 2 ^ 32
        ∧ (∀ o, o ≠ g.obj → t.objVal p o = s.objVal p o) ∧ (∀ q, q ≠ p → t.sync q = s.sync q)
        ∧ inFlight (t.core core) x true 0 false ∧ s.sameBut [.cores, .syncs] t)
    ∧ (s.nextRec core 0x0C = some x → (∀ f ∈ fs, f.done = true ∨ recOp f.slot.bytes ≠ 0x01) → (s.core core).back = 0 →
      leAt x.bytes 4 2 ≤ (s.core core).held →
      ∃ t, exec (.ret core) s = .next t
        ∧ (t.core core).held = (if leAt x.bytes 4 2 = 0 then 0 else (s.core core).held - leAt x.bytes 4 2)
        ∧ ((s.box p).notices = [] → (t.box p).free + (t.core core).held = (s.box p).free + (s.core core).held)
        ∧ inFlight (t.core core) x true 0 false ∧ s.sameBut [.cores, .boxes] t ∧ ∀ j, j ≠ core.1 → t.core j = s.core j)
    ∧ (s.nextRec core 0x0E = some x →
      ∃ t, exec (.fence core) s = .next t ∧ inFlight (t.core core) x (s.fenceOk core (recF x.bytes 4 1 3 0) fs) 0 false
        ∧ s.sameBut [.cores] t ∧ ∀ j, j ≠ core.1 → t.core j = s.core j)
    ∧ (s.nextRec core 0x0F = some x → (∀ f ∈ fs, f.done = true) → recWB x.bytes = false → recIRQ x.bytes = false →
      ∃ t, exec (.endRec core) s = .next t ∧ (t.core core).st = cHALTED ∧ (t.core core).cause = 1 ∧ (t.core core).held = 0
        ∧ (t.core core).flight = [] ∧ (t.core core).fetched = [] ∧ (t.core core).qdone = (x.idx + 1) % s.qSlots core
        ∧ t.reg (aCore core + rCORE_END_CODE) = BitVec.ofNat 32 (leAt x.bytes 4 4)
        ∧ t.evt (aCore core) evCORE_HALT_END = true ∧ (t.core core).xa = (s.core core).xa
        ∧ s.sameBut [.cores, .boxes, .regs, .wire, .host, .pba] t ∧ ∀ j, j ≠ core.1 → t.core j = s.core j)

/-- RECORD_COMPLETE, CUE_WAIT_TARGET, TICKET_TIMEOUT and WAIT_TIMEOUT on a record in flight, CORE_HALT and WITHDRAW_NOTICE
(R71 to R75, R81, R95, R141, R289): a record that ends is written back, and QDONE passes the completed ones in order; one that
times out ends with its code and drains the core, and no TICKET ends before its TIMEOUT; a TICKET that waited for the one
that ended then asks; the end of a drain halts the core at the faulting slot, or at its first slot not completed, with the
tickets kept, and a STOP leaves FAULT_REC; a notice takes back what the core holds of it, and pauses the dot array when a
MATMUL's cost is no longer held. Where the manual is open it follows logs 1, 14 and 15. -/
def Obligations.RecordsEndAndTheCoreHalts : Prop :=
  ∀ (core : Fin 2304) (s : State), s.ecc = [] → (s.core core).quiet →
    (∀ slot f, s.flightAt core slot = some f → f.code = stOK → s.ready core f = true → (s.core core).st = cRUNNING →
      let fs := ((s.core core).flight.map (fun g =>
        if g.slot.idx = slot ∧ g.done = false then { g with done := true, code := stOK, undo := [] } else g))
      let next := fs.find? (fun g => recOp g.slot.bytes == 0x0B && !g.done)
      ∃ t, exec (.recordComplete core slot) s = .next t ∧ (s.writeBack core f).sameBut [.cores, .boxes] t
        ∧ (t.core core).flight.map (fun g => { g with asked := false })
          = (fs.dropWhile (fun g => g.done && g.code != stABORT)).map (fun g => { g with asked := false })
        ∧ ((∀ g, next = some g → g.asked = true) → t.boxes = s.boxes
          ∧ (t.core core).flight = fs.dropWhile (fun g => g.done && g.code != stABORT))
        ∧ (∀ g, next = some g → g.asked = false → g.acted = false → g.code = stOK →
          (∀ e ∈ (s.box (partOfCore core)).queue, e.core ≠ core) →
          ⟨core, leAt g.slot.bytes 4 2, 0, s.ctrlClk⟩ ∈ (t.box (partOfCore core)).queue)
        ∧ (∀ g l, (t.core core).flight = g :: l → (t.core core).qdone = g.slot.idx)
        ∧ (t.core core).held = (s.core core).held ∧ ∀ j, j ≠ core.1 → t.core j = s.core j)
    ∧ ((s.core core).st = cDRAINING → (∀ f ∈ (s.core core).flight, f.done = true) →
      let c := s.core core
      let idx := match c.fault with
        | some e => if s.ahead core c.qdone (s.oldest core) < s.ahead core c.qdone e.1 then s.oldest core else e.1
        | none => s.oldest core
      ∃ t, exec (.coreHalt core) s = .next t ∧ (t.core core).st = cHALTED
        ∧ (t.core core).cause = (if (s.core core).fault.isSome then 3 else 2) ∧ (t.core core).qhead = idx
        ∧ (t.core core).qdone = idx ∧ (t.core core).held = (s.core core).held ∧ (t.core core).xa = (s.core core).xa
        ∧ t.evt (aCore core) (if (s.core core).fault.isSome then evCORE_HALT_FAULT else evCORE_HALT_STOP) = true
        ∧ (∀ e, c.fault = some e → t.fld (aCore core + rCORE_FAULT_REC) 11 0 = e.1 % 2 ^ 12
          ∧ t.fld (aCore core + rCORE_FAULT_REC) 23 16 = e.2 % 2 ^ 8)
        ∧ (c.fault = none → t.reg (aCore core + rCORE_FAULT_REC) = s.reg (aCore core + rCORE_FAULT_REC))
        ∧ s.sameBut [.cores, .regs, .wire, .host, .pba] t ∧ ∀ j, j ≠ core.1 → t.core j = s.core j)
    ∧ (∀ f, (s.core core).flight.find? (fun f => recOp f.slot.bytes == 0x0D && f.waits
          && decide (leAt f.slot.bytes 4 8 ≤ s.tsu.gts)) = some f →
      (∀ g ∈ (s.core core).flight, g.slot.idx = f.slot.idx → g = f) →
      let f' := { f with acted := true }
      ∃ t, exec (.cueWaitTarget core) s = .next t
        ∧ ((s.modFlight core f.slot.idx (fun _ => f')).writeBack core f').sameBut [.cores, .boxes] t
        ∧ (∀ g ∈ (t.core core).flight, g.slot.idx = f.slot.idx → g.done = true) ∧ ∀ j, j ≠ core.1 → t.core j = s.core j)
    ∧ (∀ f, (∀ g ∈ (s.core core).flight, g.slot.idx = f.slot.idx → g = f) →
      (∀ g ∈ (s.core core).after f.slot.idx, g.waits = false) → (s.core core).fault = none →
      let alone := ∀ g ∈ (s.core core).flight, recOp g.slot.bytes = 0x0B → g.done = true ∨ g.asked = true ∨ g = f
      ((s.core core).flight.find? (fun f => recOp f.slot.bytes == 0x0B && f.waits && s.ticketLate f) = some f →
        let f' := { f with code := stTKTIME }
        let u := (if f.asked then s.boxCancel core (leAt f.slot.bytes 4 2) else s).modFlight core f.slot.idx (fun _ => f')
        ∃ t, exec (.ticketTimeout core) s = .next t ∧ (t.core core).st = cDRAINING
          ∧ (t.core core).fault = some (f.slot.idx, stTKTIME)
          ∧ (u.writeBack core f').sameBut [.cores, .boxes] t ∧ (alone → t.boxes = u.boxes)
          ∧ ∀ j, j ≠ core.1 → t.core j = s.core j)
      ∧ (∀ (p : Fin 4) w, p.1 = partOfCore core → s.waiterOf p core = some w → w.met = false →
        (s.core core).flight.find? (fun f => recOp f.slot.bytes == 0x0A && f.waits) = some f →
        let f' := { f with code := stWAITTO }
        let u := (s.dropWaiter p core).modFlight core f.slot.idx (fun _ => f')
        ∃ v : State, exec (.waitTimeout p core) s = .next (v.expireWait p w) ∧ (v.core core).st = cDRAINING
          ∧ (v.core core).fault = some (f.slot.idx, stWAITTO) ∧ (v.expireWait p w).cores = v.cores
          ∧ (u.writeBack core f').sameBut [.cores, .boxes] v ∧ (alone → v.boxes = s.boxes)
          ∧ ∀ j, j ≠ core.1 → v.core j = s.core j))
    ∧ ((∀ f ∈ (s.core core).flight, recOp f.slot.bytes = 0x0B → s.ticketLate f = false) →
      exec (.ticketTimeout core) s = .next s)
    ∧ (let n := (((s.box (partOfCore core)).notices.filter (fun x => x.1 == core.1)).map Prod.snd).sum
      n ≠ 0 → ∃ t, exec (.withdrawNotice core) s = .next t
        ∧ (t.core core).held = (s.core core).held - n ∧ (t.core core).held + (t.core core).back = (s.core core).held + (s.core core).back
        ∧ (t.box (partOfCore core)).notices = (s.box (partOfCore core)).notices.filter (fun x => x.1 != core.1)
        ∧ ((t.core core).held < s.runCost core → (t.core core).paused = true
          ∧ ((s.core core).paused = false → t.evt (aCore core) evCORE_TKT_PAUSE = true))
        ∧ (s.runCost core ≤ (t.core core).held → (t.core core).paused = (s.core core).paused)
        ∧ s.sameBut [.cores, .boxes, .regs, .wire, .host, .pba] t ∧ ∀ j, j ≠ core.1 → t.core j = s.core j)

/-! ## Memory and Usher (ch. 4) -/

/-- ECC_WRITEBACK, SCRUB_LINE and REPAIR_DONE (R101, R105 to R107). A corrected word is written back; a place that does not
exist stops the model. The scrub of a line leaves none of its words with an error that it has not corrected or poisoned, and
goes on to the next line; a line without errors keeps its bytes; with the scrub off, only the wrong bits of the operand appear.
The oldest running row copy enters the repair table, with
REPAIR_DONE. Where the manual is open it follows logs 1, 12 and 65. -/
def Obligations.MemoryDieCommands : Prop :=
  (∀ (a : Nat) (s : State),
    (addrExists a = false → exec (.eccWriteback a) s = .fault (.noSuchMemory a))
    ∧ (addrExists a = true → ∃ t, exec (.eccWriteback a) s = .next t
      ∧ t.health (a / 8) = (if s.health (a / 8) = .pending then .ok else s.health (a / 8))
      ∧ (∀ w, w ≠ a / 8 → t.health w = s.health w) ∧ s.sameBut [.ecc] t))
  ∧ (∀ (c : Fin 48) (ups : List (Nat × Upset)) (s : State), rb (s.reg (aClu c + rCLU_SCRUB_CTL)) 31 = true →
    let line := (s.clu c).scrubLine
    let base := sliceAddr (c.1 / 12) (c.1 % 12) (64 * line) / 8
    ∃ t, exec (.scrubLine c ups) s = .next t
      ∧ (∀ i, i < 8 → t.health (base + i) = .ok ∨ t.health (base + i) = .poisoned)
      ∧ (t.clu c).scrubLine = (if line + 1 < 2 ^ 21 then line + 1 else 0)
      ∧ (ups = [] → (∀ i, i < 8 → s.health (base + i) = .ok) → line + 1 < 2 ^ 21 →
        t = s.modClu c (fun x => { x with scrubLine := line + 1 })))
  ∧ (∀ (c : Fin 48) (ups : List (Nat × Upset)) (s : State), rb (s.reg (aClu c + rCLU_SCRUB_CTL)) 31 = false →
    ∃ t, exec (.scrubLine c ups) s = .next t ∧ s.sameBut [.ecc] t ∧ (ups = [] → t = s)
      ∧ ∀ w, w ∉ ups.map (fun u => s.struck c u.1) → t.health w = s.health w)
  ∧ ∀ (c : Fin 48) (s : State) (row : Nat) (rest : List Nat), (s.clu c).repairing = row :: rest →
    ∃ t, exec (.repairDone c) s = .next t ∧ (t.clu c).repaired = (s.clu c).repaired ++ [row]
      ∧ (t.clu c).repairing = rest ∧ t.evt (aClu c) evCLU_REPAIR_DONE = true
      ∧ s.sameBut [.clus, .regs, .wire, .host, .pba] t ∧ ∀ j, j ≠ c.1 → t.clu j = s.clu j

/-- CREATE and DESTROY that pass their checks, and DESTROY of a pinned handle (R109 to R113). CREATE with RES = 1 places every
shard, zero-fills its pages and makes the handle resident with one token for each shard; with RES = 0 it reserves partner
space alone. DESTROY frees the handle and unbinds its windows; while an access translated earlier still uses the handle, it
only lets no later one find it, and waits; of a pinned handle it changes nothing but the request. Where the manual is open it
follows logs 59 and 68. -/
def Obligations.CreateAndDestroyHandles : Prop :=
  ∀ (p : Fin 4) (s : State) (r : UshReq),
    let hid := entHandle r.entry
    (s.reqFor p 0x01 = some r → (s.part p).st = 1 → (s.usher p).hold = false → hid < 2 ^ (s.usher p).htLog2 →
      s.handle p hid = none → entReserved r.entry = false → descOk (slice r.entry 16 32) (s.usher p).usable = true →
      let d := slice r.entry 16 32
      let h := handleOf d (entCtx r.entry)
      let ns := (List.range h.shards.length).map h.shardPages
      (s.usher p).shardsUsed + h.shards.length ≤ 2 ^ (s.usher p).smLog2 →
      (bit (leAt d 6 1) 6 = true → ∀ ls, placeAll (s.usher p).usedMap (ns.map (fun n => (none, n))) = some ls →
        ∃ u : State, exec (.create p) s = .next (u.reqDone p r stOK ns.sum)
          ∧ u.handle p hid = some { h with resident := true, shards := ls.map (fun l =>
            { ShardSt.init with loc := some l, topClu := l.1 }) }
          ∧ (∀ g, g ≠ hid → u.handle p g = s.handle p g) ∧ (u.usher p).tokens = (s.usher p).tokens + ls.length
          ∧ (∀ e ∈ ls.zip ns, ∀ a, a < e.2 * pageBytes → u.memByte (shardAddr p e.1 0 + a) = 0)
          ∧ (∀ a, (∀ e ∈ ls.zip ns, ¬ (shardAddr p e.1 0 ≤ a ∧ a < shardAddr p e.1 0 + e.2 * pageBytes)) → u.memByte a = s.memByte a)
          ∧ s.sameBut [.ushers, .mem, .ecc, .regs, .host, .wire, .pba, .freeCtr] u)
      ∧ (bit (leAt d 6 1) 6 = false → ∀ ls, s.partnerAll p (s.partnerMap p) ns = some ls →
        ∃ u : State, exec (.create p) s = .next (u.reqDone p r stOK 0)
          ∧ u.handle p hid = some { h with shards := ls.map (fun l => { ShardSt.init with partner := some l }) }
          ∧ (∀ g, g ≠ hid → u.handle p g = s.handle p g) ∧ s.sameBut [.ushers] u))
    ∧ (s.reqFor p 0x02 = some r → entReserved r.entry = false → ∀ h, s.handle p hid = some h → h.ctx = entCtx r.entry →
      (h.pinned = true → exec (.destroy p) s = .next (s.reqDone p r uPINNED 0))
      ∧ (h.pinned = false → s.inUse p hid = true → ∃ t, exec (.destroy p) s = .next t
        ∧ t.handle p hid = some { h with dying := true } ∧ (t.usher p).req = some r
        ∧ (∀ q ctx off n, t.handleCheck q ctx p hid off n ≠ stOK)
        ∧ (∀ w b, tblGet none (t.usher p).windows w = some b → b.1 ≠ hid)
        ∧ (∀ g, g ≠ hid → t.handle p g = s.handle p g) ∧ s.sameBut [.ushers] t)
      ∧ (h.pinned = false → s.inUse p hid = false → ∃ (u : State) (n : Nat), exec (.destroy p) s = .next (u.reqDone p r stOK n) ∧ u.handle p hid = none
        ∧ (∀ g, g ≠ hid → u.handle p g = s.handle p g)
        ∧ (∀ w b, tblGet none (u.usher p).windows w = some b → b.1 ≠ hid)
        ∧ (∀ w b, tblGet none (s.usher p).windows w = some b → b.1 ≠ hid → tblGet none (u.usher p).windows w = some b)
        ∧ (u.usher p).tokens = (s.usher p).tokens - (h.shards.filter (fun x => x.loc.isSome)).length
        ∧ s.sameBut [.ushers] u))

/-- PIN, UNPIN, MAP and UNMAP (R109, R114, R120). Of a request that may start: PIN of a resident handle that is in place pins
it, else starts the moves of its shards outside the cluster; UNPIN takes the pin away; MAP binds one window to the handle and
offset, UNMAP removes that binding; every other handle and window stays. A handle ID of 2^HT_LOG2 or above, a handle that is
not allocated, and UNMAP of a window not bound to the handle end with HANDLE_INVALID, a handle of another context with ACCESS,
a field out of range with FIELD_INVALID, PIN during a hold with CONSERVATION, PIN without room with NO_SPACE and UNPIN of a
handle that is not pinned with PINNED, and nothing else changes; a PIN waits for moves in progress; with no such request
nothing happens. Where the manual is open it follows logs 48 and 59. -/
def Obligations.PinsAndWindows : Prop :=
  ∀ (p : Fin 4) (s : State),
    (s.reqFor p 0x03 = none → exec (.pin p) s = .next s)
    ∧ (s.reqFor p 0x04 = none → exec (.unpin p) s = .next s)
    ∧ (s.reqFor p 0x05 = none → exec (.map p) s = .next s ∧ exec (.unmap p) s = .next s)
    ∧ ∀ r : UshReq,
      let hid := entHandle r.entry
      let arg := leAt r.entry 16 1
      let w := leAt r.entry 16 2
      let off := leAt r.entry 24 8
      let un := bit (leAt r.entry 18 1) 0
      (s.reqFor p 0x03 = some r →
        (2 ^ (s.usher p).htLog2 ≤ hid → exec (.pin p) s = .next (s.reqDone p r stHANDLE 0))
        ∧ (hid < 2 ^ (s.usher p).htLog2 →
          (entReserved r.entry = true → exec (.pin p) s = .next (s.reqDone p r stFIELD 0))
          ∧ (entReserved r.entry = false → (s.usher p).hold = true → exec (.pin p) s = .next (s.reqDone p r uCONSERV 0))
          ∧ (entReserved r.entry = false → (s.usher p).hold = false →
            (s.handle p hid = none → exec (.pin p) s = .next (s.reqDone p r stHANDLE 0))
            ∧ ∀ h, s.handle p hid = some h →
              (h.ctx ≠ entCtx r.entry → exec (.pin p) s = .next (s.reqDone p r stACCESS 0))
              ∧ (h.ctx = entCtx r.entry →
                let clu := bits arg 3 0
                let out := h.shards.zipIdx.filter (fun x => match x.1.loc with | some l => l.1 != clu | none => false)
                let room := placeAll ((List.replicate 12 [(0, slicePages)]).set clu ((s.usher p).usedIn clu))
                  (out.map (fun x => (some clu, h.shardPages x.2)))
                (h.resident = false ∨ (bit arg 4 = true ∧ 12 ≤ clu) → exec (.pin p) s = .next (s.reqDone p r stFIELD 0))
                ∧ (h.resident = true → bit arg 4 = false ∨ clu < 12 →
                  (h.moving = true → exec (.pin p) s = .next s)
                  ∧ (h.moving = false → bit arg 4 = false ∨ out = [] →
                    ∃ u : State, exec (.pin p) s = .next (u.reqDone p r stOK 0)
                      ∧ (u.reqDone p r stOK 0).handle p hid = some { h with pinned := true }
                      ∧ (∀ g, g ≠ hid → (u.reqDone p r stOK 0).handle p g = s.handle p g)
                      ∧ s.sameBut [.ushers, .regs, .host, .wire, .pba, .freeCtr] u)
                  ∧ (h.moving = false → bit arg 4 = true → out ≠ [] →
                    (room = none → exec (.pin p) s = .next (s.reqDone p r uNOSPACE 0))
                    ∧ ∀ ls, room = some ls → ∃ t, exec (.pin p) s = .next t ∧ (t.usher p).req = some { r with phase := 1 }
                      ∧ s.sameBut [.ushers] t ∧ (t.handle p hid).map HandleSt.pinned = some h.pinned
                      ∧ (∀ g, g ≠ hid → t.handle p g = s.handle p g)))))))
      ∧ (s.reqFor p 0x04 = some r →
        (2 ^ (s.usher p).htLog2 ≤ hid → exec (.unpin p) s = .next (s.reqDone p r stHANDLE 0))
        ∧ (hid < 2 ^ (s.usher p).htLog2 →
          (entReserved r.entry = true → exec (.unpin p) s = .next (s.reqDone p r stFIELD 0))
          ∧ (entReserved r.entry = false →
            (s.handle p hid = none → exec (.unpin p) s = .next (s.reqDone p r stHANDLE 0))
            ∧ ∀ h, s.handle p hid = some h →
              (h.ctx ≠ entCtx r.entry → exec (.unpin p) s = .next (s.reqDone p r stACCESS 0))
              ∧ (h.ctx = entCtx r.entry → h.pinned = false → exec (.unpin p) s = .next (s.reqDone p r uPINNED 0))
              ∧ (h.ctx = entCtx r.entry → h.pinned = true →
                ∃ u : State, exec (.unpin p) s = .next (u.reqDone p r stOK 0)
                  ∧ (u.reqDone p r stOK 0).handle p hid = some { h with pinned := false }
                  ∧ (∀ g, g ≠ hid → (u.reqDone p r stOK 0).handle p g = s.handle p g)
                  ∧ s.sameBut [.ushers, .regs, .host, .wire, .pba, .freeCtr] u))))
      ∧ (s.reqFor p 0x05 = some r → ∀ c : Instr, c = (if un then .unmap p else .map p) →
        exec (if un then .map p else .unmap p) s = .next s
        ∧ (2 ^ (s.usher p).htLog2 ≤ hid → exec c s = .next (s.reqDone p r stHANDLE 0))
        ∧ (hid < 2 ^ (s.usher p).htLog2 → entReserved r.entry = true ∨ 1023 < w → exec c s = .next (s.reqDone p r stFIELD 0))
        ∧ (hid < 2 ^ (s.usher p).htLog2 → entReserved r.entry = false → w ≤ 1023 →
          let bound := (tblGet none (s.usher p).windows w).map Prod.fst = some hid
          (un = true → ¬ bound → exec (.unmap p) s = .next (s.reqDone p r stHANDLE 0))
          ∧ (un = false ∨ bound →
            (s.handle p hid = none → exec c s = .next (s.reqDone p r stHANDLE 0))
            ∧ ∀ h, s.handle p hid = some h →
              (h.ctx ≠ entCtx r.entry → exec c s = .next (s.reqDone p r stACCESS 0))
              ∧ (h.ctx = entCtx r.entry → un = true →
                ∃ u : State, exec (.unmap p) s = .next (u.reqDone p r stOK 0)
                  ∧ tblGet none ((u.reqDone p r stOK 0).usher p).windows w = none
                  ∧ (∀ x, x ≠ w → tblGet none ((u.reqDone p r stOK 0).usher p).windows x = tblGet none (s.usher p).windows x)
                  ∧ (∀ g, (u.reqDone p r stOK 0).handle p g = s.handle p g) ∧ s.sameBut [.ushers] u)
              ∧ (h.ctx = entCtx r.entry → un = false →
                (off % pageBytes ≠ 0 ∨ h.size ≤ off → exec (.map p) s = .next (s.reqDone p r stFIELD 0))
                ∧ (off % pageBytes = 0 → off < h.size →
                  ∃ u : State, exec (.map p) s = .next (u.reqDone p r stOK 0)
                    ∧ tblGet none ((u.reqDone p r stOK 0).usher p).windows w = some (hid, off)
                    ∧ (∀ x, x ≠ w → tblGet none ((u.reqDone p r stOK 0).usher p).windows x = tblGet none (s.usher p).windows x)
                    ∧ (∀ g, (u.reqDone p r stOK 0).handle p g = s.handle p g) ∧ s.sameBut [.ushers] u)))))

/-- REQ_TAIL_WRITE, PLACE_POINT, REHEARSE_BEGIN, REHEARSE_END, EPOCH and MIGRATE (R108, R116 to R118, R121): the doorbell sets
the tail; a placement point with moves off plans none; a rehearsal begins by clearing the counters of its context and ends by
planning the accepted clusters; an epoch halves TOTAL and TOP_CNT but of rehearsing contexts; a move that is nearly clean
commits, with the bytes of the shard at its new place, and one that is not takes another round. Where the manual is open it
follows logs 1, 21 and 22. -/
def Obligations.PlacementAndRehearsal : Prop :=
  ∀ (p : Fin 4) (s : State),
    (∀ v, s.pageOpen .ush p true = true → ∃ t, exec (.reqTailWrite p v) s = .next t ∧ (t.usher p).tail = rf v 15 0
      ∧ (∀ g, t.handle p g = s.handle p g)
      ∧ ((s.usher p).req.isSome = true → t = s.modUsher p (fun u => { u with tail := rf v 15 0, stalled := false })))
    ∧ (∀ r, s.reqFor p 0x06 = some r → entReserved r.entry = false → (s.usher p).hold = false →
      exec (.placePoint p) s = .next ((s.placement p).1.reqDone p r stOK (s.placement p).2)
      ∧ (rb (s.reg (aUsh p + rUSH_MIG_CTL)) 31 = false → (s.placement p).2 = 0 ∧ ∀ g, (s.placement p).1.handle p g = s.handle p g))
    ∧ (∀ r, s.reqFor p 0x07 = some r → entReserved r.entry = false →
      ∃ u : State, exec (.rehearseBegin p) s = .next (u.reqDone p r stOK 0) ∧ entCtx r.entry ∈ (u.usher p).rehearsing
        ∧ (∀ g, u.handle p g = (s.handle p g).map (fun h => if h.ctx = entCtx r.entry then
          { h with shards := h.shards.map (fun x => { x with total := 0, topCnt := 0, plan := none }) } else h))
        ∧ s.sameBut [.ushers] u)
    ∧ (∀ r, s.reqFor p 0x08 = some r → entReserved r.entry = false → (s.usher p).hold = false →
      ∃ (u : State) (n : Nat), exec (.rehearseEnd p) s = .next ((u.placement p).1.reqDone p r stOK n) ∧ entCtx r.entry ∉ (u.usher p).rehearsing
        ∧ (∀ g, u.handle p g = (s.handle p g).map (fun h => if h.ctx = entCtx r.entry then
          { h with shards := h.shards.map (fun x => { x with plan := x.accepted (s.fld (aUsh p + rUSH_MIG_CTL) 23 16) }) } else h))
        ∧ s.sameBut [.ushers] u)
    ∧ (∃ t, exec (.epoch p) s = .next t ∧ s.sameBut [.ushers] t
      ∧ ∀ g, t.handle p g = (s.handle p g).map (fun h => if h.ctx ∈ (s.usher p).rehearsing then h else
        { h with shards := h.shards.map (fun x => { x with total := x.total / 2, topCnt := x.topCnt / 2 }) }))
    ∧ ∀ hid k h m l, s.handle p hid = some h → (h.shard k).move = some m → (h.shard k).loc = some l → k < h.shards.length →
      (m.dirtySub.length ≤ 64 → (s.usher p).req = none → s.ecc = [] →
        (shardAddr p l 0 + h.shardLen k ≤ shardAddr p (m.toClu, m.toPage) 0
          ∨ shardAddr p (m.toClu, m.toPage) 0 + h.shardPages k * pageBytes ≤ shardAddr p l 0) →
        ∃ t, exec (.migrate p hid k) s = .next t
          ∧ (t.handle p hid).map (fun h => ((h.shard k).loc, (h.shard k).move)) = some (some (m.toClu, m.toPage), none)
          ∧ (∀ i, i < h.shardLen k → t.memByte (shardAddr p (m.toClu, m.toPage) 0 + i) = s.memByte (shardAddr p l 0 + i))
          ∧ (∀ g, g ≠ hid → t.handle p g = s.handle p g))
      ∧ (64 < m.dirtySub.length → m.forPin = true ∨ m.round < 4 → ∃ t, exec (.migrate p hid k) s = .next t
        ∧ (t.handle p hid).map (fun h => (h.shard k).move) = some (some { m with round := m.round + 1, dirtySub := [] })
        ∧ (∀ g, g ≠ hid → t.handle p g = s.handle p g) ∧ s.sameBut [.ushers] t)
      ∧ (64 < m.dirtySub.length → m.forPin = false → 4 ≤ m.round → ∃ t, exec (.migrate p hid k) s = .next t
        ∧ (t.handle p hid).map (fun h => ((h.shard k).loc, (h.shard k).move)) = some (some l, none)
        ∧ t.evt (aUsh p) evUSH_MIG_ABANDON = true ∧ t.mem = s.mem ∧ (∀ g, g ≠ hid → t.handle p g = s.handle p g))

/-- SCENE_DEFINE, SCENE_SWAP and SCENE_SWAP_COMPLETE (R123 to R126): a definition stores the list under its context and
number, and ends with FIELD_INVALID or HANDLE_INVALID where its count or a handle ID is out of range. A swap that meets its
start condition ends with SCENE_UNDEFINED, ACCESS or NO_SPACE by its checks, and otherwise takes the target, makes the out-set
non-resident, and goes on to evict and fill unless an access translated earlier still uses the out-set; a later SCENE_SWAP
goes on once none does. Before its start condition only a swap with EARLY does anything. When no transfer is left the scene
becomes the current one of its context, or the request ends with the code of its first failure. Where the manual is open it
follows logs 1, 22, 59 and 68. -/
def Obligations.ScenesAreDefinedAndSwapped : Prop :=
  ∀ (p : Fin 4) (s : State),
    (s.reqFor p 0x09 = none → exec (.sceneDefine p) s = .next s)
    ∧ ((∀ r, (s.usher p).req = some r → entOp r.entry ≠ 0x0A ∨ r.phase = 2) → exec (.sceneSwap p) s = .next s)
    ∧ ((s.usher p).swap = none ∨ (s.usher p).req = none ∨ s.swapBusy p = true → exec (.sceneSwapComplete p) s = .next s)
    ∧ ∀ r : UshReq,
      let ctx := entCtx r.entry
      let scene := leAt r.entry 16 1
      (s.reqFor p 0x09 = some r →
        let n := leAt r.entry 20 4
        let hs := (List.range n).map (fun i => leAt (s.hostRead (leAt r.entry 24 8) (4 * n)) (4 * i) 4)
        (entReserved r.entry = true ∨ n = 0 ∨ 65536 < n → exec (.sceneDefine p) s = .next (s.reqDone p r stFIELD 0))
        ∧ (entReserved r.entry = false → 0 < n → n ≤ 65536 →
          ((∃ h ∈ hs, 2 ^ (s.usher p).htLog2 ≤ h) → exec (.sceneDefine p) s = .next (s.reqDone p r stHANDLE 0))
          ∧ ((∀ h ∈ hs, h < 2 ^ (s.usher p).htLog2) → ∃ u : State, exec (.sceneDefine p) s = .next (u.reqDone p r stOK 0)
            ∧ tblGet none ((u.reqDone p r stOK 0).usher p).scenes (256 * ctx + scene) = some hs
            ∧ (∀ k, k ≠ 256 * ctx + scene →
              tblGet none ((u.reqDone p r stOK 0).usher p).scenes k = tblGet none (s.usher p).scenes k)
            ∧ (∀ g, (u.reqDone p r stOK 0).handle p g = s.handle p g) ∧ s.sameBut [.ushers] u)))
      ∧ ((s.usher p).req = some r → entOp r.entry = 0x0A → r.phase ≠ 2 → r.phase ≠ 4 →
        let list := tblGet none (s.usher p).scenes (256 * ctx + scene)
        (s.reqMet p r = false → r.phase ≠ 0 ∨ bit (leAt r.entry 17 1) 0 = false → exec (.sceneSwap p) s = .next s)
        ∧ (s.reqMet p r = false → r.phase = 0 → bit (leAt r.entry 17 1) 0 = true → entReserved r.entry = false →
          (s.usher p).hold = false → (s.usher p).swap = none →
          ∀ hs, list = some hs → (∀ g ∈ hs, ∃ h, s.handle p g = some h ∧ h.ctx = ctx) →
          ∃ t, exec (.sceneSwap p) s = .next t ∧ (t.usher p).req = some { r with phase := 3 }
            ∧ ∀ g, (t.handle p g).map HandleSt.resident = (s.handle p g).map HandleSt.resident)
        ∧ (s.reqMet p r = true →
          (entReserved r.entry = true → exec (.sceneSwap p) s = .next (s.reqDone p r stFIELD 0))
          ∧ (entReserved r.entry = false → (s.usher p).hold = true → exec (.sceneSwap p) s = .next (s.reqDone p r uCONSERV 0))
          ∧ (entReserved r.entry = false → (s.usher p).hold = false →
            (list = none → exec (.sceneSwap p) s = .next (s.reqDone p r uSCENE 0))
            ∧ ∀ hs, list = some hs →
              ((∃ g ∈ hs, s.handle p g = none) → exec (.sceneSwap p) s = .next (s.reqDone p r uSCENE 0))
              ∧ ((∀ g ∈ hs, ∃ h, s.handle p g = some h) → (∃ g ∈ hs, ∃ h, s.handle p g = some h ∧ h.ctx ≠ ctx) →
                exec (.sceneSwap p) s = .next (s.reqDone p r stACCESS 0))
              ∧ ((∀ g ∈ hs, ∃ h, s.handle p g = some h ∧ h.ctx = ctx) →
                let target := (s.usher p).sceneTarget ctx hs
                let out := (s.usher p).outSet ctx target
                let emptied : UshSt := { s.usher p with handles := (s.usher p).handles.map (fun e =>
                  if e.1 ∈ out then (e.1, e.2.map (fun h => { h with
                    shards := h.shards.map (fun x => { x with loc := none, move := none }) })) else e) }
                let places := placeAll emptied.usedMap (((s.usher p).inShards target).map (fun x => (x.2.2.1, x.2.2.2)))
                (∀ g ∈ hs, g ∈ target) ∧ (∀ g ∈ out, g ∉ target)
                ∧ (places = none → exec (.sceneSwap p) s = .next (s.reqDone p r uNOSPACE 0))
                ∧ (places ≠ none → ∃ t w, exec (.sceneSwap p) s = .next t ∧ (t.usher p).swap = some w
                  ∧ w.ctx = ctx ∧ w.scene = scene ∧ w.out = out ∧ w.inn = target
                  ∧ (t.usher p).req = some { r with phase := if out.any (fun g => s.inUse p g) then 4 else 2 }
                  ∧ (∀ g ∈ out, ∀ h, t.handle p g = some h → h.resident = false)
                  ∧ (out.any (fun g => s.inUse p g) = true → t.mem = s.mem))))))
      ∧ ((s.usher p).req = some r → entOp r.entry = 0x0A → r.phase = 4 → ∀ w, (s.usher p).swap = some w →
        ((∃ g ∈ w.out, s.inUse p g = true) → exec (.sceneSwap p) s = .next s)
        ∧ ((∀ g ∈ w.out, s.inUse p g = false) → ∃ t, exec (.sceneSwap p) s = .next t
          ∧ (t.usher p).req = some { r with phase := 2 }))
      ∧ (∀ w, (s.usher p).swap = some w → (s.usher p).req = some r → s.swapBusy p = false →
        (w.fail = 0 → ∃ u : State, exec (.sceneSwapComplete p) s = .next (u.reqDone p r stOK w.filled)
          ∧ tblGet none (u.usher p).current w.ctx = some w.scene ∧ (u.usher p).swap = none ∧ u.mem = s.mem)
        ∧ (w.fail ≠ 0 → ∃ u : State, exec (.sceneSwapComplete p) s = .next (u.reqDone p r w.fail w.filled)
          ∧ (u.usher p).current = (s.usher p).current ∧ (u.usher p).swap = none ∧ s.sameBut [.ushers] u))

/-- CTX_INIT, CONTEXT_SWITCH and CONTEXT_RESUME (R128 to R130): CTX_INIT takes the save area, and starts the cores of the
running context at their queue's tail, on scratch of zeros; a switch stops the outgoing context, and once none of its channels
executes a descriptor saves every core and leaves the cores empty; a resume makes the incoming context the running one, gives
each core back what was saved of it, and a context that runs first finds zeros in scratch. With nothing to switch to, or
nothing to resume, nothing happens. Where the manual is open it follows logs 1, 27, 28, 58 and 59. -/
def Obligations.ContextsAreSavedAndRestored : Prop :=
  ∀ (p : Fin 4) (s : State),
    (∀ r, s.reqFor p 0x0C = some r → entReserved r.entry = false →
      let x := entCtx r.entry
      let k := s.fld (aUsh p + rUSH_CTX_CFG + 4 * x) 22 16
      k ≤ 64 → leAt r.entry 16 2 ≤ 0xFFF → ∀ area, saveArea (s.withoutArea p x).usedMap (savePages k) = some area →
      ∃ u : State, exec (.ctxInit p) s = .next (u.reqDone p r stOK 0)
        ∧ (u.ctx p x).inited = true ∧ (u.ctx p x).area = area ∧ (∀ a ∈ area, a ∈ (u.usher p).hidden)
        ∧ (x = (s.usher p).running → ∀ i ∈ coresOf p, (u.core i).st = cRUNNING ∧ (u.core i).flight = []
          ∧ (u.core i).held = (s.core i).held ∧ ∀ o, o < scratchBytes → u.memByte (scratchAddr i o) = 0)
        ∧ (x ≠ (s.usher p).running → s.sameBut [.ushers] u))
    ∧ (∀ y, (s.usher p).stopped = false → (s.usher p).switching = none → (s.ctx p (s.usher p).running).inited = true →
      s.nextCtx p = some y →
      ∃ t, exec (.contextSwitch p) s = .next t ∧ (t.usher p).stopped = true ∧ (t.usher p).running = (s.usher p).running
        ∧ ((∀ ch, (s.chan ch).started = false) → (t.usher p).switching = some y ∧ ∀ i ∈ coresOf p, t.core i = CoreSt.init))
    ∧ ((s.usher p).stopped = true → (s.usher p).switching = none → (s.ctx p (s.usher p).running).inited = true →
      (∀ ch, (s.chan ch).started = false) →
      ∃ t, exec (.contextSwitch p) s = .next t ∧ (t.usher p).stopped = true ∧ (t.usher p).running = (s.usher p).running
        ∧ (t.usher p).switching = some (s.switchTo p) ∧ ∀ i ∈ coresOf p, t.core i = CoreSt.init)
    ∧ ((s.ctx p (s.usher p).running).inited = false ∨ (s.usher p).switching ≠ none
        ∨ ((s.usher p).stopped = false ∧ s.nextCtx p = none) → exec (.contextSwitch p) s = .next s)
    ∧ ((s.usher p).switching = none → exec (.contextResume p) s = .next s)
    ∧ ∀ x, (s.usher p).switching = some x → (∀ ch, (s.chan ch).st ≠ hPAUSED) → (s.usher p).waitReset = [] →
      (∀ i ∈ coresOf p, (tblGet SavedCore.init (s.ctx p x).cores i).core.flight = []) →
      ∃ t, exec (.contextResume p) s = .next t ∧ (t.usher p).running = x ∧ (t.usher p).stopped = false
        ∧ (t.usher p).switching = none
        ∧ ∀ i ∈ coresOf p, let v := tblGet SavedCore.init (s.ctx p x).cores i
          (t.core i).xa = v.core.xa ∧ (t.core i).qdone = v.core.qdone ∧ (t.core i).back = v.tickets
            ∧ (t.core i).held = (s.core i).held
            ∧ ((s.ctx p x).fresh = true → v.scratch = [] → v.health = [] → ∀ o, o < scratchBytes → t.memByte (scratchAddr i o) = 0)

/-- HOST_BAR2_READ and HOST_BAR2_WRITE, on memory without errors (R114): each byte goes through the window's handle; a byte
that no resident handle holds reads 0xFF and is not written, and sets HOST_MISS. No host access changes a core or an object.
While a ring pair on the way to the partition is down, the host's accesses are held (the model's choice, log 69). -/
def Obligations.HostBar2ReachesResidentHandles : Prop :=
  ∀ (a : Nat) (s : State),
    (s.bar2Open a = false → (∀ n, exec (.hostBar2Read a n) s = .next s) ∧ ∀ bs, exec (.hostBar2Write a bs) s = .next s)
    ∧ (s.bar2Open a = true → s.ecc = [] →
    (∀ n, ∃ t bs, exec (.hostBar2Read a n) s = .next t ∧ bs.length = n ∧ Emission.readData bs ∈ t.wire
      ∧ (∀ i, i < n → s.bar2 (a + i) = none → bs.getD i 0 = 0xFF
        ∧ t.evt (aUsh (a / 2 ^ 34 % 4)) evUSH_HOST_MISS = true)
      ∧ (∀ i p g off h, i < n → s.bar2 (a + i) = some (p, g, off) → s.handle p g = some h →
        [bs.getD i 0] = h.bytesIn p off 1 s.mem)
      ∧ ((∀ i, i < n → (s.bar2 (a + i)).isSome = true) → s.sameBut [.wire] t)
      ∧ s.sameBut [.wire, .regs, .host, .pba] t)
    ∧ (∀ bs, ∃ t, exec (.hostBar2Write a bs) s = .next t
      ∧ (bs ≠ [] → (∀ i, i < bs.length → s.bar2 (a + i) = none) → t = s.evUsh (a / 2 ^ 34 % 4) evUSH_HOST_MISS 0 0)
      ∧ s.sameBut [.mem, .ecc, .ushers, .clus, .regs, .wire, .host, .pba, .freeCtr] t)
    ∧ ∀ b : Byte, ∀ p g off h, s.bar2 a = some (p, g, off) → s.handle p g = some h → ∃ t, exec (.hostBar2Write a [b]) s = .next t
        ∧ t.mem = h.memWith p off 1 [b] s.mem ∧ s.sameBut [.mem, .ushers] t)

/-- MP_READ, MP_WRITE, MP_READ_DATA, MP_WRITE_ACK, MP_TIMEOUT and EXPORT_ENABLE (R133 to R135). A request of the partition's
tenant inside the export window is answered with its data, or written and acknowledged; any other is answered with ADDR_ERROR
and writes nothing. A response to an outstanding request ends it, its data goes to the shard that waits for it, and the last
piece makes the shard resident, or frees its pages; what comes for a shard that failed counts for nothing; an answer with an
error, or none, sets PARTNER_ERR; one of another tenant is discarded, and one of another operation is counted. EXPORT_CFG.EN
allocates and zero-fills the window, and its pages are hidden; EN = 0 gives them back. Where the manual is open it follows
logs 23, 34 and 67. -/
def Obligations.PartnerTraffic : Prop :=
  ∀ (p : Fin 4) (s : State) (m : Msg),
    let b := m.body
    let v := s.takeMsg p m
    (mpOp b = 1 →
      (v.exportOk p m = false → exec (.mpRead p m) s = .next (v.reply p m 3 profMp
        (mpHeader 8 1 (mpLen b - 1) (mpTag b) (mpAddr b) 0 ++ List.replicate (64 * mpLen b) 0#8)))
      ∧ (v.exportOk p m = true → s.ecc = [] → exec (.mpRead p m) s = .next (v.reply p m 3 profMp
        (mpHeader 8 0 (mpLen b - 1) (mpTag b) (mpAddr b) 0
          ++ (List.range (mpLen b)).flatMap (fun i => memRead 0 s.mem (v.exportAddr p ((mpAddr b + i) * 64)) 64)))))
    ∧ (mpOp b = 2 →
      (v.exportOk p m = false → exec (.mpWrite p m) s = .next (v.reply p m 3 profMp
        (mpHeader 9 1 (mpLen b - 1) (mpTag b) (mpAddr b) 0)))
      ∧ (v.exportOk p m = true → ∃ u : State, exec (.mpWrite p m) s = .next (u.reply p m 3 profMp
          (mpHeader 9 0 (mpLen b - 1) (mpTag b) (mpAddr b) 0))
        ∧ (s.ecc = [] → mpPoison b = 0 → u.mem = (List.range (mpLen b)).foldl (fun mem i =>
          memWrite 0 mem (v.exportAddr p ((mpAddr b + i) * 64)) (slice b (16 + 64 * i) 64)) s.mem)))
    ∧ (mpOp b ≠ 1 → exec (.mpRead p m) s = .next (s.discardMsg p m))
    ∧ (mpOp b ≠ 2 → exec (.mpWrite p m) s = .next (s.discardMsg p m))
    ∧ (mpOp b ≠ 8 → exec (.mpReadData p m) s = .next (s.discardMsg p m))
    ∧ (mpOp b ≠ 9 → exec (.mpWriteAck p m) s = .next (s.discardMsg p m))
    ∧ (mpOp b = 8 → s.refuses p m = true ∨ v.mpFor p b true = none → exec (.mpReadData p m) s = .next v)
    ∧ (mpOp b = 9 → s.refuses p m = true ∨ v.mpFor p b false = none → exec (.mpWriteAck p m) s = .next v)
    ∧ (∀ q, mpOp b = 8 → s.refuses p m = false → v.mpFor p b true = some q →
      (mpStatus b = 0 → q.dead = true → exec (.mpReadData p m) s = .next ((v.mpTake p q).mpPump p))
      ∧ (mpStatus b ≠ 0 → exec (.mpReadData p m) s = .next ((v.mpFail p q uPARTNER).mpPump p))
      ∧ (mpStatus b = 0 → q.dead = false → ∀ h l, s.handle p q.handle = some h → (h.shard q.shard).filling = some l →
        q.shard < h.shards.length → (h.shard q.shard).waiting ≠ 0 →
        ∃ u : State, exec (.mpReadData p m) s = .next (u.mpPump p) ∧ q ∉ (u.usher p).mp
          ∧ (u.handle p q.handle).map (fun h => (h.shard q.shard).waiting) = some ((h.shard q.shard).waiting - 1)
          ∧ ((h.shard q.shard).waiting = 1 →
            (u.handle p q.handle).map (fun h => ((h.shard q.shard).loc, (h.shard q.shard).filling)) = some (some l, none))
          ∧ (s.ecc = [] → mpPoison b = 0 → u.mem = memWrite 0 s.mem (shardAddr p l (q.piece * mpPiece)) (slice b 16 mpPiece))))
    ∧ (∀ q, mpOp b = 9 → s.refuses p m = false → v.mpFor p b false = some q →
      (mpStatus b ≠ 0 → exec (.mpWriteAck p m) s = .next ((v.mpFail p q uPARTNER).mpPump p))
      ∧ (mpStatus b = 0 → q.dead = true → exec (.mpWriteAck p m) s = .next ((v.mpTake p q).mpPump p))
      ∧ (mpStatus b = 0 → q.dead = false → ∀ h, s.handle p q.handle = some h → (h.shard q.shard).waiting ≠ 0 →
        q.shard < h.shards.length →
        ∃ u : State, exec (.mpWriteAck p m) s = .next (u.mpPump p) ∧ q ∉ (u.usher p).mp ∧ u.mem = s.mem
          ∧ (u.handle p q.handle).map (fun h => (h.shard q.shard).waiting) = some ((h.shard q.shard).waiting - 1)
          ∧ ((h.shard q.shard).waiting = 1 → (h.shard q.shard).loc ≠ none → (h.shard q.shard).partner ≠ none →
            (u.handle p q.handle).map (fun h => (h.shard q.shard).loc) = some none)))
    ∧ (∀ tag q, (s.usher p).mp.find? (fun r => r.sent && r.tag == tag) = some q →
      ∃ u : State, exec (.mpTimeout p tag) s = .next (u.mpPump p) ∧ q ∉ (u.usher p).mp ∧ u.evt (aUsh p) evUSH_PARTNER_ERR = true
        ∧ s.sameBut [.ushers, .regs, .wire, .host, .pba] u)
    ∧ ((∀ r ∈ (s.usher p).mp, r.sent = false) → ∀ tag, exec (.mpTimeout p tag) s = .next s)
    ∧ (∀ w, s.pageOpen .ush p true = true → rb (s.reg (aUsh p + rUSH_EXPORT_CFG)) 31 = true →
      (rb w 31 = true → exec (.exportEnable p w) s = .next s)
      ∧ (rb w 31 = false → ∃ t, exec (.exportEnable p w) s = .next t ∧ (t.usher p).exportPages = []
        ∧ rb (t.reg (aUsh p + rUSH_EXPORT_CFG)) 31 = false
        ∧ (∀ l ∈ (s.usher p).exportPages, (l.1, l.2, 1) ∉ (t.usher p).hidden) ∧ s.sameBut [.ushers, .regs] t))
    ∧ ∀ w ls, s.pageOpen .ush p true = true → rb (s.reg (aUsh p + rUSH_EXPORT_CFG)) 31 = false → rb w 31 = true →
      exportCount w.toNat ≠ 0 → exportAlloc (s.usher p).usedMap (exportCount w.toNat) = some ls →
      ∃ t, exec (.exportEnable p w) s = .next t ∧ (t.usher p).exportPages = ls ∧ rb (t.reg (aUsh p + rUSH_EXPORT_CFG)) 31 = true
        ∧ (∀ l ∈ ls, (l.1, l.2, 1) ∈ (t.usher p).hidden ∧ ∀ a, a < pageBytes → t.memByte (shardAddr p l 0 + a) = 0)
        ∧ s.sameBut [.ushers, .regs, .mem, .ecc] t

/-- What Usher writes when a request ends (R108): the time, the status code and RESULT in bytes 48 to 59 of its ring entry,
then OWN = 0; the request is gone, and no handle changes. -/
def Obligations.RequestsEndInTheRing : Prop :=
  ∀ (p : Fin 4) (s : State) (r : UshReq) (code result : Nat), s.ecc = [] →
    s.reqAddr p r.index + 64 ≤ 2 ^ 64 → entFlag r.entry 1 = false →
    (s.finishReq p r code result).hostRead (s.reqAddr p r.index + 48) 12 = leBytes 8 s.tsu.gts ++ leBytes 1 code ++ leBytes 3 result
    ∧ (s.finishReq p r code result).hostRead (s.reqAddr p r.index + 1) 1 = leBytes 1 (leAt r.entry 1 1 - leAt r.entry 1 1 % 2)
    ∧ ((s.finishReq p r code result).usher p).req = none
    ∧ (∀ g, (s.finishReq p r code result).handle p g = s.handle p g)
    ∧ (∀ a, a < s.reqAddr p r.index ∨ s.reqAddr p r.index + 60 ≤ a →
      tblGet 0 (s.finishReq p r code result).host a = tblGet 0 s.host a)

/-! ## Sync objects, remote signals and Bloodhound (ch. 5) -/

/-- HOST_SET, HOST_ADD and SIGNAL_MESSAGE (R136, R142, R144): a host write sets the object, or adds to the one that
HOST_ADD_OBJ names; a SIGNAL that is next in its peer's sequence is applied and moves APPLIED on, one at or before APPLIED is
discarded as a duplicate and one beyond the next as a gap, each counted and acknowledged; one of another tenant is refused,
and changes no object; a message of the reserved kind is discarded and counted. Where the manual is open it follows log 1. -/
def Obligations.SignalsAreAppliedOnce : Prop :=
  ∀ (p : Fin 4) (s : State), s.ecc = [] →
    (s.pageOpen .syn p true = true → ∀ (v : W32),
      (∀ o : Fin 65536, ∃ t, exec (.hostSet p o v) s = .next t ∧ t.objVal p o = v.toNat
        ∧ (∀ o', o' ≠ o.1 → t.objVal p o' = s.objVal p o') ∧ s.sameBut [.cores, .syncs] t)
      ∧ (let o := s.fld (aSyn p + rSYN_HOST_ADD_OBJ) 15 0
        ∃ t, exec (.hostAdd p v) s = .next t ∧ t.objVal p o = (s.objVal p o + v.toNat) % 2 ^ 32
          ∧ (∀ o', o' ≠ o → t.objVal p o' = s.objVal p o') ∧ s.sameBut [.cores, .syncs] t))
    ∧ (∀ m : Msg, syncKind m.body = 7 → exec (.signalMessage p m) s = .next (s.discardMsg p m))
    ∧ ∀ (m : Msg), syncKind m.body = kSIGNAL →
      let b := m.body
      let q := syncSeq b
      let o := syncObj b
      let v := s.takeMsg p m
      (∀ c, s.contextOf p m = some c → s.foreign p m (some c) = false →
        let a := (s.peerSeq p c).applied
        (q = (a + 1) % 2 ^ 32 → ∃ t, exec (.signalMessage p m) s = .next t ∧ (t.peerSeq p c).applied = q
          ∧ t.objVal p o = (if syncSet b then syncVal b else s.objVal p o + syncVal b) % 2 ^ 32
          ∧ (∀ o', o' ≠ o → t.objVal p o' = s.objVal p o'))
        ∧ (q ≠ (a + 1) % 2 ^ 32 → seqLe q a = true →
          exec (.signalMessage p m) s = .next ((v.bump (aSyn p + rSYN_SIG_DUP) 1).sendAck p c)
          ∧ ∀ o', ((v.bump (aSyn p + rSYN_SIG_DUP) 1).sendAck p c).objVal p o' = s.objVal p o')
        ∧ (q ≠ (a + 1) % 2 ^ 32 → seqLe q a = false → ∃ u : State, exec (.signalMessage p m) s = .next (u.sendAck p c)
          ∧ u.evt (aSyn p) evSYN_SIG_GAP = true ∧ (u.sendAck p c).peerSeq p c = { s.peerSeq p c with ackDue := 0 }
          ∧ ∀ o', (u.sendAck p c).objVal p o' = s.objVal p o'))
      ∧ (∀ c, s.contextOf p m = c → s.foreign p m c = true →
        ∃ u : State, exec (.signalMessage p m) s = .next (u.reply p m tcSync 0 (syncBody kREFUSED false m.srcPart 0 0 q (srcSync p)))
          ∧ u.evt (aSyn p) evSYN_SIG_REFUSED = true ∧ (∀ x, c = some x → (u.peerSeq p x).applied = q)
          ∧ (∀ o', u.objVal p o' = s.objVal p o') ∧ u.cores = s.cores)

/-- SYNC_ACK, SYNC_ACK_TIMER, SIG_ACK_TIMEOUT, SEQ_QUERY, SEQ_QUERY_RETRY, SEQ_REPLY and SEQ_SKIP (R144 to R148): an ACK ends
the signals it covers, or marks the loss entries of a LOST peer; an answer beyond what was sent is a conservation fault;
signals that time out make the peer LOST and enter the loss list, and what waited for their places goes on; a reply to the query makes it QUERIED; a skip sets APPLIED.
Where the manual is open it follows log 1. -/
def Obligations.AcknowledgementAndLoss : Prop :=
  ∀ (p : Fin 4) (s : State),
    (∀ (m : Msg) c, s.contextOf p m = some c →
      let q := syncSeq m.body
      let v := s.takeMsg p m
      (syncKind m.body = kACK → s.neverSent p c q = false → (s.peerSeq p c).state ≠ 1 →
        ∃ u : State, exec (.syncAck p m) s = .next (u.roomFreed p)
          ∧ (u.peerSeq p c).unacked = (s.peerSeq p c).unacked.filter (fun x => !seqLe x.seq q)
          ∧ (∀ d, d ≠ c → u.peerSeq p d = s.peerSeq p d) ∧ v.sameBut [.syncs] u)
      ∧ (syncKind m.body = kACK → s.neverSent p c q = true → ∃ t, exec (.syncAck p m) s = .next t
        ∧ t.evt (aSyn p) evSYN_CONSERVATION_FAULT = true ∧ t.syncs = s.syncs)
      ∧ (syncKind m.body = kACK → s.neverSent p c q = false → (s.peerSeq p c).state = 1 →
        ∃ t, exec (.syncAck p m) s = .next t ∧ (∀ i e, tblGet none (s.sync p).loss i = some e →
          tblGet none (t.sync p).loss i = some { e with applied := e.applied || (e.peer == c && seqLe e.seq q) })
          ∧ v.sameBut [.syncs] t)
      ∧ (syncKind m.body = kREPLY → s.neverSent p c q = true → ∃ t, exec (.seqReply p m) s = .next t
        ∧ t.evt (aSyn p) evSYN_CONSERVATION_FAULT = true ∧ t.syncs = s.syncs)
      ∧ (syncKind m.body = kREPLY → s.neverSent p c q = false → (s.peerSeq p c).state ≠ 1 → exec (.seqReply p m) s = .next v)
      ∧ (syncKind m.body = kQUERY → exec (.seqQuery p m) s =
        .next (v.sendSync p c kREPLY false 0 0 (s.peerSeq p c).applied (srcSync p)).1)
      ∧ (syncKind m.body = kREPLY → s.neverSent p c q = false → (s.peerSeq p c).state = 1 →
        ∃ t, exec (.seqReply p m) s = .next t ∧ (t.peerSeq p c).state = 2 ∧ (t.peerSeq p c).remoteSeq = q
          ∧ (∀ i e, tblGet none (s.sync p).loss i = some e →
            tblGet none (t.sync p).loss i = some { e with applied := e.applied || (e.peer == c && seqLe e.seq q) })
          ∧ t.evt (aSyn p) evSYN_PEER_QUERIED = true ∧ v.sameBut [.syncs, .regs, .wire, .host, .pba] t)
      ∧ (syncKind m.body = kSKIP → ∃ t, exec (.seqSkip p m) s = .next t
        ∧ t.peerSeq p c = { s.peerSeq p c with applied := q } ∧ (∀ d, d ≠ c → t.peerSeq p d = s.peerSeq p d)
        ∧ v.sameBut [.syncs] t))
    ∧ (∀ m : Msg, s.contextOf p m = none → let v := s.takeMsg p m
      exec (.syncAck p m) s = .next v ∧ exec (.seqQuery p m) s = .next v ∧ exec (.seqReply p m) s = .next v
        ∧ exec (.seqSkip p m) s = .next v)
    ∧ ∀ (c : Fin 4096),
      ((s.peerSeq p c).ackDue = 0 → exec (.syncAckTimer p c) s = .next s)
      ∧ ((s.peerSeq p c).ackDue ≠ 0 → exec (.syncAckTimer p c) s = .next ((s.modPeerSeq p c (fun x =>
        { x with ackDue := 0 })).sendSync p c kACK false 0 0 (s.peerSeq p c).applied (srcSync p)).1)
      ∧ ((s.peerSeq p c).unacked = [] → exec (.sigAckTimeout p c) s = .next s)
      ∧ ((s.peerSeq p c).unacked ≠ [] → ∃ u t : State, exec (.sigAckTimeout p c) s = .next t
        ∧ t = (((s.peerSeq p c).unacked.foldl (fun s x => s.signalEnds x.src c x.seq stLINKDN) u).roomFreed p).evSyn p
          evSYN_SIG_LOST 0 0
        ∧ t.evt (aSyn p) evSYN_SIG_LOST = true
        ∧ (u.peerSeq p c).state = 1 ∧ (u.peerSeq p c).unacked = [] ∧ (u.peerSeq p c).again = [] ∧ s.sameBut [.syncs] u
        ∧ ((s.sync p).loss = [] → (s.peerSeq p c).unacked.length ≤ 256 → ∀ x ∈ (s.peerSeq p c).unacked, ∃ i,
          tblGet none (u.sync p).loss i = some ⟨c, false, x.part, x.set, x.obj, x.value, x.seq⟩))
      ∧ ((s.peerSeq p c).state = 1 → exec (.seqQueryRetry p c) s = .next (s.sendSync p c kQUERY false 0 0 0 (srcSync p)).1)
      ∧ ((s.peerSeq p c).state ≠ 1 → exec (.seqQueryRetry p c) s = .next s)

/-- REFUSED, DROPPED, RESEND and DISCARD (R144, R147, R148): the refused signal ends with ACCESS and is no longer
unacknowledged; a dropped one is lost with its peer; a QUERIED peer's entries are resent in SEQ order but for the applied
ones, as far as the partition's 256 places allow and the others behind them, or skipped, and either way leave the loss list,
with the peer back to NORMAL; of a peer that is not QUERIED nothing is resent or skipped. Where the manual is open it follows log 1.
-/
def Obligations.RefusalsAndRecovery : Prop :=
  ∀ (p : Fin 4) (s : State),
    (∀ (m : Msg),
      let v := s.takeMsg p m
      (∀ c x, s.contextOf p m = some c → syncKind m.body = kREFUSED →
        (s.peerSeq p c).unacked.find? (fun u => u.seq == syncSeq m.body) = some x →
        ∃ u : State, exec (.refused p m) s = .next ((u.signalEnds x.src c (syncSeq m.body) stACCESS).roomFreed p)
          ∧ (u.peerSeq p c).unacked = (s.peerSeq p c).unacked.filter (fun u => u.seq != syncSeq m.body) ∧ v.sameBut [.syncs] u)
      ∧ (s.contextOf p m = none ∨ syncKind m.body ≠ kREFUSED → exec (.refused p m) s = .next v)
      ∧ (syncKind m.body ≠ kDROPPED → exec (.dropped p m) s = .next v)
      ∧ (syncKind m.body = kDROPPED →
        (∀ e, (s.sync p).peers.find? (fun e => e.2.unacked.any (fun u => u.seq == syncSeq m.body && u.obj == syncObj m.body
            && u.part == syncPart m.body)) = some e → exec (.dropped p m) s = .next (v.declareLost p e.1))
        ∧ ((∀ e ∈ (s.sync p).peers, ∀ u ∈ e.2.unacked, u.seq ≠ syncSeq m.body) →
          (∀ e ∈ (s.sync p).peers, e.2.tx = 1) → ∃ t, exec (.dropped p m) s = .next t
            ∧ t.evt (aSyn p) evSYN_CONSERVATION_FAULT = true ∧ t.syncs = s.syncs)))
    ∧ (s.pageOpen .syn p true = false ∨ (s.peerSeq p (s.peerSel p)).state ≠ 2 →
      exec (.resend p) s = .next s ∧ exec (.discard p) s = .next s)
    ∧ (let c := s.peerSel p
      s.pageOpen .syn p true = true → (s.peerSeq p c).state = 2 →
      (∃ t, exec (.resend p) s = .next t ∧ (t.peerSeq p c).state = 0
        ∧ (t.peerSeq p c).unacked ++ (t.peerSeq p c).again
          = (s.peerSeq p c).unacked ++ ((s.lossOf p c).filter (fun e => !e.applied)).map (fun e =>
            ⟨e.seq, srcSync p, e.part, e.obj, e.set, e.value⟩)
        ∧ t.unackCount p ≤ max 256 (s.unackCount p)
        ∧ ((∀ e ∈ (s.sync p).peers, e.2.again = []) →
          s.unackCount p + ((s.lossOf p c).filter (fun e => !e.applied)).length ≤ 256 → (t.peerSeq p c).again = [])
        ∧ (∀ i e, tblGet none (t.sync p).loss i = some e → e.peer ≠ c) ∧ t.cores = s.cores)
      ∧ (∃ t, exec (.discard p) s = .next t ∧ t.peerSeq p c = { s.peerSeq p c with state := 0 }
        ∧ (∀ i e, tblGet none (t.sync p).loss i = some e → e.peer ≠ c) ∧ t.cores = s.cores
        ∧ ∀ e, (s.lossOf p c).getLast? = some e →
          t = (s.sendSync p c kSKIP false 0 0 e.seq (srcSync p)).1.freeLossOf p c))

/-- BH_CENSUS, BH_QUERY, BH_REPLY, BH_QUERY_TIMEOUT and BH_REPORT (R150 to R152): a census takes a snapshot of the waits that
are registered, and is skipped and counted while one runs; a query of the partition's tenant is answered with at most 16
nodes, and another's not at all; an unanswered query, and a reply without entries, end their path; when no path is open the
census ends, the number of censuses moves on, and a census that an expiry has queued begins with the expired wait in its
snapshot. No wait is released. Where the manual is open it follows logs 1 and 19. -/
def Obligations.BloodhoundFollowsWaits : Prop :=
  ∀ (p : Fin 4) (s : State),
    (rb (s.reg (aSyn p + rSYN_BH_CTL)) 31 = false → exec (.bhCensus p) s = .next s)
    ∧ (rb (s.reg (aSyn p + rSYN_BH_CTL)) 31 = true →
      ((s.sync p).census.isSome = true → exec (.bhCensus p) s = .next (s.bump (aSyn p + rSYN_BH_SKIP) 1))
      ∧ ((s.sync p).census = none → ∃ t c, exec (.bhCensus p) s = .next t ∧ (t.sync p).census = some c ∧ c.cause = 0
        ∧ c.gts = s.tsu.gts ∧ c.snap = (s.sync p).waiters.filter (fun w => !w.met)
        ∧ (t.sync p).waiters = (s.sync p).waiters ∧ (t.sync p).vals = (s.sync p).vals ∧ t.cores = s.cores))
    ∧ (∀ m : Msg, m.tenant ≠ (s.part p).tenant ∨ leAt m.body 0 1 ≠ 0x10 → exec (.bhQuery p m) s = .next (s.takeMsg p m))
    ∧ (∀ m : Msg, m.tenant = (s.part p).tenant → leAt m.body 0 1 = 0x10 → ∃ ns : List BhNode, ns.length ≤ 16
      ∧ ((∀ w ∈ (s.sync p).waiters, w.met = false → w.src ≠ leAt m.body 8 2) → ns = [])
      ∧ exec (.bhQuery p m) s = .next ((s.takeMsg p m).reply p m 7 profMgmt
        (let body := leBytes 4 0x11 ++ leBytes 4 (leAt m.body 4 4) ++ leBytes 1 ns.length ++ ns.flatMap memberEntry
         padTo (ceilDiv body.length 16 * 16) body)))
    ∧ (∀ c ctx path, (s.sync p).census = some c →
      c.paths.find? (fun x => match x.query with | some q => q.2.1 == ctx | none => false) = some path →
      let ended := some { c with paths := dropFirst (fun x => x == path) c.paths }
      (∀ m : Msg, s.contextOf p m = some ctx → leAt m.body 0 1 = 0x11 → leAt m.body 4 4 = s.censusNo p → leAt m.body 8 1 = 0 →
        ∃ t, exec (.bhReply p m) s = .next t ∧ (t.sync p).census = ended ∧ (t.sync p).waiters = (s.sync p).waiters
          ∧ (s.takeMsg p m).sameBut [.syncs] t)
      ∧ ∀ q : Fin 4096, q.1 = ctx → ∃ t, exec (.bhQueryTimeout p q) s = .next t ∧ (t.sync p).census = ended
        ∧ (t.sync p).waiters = (s.sync p).waiters
        ∧ t.reg (aSyn p + rSYN_BH_UNANSWERED) = satAdd (s.reg (aSyn p + rSYN_BH_UNANSWERED)) 1
        ∧ s.sameBut [.syncs, .regs] t)
    ∧ ((s.sync p).census = none → exec (.bhReport p) s = .next s ∧ (∀ q, exec (.bhQueryTimeout p q) s = .next s)
      ∧ ∀ m, exec (.bhReply p m) s = .next (s.takeMsg p m))
    ∧ (∀ c, (s.sync p).census = some c → c.paths ≠ [] → exec (.bhReport p) s = .next s)
    ∧ ∀ c, (s.sync p).census = some c → c.paths = [] → ∃ t, exec (.bhReport p) s = .next t
      ∧ t.reg (aSyn p + rSYN_BH_CENSUS) = s.reg (aSyn p + rSYN_BH_CENSUS) + 1
      ∧ (t.sync p).waiters = (s.sync p).waiters ∧ (t.sync p).vals = (s.sync p).vals ∧ t.cores = s.cores
      ∧ ((s.sync p).queued = none → (t.sync p).census = none)
      ∧ (∀ w, (s.sync p).queued = some w → (t.sync p).queued = none
        ∧ ∃ d, (t.sync p).census = some d ∧ d.cause = 1 ∧ d.snap = (s.sync p).waiters.filter (fun w => !w.met) ++ [w])

/-! ## Time (ch. 5) -/

/-- GTS_TICK, GTS_SET, RATE_ADJ_WRITE, TSU_CFG_WRITE, TSU_HOLDOVER and ALT_TAKEOVER (R154, R156, R158, R160): the tick is the
edge at which the GTS crosses a multiple of 16,000 (not one that the last tick had set it back over), and applies a captured
SET or a servo step, with GTS_STEP, or one LSB of phase, and the clamped rate; a SET and
a rate are captured on a root (a SET also while FREE) and ignored elsewhere; a parent newly configured starts ACQUIRE; a
LOCKED device without exchanges goes to HOLDOVER, and the alternate takes over from there. Where the manual is open it follows
logs 1 and 32. -/
def Obligations.TheGtsTicksAndTakesCorrections : Prop :=
  ∀ (s : State),
    (s.clocked = false → exec .gtsTick s = .next s)
    ∧ (s.clocked = true → -rateMax ≤ s.tsu.rate → s.tsu.rate ≤ rateMax → s.tsu.frac < 2 ^ 40 → s.tsu.gts + 48000 < 2 ^ 64 →
      (s.tsu.setPend = none → s.tsu.stepPend = none → ∃ t, exec .gtsTick s = .next t ∧ s.ctrlClk < t.ctrlClk
        ∧ (s.tsu.phase = 0 → t.tsu.gts / 16000 = s.tsu.gts / 16000 + 1 + b2n s.tsu.backed)
        ∧ t.tsu.phase = (if s.tsu.phase < 0 then s.tsu.phase + 1 else if 0 < s.tsu.phase then s.tsu.phase - 1 else 0)
        ∧ (∀ r, s.tsu.ratePend = some r → t.tsu.rate = max (-rateMax) (min rateMax r))
        ∧ t.tsu.ratePend = none ∧ s.sameBut [.ctrlClk, .tsu] t)
      ∧ (∀ d, s.tsu.setPend = none → s.tsu.stepPend = some d → ∃ t, exec .gtsTick s = .next t ∧ s.ctrlClk < t.ctrlClk
        ∧ t.tsu.stepPend = none ∧ t.evt aTsu evTSU_GTS_STEP = true ∧ s.sameBut [.ctrlClk, .tsu, .regs, .wire, .host, .pba] t)
      ∧ (∀ root v, s.tsu.setPend = some (root, v) → ∃ t, exec .gtsTick s = .next t ∧ t.tsu.gts = v ∧ t.tsu.setPend = none
        ∧ t.evt aTsu evTSU_GTS_STEP = true ∧ t.tsu.state = (if root && s.tsu.state == tFREE then tLOCKED else s.tsu.state)
        ∧ s.sameBut [.ctrlClk, .tsu, .regs, .wire, .host, .pba] t))
    ∧ (s.pageOpen .tsu 0 true = false → exec .gtsSet s = .next s
      ∧ ∀ v : W32, exec (.rateAdjWrite v) s = .next s ∧ exec (.tsuCfgWrite v) s = .next s ∧ exec (.cueActWrite v) s = .next s)
    ∧ (s.pageOpen .tsu 0 true = true →
      (let v := (s.reg (aTsu + rTSU_GTS_SET_LO)).toNat + 2 ^ 32 * (s.reg (aTsu + rTSU_GTS_SET_HI)).toNat;
        exec .gtsSet s = .next (if s.tsuRoot = true ∨ s.tsu.state = tFREE then { s with tsu := { s.tsu with
          setPend := some (s.tsuRoot, v) } } else s))
      ∧ (∀ v : W32, exec (.rateAdjWrite v) s = .next (if s.tsuRoot = true then { s with tsu := { s.tsu with
        ratePend := some (sgn 32 v.toNat) } } else s))
      ∧ ∀ v : W32, let new := v &&& 0xC0003FBF#32
        ∃ t, exec (.tsuCfgWrite v) s = .next t ∧ t.reg (aTsu + rTSU_TSU_CFG) = new
          ∧ (hasParent new = true → (hasParent s.tsuCfg = false ∨ rf new 5 0 ≠ rf s.tsuCfg 5 0) →
            t.tsu.state = tACQUIRE ∧ t.tsu.alt = false ∧ t.tsu.okRun = 0
              ∧ (s.tsu.state = tLOCKED → t.evt aTsu evTSU_LOCK_LOST = true))
          ∧ (hasParent new = false ∨ (hasParent s.tsuCfg = true ∧ rf new 5 0 = rf s.tsuCfg 5 0) → t.tsu = s.tsu)
          ∧ s.sameBut [.tsu, .regs, .wire, .host, .pba] t)
    ∧ (s.tsu.state = tLOCKED → s.tsuRoot = false → ∃ t, exec .tsuHoldover s = .next t ∧ t.tsu.state = tHOLDOVER
      ∧ t.tsu.holdAt = s.ctrlClk ∧ t.evt aTsu evTSU_HOLDOVER = true ∧ s.sameBut [.tsu, .regs, .wire, .host, .pba] t)
    ∧ (s.tsu.state ≠ tLOCKED ∨ s.tsuRoot = true → exec .tsuHoldover s = .next s)
    ∧ (s.tsu.state ≠ tHOLDOVER ∨ s.tsuAltEn = false ∨ s.tsuRoot = true ∨ s.tsu.alt = true ∨ s.pwr.refLost = true →
      exec .altTakeover s = .next s)
    ∧ (s.tsu.state = tHOLDOVER → s.tsuAltEn = true → s.tsuRoot = false → s.tsu.alt = false → s.pwr.refLost = false →
      ∃ t, exec .altTakeover s = .next t ∧ t.tsu.state = tACQUIRE ∧ t.tsu.alt = true
        ∧ t.reg (aTsu + rTSU_HOLD_US) = BitVec.ofNat 32 s.holdUs ∧ s.sameBut [.tsu, .regs] t)

/-- TIMING_SEND, TIMING, CUE_ACT_WRITE and CUE_FIRE (R156, R157, R160 to R162): a message leaves for the parent and is
stamped, and a child's is answered; the exchange with the parent gives its offset, which corrects the rate and phase, or steps the GTS in ACQUIRE, and 64
good ones lock; that with the alternate shows in RESID_ALT alone; a write of CUE_ACT arms the selected entry unless its action
names a unit outside its partition; a cue that fires disarms, or goes on to its first TARGET that has not passed. Where the manual
is open it follows logs 1, 32, 35 and 45. -/
def Obligations.ExchangesAndCues : Prop :=
  ∀ (s : State),
    (∀ (port : Fin 64), s.linkUp (s.timingLink port) = false ∨ ((hasParent s.tsuCfg = false ∨ port.1 ≠ s.parentPort)
      ∧ s.isAlt port = false) → exec (.timingSend port) s = .next s)
    ∧ (∀ (port : Fin 64), (hasParent s.tsuCfg = true ∧ port.1 = s.parentPort) ∨ s.isAlt port = true →
      s.linkUp (s.timingLink port) = true →
      ∃ t n, exec (.timingSend port) s = .next t ∧ tblGet none t.tsu.stamps (2 * port.1 + 1) = some (n, s.tsu.stamp)
        ∧ s.sameBut [.tsu, .wire, .links] t)
    ∧ (∀ (port : Fin 64) (b : List Byte) (at_ : Nat),
      (s.linkUp (s.timingLink port) = false ∨ leAt b 0 1 ≠ 3 ∨ b.length ≠ 32 → exec (.timing port b at_) s = .next s)
      ∧ (s.linkUp (s.timingLink port) = true → leAt b 0 1 = 3 → b.length = 32 → bit (leAt b 2 1) 0 = true →
        ∃ t n, exec (.timing port b at_) s = .next t
          ∧ tblGet none t.tsu.stamps (2 * port.1) = some (leAt b 4 4, at_ % 2 ^ 70)
          ∧ tblGet none t.tsu.stamps (2 * port.1 + 1) = some (n, s.tsu.stamp) ∧ s.sameBut [.tsu, .wire, .links] t))
    ∧ (∀ (port : Fin 64) (b : List Byte) (at_ : Nat) g d, s.linkUp (s.timingLink port) = true → leAt b 0 1 = 3 → b.length = 32 →
      bit (leAt b 2 1) 0 = false → tblGet none s.tsu.stamps (2 * port.1) = some g →
      tblGet none s.tsu.stamps (2 * port.1 + 1) = some d → (g.1 + 1) % 2 ^ 32 = leAt b 4 4 → s.pwr.refLost = false →
      let th := thetaOf (64 * leAt b 8 8 + bits (leAt b 24 1) 5 0) g.2 d.2 (64 * leAt b 16 8 + bits (leAt b 25 1) 5 0)
        (sgn 32 (tblGet 0 s.tsu.asym port))
      ∃ t, exec (.timing port b at_) s = .next t
        ∧ tblGet none t.tsu.stamps (2 * port.1) = some (leAt b 4 4, at_ % 2 ^ 70)
        ∧ (hasParent s.tsuCfg = true → port.1 = s.parentPort →
          t.reg (aTsu + rTSU_THETA_LAST) = BitVec.ofNat 32 (unsgn 32 th)
          ∧ (s.tsu.state = tLOCKED → th.natAbs ≤ 1024 → t.tsu.state = tLOCKED ∧ t.tsu.badRun = 0
            ∧ t.tsu.ratePend = some (s.tsu.ratePend.getD s.tsu.rate - th * 8) ∧ t.tsu.phase = s.tsu.phase - th.tdiv 256)
          ∧ (s.tsu.state = tACQUIRE → 1024000 ≤ th.natAbs → t.tsu.state = tACQUIRE ∧ t.tsu.okRun = 0
            ∧ t.tsu.stepPend = some (-(th.tdiv 64)))
          ∧ (s.tsu.state = tACQUIRE → th.natAbs ≤ 1024 → s.tsu.okRun = 63 → t.tsu.state = tLOCKED ∧ t.evt aTsu evTSU_LOCKED = true)
          ∧ (s.tsu.state = tLOCKED → 1024 < th.natAbs → s.tsu.badRun = 7 → t.tsu.state = tACQUIRE ∧ t.evt aTsu evTSU_LOCK_LOST = true))
        ∧ (¬ (hasParent s.tsuCfg = true ∧ port.1 = s.parentPort) → s.isAlt port = true →
          t.reg (aTsu + rTSU_RESID_ALT) = BitVec.ofNat 32 (unsgn 32 th) ∧ t.tsu.state = s.tsu.state ∧ t.tsu.rate = s.tsu.rate
          ∧ t.tsu.gts = s.tsu.gts)
        ∧ s.sameBut [.tsu, .regs, .wire, .host, .pba] t)
    ∧ (∀ v : W32, 6 ≤ rf v 19 16 → exec (.cueActWrite v) s = .next s)
    ∧ (∀ i : Fin 256, (s.cue i).en = false ∨ s.tsu.gts < (s.cue i).target → exec (.cueFire i) s = .next s)
    ∧ (∀ v : W32, s.pageOpen .tsu 0 true = true → rf v 19 16 < 6 →
      let i := s.fld (aTsu + rTSU_CUE_SEL) 7 0
      let target := (s.reg (aTsu + rTSU_CUE_TGT_LO)).toNat + 2 ^ 32 * (s.reg (aTsu + rTSU_CUE_TGT_HI)).toNat
      ∃ t, exec (.cueActWrite v) s = .next t
        ∧ (cueUnitOk (rf v 19 16) (rf v 21 20) (rf v 15 0) = true → t.cue i = ⟨rb v 31, false, rb v 31 && decide (target < s.tsu.gts),
          rf v 21 20, rf v 19 16, rf v 15 0, target, (s.reg (aTsu + rTSU_CUE_PERIOD)).toNat⟩)
        ∧ (cueUnitOk (rf v 19 16) (rf v 21 20) (rf v 15 0) = false → t.cue i = { s.cue i with en := false, late := false, past := false })
        ∧ (∀ j, j ≠ i → t.cue j = s.cue j) ∧ t.tsu.gts = s.tsu.gts ∧ s.sameBut [.tsu] t)
    ∧ ∀ i : Fin 256, (s.cue i).en = true → (s.cue i).target ≤ s.tsu.gts →
      let c := s.cue i
      ∃ t, exec (.cueFire i) s = .next t ∧ Emission.cueFired i c.target ∈ t.wire ∧ (∀ j, j ≠ i.1 → t.cue j = s.cue j)
        ∧ (c.period = 0 → (t.cue i).en = false)
        ∧ (c.period ≠ 0 → (t.cue i).en = true ∧ ∃ k, (t.cue i).target = (c.target + k * c.period) % 2 ^ 64
          ∧ s.tsu.gts ≤ c.target + k * c.period ∧ ∀ j, 0 < j → j < k → c.target + j * c.period < s.tsu.gts)
        ∧ (c.past = true → t.evt aTsu evTSU_CUE_LATE = true) ∧ t.tsu.gts = s.tsu.gts
        ∧ (c.kind = 5 → t.objVal c.part c.arg = (s.objVal c.part c.arg + 1) % 2 ^ 32)

/-! ## Cluster DMA (ch. 6) -/

/-- RING_TAIL_WRITE, CHANNEL_ENABLE, CHANNEL_DISABLE, ABORT, DMA_RESUME and CHAIN_EVENT (R169, R172, R179, R183, R184): the
tail is taken while the channel is enabled and ignored while it is not; enabling with a valid base zeroes the indices, and
with another sets CFG_ERR; an abort halts the channel with nothing read ahead, and writes back an executing descriptor alone, and
disabling does that and clears EVENTS; a resume leaves HALTED; an event starts the descriptor that waits for it, is counted, or is lost and counted as lost. Where the
manual is open it follows log 26. -/
def Obligations.ChannelCommandsActByState : Prop :=
  ∀ (ch : Fin 768) (s : State),
    let c := s.chan ch
    (s.pageOpen .dma ch true = false → exec (.abort ch) s = .next s ∧ exec (.dmaResume ch) s = .next s
      ∧ ∀ v : W32, exec (.ringTailWrite ch v) s = .next s ∧ exec (.channelEnable ch v) s = .next s
        ∧ exec (.channelDisable ch v) s = .next s)
    ∧ (s.pageOpen .dma ch true = true →
      (∀ v : W32, c.st = hDISABLED → exec (.ringTailWrite ch v) s = .next s)
      ∧ (∀ v : W32, c.st ≠ hDISABLED → ∃ t, exec (.ringTailWrite ch v) s = .next t ∧ (t.chan ch).tail = rf v 15 0
        ∧ (t.chan ch).done = c.done ∧ (∃ l', (t.chan ch).ahead = c.ahead ++ l') ∧ ∀ j, j ≠ ch.1 → t.chan j = s.chan j)
      ∧ (∀ v : W32, c.st ≠ hDISABLED → exec (.channelEnable ch v) s = .next (s.setPrio ch v))
      ∧ (∀ v : W32, c.st = hDISABLED → exec (.channelDisable ch v) s = .next (s.setPrio ch v))
      ∧ (c.st = hDISABLED ∨ c.st = hHALTED → exec (.abort ch) s = .next s)
      ∧ (∀ v : W32, c.st = hDISABLED → s.ringBaseOk ch = true → ∃ t, exec (.channelEnable ch v) s = .next t
        ∧ t.chan ch = { ChanSt.init with
          st := (if s.chanOff ch then hPAUSED else hIDLE), resume := hIDLE, nextTag := c.nextTag, bytes := c.bytes }
        ∧ rb (t.reg (aDma ch + rDMA_CTL)) 31 = true ∧ s.sameBut [.chans, .regs] t ∧ ∀ j, j ≠ ch.1 → t.chan j = s.chan j)
      ∧ (∀ v : W32, c.st = hDISABLED → s.ringBaseOk ch = false → ∃ t, exec (.channelEnable ch v) s = .next t
        ∧ t.chan ch = { c with cfgErr := true } ∧ s.sameBut [.chans, .regs] t)
      ∧ (∀ v : W32, c.st ≠ hDISABLED → ∃ t, exec (.channelDisable ch v) s = .next t ∧ (t.chan ch).st = hDISABLED
        ∧ (t.chan ch).events = 0 ∧ rb (t.reg (aDma ch + rDMA_CTL)) 31 = false ∧ ∀ j, j ≠ ch.1 → t.chan j = s.chan j)
      ∧ (c.st ≠ hDISABLED → c.st ≠ hHALTED → ∃ t, exec (.abort ch) s = .next t ∧ (t.chan ch).st = hHALTED
        ∧ (t.chan ch).ahead = [] ∧ (t.chan ch).reqs = [] ∧ (t.chan ch).todo = [] ∧ (t.chan ch).head = (t.chan ch).done
        ∧ (t.chan ch).started = false ∧ (c.started = false → (t.chan ch).done = c.done)
        ∧ (∀ x l, c.started = true → c.ahead = x :: l → (t.chan ch).done = (x.idx + 1) % s.ringSlots ch
          ∧ t.reg (aDma ch + rDMA_ERR) = BitVec.ofNat 32 (stABORT * 2 ^ 24 + x.idx))
        ∧ t.evt (aDma ch) evDMA_ABORT_DONE = true ∧ ∀ j, j ≠ ch.1 → t.chan j = s.chan j)
      ∧ (c.st = hHALTED → ∃ t, exec (.dmaResume ch) s = .next t ∧ (t.chan ch).st ≠ hHALTED ∧ (t.chan ch).done = c.done
        ∧ ∀ j, j ≠ ch.1 → t.chan j = s.chan j)
      ∧ (c.st ≠ hHALTED → exec (.dmaResume ch) s = .next s))
    ∧ (c.st ≠ hDISABLED → c.events < 255 →
      (c.st = hEVENT → exec (.chainEvent ch) s = .next (s.modChan ch (fun c => { c with st := hACTIVE })))
      ∧ (c.st ≠ hEVENT → exec (.chainEvent ch) s = .next (s.modChan ch (fun c => { c with events := c.events + 1 }))))
    ∧ (c.st = hDISABLED ∨ 255 ≤ c.events → ∃ t, exec (.chainEvent ch) s = .next t ∧ t.chans = s.chans
      ∧ t.evt (aDma ch) evDMA_EVT_LOST = true ∧ t.reg (aDma ch + rDMA_EVT_LOST) = satAdd (s.reg (aDma ch + rDMA_EVT_LOST)) 1)

/-- LINEAR, STRIDED and FETCH between local endpoints, in range, on memory without errors (R173, R174): each row or element
goes to its place and no other byte of either memory changes; an index of all ones gives zeros. The descriptor is started,
with code OK. A descriptor that is due and fits the command starts, whatever its endpoints, unless a ring pair on its way is
down, and with the code of its endpoints' check where that fails. Where the manual is open it follows logs 16, 24, 25, 66 and
69. -/
def Obligations.TransfersMoveTheirRows : Prop :=
  (∀ (ch : Fin 768) (s : State) (mode : Nat) (c : Instr), (c, mode) ∈ [(Instr.linear ch, 0), (.strided ch, 1), (.fetch ch, 2)] →
    let fits := fun d => dMode d == mode && (mode == 2 || dShuf d == 0)
    ((∀ x, s.due ch = some x → fits x.bytes = false ∨ s.endsOpen ch x.bytes = false) → exec c s = .next s)
    ∧ ∀ x, s.due ch = some x → fits x.bytes = true → s.endsOpen ch x.bytes = true →
      ∃ t, exec c s = .next t ∧ (t.chan ch).started = true ∧ (t.chan ch).ahead = (s.chan ch).ahead
        ∧ (∀ k, descEnds (cluOfChan ch) x.bytes = .error k → (t.chan ch).code = k ∧ t.mem = s.mem)
        ∧ ∀ j, j ≠ ch.1 → t.chan j = s.chan j)
  ∧ ∀ (ch : Fin 768) (s : State) (x : DescSlot) (a b : Endpt), s.ecc = [] → s.due ch = some x → s.endsOpen ch x.bytes = true →
    descEnds (cluOfChan ch) x.bytes = .ok (a, b) → a.isPeer = false → b.isPeer = false →
    let d := x.bytes
    let m := (s.mem, s.host)
    (∀ mode, dMode d = mode → dShuf d = 0 → a.apart b = true → s.rowsUntil ch a b (descRows d) = (descRows d, stOK) →
      let m' := (descRows d).foldl (fun w r => s.putAt b r.2.1 (s.bytesAt m a r.1 r.2.2) w) m
      (mode = 0 → ∃ t, exec (.linear ch) s = .next t ∧ (t.mem, t.host) = m' ∧ (t.chan ch).started = true ∧ (t.chan ch).code = stOK
        ∧ s.sameBut [.mem, .host, .chans, .syncs, .ushers, .freeCtr] t ∧ ∀ j, j ≠ ch.1 → t.chan j = s.chan j)
      ∧ (mode = 1 → ∃ t, exec (.strided ch) s = .next t ∧ (t.mem, t.host) = m' ∧ (t.chan ch).started = true ∧ (t.chan ch).code = stOK
        ∧ s.sameBut [.mem, .host, .chans, .syncs, .ushers, .freeCtr] t ∧ ∀ j, j ≠ ch.1 → t.chan j = s.chan j))
    ∧ (∀ q, dMode d = 2 → endpoint (cluOfChan ch) (dAux d) = some q → q.isMem = true →
      let n := dRows d * dPlanes d
      let idx := fun k => leAt (s.bytesAt m q 0 (4 * n)) (4 * k) 4
      s.endCheck ch q 0 (4 * n) = stOK →
      (∀ k : Nat, k < n → (idx k = 0xFFFFFFFF ∨ s.readCheck ch a ((idx k * leAt d 36 4 : Nat) : Int) (dXlen d) = stOK)
        ∧ s.endCheck ch b ((k : Int) * dDy d) (dXlen d) = stOK) →
      ∃ t, exec (.fetch ch) s = .next t ∧ (t.chan ch).started = true ∧ (t.chan ch).code = stOK
        ∧ (t.mem, t.host) = (List.range n).foldl (fun w (k : Nat) => s.putAt b ((k : Int) * dDy d)
          (if idx k = 0xFFFFFFFF then List.replicate (dXlen d) 0 else s.bytesAt w a ((idx k * leAt d 36 4 : Nat) : Int) (dXlen d)) w) m
        ∧ s.sameBut [.mem, .host, .chans, .syncs, .ushers] t ∧ ∀ j, j ≠ ch.1 → t.chan j = s.chan j)

/-- INTERLEAVE, DEINTERLEAVE, NIBBLE_PLANE and BYTE_PLANE (R175 to R177). The first two weave the rows of their streams
element by element into one row, or take one apart, on memory without errors; the other two convert group by group, and
operand order keeps every byte of a storage row and of its slice scales. A descriptor that is due and fits the command starts
unless a ring pair on its way is down. Where the manual is open it follows logs 24, 25, 66 and 69. -/
def Obligations.ReshufflesKeepEveryByte : Prop :=
  (∀ (ch : Fin 768) (s : State) (sh : Nat) (c : Instr),
    (c, sh) ∈ [(Instr.interleave ch, 1), (.deinterleave ch, 2), (.nibblePlane ch, 3), (.bytePlane ch, 4)] →
    ((∀ x, s.due ch = some x → dMode x.bytes ≠ 1 ∨ dShuf x.bytes ≠ sh ∨ s.endsOpen ch x.bytes = false) → exec c s = .next s)
    ∧ ∀ x, s.due ch = some x → dMode x.bytes = 1 → dShuf x.bytes = sh → s.endsOpen ch x.bytes = true →
      ∃ t, exec c s = .next t ∧ (t.chan ch).started = true ∧ (t.chan ch).ahead = (s.chan ch).ahead
        ∧ (∀ k, descEnds (cluOfChan ch) x.bytes = .error k → (t.chan ch).code = k ∧ t.mem = s.mem)
        ∧ ∀ j, j ≠ ch.1 → t.chan j = s.chan j)
  ∧ (∀ (ch : Fin 768) (s : State) (x : DescSlot) (a b : Endpt), s.due ch = some x → s.endsOpen ch x.bytes = true →
    descEnds (cluOfChan ch) x.bytes = .ok (a, b) →
    let d := x.bytes
    let n := dPlanes d
    let xl := dXlen d
    let mark := fun bs : List Byte => bs.map (fun v => (v, false))
    dMode d = 1 →
    (s.ecc = [] → a.apart b = true →
      (dShuf d = 1 → (∀ y : Nat, y < dRows d → s.endCheck ch b ((y : Int) * dDy d) (n * xl) = stOK
          ∧ ∀ z : Nat, z < n → s.endCheck ch a ((y : Int) * dSy d + z * dSz d) xl = stOK) →
        ∃ t, exec (.interleave ch) s = .next t ∧ (t.chan ch).code = stOK
          ∧ (t.mem, t.host) = (List.range (dRows d)).foldl (fun w (y : Nat) => s.putAt b ((y : Int) * dDy d)
            (plain (interleave (2 ^ dSw d) ((List.range n).map (fun (z : Nat) =>
              mark (s.bytesAt w a ((y : Int) * dSy d + z * dSz d) xl))) xl)) w) (s.mem, s.host)
          ∧ ∀ j, j ≠ ch.1 → t.chan j = s.chan j)
      ∧ (dShuf d = 2 → (∀ y : Nat, y < dRows d → s.endCheck ch a ((y : Int) * dSy d) (n * xl) = stOK
          ∧ ∀ z : Nat, z < n → s.endCheck ch b ((y : Int) * dDy d + z * dDz d) xl = stOK) →
        ∃ t, exec (.deinterleave ch) s = .next t ∧ (t.chan ch).code = stOK
          ∧ (t.mem, t.host) = (List.range (dRows d)).foldl (fun w (y : Nat) =>
            (List.range n).foldl (fun v (z : Nat) => s.putAt b ((y : Int) * dDy d + z * dDz d)
              (plain (deinterleave (2 ^ dDw d) n z (mark (s.bytesAt w a ((y : Int) * dSy d) (n * xl))))) v) w) (s.mem, s.host)
          ∧ ∀ j, j ≠ ch.1 → t.chan j = s.chan j))
    ∧ (∀ shuf e per, dShuf d = shuf → planeFmt shuf (bits (dParam d) 3 2) = some (e, per) →
      let g := if bit (dParam d) 0 then 4 else 8
      let nb := xl / (e + 1)
      let ns := if shuf = 3 ∧ bits (dParam d) 3 2 = 0 then ceilDiv (nb * per) 2048 else 0
      let aux := endpoint (cluOfChan ch) (dAux d)
      (ns = 0 ∨ noMem aux = false) → dRows d % g = 0 → xl % (e + 1) = 0 →
      ∃ u : State, (u.chan ch).started = true ∧ (u.chan ch).code = stOK ∧ s.sameBut [.chans, .syncs] u
        ∧ (let w := (List.range (dRows d / g)).foldl (fun (x : State × Nat) i =>
            if x.2 ≠ stOK then x else x.1.planeGroup ch d a b aux e nb ns g i) (u, stOK)
          let t := if w.2 = stOK then w.1.tick else w.1.tick.chanErr ch w.2
          (shuf = 3 → exec (.nibblePlane ch) s = .next t) ∧ (shuf = 4 → exec (.bytePlane ch) s = .next t))))
  ∧ ∀ (e nb ns g : Nat) (rows scls : List (List (Byte × Bool))), 0 < e → rows.length = g → scls.length = g →
    (∀ r ∈ rows, r.length = nb * (e + 1)) → (∀ r ∈ scls, r.length = 4 * ns) →
    ∀ r, r < g → rowOfGroup e nb ns g r (toGroup e nb ns g rows scls) = rows.getD r []
      ∧ scalesOfGroup ns g r (toGroup e nb ns g rows scls) = scls.getD r []

/-- DESCRIPTOR_COMPLETE (R171, R183): a descriptor that ends OK moves RING_DONE on, counts in DESC_DONE and signals; one that
ends with another code halts the channel, with ERR, HALT_ERR and RING_HEAD back at RING_DONE; one with peer requests to come,
or whose way to the ring is down, goes on. Where the manual is open it follows logs 26 and 69. -/
def Obligations.DescriptorsCompleteOrHalt : Prop :=
  (∀ (ch : Fin 768) (s : State), (s.chan ch).ahead = [] ∨ (s.chan ch).started = false → exec (.descriptorComplete ch) s = .next s)
  ∧ ∀ (ch : Fin 768) (s : State) (x : DescSlot) (l : List DescSlot), s.ecc = [] → (s.chan ch).ahead = x :: l →
    (s.chan ch).started = true →
    ((s.chan ch).reqs ≠ [] ∨ (s.chan ch).todo ≠ [] ∨ s.ringWay ch = false → exec (.descriptorComplete ch) s = .next s)
    ∧ ((s.chan ch).reqs = [] → (s.chan ch).todo = [] → s.ringWay ch = true →
      ∃ t, exec (.descriptorComplete ch) s = .next t ∧ (t.chan ch).done = (x.idx + 1) % s.ringSlots ch
        ∧ ((s.chan ch).code = stOK → (∃ l', (t.chan ch).ahead = l ++ l')
          ∧ t.reg (aDma ch + rDMA_DESC_DONE) = s.reg (aDma ch + rDMA_DESC_DONE) + 1)
        ∧ ((s.chan ch).code ≠ stOK → (t.chan ch).st = hHALTED ∧ (t.chan ch).ahead = [] ∧ t.evt (aDma ch) evDMA_HALT_ERR = true)
        ∧ (dIrq x.bytes = true → t.evt (aDma ch) evDMA_DESC_IRQ = true))
    ∧ ∀ b0, (s.chan ch).reqs = [] → (s.chan ch).todo = [] → s.ringWay ch = true →
      endpoint (cluOfChan ch) (s.ringBase ch) = some (.host b0) → b0 + 64 * x.idx + 64 ≤ 2 ^ 62 → dIrq x.bytes = false →
      ((s.chan ch).code = stOK → dChain x.bytes = false → ∃ t, exec (.descriptorComplete ch) s = .next t
        ∧ (t.chan ch).done = (x.idx + 1) % s.ringSlots ch ∧ (∃ l', (t.chan ch).ahead = l ++ l') ∧ (t.chan ch).tail = (s.chan ch).tail
        ∧ t.reg (aDma ch + rDMA_DESC_DONE) = s.reg (aDma ch + rDMA_DESC_DONE) + 1
        ∧ t.hostRead (b0 + 64 * x.idx + 52) 12 = leBytes 4 256 ++ leBytes 8 s.tsu.gts
        ∧ (dSig x.bytes = true → t.objVal (partOfChan ch) (leAt x.bytes 4 2) = (s.objVal (partOfChan ch) (leAt x.bytes 4 2) + 1) % 2 ^ 32)
        ∧ (dSig x.bytes = false → ∀ o, t.objVal (partOfChan ch) o = s.objVal (partOfChan ch) o)
        ∧ ∀ j, j ≠ ch.1 → t.chan j = s.chan j)
      ∧ ((s.chan ch).code ≠ stOK → ∃ t, exec (.descriptorComplete ch) s = .next t ∧ (t.chan ch).st = hHALTED
        ∧ (t.chan ch).done = (x.idx + 1) % s.ringSlots ch ∧ (t.chan ch).head = (t.chan ch).done ∧ (t.chan ch).ahead = []
        ∧ t.reg (aDma ch + rDMA_ERR) = BitVec.ofNat 32 ((s.chan ch).code * 2 ^ 24 + x.idx)
        ∧ t.evt (aDma ch) evDMA_HALT_ERR = true
        ∧ (∀ o, t.objVal (partOfChan ch) o = s.objVal (partOfChan ch) o) ∧ ∀ j, j ≠ ch.1 → t.chan j = s.chan j)

/-- NATIVE_READ, NATIVE_WRITE, READ_DATA, WRITE_ACK and NATIVE_ERROR (R232): a request of the partition's tenant to a resident
handle, in range, is answered with its bytes, or written and acknowledged; another is answered with its STATUS and changes
nothing; a response ends the request it answers, its data goes to its place in the stream, and an error, or a STATUS other
than OK, ends the descriptor's requests with the code of its STATUS; a response of another tenant, or to no request, is
discarded, and data whose way to its destination is down waits (the model's choice, log 69). -/
def Obligations.NativeTransactions : Prop :=
  ∀ (p : Fin 4) (s : State) (m : Msg), s.ecc = [] →
    let b := m.body
    let v := s.takeMsg p m
    let head := fun op => natHeader op 0 (natLen b / 16 - 1) (natTag b) (natHandle b) (natOff b / 16) 0
    (natOp b = 1 →
      (v.natCheck p m ≠ 0 → exec (.nativeRead p m) s = .next (v.natError p m (v.natCheck p m)))
      ∧ (v.natCheck p m = 0 → ∀ h, s.handle p (natHandle b) = some h →
        exec (.nativeRead p m) s = .next (v.reply p m 3 profNative (head 3 ++ h.bytesIn p (natOff b) (natLen b) s.mem))))
    ∧ (natOp b = 2 →
      (v.natCheck p m ≠ 0 → exec (.nativeWrite p m) s = .next (v.natError p m (v.natCheck p m)))
      ∧ (v.natCheck p m = 0 → natPoison b = 0 → natLen b + 16 ≤ b.length → ∀ h, s.handle p (natHandle b) = some h →
        ∃ u : State, exec (.nativeWrite p m) s = .next (u.reply p m 3 profNative (head 4))
          ∧ u.mem = h.memWith p (natOff b) (natLen b) (slice b 16 (natLen b)) s.mem ∧ v.sameBut [.mem, .ushers] u))
    ∧ (natOp b ≠ 1 → exec (.nativeRead p m) s = .next (s.discardMsg p m))
    ∧ (natOp b ≠ 2 → exec (.nativeWrite p m) s = .next (s.discardMsg p m))
    ∧ (s.refuses p m = true ∨ natOp b ≠ 3 ∨ s.natFor p b true = none → exec (.readData p m) s = .next v)
    ∧ (s.refuses p m = true ∨ natOp b ≠ 4 ∨ s.natFor p b false = none → exec (.writeAck p m) s = .next v)
    ∧ (s.refuses p m = true ∨ natOp b ≠ 5 ∨ (s.natFor p b true = none ∧ s.natFor p b false = none) →
      exec (.nativeError p m) s = .next v)
    ∧ (s.refuses p m = false →
    (∀ ch r, natOp b = 3 → s.natFor p b true = some (ch, r) →
      (s.dataWay ch = false → exec (.readData p m) s = .next s)
      ∧ (s.dataWay ch = true → natStatus b ≠ 0 → ∃ t, exec (.readData p m) s = .next t ∧ (t.chan ch).todo = []
        ∧ (t.chan ch).reqs = dropFirst (fun q => q == r) (s.chan ch).reqs
        ∧ (t.chan ch).code = (if (s.chan ch).code = stOK then natCode (natStatus b) else (s.chan ch).code)
        ∧ v.sameBut [.chans] t ∧ ∀ j, j ≠ ch → t.chan j = s.chan j)
      ∧ (s.dataWay ch = true → natStatus b = 0 → ∀ d x y rows row o, s.chanRows ch = some (d, x, y, rows) →
        rowAtPos rows r.pos = some (row, o) → y.isPeer = true →
        ∃ u : State, exec (.readData p m) s = .next (u.peerPump ch)
          ∧ (u.chan ch).reqs = dropFirst (fun q => q == r) (s.chan ch).reqs
          ∧ (u.chan ch).todo = (s.chan ch).todo ++ [⟨0, false, r.pos, r.len, 0, 0, 0, 0⟩] ∧ v.sameBut [.chans] u))
    ∧ (∀ ch r, natOp b = 3 → s.natFor p b true = some (ch, r) → s.dataWay ch = true → natStatus b = 0 → natPoison b = 0 →
      r.len + 16 ≤ b.length →
      ∀ d x y rows row o, s.chanRows ch = some (d, x, y, rows) → rowAtPos rows r.pos = some (row, o) → y.isPeer = false →
      ∃ u : State, exec (.readData p m) s = .next (u.peerPump ch)
        ∧ (u.mem, u.host) = s.putAt y (row.2.1 + o) (slice b 16 r.len) (s.mem, s.host)
        ∧ (u.chan ch).reqs = dropFirst (fun q => q == r) (s.chan ch).reqs ∧ (u.chan ch).code = (s.chan ch).code)
    ∧ (∀ ch r, natOp b = 4 → s.natFor p b false = some (ch, r) → natStatus b ≠ 0 →
      ∃ t, exec (.writeAck p m) s = .next t ∧ (t.chan ch).todo = []
        ∧ (t.chan ch).reqs = dropFirst (fun q => q == r) (s.chan ch).reqs
        ∧ (t.chan ch).code = (if (s.chan ch).code = stOK then natCode (natStatus b) else (s.chan ch).code)
        ∧ v.sameBut [.chans] t ∧ ∀ j, j ≠ ch → t.chan j = s.chan j)
    ∧ (∀ ch r, natOp b = 4 → s.natFor p b false = some (ch, r) → natStatus b = 0 →
      ∃ u : State, exec (.writeAck p m) s = .next (u.peerPump ch)
      ∧ (u.chan ch).reqs = dropFirst (fun q => q == r) (s.chan ch).reqs
      ∧ (u.chan ch).bytes = ((s.chan ch).bytes + r.len) % 2 ^ 38 ∧ v.sameBut [.chans] u)
    ∧ ∀ ch r, natOp b = 5 → (s.natFor p b true = some (ch, r) ∨ (s.natFor p b true = none ∧ s.natFor p b false = some (ch, r))) →
      ∃ t, exec (.nativeError p m) s = .next t ∧ (t.chan ch).todo = []
        ∧ (t.chan ch).reqs = dropFirst (fun q => q == r) (s.chan ch).reqs
        ∧ (t.chan ch).code = (if (s.chan ch).code = stOK then natCode (natStatus b) else (s.chan ch).code)
        ∧ v.sameBut [.chans] t ∧ ∀ j, j ≠ ch → t.chan j = s.chan j)

/-! ## The DL8 sites (ch. 7) -/

/-- LASER_LOST, LASER_RESTORED, RAMP_DONE, RAMP_FAIL and UNCROSS (R191 to R194, R310): a source newly lost is LOST, awaits the
lead and sets LASER_LOST; one that shows light again is RESTORED; a ramp that is done gives every port that ran in it the
limits and speed from before the loss, one that fails leaves them and sets RAMP_FAIL; UNCROSS, with the lost sources restored,
sets the switch to normal and both sources to their initial state; during a switch-over a ramp command does nothing and an
UNCROSS is held. Where the manual is open it follows logs 1 and 73. -/
def Obligations.LaserFailover : Prop :=
  ∀ (k : Fin 8) (s : State),
    let x := s.site k
    let back := fun (t : State) => ∀ q ∈ portsOf k, (t.port q).saved = none ∧ ∀ sh : ShapeSt,
      (s.port q).saved = some sh →
      (t.port q).minW = sh.minW ∧ (t.port q).minS = sh.minS ∧ (t.port q).speed = max sh.speed (max sh.minS (s.effCapS q))
        ∧ sh.width ≤ (t.port q).width
    (∀ b : Bool, (((x.laser b).lost = false ∨ (x.laser b).restored = true) → ∃ t, exec (.laserLost k b) s = .next t
      ∧ t.site k = x.modLaser b (fun l => { l with lost := true, restored := false, fresh := true })
      ∧ t.evt (aOio k) evOIO_LASER_LOST = true ∧ s.sameBut [.sites, .regs, .wire, .host, .pba] t
      ∧ ∀ j, j ≠ k.1 → t.site j = s.site j)
      ∧ ((x.laser b).lost = true → (x.laser b).restored = false → exec (.laserLost k b) s = .next s))
    ∧ (∀ b : Bool, ((x.laser b).lost = true → ∃ t, exec (.laserRestored k b) s = .next t
      ∧ t.site k = x.modLaser b (fun l => { l with restored := true }) ∧ t.evt (aOio k) evOIO_LASER_RESTORED = true
      ∧ s.sameBut [.sites, .regs, .wire, .host, .pba] t ∧ ∀ j, j ≠ k.1 → t.site j = s.site j)
      ∧ ((x.laser b).lost = false → exec (.laserRestored k b) s = .next s))
    ∧ (x.ramp = true → s.leadActs k = true → ∃ t, exec (.rampDone k) s = .next t
      ∧ t.site k = { x with ramp := false, wt := (t.site k).wt } ∧ back t
      ∧ t.evt (aOio k) evOIO_RAMP_DONE = true ∧ s.sameBut [.sites, .ports, .rings, .links, .regs, .wire, .host, .pba] t)
    ∧ (x.ramp = true → s.leadActs k = true → ∃ t, exec (.rampFail k) s = .next t
      ∧ t.site k = { x with ramp := false, rampFail := true }
      ∧ t.evt (aOio k) evOIO_RAMP_FAIL = true ∧ s.sameBut [.sites, .regs, .wire, .host, .pba] t)
    ∧ ((x.ramp = false ∨ s.leadActs k = false) → exec (.rampDone k) s = .next s ∧ exec (.rampFail k) s = .next s)
    ∧ (s.pageOpen .oio k true = true →
      (x.canUncross = true → s.leadActs k = true → ∃ t, exec (.uncross k) s = .next t ∧ back t
        ∧ t.site k = { x with cross := 0, ramp := false, rampFail := false, crossPend := false, uncross := false
                              laserA := LaserSt.init, laserB := LaserSt.init, wt := (t.site k).wt }
        ∧ s.sameBut [.sites, .ports, .rings, .links, .regs, .wire] t)
      ∧ (x.canUncross = true → s.leadActs k = false → exec (.uncross k) s = .next (s.modSite k (fun y => { y with uncross := true })))
      ∧ (x.canUncross = false → exec (.uncross k) s = .next s))
    ∧ (s.pageOpen .oio k true = false → exec (.uncross k) s = .next s)

/-- CONTROL_CYCLE (R192, R193, R195, R196, R198, R201, R203, R305): without its chiplet or its clock a site does nothing, and
a cycle of a switch-over gap only passes; else, where nothing waits, a whole frame with the cycle's number and a CHECK that
holds leaves for the Understudy, a locked ring's code moves by at most 16, and four errors above 8 GHz in a row are a lock
loss; the lead acts on the loss of one source by setting the cross switch to the survivor at full output and ramping the ports
that carry lanes, and on the loss of both by taking the site's ports down; the line of a lane that was found to fail is marked,
at once or once the Understudy acknowledges the item that is then written through. Where the manual is open it follows logs 1,
17, 41 and 73. -/
def Obligations.TheControlCycle : Prop :=
  ∀ (k : Fin 8) (s : State),
    let x := s.site k
    ((s.siteUsed k = false ∨ s.clocked = false) → ∀ rs, exec (.controlCycle k rs) s = .next s)
    ∧ (s.siteUsed k = true → s.clocked = true →
    (0 < x.gap → ∀ rs, exec (.controlCycle k rs) s = .next (s.modSite k (fun y => { y with gap := y.gap - 1 })))
    ∧ (x.gap = 0 → x.uncross = false → x.force = false → x.crossPend = false → x.forced = [] →
      (∀ q ∈ portsOf k, (s.port q).requal = false ∧ (s.port q).imReq = none ∧ (s.port q).want = none) →
      ((∀ q ∈ portsOf k, (s.port q).moves = []) →
      (x.laserA.fresh = false → x.laserB.fresh = false →
        (∃ t f, exec (.controlCycle k []) s = .next t ∧ t.wire = s.wire ++ [.frame k f] ∧ frameOk f = true
          ∧ frameCycle f = x.cycle % 2 ^ 24 ∧ frameKind1 f = x.wantKind1
          ∧ t.site k = { x with cycle := (x.cycle + 1) % 2 ^ 24, wantKind1 := false, delta := 0, told := (t.site k).told }
          ∧ (x.wantKind1 = true → ∀ i, i < 288 → tblGet 0 (t.site k).told i = (s.ring (288 * k.1 + i)).st)
          ∧ s.sameBut [.sites, .ports, .freeCtr, .wire] t ∧ (∀ j, j ≠ k.1 → t.site j = s.site j) ∧ ∀ q, t.port q = s.port q)
        ∧ ∀ (i : Fin 288) (e : Int) (w : Bool),
          let g := 288 * k.1 + i.1
          let r := s.ring g
          (r.st = gLOCKED ∨ r.st = gSTANDBY) → 16 < r.code → r.code < 4079 →
          (e.natAbs ≤ 8000 ∨ r.badRun < 3 → ∃ t, exec (.controlCycle k [⟨i, some e, false, w⟩]) s = .next t
            ∧ (t.ring g).code ≤ r.code + 16 ∧ r.code ≤ (t.ring g).code + 16 ∧ (t.ring g).st = r.st
            ∧ (t.ring g).badRun = (if e.natAbs ≤ 8000 then 0 else r.badRun + 1) ∧ ∀ j, j ≠ g → t.ring j = s.ring j)
          ∧ (8000 < e.natAbs → 3 ≤ r.badRun → (s.recent r.losses).length < 2 →
            ∃ t, exec (.controlCycle k [⟨i, some e, false, w⟩]) s = .next t ∧ (t.ring g).st = gRELOCK ∧ (t.ring g).lane = r.lane
              ∧ (t.ring g).losses = s.recent r.losses ++ [s.ctrlClk]
              ∧ t.reg (aPort (portOfRing g) + rOIOPORT_LOCK_LOSS) = satAdd (s.reg (aPort (portOfRing g) + rOIOPORT_LOCK_LOSS)) 1
              ∧ ∀ j, j ≠ g → t.ring j = s.ring j))
      ∧ (x.laserA.lost ≠ x.laserB.lost → ((x.laser x.laserB.lost).fresh = true) → x.cross = 0 →
        ∃ t, exec (.controlCycle k []) s = .next t ∧ (t.site k).cross = (if x.laserA.lost then 1 else 2)
          ∧ ((t.site k).laser x.laserA.lost).full = true ∧ (t.site k).ramp = true
          ∧ ∀ q ∈ portsOf k, (s.shaped q = false → t.port q = s.port q)
            ∧ (s.shaped q = true → (t.port q).saved.isSome = true
              ∧ (s.isHouse q = true → (t.port q).speed = 2) ∧ (s.isHouse q = false → 2 ≤ (t.port q).width)))
      ∧ (x.laserA.lost = true → x.laserB.lost = true → (x.laserA.fresh = true ∨ x.laserB.fresh = true) →
        ∃ t, exec (.controlCycle k []) s = .next t ∧ (t.site k).cross = 3 ∧ (t.site k).ramp = false
          ∧ ∀ q ∈ portsOf k, ∀ l ∈ s.linksOf q, t.linkUp l = false))
      ∧ ∀ q ∈ portsOf k, ∀ lane h : Nat, x.laserA.fresh = false → x.laserB.fresh = false →
        (s.port q).moves = [(false, lane)] → (∀ j ∈ portsOf k, j ≠ q → (s.port j).moves = []) →
        s.ringOfLane q false lane = some h → bit (s.port q).txBad (s.ring h).line = false →
        ∃ t, exec (.controlCycle k []) s = .next t ∧ (t.port q).moves = []
          ∧ (x.mirrored = true → (t.site k).wt = x.wt ++ [(.lineFailed q false (s.ring h).line, 1)])
          ∧ (x.mirrored = false → s.portAuto q = false →
            (t.port q).txBad = (s.port q).txBad ||| 2 ^ (s.ring h).line)))

/-- RING_ACQUIRE, RING_REACQ_TIMEOUT and LINE_WEAK (R197, R198, R201, R203, R307, R310): while the lead acts, a ring whose
sweep ends locks with its code, with the lane it has or standing by, and the next waiting ring of its bank begins; the last one
takes an acquiring port on to training with the width its rings allow; a ring that takes over a lane moves it; one that does
not lock, or locks at the end of the range, sets CAL_FAIL and is FAILED: at once while no controller mirrors the lead, else
once the write-through item, which joins the queue, is acknowledged; a transmit line that answered weakly for 64 cycles waits
for the lead as a failure of its lane. Where the manual is open it follows logs 1, 36 and 41. -/
def Obligations.RingsAcquireOrFail : Prop :=
  ∀ (k : Fin 8) (i : Fin 288) (s : State),
    let g := 288 * k.1 + i.1
    let port := portOfRing g
    let rx := isRxRing g
    let r := s.ring g
    let locked : Nat → RingSt := fun c => { r with
      code := c, badRun := 0, weakRun := 0, st := if r.lane = gNone then gSTANDBY else gLOCKED }
    let next := fun (t : State) =>
      (∀ j, j ≠ g → t.ring j = s.ring j ∨ (j ∈ bankOf port rx ∧ (s.ring j).waits = true ∧ t.ring j = { s.ring j with st := gACQ }))
    ((r.st = gACQ ∨ r.st = gRELOCK) → s.leadActs k = true →
      (∀ c : Fin 4096, 0 < c.1 → c.1 < 4095 → r.nextLane = gNone → (s.port port).st ≠ pACQ →
        ∃ t, exec (.ringAcquire k i c) s = .next t ∧ t.ring g = locked c ∧ next t ∧ s.sameBut [.rings] t
          ∧ ((∀ j ∈ bankOf port rx, j ≠ g → (s.ring j).st ≠ gACQ) → ∀ h, h ≠ g →
            (bankOf port rx).find? (fun j => (s.ring j).waits) = some h → (t.ring h).st = gACQ))
      ∧ (∀ c : Fin 4096, 0 < c.1 → c.1 < 4095 → r.nextLane = gNone → (s.port port).st = pACQ →
        (∀ h ∈ bankOf port false ++ bankOf port true, h ≠ g → (s.ring h).st = gSTANDBY ∨ (s.ring h).st = gFAILED) →
        ∃ t, exec (.ringAcquire k i c) s = .next t ∧ (t.ring g).code = c
          ∧ (∀ w, s.fitWidth port = some w → (t.port port).st = pTRAIN ∧ (t.port port).width = w)
          ∧ (s.fitWidth port = none → (t.port port).st = pFAILED ∧ t.evt (aOio k) evOIO_PORT_FAILED = true))
      ∧ (∀ (c : Fin 4096) (h : Nat), 0 < c.1 → c.1 < 4095 → r.nextLane ≠ gNone → s.ringOfLane port rx r.nextLane = some h →
        ∃ t, exec (.ringAcquire k i c) s = .next t
          ∧ ((s.site k).mirrored = true → (t.site k).wt = (s.site k).wt ++ [(.laneMap port rx r.nextLane h g r.line, 4)]
            ∧ t.ring g = locked c)
          ∧ ((s.site k).mirrored = false → (t.ring g).lane = r.nextLane ∧ (t.ring g).st = gLOCKED ∧ (t.ring g).line = r.line
            ∧ t.evt (aOio k) evOIO_LANE_SPARED = true))
      ∧ ((s.site k).wt.any (fun e => e.1 == .ringFailed g) = false →
        ((s.site k).mirrored = true → ∃ t, exec (.ringReacqTimeout k i) s = .next t
          ∧ (∀ c : Fin 4096, (c.1 = 0 ∨ c.1 = 4095) → exec (.ringAcquire k i c) s = .next t)
          ∧ (t.site k).wt = (s.site k).wt ++ [(.ringFailed g, 1)] ∧ t.evt (aOio k) evOIO_CAL_FAIL = true
          ∧ s.sameBut [.sites, .regs, .wire, .host, .pba] t)
        ∧ ((s.site k).mirrored = false → (s.port port).st ≠ pACQ → r.lane = gNone → r.nextLane = gNone →
          ∃ t, exec (.ringReacqTimeout k i) s = .next t
            ∧ (∀ c : Fin 4096, (c.1 = 0 ∨ c.1 = 4095) → exec (.ringAcquire k i c) s = .next t)
            ∧ t.ring g = { r with st := gFAILED, trim := none } ∧ t.evt (aOio k) evOIO_CAL_FAIL = true
            ∧ t.evt (aOio k) evOIO_RING_FAILED = true ∧ s.sameBut [.rings, .regs, .wire, .host, .pba] t ∧ next t)))
    ∧ ((r.st ≠ gACQ ∧ r.st ≠ gRELOCK) ∨ s.leadActs k = false →
      exec (.ringReacqTimeout k i) s = .next s ∧ ∀ c, exec (.ringAcquire k i c) s = .next s)
    ∧ (rx = false → 64 ≤ r.weakRun → r.lane ≠ gNone → ∃ t, exec (.lineWeak k i) s = .next t
      ∧ t.ring g = { r with weakRun := 0 } ∧ t.port port = { s.port port with moves := (s.port port).moves ++ [(false, r.lane)] }
      ∧ s.sameBut [.ports, .rings] t ∧ (∀ j, j ≠ g → t.ring j = s.ring j) ∧ ∀ j, j ≠ port → t.port j = s.port j)
    ∧ ((rx = true ∨ r.weakRun < 64 ∨ r.lane = gNone) → exec (.lineWeak k i) s = .next s)

/-- EYE_MEASURE, CDR_LOCK_LOSS, LOSS_OF_SIGNAL, LOS_TIMEOUT and SIGNAL_RETURN (R201, R203, R205, R206): a measurement keeps the
smallest margin and counts bad ones in a row, the third of which gives the lane to the lead; each lock loss counts, fewer than
four within a second fail no lane, and the fourth gives it to the lead; light lost on lanes leaves the first stage that fell
since the last training in LOSS_STAGE, and on every lane it is a loss of signal, which sets the event and pauses the port;
when it lasts, the port's links go down, and when the signal returns the retrain may complete. Where the manual is open it
follows log 1. -/
def Obligations.SignalAndEye : Prop :=
  ∀ (port : Fin 64) (s : State),
    let x := s.port port
    let k := port.1 / 8
    let lim := s.eyeFail port
    (exec (.eyeMeasure port []) s = .next s)
    ∧ (∀ (m : Nat × Nat) (rest : List (Nat × Nat)), let ms := m :: rest
      (ms.map Prod.fst).Nodup →
      (∀ e ∈ ms, e.2 < lim → tblGet 0 x.marginRun e.1 < 2) →
      ∃ t, exec (.eyeMeasure port ms) s = .next t ∧ s.sameBut [.ports] t
        ∧ (∃ e ∈ ms, (t.port port).eyeLane = e.1 ∧ (t.port port).eye = min 255 e.2 ∧ ∀ f ∈ ms, e.2 ≤ f.2)
        ∧ (∀ e ∈ ms, tblGet 0 (t.port port).marginRun e.1 = if e.2 < lim then tblGet 0 x.marginRun e.1 + 1 else 0)
        ∧ (∀ n, n ∉ ms.map Prod.fst → tblGet 0 (t.port port).marginRun n = tblGet 0 x.marginRun n)
        ∧ (t.port port).moves = x.moves ∧ ∀ j, j ≠ port.1 → t.port j = s.port j)
    ∧ (∀ lane pct : Nat, pct < lim → tblGet 0 x.marginRun lane = 2 → ∃ t, exec (.eyeMeasure port [(lane, pct)]) s = .next t
        ∧ (t.port port).moves = x.moves ++ [(true, lane)] ∧ tblGet 0 (t.port port).marginRun lane = 0 ∧ s.sameBut [.ports] t)
    ∧ (∀ lane : Fin 16, ∃ t, exec (.cdrLockLoss port lane) s = .next t
      ∧ t.reg (aPort port + rOIOPORT_CDR_LOSS) = satAdd (s.reg (aPort port + rOIOPORT_CDR_LOSS)) 1
      ∧ (lim = 0 → t.ports = s.ports)
      ∧ (lim ≠ 0 → (s.recent (tblGet [] x.cdr lane)).length < 3 →
        tblGet [] (t.port port).cdr lane = s.recent (tblGet [] x.cdr lane) ++ [s.ctrlClk] ∧ (t.port port).moves = x.moves)
      ∧ (lim ≠ 0 → 3 ≤ (s.recent (tblGet [] x.cdr lane)).length →
        tblGet [] (t.port port).cdr lane = [] ∧ (t.port port).moves = x.moves ++ [(true, lane.1)])
      ∧ s.sameBut [.ports, .regs] t ∧ ∀ j, j ≠ port.1 → t.port j = s.port j)
    ∧ (∀ dark : List Nat,
      (s.portEn port = false ∨ s.siteUsed k = false ∨ dark = [] → exec (.lossOfSignal port dark) s = .next s)
      ∧ (s.portEn port = true → s.siteUsed k = true → dark ≠ [] → ∃ t, exec (.lossOfSignal port dark) s = .next t
        ∧ (x.lossStage ≠ 0 → (t.port port).lossStage = x.lossStage)
        ∧ (x.lossStage = 0 → s.siteFeat k 3 = false → (t.port port).lossStage = 0)
        ∧ (x.lossStage = 0 → s.siteFeat k 3 = true → ∀ n, n < x.lit.length → n < 4 →
          fell3dB (x.lit.getD n 0) ((s.photodiodes port).getD n 0) = true →
          (∀ i, i < n → fell3dB (x.lit.getD i 0) ((s.photodiodes port).getD i 0) = false) → (t.port port).lossStage = n + 1)
        ∧ ((∃ i, i < lanesOf x.width ∧ i ∉ dark) → (t.port port).los = x.los ∧ (t.port port).st = x.st ∧ s.sameBut [.ports] t)
        ∧ ((∀ i, i < lanesOf x.width → i ∈ dark) → (t.port port).los = true
          ∧ (s.portCarries port = true → (t.port port).st = pPAUSED ∧ (t.port port).imRun = none
            ∧ ∀ l ∈ s.linksOf port, (s.link l).state = lUP → (s.link l).paused = false →
              (t.link l).state = lPAUSED ∧ (t.link l).reason = 4 ∧ (t.link l).replay = (s.link l).replay)
          ∧ t.evt (aOio k) evOIO_LOS = true ∧ s.sameBut [.ports, .links, .regs, .wire, .host, .pba] t)
        ∧ ∀ j, j ≠ port.1 → t.port j = s.port j))
    ∧ (x.los = true → ∃ t, exec (.losTimeout port) s = .next t
      ∧ ∀ l ∈ s.linksOf port, (s.link l).state ≠ lDOWN → (t.link l).cause = cLOS ∧ t.linkUp l = false)
    ∧ (x.los = false → exec (.losTimeout port) s = .next s ∧ exec (.signalReturn port) s = .next s)
    ∧ (x.los = true → exec (.signalReturn port) s = .next (s.modPort port (fun x =>
      { x with los := false, st := if x.st = pPAUSED then pTRAIN else x.st })))

/-- PORT_ENABLE, PORT_DISABLE, PORT_CAP_WRITE and REQUAL (R197, R203, R204, R245, R310, R342, R345): a port that may train
starts to acquire every ring on its own line, those of a bank one after another; a fenced port, or any after a test unlock,
stays disabled; disabling takes the links down and parks the rings; a cap that is lowered below the current value changes the
port now, or at the end of a retrain whose RESUME has left, a raised one only at REQUAL, which clears the port's failed marks
and begins again; during a switch-over REQUAL is held. Where the manual is open it follows logs 36 and 79. -/
def Obligations.PortsEnableDisableAndRequalify : Prop :=
  ∀ (port : Fin 64) (s : State),
    let x := s.port port
    let bank := bankOf port false ++ bankOf port true
    let k := port.1 / 8
    (s.pageOpen .oioPort port true = false → exec (.portEnable port) s = .next s ∧ exec (.portDisable port) s = .next s
      ∧ exec (.requal port) s = .next s ∧ ∀ v, exec (.portCapWrite port v) s = .next s)
    ∧ (s.pageOpen .oioPort port true = true →
    (s.portEn port = false → port.1 ∉ s.sec.fenced → s.sec.unlocked = false → ∃ t, exec (.portEnable port) s = .next t
      ∧ t.portEn port = true ∧ s.sameBut [.regs, .ports, .rings, .links] t ∧ (∀ j, j ≠ port.1 → t.port j = s.port j)
      ∧ (t.canTrain port = true → (t.port port).st = pACQ
        ∧ (∀ g ∈ bank, (s.ring g).st ≠ gFAILED → ((t.ring g).st = gACQ ∨ (t.ring g).st = gPARKED)
          ∧ (t.ring g).line = g % 18 ∧ (t.ring g).lane = gNone)
        ∧ (∀ rx g, (bankOf port rx).find? (fun g => (s.ring g).st != gFAILED) = some g → (t.ring g).st = gACQ
          ∧ ∀ h ∈ bankOf port rx, h ≠ g → (t.ring h).st ≠ gACQ)
        ∧ (∀ g ∈ bank, (s.ring g).st = gFAILED → (t.ring g).st = gFAILED)
        ∧ ∀ l ∈ s.linksOf port, (s.link l).state = lDOWN → (t.link l).state = lPHY)
      ∧ (t.canTrain port = false → t.rings = s.rings ∧ t.links = s.links))
    ∧ ((s.portEn port = true ∨ port.1 ∈ s.sec.fenced ∨ s.sec.unlocked = true) → exec (.portEnable port) s = .next s)
    ∧ (s.portEn port = true → ∃ t, exec (.portDisable port) s = .next t ∧ t.portEn port = false ∧ (t.port port).st = pDOWN
      ∧ (∀ g ∈ bank, (t.ring g).st = (if (s.ring g).st = gFAILED then gFAILED else gPARKED) ∧ (t.ring g).lane = gNone)
      ∧ ∀ l ∈ s.linksOf port, (s.link l).state ≠ lDOWN → (t.link l).state = lDOWN ∧ (t.link l).cause = cHOST)
    ∧ (s.portEn port = false → exec (.portDisable port) s = .next s)
    ∧ (∀ v : W32, s.portCarries port = false → s.portPaused port = false → ∃ t, exec (.portCapWrite port v) s = .next t
      ∧ t.reg (aPort port + rOIOPORT_CTL) = rput (v &&& 0x800001B3#32) 31 31 (b2n (s.portEn port))
      ∧ (t.port port).capW = max x.capW (rf v 1 0) ∧ (t.port port).capS = max x.capS (min 2 (rf v 5 4))
      ∧ (t.port port).width = x.width ∧ (t.port port).speed = x.speed
      ∧ s.sameBut [.regs, .ports] t ∧ ∀ j, j ≠ port.1 → t.port j = s.port j)
    ∧ (∀ v : W32, s.portCarries port = true → s.portPaused port = false → x.want = none → x.st ≠ pFAILED →
      x.width < rf v 1 0 → ∃ t, exec (.portCapWrite port v) s = .next t
      ∧ ((t.port port).st = pFAILED ∨ (rf v 1 0 ≤ (t.port port).width ∧ (t.port port).st = pTRAIN
        ∧ ∀ l ∈ s.linksOf port, (s.link l).state = lUP → (t.link l).state = lPAUSED)))
    ∧ (∀ v : W32, s.portResumed port = true → x.want = none → x.width < rf v 1 0 → ∃ t, exec (.portCapWrite port v) s = .next t
      ∧ (t.port port).want = some 2 ∧ (t.port port).width = x.width ∧ s.sameBut [.regs, .ports] t)
    ∧ (s.leadActs k = true → (s.canTrain port = true ∨ (x.st = pFAILED ∧
          (s.modPort port (fun x => { x with st := pDOWN })).canTrain port = true)) →
        ∃ t, exec (.requal port) s = .next t ∧ (t.port port).st = pACQ ∧ (t.port port).txBad = 0 ∧ (t.port port).rxBad = 0
          ∧ (t.port port).requal = false ∧ (t.port port).minW = 0 ∧ (t.port port).minS = 0
          ∧ (∀ g ∈ bank, (t.ring g).st = (if g % 18 = 0 then gACQ else gPARKED) ∧ (t.ring g).line = g % 18 ∧ (t.ring g).lane = gNone)
          ∧ s.sameBut [.ports, .rings, .links, .regs, .wire] t ∧ ∀ j, j ≠ port.1 → t.port j = s.port j)
    ∧ (s.leadActs k = true → (s.modPort port (fun x => { x with st := if x.st = pFAILED then pDOWN else x.st })).canTrain port = false →
        ∃ t, exec (.requal port) s = .next t ∧ (t.port port).txBad = 0 ∧ (t.port port).rxBad = 0 ∧ (t.port port).requal = false
          ∧ (∀ g ∈ bank, (s.ring g).st = gFAILED → (t.ring g).st = gPARKED) ∧ s.sameBut [.ports, .rings] t)
    ∧ (s.leadActs k = false → exec (.requal port) s = .next (s.modPort port (fun x => { x with requal := true }))))

/-- BURST_RECEIVE, INTRUSION, DELIMITER_TIMEOUT, ADC_CONVERSION and ADC_FRAME (R210 to R216): outside an intermission, a burst
whose delimiter fails its CHECK is lost and counted; its own device's is discarded, but for ranging; an intrusion loses the
rest of the burst, counts and re-arms, and the intruder's delimiter, if read, gives INTRUDER; the ADC samples one channel a
slot, flags and counts what is out of range, and keeps the corrections of a frame whose references are not good. Where the
manual is open it follows logs 1, 39 and 43. -/
def Obligations.BurstsAndTheMonitorAdc : Prop :=
  (∀ (port : Fin 64) (s : State) (d : List Byte) (t0 : Nat),
    let x := s.port port
    let dev := bits (leAt d 4 2) 14 0
    ((s.bursts port = false ∨ x.st = pINTER) → exec (.burstReceive port d t0) s = .next s)
    ∧ (s.bursts port = true → x.st ≠ pINTER →
      (delimOk d = false → ∃ t, exec (.burstReceive port d t0) s = .next t ∧ t.port port = { x with burst := none }
        ∧ t.reg (aPort port + rOIOPORT_CDR_LOSS) = satAdd (s.reg (aPort port + rOIOPORT_CDR_LOSS)) 1 ∧ s.sameBut [.ports, .regs] t)
      ∧ (delimOk d = true → ∃ t, exec (.burstReceive port d t0) s = .next t
        ∧ (t.port port).burst = (if dev = s.device ∧ x.hs.ranging = false then none else some ⟨dev, true, leAt d 10 2⟩)
        ∧ (t.hs port).foreign = (if s.isForeign port dev t0 then satAdd x.hs.foreign 1 else x.hs.foreign)
        ∧ (x.rearmed = true → (t.port port).rearmed = false ∧ (t.port port).intruder = BitVec.ofNat 32 (2 ^ 31 + dev))
        ∧ (x.rearmed = false → (t.port port).intruder = x.intruder ∧ (t.port port).misalign = x.misalign)
        ∧ s.sameBut [.ports, .freeCtr] t ∧ ∀ j, j ≠ port.1 → t.port j = s.port j))
    ∧ (∀ b, x.burst = some b → x.st ≠ pINTER → ∃ t, exec (.intrusion port) s = .next t
      ∧ t.port port = { x with burst := some { b with good := false }, rearmed := true }
      ∧ t.reg (aPort port + rOIOPORT_COLLISION) = satAdd (s.reg (aPort port + rOIOPORT_COLLISION)) 1
      ∧ t.evt (aOio (port.1 / 8)) evOIO_SLOT_COLLISION = true ∧ s.sameBut [.ports, .regs, .wire, .host, .pba] t
      ∧ ∀ j, j ≠ port.1 → t.port j = s.port j)
    ∧ ((x.burst = none ∨ x.st = pINTER) → exec (.intrusion port) s = .next s)
    ∧ (x.rearmed = true → ∃ t, exec (.delimiterTimeout port) s = .next t
      ∧ t.port port = { x with rearmed := false, burst := none, intruder := rput x.intruder 31 31 0 } ∧ s.sameBut [.ports] t
      ∧ ∀ j, j ≠ port.1 → t.port j = s.port j)
    ∧ (x.rearmed = false → exec (.delimiterTimeout port) s = .next s))
  ∧ ∀ (k : Fin 8) (s : State),
    let x := s.site k
    ((s.siteUsed k = false ∨ 64 ≤ x.adcSlot) → ∀ raw, exec (.adcConversion k raw) s = .next s)
    ∧ ((s.siteUsed k = false ∨ x.adcSlot ≠ 64) → ∀ ok, exec (.adcFrame k ok) s = .next s)
    ∧ (∀ raw : Int, s.siteUsed k = true → x.adcSlot < 64 →
      let dead := decide (46 ≤ x.adcSlot) && decide (x.adcSlot ≤ 61)
      ∃ t, exec (.adcConversion k raw) s = .next t ∧ (t.site k).adcSlot = x.adcSlot + 1
        ∧ (let w := tblGet 0 (t.site k).adc x.adcSlot
          rf w 31 16 = x.adcFrame % 65536
          ∧ (dead = true → rf w 15 0 = 0)
          ∧ (dead = false → rb w 14 = decide (0 < x.stale) ∧ rb w 13 = decide (raw < 0) ∧ rb w 12 = decide (4095 < raw)
            ∧ (raw < 0 → rf w 11 0 = 0) ∧ (4095 < raw → rf w 11 0 = 0xFFF)))
        ∧ (dead = false → raw < 0 ∨ 4095 < raw → (t.site k).stale = 2 ∧ t.evt (aOio k) evOIO_ADC_RANGE = true
          ∧ t.reg (aOio k + rOIO_ADC_RANGE) = satAdd (s.reg (aOio k + rOIO_ADC_RANGE)) 1)
        ∧ (dead = true ∨ (0 ≤ raw ∧ raw ≤ 4095) → (t.site k).stale = x.stale - 1 ∧ s.sameBut [.sites] t)
        ∧ (∀ c, c ≠ x.adcSlot → tblGet 0 (t.site k).adc c = tblGet 0 x.adc c)
        ∧ (t.site k).adcCorr = x.adcCorr ∧ ∀ j, j ≠ k.1 → t.site j = s.site j)
    ∧ (∀ ok : Bool, s.siteUsed k = true → x.adcSlot = 64 → ∃ t, exec (.adcFrame k ok) s = .next t
      ∧ (t.site k).adcSlot = 0 ∧ (t.site k).adcFrame = (x.adcFrame + 1) % 65536 ∧ (t.site k).adc = x.adc
      ∧ ((ok && x.adcRefs.1 && x.adcRefs.2) = true →
        (t.site k).adcCorr = (rf (tblGet 0 x.adc 62) 11 0, rf (tblGet 0 x.adc 63) 11 0) ∧ s.sameBut [.sites] t)
      ∧ ((ok && x.adcRefs.1 && x.adcRefs.2) = false → (t.site k).adcCorr = x.adcCorr
        ∧ t.reg (aOio k + rOIO_ADC_CAL_SKIP) = satAdd (s.reg (aOio k + rOIO_ADC_CAL_SKIP)) 1
        ∧ t.evt (aOio k) evOIO_CAL_FAIL = true)
      ∧ ∀ j, j ≠ k.1 → t.site j = s.site j)

/-- IM_REQ, FORCED_INTERMISSION and INTERMISSION_END (R199, R215 to R217, R220, R310): a request of a length starts an
intermission on each named port that is UP while the lead acts, of at most 40 µs, and is held, replacing an earlier one, on any
other; a port whose interval has passed starts a forced one while the lead acts, no other port of the chiplet is in one and no
lower one waits, in burst mode at its schedule's next slot, and else waits; at the end the trims within 64 codes move the
setpoint offsets, another trim is discarded with CAL_FAIL, from 4 µs on the margins are judged, and the port's retrain ends.
Where the manual is open it follows logs 1, 40 and 77. -/
def Obligations.Intermissions : Prop :=
  (∀ (k : Fin 8) (s : State) (v : W32),
    let len := min 40 (rf v 13 8)
    ((s.pageOpen .oio k true = false ∨ len = 0) → exec (.imReq k v) s = .next s)
    ∧ (s.pageOpen .oio k true = true → 0 < len → ∃ t, exec (.imReq k v) s = .next t ∧ s.sameBut [.ports, .links, .regs, .wire] t
      ∧ (∀ n : Nat, n < 8 → bit (rf v 7 0) n = false → t.port (8 * k.1 + n) = s.port (8 * k.1 + n))
      ∧ ∀ n : Nat, n < 8 → bit (rf v 7 0) n = true →
        let q := 8 * k.1 + n
        ((s.port q).st = pUP → s.leadActs k = true → (t.port q).imRun = some ⟨len, false, true⟩ ∧ (t.port q).imReq = none
          ∧ (t.port q).burst = none ∧ (s.portCarries q = true → (t.port q).st = pINTER)
          ∧ ∀ l ∈ s.linksOf q, (s.link l).state = lUP → (s.link l).paused = false →
            (t.link l).state = lPAUSED ∧ (t.link l).reason = 5)
        ∧ ((s.port q).st ≠ pUP ∨ s.leadActs k = false → t.port q = { s.port q with imReq := some len })))
  ∧ ∀ (port : Fin 64) (s : State),
    let k := port.1 / 8
    let x := s.port port
    let cfg := s.reg (aOio k + rOIO_IM_CTL)
    let busy := (portsOf k).any (fun q => match (s.port q).imRun with
      | some r => r.forced
      | none => false)
    ((rb cfg 31 = false ∨ s.forceDue port = false) → exec (.forcedIntermission port) s = .next s)
    ∧ (rb cfg 31 = true → s.forceDue port = true →
      (x.st = pUP → s.leadActs k = true → busy = false →
        (∀ q ∈ portsOf k, q < port.1 → q ∈ (s.site k).forced → (s.port q).st ≠ pUP) →
        (¬(s.bursts port = true ∧ x.hs.running = true) → ∃ t, exec (.forcedIntermission port) s = .next t
          ∧ (t.port port).imRun = some ⟨max 4 (rf cfg 19 16), true, true⟩ ∧ port.1 ∉ (t.site k).forced
          ∧ t.evt (aOio k) evOIO_IM_FORCED = true ∧ s.sameBut [.sites, .ports, .links, .regs, .wire, .host, .pba] t
          ∧ ∀ j, j ≠ port.1 → t.port j = s.port j)
        ∧ (s.bursts port = true → x.hs.running = true → ∃ t, exec (.forcedIntermission port) s = .next t
          ∧ t.forcedNext k = some port.1 ∧ s.sameBut [.sites] t))
      ∧ ((s.leadActs k = false ∨ busy = true) → ∃ t, exec (.forcedIntermission port) s = .next t
        ∧ port.1 ∈ (t.site k).forced ∧ s.sameBut [.sites] t ∧ ∀ j, j ≠ k → t.site j = s.site j))
    ∧ (∀ im (cal : CalRes), x.imRun = some im → im.len < 20 → im.len ≠ 0 → (s.site k).gap = 0 → x.los = false → x.requal = false →
      (∀ q ∈ portsOf k, q ∈ (s.site k).forced → q = port.1) →
      ∃ t, exec (.intermissionEnd port cal) s = .next t ∧ (t.port port).imRun = none ∧ (t.port port).imEnd = s.ctrlClk
        ∧ port.1 ∉ (t.site k).forced
        ∧ (im.trims = true →
          (∀ g ∈ bankOf port false, (t.ring g).trim = none ∧ (t.ring g).code = (s.ring g).code
            ∧ (t.ring g).offset = (if trimOk (s.ring g).trim then (s.ring g).offset + (s.ring g).trim.getD 0 else (s.ring g).offset))
          ∧ bit (t.port port).cal 2 = (bankOf port false).all (fun g => trimOk (s.ring g).trim)
          ∧ ((bankOf port false).any (fun g => !trimOk (s.ring g).trim) = true → t.evt (aOio k) evOIO_CAL_FAIL = true))
        ∧ (im.trims = false → ∀ g ∈ bankOf port false, (t.ring g).trim = (s.ring g).trim ∧ (t.ring g).offset = (s.ring g).offset)
        ∧ (4 ≤ im.len → bit (t.port port).cal 1 = cal.margins.all (fun m => decide (s.eyeFail port ≤ m.2)))
        ∧ (x.want = none → ∀ l ∈ s.linksOf port, (s.link l).paused = true → (s.link l).resumed = false →
          (t.link l).paused = true → (t.link l).resumed = true)
        ∧ ∀ j, j ≠ port.1 → t.port j = s.port j)
    ∧ (∀ cal : CalRes, x.imRun = none → exec (.intermissionEnd port cal) s = .next s)

/-! ## The Forezo link (ch. 8) -/

/-- PHY_TRAINED, CAP_RESEND, CAP, CAP_ACK and CAP_TIMEOUT (R206, R218, R220, R234, R235, R301, Table 8-10): after physical
training each waiting link draws a nonce and sends its CAP, with the internal delays corrected where the chiplet's temperature
is known and else as fused; the CAP goes again until it is acknowledged; a partner that the link cannot be built with takes it
down with the cause, another is recorded and acknowledged; the link is UP once its own CAP is acknowledged and the partner's
is taken; without a CAP in time it goes down. Where the manual is open it follows logs 1, 18 and 37. -/
def Obligations.LinksComeUp : Prop :=
  (∀ (port : Fin 64) (ok : Bool) (s : State),
    let good := ok && s.chipTemp (port.1 / 8)
    (s.canTrain port = true → (s.port port).st ≠ pACQ →
    (∃ l ∈ s.linksOf port, (s.link l).state = lPHY) → ∃ t, exec (.phyTrained port ok) s = .next t
      ∧ (∀ l ∈ s.linksOf port, (s.link l).state = lPHY → (t.link l).state = lCAP)
      ∧ (∀ l, (s.link l).state ≠ lPHY → (t.link l).state = (s.link l).state)
      ∧ (t.port port).st = pTRAIN ∧ (t.port port).lossStage = 0 ∧ (t.port port).lit = s.photodiodes port
      ∧ bit (t.port port).cal 3 = good
      ∧ (good = false → t.evt (aOio (port.1 / 8)) evOIO_CAL_FAIL = true
        ∧ (t.port port).dTx = tblGet 0 s.fuses.delays (2 * port.1) ∧ (t.port port).dRx = tblGet 0 s.fuses.delays (2 * port.1 + 1))
      ∧ s.sameBut [.links, .ports, .freeCtr, .regs, .wire, .host, .pba] t)
    ∧ ((s.canTrain port = false ∨ (s.port port).st = pACQ ∨ (∀ l ∈ s.linksOf port, (s.link l).state ≠ lPHY)) →
      exec (.phyTrained port ok) s = .next s))
  ∧ ∀ (l : Fin 4096) (s : State),
    let k := s.link l
    let port := portOfLink l
    (k.state = lCAP → k.capAcked = false → ∃ t f, exec (.capResend l) s = .next t
      ∧ flitCrcOk f = true ∧ flitBad f = false ∧ flitType f = 2 ∧ flitPayload f = s.capBytes l
      ∧ (s.isHouse port = false → t.wire = s.wire ++ [.flit l f])
      ∧ (s.isHouse port = true → t.wire = s.wire ∧ (t.link l).outq = k.outq ++ [⟨65536, f, false⟩])
      ∧ s.sameBut [.links, .wire] t)
    ∧ ((k.state ≠ lCAP ∨ k.capAcked = true) → exec (.capResend l) s = .next s)
    ∧ (k.state = lCAP → ∃ t, exec (.capTimeout l) s = .next t ∧ (t.link l).cause = cCAPTO ∧ t.linkUp l = false
      ∧ t.reg (aLnk port + rOIOLINK_DOWNS) = satAdd (s.reg (aLnk port + rOIOLINK_DOWNS)) 1)
    ∧ (k.state ≠ lCAP → exec (.capTimeout l) s = .next s)
    ∧ (∀ f : List Byte, k.state = lDOWN ∨ k.state = lPHY → exec (.cap l f) s = .next s ∧ exec (.capAck l f) s = .next s)
    ∧ ∀ f : List Byte, k.state = lCAP → (s.burstMode port = true → s.inBurst l = true) → flitCrcOk f = true →
      s.interrupted l = false → flitBad f = false → flitType f = 2 →
      (∀ c, (ctlMessages 15 (flitPayload f)).filter (fun b => leAt b 0 1 == 1) = [c] →
        (∀ cause, s.capCheck l c = some cause → ∃ t, exec (.cap l f) s = .next t ∧ (t.link l).cause = cause ∧ t.linkUp l = false)
        ∧ (s.capCheck l c = none → ∃ t, exec (.cap l f) s = .next t ∧ ((t.port port).st = pFAILED
          ∨ ((t.link l).peerCap = some c ∧ (t.link l).ver = min (s.siteVer (port / 8)) (leAt c 2 1)
            ∧ (t.link l).state = (if k.capAcked then lUP else lCAP)))))
      ∧ (∀ b, (ctlMessages 15 (flitPayload f)).filter (fun b => leAt b 0 1 == 2) = [b] →
        (leAt b 8 8 ≠ k.nonce → ∃ t, exec (.capAck l f) s = .next t ∧ (t.link l).state = lCAP ∧ (t.link l).capAcked = k.capAcked
          ∧ s.sameBut [.links, .ports] t)
        ∧ (leAt b 8 8 = k.nonce → ∃ t, exec (.capAck l f) s = .next t
          ∧ (k.peerCap = none → (t.link l).state = lCAP ∧ (t.link l).capAcked = true ∧ s.sameBut [.links, .ports] t)
          ∧ (k.peerCap.isSome = true → (t.link l).state = lUP ∧ rb (t.reg (aLnk port + rOIOLINK_LNK_EVT)) evLNK_LINK_UP = true)))

/-- DATA_FLIT, NULL_FLIT, ACK_TIMER and REPLAY_TIMEOUT (R210, R228, R240 to R244): a flit that fails its CRC counts and is not
taken; in burst mode one of no burst in reception is lost; the one expected is taken in its turn, its message to the unit it
names; one already seen is acknowledged again, and one too early asks for a replay, where a NAK may be sent; an acknowledgement
frees the replay buffer; the timer sends what is owed, and a house link keeps it for its next burst; and a replay sends every
held flit again, in order, until eight in a row bring a retrain, and eight more take the link down. Where the manual is open
it follows logs 1, 30 and 31. -/
def Obligations.FlitsAreAcceptedInSequence : Prop :=
  ∀ (l : Fin 4096) (s : State),
    let k := s.link l
    let port := portOfLink l
    let ahead := fun (f : List Byte) => (flitSeq f + 65536 - k.expected) % 65536
    let heard := (s.burstMode port = true → s.inBurst l = true)
    let owed := fun (t : State) (nak : Bool) =>
      let n := nak || k.ackPend == some true
      if s.isHouse port = true ∨ k.state = lPAUSED then (t.link l).ackPend = some n
      else ∃ f l', t.wire = s.wire ++ [.flit l f] ++ l' ∧ flitType f = 0
        ∧ flitField f = 2 ^ 17 + b2n n * 2 ^ 16 + (k.expected + 65535) % 65536
    (∀ f : List Byte, (k.state = lDOWN ∨ k.state = lPHY ∨ (s.burstMode port = true ∧ s.inBurst l = false)) →
      exec (.dataFlit l f) s = .next s ∧ exec (.nullFlit l f) s = .next s)
    ∧ (∀ f : List Byte, (flitCrcOk f = false ∨ s.interrupted l = true) → k.state ≠ lDOWN → k.state ≠ lPHY → heard →
      k.crcRun ≠ 63 → ∃ t, exec (.dataFlit l f) s = .next t ∧ exec (.nullFlit l f) s = .next t
      ∧ t.reg (aLnk port + rOIOLINK_CRC_ERR) = satAdd (s.reg (aLnk port + rOIOLINK_CRC_ERR)) 1
      ∧ (t.link l).crcRun = k.crcRun + 1 ∧ (t.link l).expected = k.expected ∧ s.sameBut [.links, .ports, .regs, .wire] t)
    ∧ (∀ f : List Byte, flitCrcOk f = true → flitBad f = false → s.interrupted l = false → s.linkUp l = true → heard →
      flitType f = 1 → flitField f = 0 →
      (∀ m : Msg, let pay := flitPayload f
        ahead f = 0 → flitCont f = false → pay.length = 16 * (leAt pay 6 2 + 1) → leAt pay 6 2 ≠ 0 → readMsg (flitTc f) pay = m →
        k.ackCount < 15 → m.profile < 6 → m.profile ≠ 4 → s.heldOut = false → codeUnknown m = false → msgForPrompter m = false →
        s.deviceValid = true → m.dstDev = s.device → s.ringOpen (partOfPort port) m.dstPart = true →
        ∃ t, exec (.dataFlit l f) s = .next t ∧ t.inboxOf m.dstPart = s.inboxOf m.dstPart ++ [⟨m, l⟩]
          ∧ (t.link l).expected = (k.expected + 1) % 65536 ∧ (t.link l).ackCount = k.ackCount + 1
          ∧ s.sameBut [.links, .ports, .inbox] t)
      ∧ (32768 ≤ ahead f → ∃ t, exec (.dataFlit l f) s = .next t ∧ (t.link l).expected = k.expected ∧ owed t false
        ∧ s.sameBut [.links, .ports, .wire] t)
      ∧ (0 < ahead f → ahead f < 32768 → ∃ t, exec (.dataFlit l f) s = .next t ∧ (t.link l).expected = k.expected
        ∧ (s.mayNak l = true → (t.link l).nakArmed = false ∧ owed t true)
        ∧ (s.mayNak l = false → t.wire = s.wire ∧ (t.link l).ackPend = k.ackPend)
        ∧ s.sameBut [.links, .ports, .wire] t))
    ∧ (∀ (f : List Byte) (q : Nat), flitCrcOk f = true → flitBad f = false → s.interrupted l = false → s.linkUp l = true → heard →
      k.opened = [] → flitField f = 2 ^ 17 + q → q < 65536 →
      let d := (q + 65536 - k.acked) % 65536
      (d ≤ (k.next + 2 * 65536 - 1 - k.acked) % 65536 → 0 < d → ∃ t, exec (.nullFlit l f) s = .next t ∧ (t.link l).acked = q
        ∧ (t.link l).replays = 0 ∧ (t.link l).replay = k.replay.filter (fun x => decide (d ≤ (x.1 + 65536 - k.acked - 1) % 65536))
        ∧ s.sameBut [.links, .ports] t)
      ∧ ((k.next + 2 * 65536 - 1 - k.acked) % 65536 < d → ∃ t, exec (.nullFlit l f) s = .next t
        ∧ (t.link l).cause = cCONSERV ∧ t.linkUp l = false))
    ∧ (s.linkUp l = true → k.ackCount ≠ 0 → ∃ t, exec (.ackTimer l) s = .next t ∧ owed t false ∧ s.sameBut [.links, .wire] t)
    ∧ (s.linkUp l = false ∨ k.ackCount = 0 → exec (.ackTimer l) s = .next s)
    ∧ ((k.state ≠ lUP ∨ k.replay = []) → exec (.replayTimeout l) s = .next s)
    ∧ (k.state = lUP → k.replay ≠ [] →
      let held := k.replay.filter (fun x => decide ((x.1 + 65536 - (k.acked + 1) % 65536) % 65536 < 32768))
      (k.replays < 8 → ∃ t, exec (.replayTimeout l) s = .next t ∧ (t.link l).replays = k.replays + 1 ∧ (t.link l).replay = k.replay
        ∧ (s.isHouse port = false → t.wire = s.wire ++ held.map (fun x => .flit l x.2.2))
        ∧ (s.isHouse port = true → t.wire = s.wire ∧ (t.link l).outq = k.outq.filter isSet
          ++ held.map (fun x => ⟨x.2.1, x.2.2, true⟩) ++ k.outq.filter (fun q => !isSet q && flitType q.bytes != 1))
        ∧ t.reg (aLnk port + rOIOLINK_REPLAYS) = satAdd (s.reg (aLnk port + rOIOLINK_REPLAYS)) 1
        ∧ t.reg (aLnk port + rOIOLINK_REPLAY_FLITS) = satAdd (s.reg (aLnk port + rOIOLINK_REPLAY_FLITS)) held.length
        ∧ s.sameBut [.links, .regs, .wire] t)
      ∧ (8 ≤ k.replays → k.replayRetrained = false → k.paused = false → l.1 % 64 < s.linkCount port → (s.port port).want = none →
        s.portResumed port = false → ∃ t, exec (.replayTimeout l) s = .next t
        ∧ (t.link l).state = lPAUSED ∧ (t.link l).replayRetrained = true ∧ (t.link l).replays = 0)
      ∧ (8 ≤ k.replays → k.replayRetrained = true → ∃ t, exec (.replayTimeout l) s = .next t
        ∧ (t.link l).cause = cREPLAY ∧ t.linkUp l = false))

/-- MESSAGE_START, CREDIT_TIMEOUT, RELAY_FORWARD, CENSUS_SEND and CENSUS (R231, R233, R236, R237, R239, R255 to R257, R271,
R273): a message starts when its credits are free and no class before it can start, takes them, and leaves as flits numbered in
order, on a house link with its bursts; a wait for credit that lasts takes the link down, unless a scope of the class is held;
a relayed message loses a hop and goes on once its way is open, in its turn, or is dropped with none left; the census sends
what the link consumed, and one that disagrees takes the link down. Where the manual is open it follows logs 1, 13, 31, 78 and
81. -/
def Obligations.CreditsRelaysAndTheCensus : Prop :=
  (∀ (l : Fin 4096) (tc : Fin 8) (s : State),
    let k := s.link l
    let port := portOfLink l
    ((s.startable l tc = none ∨ (k.before tc).any (fun c => (s.startable l c).isSome) = true) →
      exec (.messageStart l tc) s = .next s)
    ∧ (∀ m, s.startable l tc = some m → (k.before tc).any (fun c => (s.startable l c).isSome) = false →
      ∃ t, exec (.messageStart l tc) s = .next t ∧ (t.link l).txq = dropFirst (fun x => x == m) k.txq
        ∧ tblGet 0 (t.link l).consumed (2 * tc.1) = (tblGet 0 k.consumed (2 * tc.1) + 1) % 65536
        ∧ ((msgCost m).2 ≠ 0 →
          tblGet 0 (t.link l).consumed (2 * tc.1 + 1) = (tblGet 0 k.consumed (2 * tc.1 + 1) + (msgCost m).2) % 65536)
        ∧ (s.isHouse port = true → tblGet none (t.link l).opened tc = some (m, msgBytes m) ∧ t.wire = s.wire)
        ∧ (k.opened = [] → s.isHouse port = false → m.body.length % 16 = 0 → m.body.length ≤ 224 → k.next < 65536 →
          ∃ f, t.wire = s.wire ++ [.flit l f] ∧ flitCrcOk f = true ∧ flitType f = 1 ∧ flitTc f = tc ∧ flitCont f = false
            ∧ flitSeq f = k.next ∧ flitPayload f = msgBytes m ∧ (t.link l).next = (k.next + 1) % 65536
            ∧ (t.link l).replay = k.replay ++ [(k.next, m.tenant, f)] ∧ (t.link l).opened = [])
        ∧ s.sameBut [.links, .wire] t)
    ∧ ((k.state ≠ lUP ∨ k.heldClass tc = true ∨ k.txq.find? (fun m => m.tc == tc.1) = none) →
      exec (.creditTimeout l tc) s = .next s)
    ∧ (∀ m, k.state = lUP → tblGet none k.opened tc = none → k.replay.length < s.replayDepth l → k.heldClass tc = false →
      k.txq.find? (fun m => m.tc == tc.1) = some m →
      (s.hasCredit l m = true → exec (.creditTimeout l tc) s = .next s)
      ∧ (s.hasCredit l m = false → ∃ t, exec (.creditTimeout l tc) s = .next t ∧ (t.link l).cause = cCREDIT ∧ t.linkUp l = false)))
  ∧ (∀ (p : Fin 4) (i : Nat) (s : State),
    ((s.relayOf p)[i]? = none → exec (.relayForward p i) s = .next s)
    ∧ ∀ a : Arrived, (s.relayOf p)[i]? = some a →
    let taken := (s.setRelay p (((s.relayOf p).take i) ++ (s.relayOf p).drop (i + 1))).moveHeld p
    let later := ((s.relayOf p).take i).any (fun b => b.link == a.link && b.msg.tc == a.msg.tc && !(b.msg.srcDev == s.device))
    let open_ := fun (l : Nat) => s.ringOpen p (partOfPort (portOfLink l)) && decide (8 + portOfLink l / 8 ∉ s.pwr.retraining)
    a.msg.srcDev ≠ s.device →
    (later = true → exec (.relayForward p i) s = .next s)
    ∧ (later = false →
      (a.msg.dstDev ≠ s.device → a.msg.hops = 0 → (a.msg.profile ≠ 1 ∨ (natOp a.msg.body ≠ 1 ∧ natOp a.msg.body ≠ 2)) →
        exec (.relayForward p i) s = .next (taken.bump (aOio (portOfLink a.link / 8) + rOIO_HOPS_DROP) 1))
      ∧ (∀ l, a.msg.dstDev ≠ s.device → a.msg.hops ≠ 0 → s.route p a.msg (some a.link) = .link l →
        (open_ l = true → exec (.relayForward p i) s = .next (taken.modLink l (fun k =>
          { k with txq := k.txq ++ [{ a.msg with hops := a.msg.hops - 1 }] })))
        ∧ (open_ l = false → exec (.relayForward p i) s = .next s))
      ∧ (∀ q, a.msg.dstDev = s.device → s.route p a.msg (some a.link) = .unit q →
        (s.ringOpen p q = true → exec (.relayForward p i) s = .next (taken.deliverTo q a.msg noLink))
        ∧ (s.ringOpen p q = false → exec (.relayForward p i) s = .next s))))
  ∧ ∀ (l : Fin 4096) (s : State),
    let k := s.link l
    let port := portOfLink l
    (k.state = lUP → 0x20 ≤ k.ver → k.replay = [] → k.opened = [] → s.isHouse port = false → ∃ t f, exec (.censusSend l) s = .next t
      ∧ t.wire = s.wire ++ [.flit l f] ∧ flitCrcOk f = true ∧ flitType f = 2 ∧ leAt (flitPayload f) 0 1 = 4
      ∧ (∀ i, i < 16 → leAt (flitPayload f) (2 + 2 * i) 2 = tblGet 0 k.consumed i % 65536) ∧ s.sameBut [.links, .wire] t)
    ∧ (k.state = lUP → 0x20 ≤ k.ver → k.replay = [] → k.opened = [] → s.isHouse port = true → ∃ t f, exec (.censusSend l) s = .next t
      ∧ (t.link l).outq = k.outq ++ [⟨65536, f, false⟩] ∧ flitType f = 2 ∧ s.sameBut [.links] t)
    ∧ (k.state ≠ lUP ∨ k.ver < 0x20 ∨ k.replay ≠ [] ∨ k.opened ≠ [] → exec (.censusSend l) s = .next s)
    ∧ ∀ (f b : List Byte), flitCrcOk f = true → flitBad f = false → s.interrupted l = false → s.linkUp l = true →
      (s.burstMode port = true → s.inBurst l = true) → flitType f = 2 →
      flitField f = 0 → (ctlMessages 15 (flitPayload f)).filter (fun b => leAt b 0 1 == 4) = [b] →
      ((∀ i, i < 16 → leAt b (2 + 2 * i) 2 = tblGet 0 k.received i
          ∧ (tblGet 0 k.received i + 65536 - tblGet 0 k.freed i) % 65536 = s.buffered l i % 65536) →
        ∃ t, exec (.census l f) s = .next t ∧ t.reg (aLnk port + rOIOLINK_CENSUS_OK) = s.reg (aLnk port + rOIOLINK_CENSUS_OK) + 1
          ∧ s.sameBut [.links, .ports, .regs] t)
      ∧ ((∃ i, i < 16 ∧ leAt b (2 + 2 * i) 2 ≠ tblGet 0 k.received i) → ∃ t, exec (.census l f) s = .next t
        ∧ (t.link l).cause = cCONSERV ∧ t.linkUp l = false
        ∧ rb (t.reg (aLnk port + rOIOLINK_LNK_EVT)) evLNK_CONSERVATION_FAULT = true)

/-- PAUSE, RESUME, DOWN, RETRAIN_COMPLETE and RETRAIN_TIMEOUT (R215, R225, R246 to R249): an ordered set that is refused counts
in OS_BAD and does nothing else; PAUSE pauses this end's links too, for an intermission of the partner as well, unless the port
fails, and in a running retrain asks for a new RESUME; RESUME sets paused links to send again, and once both ends have resumed
the retrain is over; a local retrain that ends sends RESUME; one whose RESUME does not come is tried once more, and then its
links go down; DOWN takes the links down with cause PEER, on a house port the one to the sender of the burst in reception.
Where the manual is open it follows logs 1, 37, 75 and 79. -/
def Obligations.PauseRetrainResume : Prop :=
  ∀ (port : Fin 64) (s : State),
    let x := s.port port
    let bad := aOio (port.1 / 8) + rOIO_OS_BAD
    (∀ os, osOk os = false → ∃ u : State, exec (.pause port os) s = .next u ∧ exec (.resume port os) s = .next u
      ∧ exec (.down port os) s = .next u ∧ u.reg bad = satAdd (s.reg bad) 1 ∧ s.sameBut [.regs] u)
    ∧ (∀ os, osOk os = true → (osType os ≠ 2 → exec (.pause port os) s = .next s) ∧ (osType os ≠ 3 → exec (.resume port os) s = .next s)
      ∧ (osType os ≠ 4 → exec (.down port os) s = .next s)
      ∧ (s.portPaused port = false → exec (.resume port os) s = .next s
        ∧ (s.portCarries port = false → exec (.pause port os) s = .next s)))
    ∧ (∀ os, osOk os = true → osType os = 2 → s.portCarries port = true → s.portPaused port = false →
      ∃ t, exec (.pause port os) s = .next t
      ∧ ((t.port port).st = pFAILED ∨ ((t.port port).peerW = bits (leAt os 6 1) 1 0
        ∧ (t.port port).st = (if leAt os 5 1 = 5 then pINTER else pTRAIN)
        ∧ (leAt os 5 1 = 5 → (t.port port).imRun = some ⟨0, false, true⟩)
        ∧ ∀ l ∈ s.linksOf port, (s.link l).state = lUP → (t.link l).state = lPAUSED ∧ (t.link l).reason = leAt os 5 1
          ∧ (t.link l).replay = (s.link l).replay ∧ (t.link l).txq = (s.link l).txq)))
    ∧ (∀ os, osOk os = true → osType os = 2 → s.portPaused port = true → ∃ t, exec (.pause port os) s = .next t
      ∧ ((t.port port).st = pFAILED ∨ ∀ l ∈ s.linksOf port, (s.link l).paused = true → (s.link l).resumed = true ∨ (s.link l).heard.isSome = true →
        (t.link l).state = lPAUSED ∧ (t.link l).resumed = false ∧ (t.link l).heard = none))
    ∧ (∀ os, osOk os = true → osType os = 3 → s.portPaused port = true → ∃ t, exec (.resume port os) s = .next t
      ∧ (x.want = none → (∀ l ∈ s.linksOf port, (s.link l).paused = true →
          (s.link l).resumed = true ∧ ((s.link l).state = lPAUSED ∨ (s.link l).heard.isSome = true)) →
        (t.port port).st = pFAILED ∨ ((t.port port).st = pUP ∧ ∀ l ∈ s.linksOf port,
          ((s.link l).paused = true → (t.link l).paused = false) ∧ ((s.link l).state = lPAUSED → (t.link l).state = lUP)))
      ∧ ((∀ l ∈ s.linksOf port, (s.link l).resumed = false) → ∀ l ∈ s.linksOf port, (s.link l).state = lPAUSED →
        (t.port port).st = pFAILED ∨ ((t.link l).state = lUP ∧ (t.link l).paused = (s.link l).paused
          ∧ (t.link l).heard = some (if l = 64 * port.1 then leAt os 8 2 else (s.link l).next))))
    ∧ (∀ os, osOk os = true → osType os = 4 →
      (x.burst = none → ∃ t, exec (.down port os) s = .next t
        ∧ ∀ l ∈ s.linksOf port, (s.link l).state ≠ lDOWN → (t.link l).cause = cPEER ∧ t.linkUp l = false)
      ∧ (∀ b, x.burst = some b → s.isHouse port = true → ∃ t, exec (.down port os) s = .next t
        ∧ ∀ l ∈ s.linksOf port, s.linkPeer l = some b.device → (s.link l).state ≠ lDOWN → (t.link l).cause = cPEER ∧ t.linkUp l = false))
    ∧ ((x.imRun.isSome = true ∨ x.los = true ∨ x.st = pACQ ∨ (∀ l ∈ s.linksOf port, (s.link l).paused = true → (s.link l).resumed = true)) →
      exec (.retrainComplete port) s = .next s)
    ∧ (x.imRun = none → x.los = false → x.st ≠ pACQ →
      (∃ l ∈ s.linksOf port, (s.link l).paused = true ∧ (s.link l).resumed = false) →
      ∃ t os l', exec (.retrainComplete port) s = .next t ∧ t.wire = s.wire ++ [.orderedSet port os] ++ l'
        ∧ osOk os = true ∧ osType os = 3 ∧ leAt os 8 2 = (s.link (64 * port.1)).expected % 65536
        ∧ (x.want = none → (∀ l ∈ s.linksOf port, (s.link l).paused = true → (s.link l).heard.isSome = true) →
          (t.port port).st = pUP ∧ ∀ l ∈ s.linksOf port, (t.link l).paused = false ∧ (t.link l).state = (s.link l).state)
        ∧ ((∃ l ∈ s.linksOf port, (s.link l).paused = true ∧ (s.link l).heard = none) → ∀ l ∈ s.linksOf port, (s.link l).paused = true →
          (t.link l).resumed = true ∧ (t.link l).paused = true ∧ (t.link l).state = (s.link l).state))
    ∧ ((∀ l ∈ s.linksOf port, (s.link l).unheard = false) → exec (.retrainTimeout port) s = .next s)
    ∧ ((∃ l ∈ s.linksOf port, (s.link l).unheard = true) →
      ((∀ l ∈ s.linksOf port, (s.link l).unheard = true → (s.link l).attempt = 0) → ∃ t os, exec (.retrainTimeout port) s = .next t
        ∧ t.wire = s.wire ++ [.orderedSet port os] ∧ osType os = 2 ∧ (t.port port).st = pTRAIN
        ∧ t.reg (aLnk port + rOIOLINK_RETRAINS) = satAdd (s.reg (aLnk port + rOIOLINK_RETRAINS)) 1
        ∧ (∀ l ∈ s.linksOf port, (s.link l).unheard = true → (t.link l).attempt = 1 ∧ (t.link l).resumed = false
          ∧ (t.link l).state = (s.link l).state)
        ∧ s.sameBut [.links, .ports, .regs, .wire] t)
      ∧ ((∃ l ∈ s.linksOf port, (s.link l).unheard = true ∧ (s.link l).attempt ≠ 0) → ∃ t, exec (.retrainTimeout port) s = .next t
        ∧ ∀ l ∈ s.linksOf port, (s.link l).unheard = true → (s.link l).state ≠ lDOWN →
          (t.link l).cause = cRETRAIN ∧ t.linkUp l = false))

/-- CURTAIN_HOLD, CURTAIN_RELEASE, CURTAIN_FENCE, FENCE_DONE, FENCE_POINT and CURT_LAPSED (R252 to R255, R307): a curtain that
does not verify is discarded and counted; one that verifies raises its tenant's counter and has the effect of its kind: a
RELEASE frees exactly the messages of its scope; a fence waits for the messages in scope that arrived before it, and then
answers FENCE_DONE with the tenant's next counter, which the reserve mark covers or will once the Understudy has it; a scope
held too long lapses. Where the manual is open it follows logs 1, 38 and 76. -/
def Obligations.CurtainsTakeEffectOnceVerified : Prop :=
  ∀ (l : Fin 4096) (s : State),
    let k := s.link l
    let port := portOfLink l
    let site := aOio (port / 8)
    (∀ c : List Byte, (osOk c = true → osType c ≠ 1 → exec (.curtainHold l c) s = .next s ∧ exec (.curtainRelease l c) s = .next s
        ∧ exec (.curtainFence l c) s = .next s ∧ exec (.fenceDone l c) s = .next s)
      ∧ (osOk c = false → ∃ u : State, exec (.curtainHold l c) s = .next u ∧ exec (.curtainRelease l c) s = .next u
        ∧ exec (.curtainFence l c) s = .next u ∧ exec (.fenceDone l c) s = .next u
        ∧ u.reg (site + rOIO_OS_BAD) = satAdd (s.reg (site + rOIO_OS_BAD)) 1 ∧ s.sameBut [.regs] u)
      ∧ (osOk c = true → osType c = 1 → s.curtOk l c = true →
        (curtKind c ≠ kHOLD → exec (.curtainHold l c) s = .next s) ∧ (curtKind c ≠ kRELEASE → exec (.curtainRelease l c) s = .next s)
        ∧ (curtKind c ≠ kFENCE → exec (.curtainFence l c) s = .next s) ∧ (curtKind c ≠ kFENCEDONE → exec (.fenceDone l c) s = .next s)))
    ∧ (∀ c : List Byte, osOk c = true → osType c = 1 →
      (s.curtOk l c = false → ∃ u : State, exec (.curtainHold l c) s = .next u ∧ exec (.curtainRelease l c) s = .next u
        ∧ exec (.curtainFence l c) s = .next u ∧ exec (.fenceDone l c) s = .next u
        ∧ u.reg (site + rOIO_CURT_DISCARD) = satAdd (s.reg (site + rOIO_CURT_DISCARD)) 1
        ∧ rb (u.reg (aLnk port + rOIOLINK_LNK_EVT)) evLNK_CURT_BAD = true ∧ s.sameBut [.regs, .wire, .host, .pba] u)
      ∧ (s.curtOk l c = true →
        let seen := { k with ctrRx := tblSet 0 k.ctrRx (curtTenant c) (curtCounter c) }
        let took := fun (t : State) (new : LinkSt) => t.link l = new
          ∧ t.reg (site + rOIO_CURT_ACCEPT) = satAdd (s.reg (site + rOIO_CURT_ACCEPT)) 1
          ∧ s.sameBut [.links, .regs, .wire, .host, .pba] t ∧ ∀ j, j ≠ l.1 → t.link j = s.link j
        (curtKind c = kHOLD → ∃ t, exec (.curtainHold l c) s = .next t
          ∧ took t { seen with held := if curtScope c ∈ k.held then k.held else k.held ++ [curtScope c] })
        ∧ (curtKind c = kRELEASE → ∃ t, exec (.curtainRelease l c) s = .next t
          ∧ took t { seen with held := (t.link l).held }
          ∧ ∀ m, (t.link l).isHeld m = (k.isHeld m && !scopeCovers (curtScope c) m))
        ∧ (curtKind c = kFENCE → ∃ t, exec (.curtainFence l c) s = .next t
          ∧ took t { seen with fences := k.fences ++ [⟨⟨curtTenant c, curtTcMask c, curtPartMask c⟩, bits (curtOrigin c) 14 0,
              (s.waitingFrom l).filter (fun m => scopeCovers (curtScope c) m)⟩] })
        ∧ (curtKind c = kFENCEDONE → ∃ t, exec (.fenceDone l c) s = .next t ∧ took t seen
          ∧ rb (t.reg (aLnk port + rOIOLINK_LNK_EVT)) evLNK_FENCE_DONE = true)))
    ∧ ((∀ f ∈ k.fences, ∃ m ∈ f.wait, m ∈ s.waitingFrom l) → exec (.fencePoint l) s = .next s)
    ∧ (∀ f, k.fences.find? (fun f => f.wait.all (fun m => m ∉ s.waitingFrom l)) = some f →
      ((s.curtKey port f.scope.tenant) = [] ∨ s.linkUp l = false →
        exec (.fencePoint l) s = .next (s.modLink l (fun k => { k with fences := dropFirst (fun x => x == f) k.fences })))
      ∧ ((s.curtKey port f.scope.tenant) ≠ [] → s.linkUp l = true →
        let n := tblGet 0 k.ctrTx f.scope.tenant + 1
        ∃ t os, exec (.fencePoint l) s = .next t ∧ tblGet 0 (t.link l).ctrTx f.scope.tenant = n
          ∧ (t.link l).fences = dropFirst (fun x => x == f) k.fences
          ∧ (n + 256 < tblGet 0 (t.site (port / 8)).marks (65536 * l.1 + f.scope.tenant)
            ∨ t.markComing l f.scope.tenant n = true)
          ∧ curtKind os = kFENCEDONE ∧ curtCounter os = n % 2 ^ 48 ∧ curtTenant os = f.scope.tenant % 65536
          ∧ (k.state = lPAUSED → (t.link l).curtq = k.curtq ++ [os] ∧ t.wire = s.wire)
          ∧ (k.state = lUP → s.isHouse port = false → t.wire = s.wire ++ [.linkSet l os])
          ∧ s.sameBut [.links, .sites, .wire] t))
    ∧ (∀ x : Scope, x ∈ k.held → ∃ t, exec (.curtLapsed l x) s = .next t ∧ t.link l = { k with held := k.held.filter (fun y => y != x) }
      ∧ t.reg (site + rOIO_CURT_LAPSED) = satAdd (s.reg (site + rOIO_CURT_LAPSED)) 1
      ∧ rb (t.reg (aLnk port + rOIOLINK_LNK_EVT)) evLNK_CURT_LAPSED = true ∧ s.sameBut [.links, .regs, .wire, .host, .pba] t)
    ∧ (∀ x : Scope, x ∉ k.held → exec (.curtLapsed l x) s = .next s)

/-! ## Fabric (ch. 9) -/

/-- HOUSE_SLOT, HS_SWAP, HS_STOP, RERANGE, RANGE and RANGE_FAIL (R208, R217, R267 to R269): slot 0 begins a cycle, at which a
pending stop or swap acts; a waiting forced intermission of the port starts with the slot; a data slot sends a burst, whose
delimiter names the device, the slot, its flits and its launch time, on the output of its entry, for the next link of that
output's rotation, and an output that is not enabled is refused and counted; the device's own RANGE burst gives the plane half
the time it took, and 64 unheard ones fail its ranging. Where the manual is open it follows logs 1, 31, 43 and 78. -/
def Obligations.HouseSchedules : Prop :=
  ∀ (port : Fin 64) (s : State),
    let h := s.hs port
    let calm := s.forcedNext (port.1 / 8) ≠ some port.1
    (s.pageOpen .oioPort port true = true →
      exec (.hsSwap port) s = .next (s.modHs port (fun h => { h with swapPend := true }))
      ∧ exec (.hsStop port) s = .next (if h.running then s.modHs port (fun h => { h with stopPend := true }) else s)
      ∧ ∃ t, exec (.rerange port) s = .next t ∧ (t.hs (s.ownGroupPort port)).ranging = true
        ∧ (t.hs (s.ownGroupPort port)).tries = 0 ∧ s.sameBut [.ports] t)
    ∧ (s.pageOpen .oioPort port true = false → exec (.hsSwap port) s = .next s ∧ exec (.hsStop port) s = .next s
      ∧ exec (.rerange port) s = .next s)
    ∧ (h.running = true →
      (h.slot ≠ noSlot → h.stopPend = true → ∃ t, exec (.houseSlot port 0) s = .next t
        ∧ (t.hs port).running = false ∧ (t.hs port).stopPend = false ∧ (t.hs port).slot = 0
        ∧ (calm → s.sameBut [.ports] t ∧ (t.port port).imRun = (s.port port).imRun)
        ∧ (¬calm → (t.port port).imRun = some ⟨max 4 (s.fld (aOio (port.1 / 8) + rOIO_IM_CTL) 19 16), true, true⟩
          ∧ t.evt (aOio (port.1 / 8)) evOIO_IM_FORCED = true))
      ∧ (h.slot = noSlot ∨ h.stopPend = false → ∃ t, exec (.houseSlot port 0) s = .next t ∧ (t.hs port).running = true
        ∧ (t.hs port).slot = 0 ∧ (t.hs port).swapPend = false ∧ (t.hs port).bank = (if h.swapPend then 1 - h.bank else h.bank)
        ∧ (t.hs port).cycleStart = (if h.slot = noSlot then h.cycleStart else (h.cycleStart + s.cycleLsb port) % 2 ^ 64)
        ∧ s.sameBut [.ports, .links, .regs, .wire, .freeCtr, .sites, .host, .pba, .tsu] t)
      ∧ (∀ slot : Nat, (h.slotCount ≤ slot ∨ (slot ≠ 0 ∧ slot ≤ h.slot)) → exec (.houseSlot port slot) s = .next s)
      ∧ ∀ slot : Nat, h.slot < slot → slot < h.slotCount → calm →
        let e := (h.entry slot).1
        let out := rf e 30 29
        (rb e 31 = false → exec (.houseSlot port slot) s = .next (s.modHs port (fun h => { h with slot := slot })))
        ∧ (∀ l, rb e 31 = true → h.ranged = true → h.rangeFail = false → s.bursts port = true → s.portPaused port = false →
          (s.port port).st = pUP → s.nextLink port out (rf e 15 0) = some l →
          (s.outEnabled port out = false → ∃ t, exec (.houseSlot port slot) s = .next t
            ∧ t.reg (aPort port + rOIOPORT_SPOT_REFUSED) = satAdd (s.reg (aPort port + rOIOPORT_SPOT_REFUSED)) 1
            ∧ t.wire = s.wire ∧ s.sameBut [.ports, .regs] t)
          ∧ (s.outEnabled port out = true → ∃ t pre d sets flits, exec (.houseSlot port slot) s = .next t
            ∧ t.wire = s.wire ++ pre ++ [.burst port out d (sets ++ flits)] ∧ delimOk d = true ∧ bits (leAt d 4 2) 14 0 = s.device
            ∧ leAt d 8 2 = slot % 2 ^ 16 ∧ leAt d 10 2 = flits.length ∧ flits.length ≤ s.burstFlits port
            ∧ leAt d 12 8 = h.launch slot ∧ (t.port port).spot = out ∧ (t.hs port).slot = slot
            ∧ tblGet 0 (t.hs port).rots out = l % 4 ∧ (∀ o, o ≠ out → tblGet 0 (t.hs port).rots o = tblGet 0 h.rots o)
            ∧ s.sameBut [.ports, .links, .wire, .tsu] t ∧ ∀ j, j ≠ l → t.link j = s.link j)))
    ∧ (h.running = false → ∀ slot, exec (.houseSlot port slot) s = .next s)
    ∧ (∀ (m : Msg) (at_ : Nat),
      (h.ranging = true → m.srcDev = s.device → m.profile = 4 → leAt m.body 0 1 = 4 →
        ∃ t, exec (.range port m at_) s = .next t ∧ s.sameBut [.ports] t
          ∧ ∀ q ∈ State.planePorts port, (t.hs q).ranged = true ∧ (t.hs q).ranging = false ∧ (t.hs q).rangeFail = false
            ∧ (t.hs q).delay = ((at_ + 2 ^ 64 - leAt m.body 8 8) % 2 ^ 64 + 1) / 2 % 65536)
      ∧ ((h.ranging = false ∨ m.srcDev ≠ s.device ∨ m.profile ≠ 4 ∨ leAt m.body 0 1 ≠ 4) → exec (.range port m at_) s = .next s))
    ∧ (h.ranging = true → 64 ≤ h.tries → ∃ t, exec (.rangeFail port) s = .next t
      ∧ (∀ q ∈ State.planePorts port, (t.hs q).rangeFail = true ∧ (t.hs q).ranging = false)
      ∧ rb (t.reg (aDev + rDEV_FAB_EVT)) evFAB_RANGE_FAIL = true ∧ s.sameBut [.ports, .regs, .wire, .host, .pba] t)
    ∧ (h.ranging = false ∨ h.tries < 64 → exec (.rangeFail port) s = .next s)

/-- HELLO, HELLO_RESEND, LEADER, ROOT, HOLDOUT, DIGEST, DIGEST_RESULT, PEER_ABSENT and PHASE_WAIT_TIMEOUT (R262, R263, R281 to
R285): a HELLO makes its sender a member, and one that claims the device's own place holds the device out; a leader's seat is
learnt, and the root's house completes the device number, the root of a lower stage replaces that of a higher one, and the
roots of other houses are kept; a HOLDOUT or a failed check holds the device out with its cause; a peer unanswered 16 times,
and at the end of the wait every silent one, counts as absent, so that the stage finds its leader; a check that nobody answered
is asked for again. Where the manual is open it follows logs 1 and 42. -/
def Obligations.SystemsStart : Prop :=
  ∀ (s : State),
    let held := fun (t : State) (cause : Nat) => t.heldOut = true ∧ t.isLeader = false ∧ rf (t.reg aFabStat) 11 8 = cause
      ∧ rb (t.reg (aDev + rDEV_FAB_EVT)) evFAB_HELD_OUT = true
    (∀ (port : Fin 64) (m : Msg),
      let v := s.takeMsg 4 m
      let b := m.body
      (m.profile ≠ 4 → exec (.hello port m) s = .next v ∧ exec (.leader port m) s = .next v ∧ exec (.root port m) s = .next v
        ∧ exec (.holdout port m) s = .next v)
      ∧ ((s.heldOut = true ∨ s.phase = phLOCAL) → exec (.leader port m) s = .next v ∧ exec (.root port m) s = .next v)
      ∧ (s.heldOut = true → exec (.holdout port m) s = .next v)
      ∧ (m.profile = 4 →
      ((leAt b 0 1 ≠ 1 ∨ leAt b 4 4 = s.serialNo) → exec (.hello port m) s = .next v)
      ∧ (leAt b 0 1 = 1 → leAt b 4 4 ≠ s.serialNo → ∃ t, exec (.hello port m) s = .next t
        ∧ (∃ x ∈ t.fab.members, x.serial = leAt b 4 4 ∧ x.seat = bits (leAt b 8 1) 2 0 ∧ x.stage = bits (leAt b 9 1) 5 0 ∧ x.port = port)
        ∧ (s.roleLevel port = 0 → bits (leAt b 8 1) 2 0 = s.strapSeat → bits (leAt b 9 1) 5 0 = s.strapStage → s.heldOut = false → held t 1))
      ∧ (leAt b 0 1 = 2 → s.heldOut = false → s.phase ≠ phLOCAL →
        let seat := if bit (leAt b 2 2) 15 then devSeat (leAt b 2 2) else ((s.neighbour (64 * port.1)).map Prod.snd).getD s.strapSeat
        (seat ≠ s.strapSeat → s.isLeader = false → s.fab.leader ≠ some seat → ∃ t, exec (.leader port m) s = .next t
          ∧ t.fab.leader = some seat ∧ t.fab.members = s.fab.members)
        ∧ (seat < s.strapSeat → s.isLeader = true → s.fab.leader ≠ some seat → ∃ t, exec (.leader port m) s = .next t
          ∧ t.fab.leader = some seat ∧ t.isLeader = false)
        ∧ ((seat = s.strapSeat ∨ s.fab.leader = some seat ∨ (s.isLeader = true ∧ s.strapSeat < seat)) →
          exec (.leader port m) s = .next v))
      ∧ (leAt b 0 1 = 3 → s.heldOut = false → s.phase ≠ phLOCAL →
        let house := bits (leAt b 1 1) 5 0
        let root := bits (leAt b 2 2) 14 0
        (s.fab.house = none → s.roleLevel port ≠ 2 → s.profile ≠ 0 → ∃ t, exec (.root port m) s = .next t
          ∧ t.fab.house = some house ∧ t.fab.root = some root ∧ t.deviceValid = true
          ∧ (s.deviceValid = false → t.device = 512 * house + 8 * s.strapStage + s.strapSeat))
        ∧ (s.fab.house = some house → s.roleLevel port ≠ 2 → devStage root < (s.fab.root.map devStage).getD 64 →
          ∃ t, exec (.root port m) s = .next t ∧ t.fab.root = some root)
        ∧ (∀ h, s.fab.house = some h → h ≠ house → ∃ t, exec (.root port m) s = .next t ∧ root ∈ t.fab.roots)
        ∧ (s.fab.house = some house → s.roleLevel port = 2 → ∃ t, exec (.root port m) s = .next t ∧ held t 3))
      ∧ ((leAt b 0 1 ≠ 5 ∨ leAt b 1 1 = 0 ∨ 5 < leAt b 1 1) → exec (.holdout port m) s = .next v)
      ∧ (leAt b 0 1 = 5 → 1 ≤ leAt b 1 1 → leAt b 1 1 ≤ 5 → s.heldOut = false → ∃ t, exec (.holdout port m) s = .next t
        ∧ held t (leAt b 1 1) ∧ s.sameBut [.regs, .links, .inbox, .wire, .host, .pba] t)))
    ∧ (∀ m : Msg,
      ((m.profile ≠ profMgmt ∨ leAt m.body 0 1 ≠ 0x20 ∨ s.isScopeRoot = false ∨ s.heldOut = true) →
        exec (.digest m) s = .next (s.takeMsg 4 m))
      ∧ (m.profile = profMgmt → leAt m.body 0 1 = 0x20 → s.isScopeRoot = true → s.heldOut = false →
        exec (.digest m) s = .next ((s.takeMsg 4 m).reply 0 m 7 profMgmt (leBytes 1 0x21 ++ leBytes 1
          (if slice m.body 16 48 ≠ padTo 48 s.sec.fwDigest then 1
           else if slice m.body 64 48 ≠ padTo 48 s.sec.commonHash then 2 else 0) ++ List.replicate 14 0#8)))
      ∧ ((m.profile ≠ profMgmt ∨ leAt m.body 0 1 ≠ 0x21 ∨ s.phase ≠ phCHECK ∨ 2 < leAt m.body 1 1) →
        exec (.digestResult m) s = .next (s.takeMsg 4 m))
      ∧ (m.profile = profMgmt → leAt m.body 0 1 = 0x21 → s.phase = phCHECK → leAt m.body 1 1 ≤ 2 →
        ∃ t, exec (.digestResult m) s = .next t
        ∧ (leAt m.body 1 1 = 0 → t.phase = phREADY ∧ rb (t.reg (aDev + rDEV_FAB_EVT)) evFAB_READY = true)
        ∧ (leAt m.body 1 1 = 1 → held t 4) ∧ (leAt m.body 1 1 = 2 → held t 5)
        ∧ s.sameBut [.regs, .links, .inbox, .wire, .host, .pba] t))
    ∧ (∀ port : Fin 64,
      (s.phase = phLOCAL → exec (.helloResend port) s = .next s)
      ∧ (s.roleLevel port = 0 → port.1 % 8 < 7 → s.phase = phSTAGE →
        let l := 64 * port.1
        s.linkUp l = true → (s.link l).txq = [] → ∃ t m l', exec (.helloResend port) s = .next t
          ∧ (t.link l).txq = m :: l' ∧ m.profile = 4 ∧ m.tc = 0 ∧ m.body = padTo 16 s.helloBody
          ∧ (port.1 < 7 → ∀ y e, s.neighbour l = some (y, e) →
            s.fab.members.any (fun x => x.stage == y && x.seat == e) = false →
            tblGet 0 t.fab.attempts (peerKey y e) = tblGet 0 s.fab.attempts (peerKey y e) + 1))
      ∧ (s.roleLevel port = 1 → s.phase = phHOUSE → ∃ t, exec (.helloResend port) s = .next t
        ∧ ∀ l ∈ s.linksOf port, s.linkUp l = true → s.neighbour l ≠ some (s.strapStage, s.strapSeat) →
          ∃ m ∈ (t.link l).txq, m.profile = 4 ∧ m.body = padTo 16 s.helloBody))
    ∧ (∀ peer : Nat, (16 ≤ tblGet 0 s.fab.attempts peer → peer ∉ s.fab.absent →
        ∃ t, exec (.peerAbsent peer) s = .next t ∧ t.fab.absent = s.fab.absent ++ [peer] ∧ t.fab.members = s.fab.members)
      ∧ (tblGet 0 s.fab.attempts peer < 16 ∨ peer ∈ s.fab.absent → exec (.peerAbsent peer) s = .next s))
    ∧ (s.phase = phSTAGE → ∃ t, exec .phaseWaitTimeout s = .next t ∧ t.fab.members = s.fab.members ∧ t.fab.leader.isSome = true
      ∧ (s.fab.leader = none → t.fab.leader = s.liveSeats.head?)
      ∧ ∀ e, e < 8 → e ≠ s.strapSeat → peerKey s.strapStage e ∈ t.fab.absent
        ∨ ∃ m ∈ s.fab.members, m.stage = s.strapStage ∧ m.seat = e)
    ∧ (s.phase = phCHECK →
      (s.isScopeRoot = true → ∃ t, exec .phaseWaitTimeout s = .next t ∧ t.phase = phREADY)
      ∧ (s.isScopeRoot = false → exec .phaseWaitTimeout s = .next
        ((s.forward 0 (s.newMsg 0 7 s.scopeRoot 0 profMgmt s.digestBody) none).1.modFab (fun f =>
          { f with absent := distinct f.absent }))))

/-- MAX_ANCHOR, EXACT_ADD and PEER_ENTRY_WRITE (R61, R264, R276, R278): a collective message of no OP of its own, into a
handle that is not registered for it, or not this tenant's, is answered with its STATUS and counted; MAX_ANCHOR leaves each record the larger of
two signed values; EXACT_ADD adds the fragment, or makes a record with a lower anchor NaN and counts it; a write of the peer
table sets the selected context, never context 0, and one that names another device or partition starts its sequences again.
Where the manual is open it follows logs 33 and 44. -/
def Obligations.CollectivesAndPeers : Prop :=
  (∀ (p : Fin 4) (s : State) (m : Msg), m.profile ≠ profColl →
    exec (.maxAnchor p m) s = .next s ∧ exec (.exactAdd p m) s = .next s)
  ∧ (∀ (p : Fin 4) (s : State) (m : Msg), m.profile = profColl →
    let v := s.takeMsg p m
    let b := m.body
    let done := natHeader 4 0 0 (natTag b) (natHandle b) 0 0
    let err := fun k => ((v.bump (aPart p + rPART_COLL_ERR) 1).reply p m 3 profNative (natHeader 5 k 0 (natTag b) (natHandle b) 0 0))
    (natOp b = 2 → exec (.maxAnchor p m) s = .next s) ∧ (natOp b = 1 → exec (.exactAdd p m) s = .next s)
    ∧ (natOp b ≠ 1 → natOp b ≠ 2 → exec (.maxAnchor p m) s = .next (err 1) ∧ exec (.exactAdd p m) s = .next (err 1))
    ∧ ((collCount b = 0 ∨ 2048 < collCount b) →
      (natOp b = 1 → v.collCheck p 2 m = 0 → exec (.maxAnchor p m) s = .next (err 2))
      ∧ (natOp b = 2 → v.collCheck p 1 m = 0 → exec (.exactAdd p m) s = .next (err 2)))
    ∧ (natOp b = 1 → v.collCheck p 2 m ≠ 0 → exec (.maxAnchor p m) s = .next (err (v.collCheck p 2 m)))
    ∧ (natOp b = 2 → v.collCheck p 1 m ≠ 0 → exec (.exactAdd p m) s = .next (err (v.collCheck p 1 m)))
    ∧ ∀ h, s.ecc = [] → s.handle p (natHandle b) = some h →
      let n := collCount b
      let i := collElem b
      (natOp b = 1 → v.collCheck p 2 m = 0 → 0 < n → n ≤ 2048 → 2 * (i + n) ≤ h.size → 16 + 2 * n ≤ b.length →
        ∃ u : State, exec (.maxAnchor p m) s = .next (u.reply p m 3 profNative done)
          ∧ u.mem = (List.range n).foldl (fun w j => h.memWith p (2 * (i + j)) 2 (leBytes 2 (unsgn 16
              (max (sgn 16 (leOf (h.bytesIn p (2 * (i + j)) 2 w))) (sgn 16 (leAt b (16 + 2 * j) 2))))) w) v.mem
          ∧ v.sameBut [.mem, .ushers] u)
      ∧ (let f := readFrag (b.drop 16)
        let x := (unspill (h.bytesIn p (48 * i) 48 s.mem)).1
        natOp b = 2 → v.collCheck p 1 m = 0 → n = 1 → 48 * (i + 1) ≤ h.size → 19 ≤ b.length → 16 + f.2.1 ≤ b.length →
        ∃ u : State, exec (.exactAdd p m) s = .next (u.reply p m 3 profNative done)
          ∧ (x.anchor < f.1.anchor → u.mem = h.memWith p (48 * i) 48 (spillBytes { x with code := 3 }) v.mem
            ∧ u.reg (aPart p + rPART_COLL_ANCHOR) = satAdd (s.reg (aPart p + rPART_COLL_ANCHOR)) 1)
          ∧ (f.1.anchor ≤ x.anchor → u.mem = h.memWith p (48 * i) 48 (spillBytes (combineXa x f.1).1) v.mem ∧ u.regs = v.regs)
          ∧ v.sameBut [.mem, .ushers, .regs] u))
  ∧ ∀ (s : State) (b : Bool) (w : W32),
    let c := s.fld (aDev + rDEV_PEER_SEL) 11 0
    let old := s.peer c
    let new := if b then (old.1, w &&& 0x0000FFFF#32) else (w &&& 0xFFC37FFF#32, old.2)
    (s.pageOpen .dev 0 true = false → exec (.peerEntryWrite b w) s = .next s)
    ∧ (s.pageOpen .dev 0 true = true →
    (c = 0 → exec (.peerEntryWrite b w) s = .next s)
    ∧ (c ≠ 0 → ∃ t, exec (.peerEntryWrite b w) s = .next t ∧ t.peer c = new ∧ (∀ j, j ≠ c → t.peer j = s.peer j)
      ∧ ((rf new.1 14 0 ≠ rf old.1 14 0 ∨ rf new.1 17 16 ≠ rf old.1 17 16) → ∀ p, p < 4 →
        (t.peerSeq p c).tx = 1 ∧ (t.peerSeq p c).applied = 0)
      ∧ (rf new.1 14 0 = rf old.1 14 0 → rf new.1 17 16 = rf old.1 17 16 → t.syncs = s.syncs)
      ∧ s.sameBut [.peers, .syncs] t ∧ ∀ p j, j ≠ c → t.peerSeq p j = s.peerSeq p j))

/-! ## Box office, heat and the Understudy (ch. 10) -/

/-- TICKET_GRANT, BUDGET_COMMIT, BOARD_CAP_WRITE and BOX_AUDIT (R290, R292, R293, R296, R298, R299): the head of the queue is
granted whole when the free tickets cover it and the ramp allows, a head larger than the ramp in parts; a head that nothing can
cover, or for which the ramp leaves no room, waits; a commit within its
bounds becomes the budget, and one outside them is refused; a board cap below the sum of the budgets lowers each in
proportion, never below its base and 8; and a box office whose tickets do not add up grants nothing more. Where the manual is
open it follows logs 1 and 49. -/
def Obligations.TicketsAndBudgets : Prop :=
  ∀ (s : State),
    (∀ (p : Fin 4) (e : BoxEnt) (l : List BoxEnt), (s.box p).queue = e :: l →
      ((s.box p).fault = true → exec (.ticketGrant p) s = .next s)
      ∧ ((s.box p).fault = false → e.aside = 0 → 0 < e.count → e.count ≤ (s.box p).free →
        e.count + s.inWindow p ≤ s.ramp p → ∃ t, exec (.ticketGrant p) s = .next t ∧ (t.box p).queue = l
          ∧ (t.box p).free = (s.box p).free - e.count ∧ (t.core e.core).held = (s.core e.core).held + e.count
          ∧ (t.box p).grants = ((s.box p).grants + e.count) % 2 ^ 32 ∧ (t.box p).budget = (s.box p).budget
          ∧ (∀ j, j ≠ e.core → t.core j = s.core j) ∧ (∀ q, q ≠ p.1 → t.box q = s.box q) ∧ s.sameBut [.boxes, .cores, .regs] t)
      ∧ ((s.box p).fault = false → e.aside = 0 → 0 < e.count → e.count ≤ (s.box p).free → e.count ≤ s.ramp p →
        s.ramp p < e.count + s.inWindow p → exec (.ticketGrant p) s = .next s)
      ∧ ((s.box p).fault = false → e.count ≤ (s.box p).free → s.ramp p < e.count → s.inWindow p < s.ramp p →
        e.aside + (s.ramp p - s.inWindow p) < e.count → ∃ t, exec (.ticketGrant p) s = .next t
          ∧ (t.box p).queue = { e with aside := e.aside + (s.ramp p - s.inWindow p) } :: l ∧ (t.box p).free = (s.box p).free
          ∧ s.sameBut [.boxes] t ∧ ∀ q, q ≠ p.1 → t.box q = s.box q)
      ∧ ((s.box p).fault = false → (s.box p).free < e.count → (∀ b, b < 4 → s.loan p b = 0) → (∀ q, q < 4 → s.canLend q p = 0) →
        ∃ t, exec (.ticketGrant p) s = .next t ∧ t.box p = s.box p ∧ s.sameBut [.boxes] t))
    ∧ (∀ p : Fin 4, (s.box p).queue = [] → exec (.ticketGrant p) s = .next s)
    ∧ (∀ p : Fin 4, s.pageOpen .box p true = false → exec (.budgetCommit p) s = .next s)
    ∧ (∀ (path : Path) (v : W32), s.pageOpen .thm 0 true = false → exec (.boardCapWrite path v) s = .next s)
    ∧ (∀ p : Fin 4, s.pageOpen .box p true = true →
      let b := s.box p
      let n := s.fld (aBox p + rBOX_BUDGET_NEXT) 15 0
      (b.base + 8 ≤ n → n ≤ s.railLimit → s.sumBudgets - b.budget + n ≤ min s.devLimit s.boardCap →
        ∃ t, exec (.budgetCommit p) s = .next t ∧ (t.box p).budget = n ∧ t.evt (aBox p) evBOX_BUDGET_CHANGED = true
          ∧ (∀ q, q ≠ p.1 → (t.box q).budget = (s.box q).budget)
          ∧ (b.base + (s.granted p - s.noticed p) + b.withdrawn + s.lent p ≤ n + s.borrowed p →
            (t.box p).free = n + s.borrowed p - (b.base + (s.granted p - s.noticed p) + b.withdrawn + s.lent p)
            ∧ t.loans = s.loans)
          ∧ s.sameBut [.boxes, .loans, .regs, .wire, .host, .pba] t)
      ∧ ((n < b.base + 8 ∨ s.railLimit < n ∨ min s.devLimit s.boardCap < s.sumBudgets - b.budget + n) →
        ∃ t, exec (.budgetCommit p) s = .next t ∧ t.evt (aBox p) evBOX_COMMIT_REFUSED = true ∧ s.sameBut [.regs, .wire, .host, .pba] t))
    ∧ (∀ (path : Path) (v : W32), s.pageOpen .thm 0 true = true → ∃ t, exec (.boardCapWrite path v) s = .next t ∧ t.boardCap = rf v 15 0
      ∧ (s.pwr.step < 7 ∨ s.sumBudgets ≤ min s.devLimit (rf v 15 0) → s.sameBut [.regs] t)
      ∧ (7 ≤ s.pwr.step → min s.devLimit (rf v 15 0) < s.sumBudgets → t.evt aThm evTHM_BOARD_CAP = true
        ∧ ∀ p, p < 4 → (t.box p).budget = max ((s.box p).base + 8) ((s.box p).budget * min s.devLimit (rf v 15 0) / s.sumBudgets)))
    ∧ ∀ p : Fin 4,
      ((s.box p).notices ≠ [] ∨ s.boxBalanced p = true → exec (.boxAudit p) s = .next s)
      ∧ ((s.box p).notices = [] → s.boxBalanced p = false → ∃ t, exec (.boxAudit p) s = .next t
        ∧ t.box p = { s.box p with fault := true } ∧ t.evt (aBox p) evBOX_CONSERVATION_FAULT = true
        ∧ (∀ q, q ≠ p.1 → t.box q = s.box q) ∧ s.sameBut [.boxes, .regs, .wire, .host, .pba] t)

/-- SENSOR_SAMPLE, SENSOR_SHORTAGE and RATE_HOLD_END (R297, R300 to R302): a sample takes the readings of the sensors in use,
each is checked against its neighbours, and one in service above the limit sets T_HIGH; a die with too few sensors in service
is a rate event, at which every box office withdraws its share once; the hold ends with nothing withdrawn. Where the manual is
open it follows logs 1 and 11. -/
def Obligations.SensorsAndRateHolds : Prop :=
  ∀ (s : State),
    (∀ rs : List SensRead, ∃ t, exec (.sensorSample rs) s = .next t ∧ t.thm.samples = s.thm.samples + 1
      ∧ (∀ i, i < 0x14C →
        (∀ r, s.sensRead i = true → rs.find? (fun r => r.index == i) = some r → (t.sens i).valid = r.valid
          ∧ (t.sens i).temp = if r.valid then r.temp else (s.sens i).temp)
        ∧ (s.sensRead i = false → (t.sens i).valid = false)
        ∧ (t.sens i).suspect = ((s.takeReadings rs).crossCheck i).1.suspect
        ∧ (((s.takeReadings rs).crossCheck i).2.1 = true → t.evt aThm evTHM_SENSOR_SUSPECT = true)
        ∧ ((t.sens i).ok = true → sgn 16 (rf (s.reg (aThm + rTHM_T_HIGH)) 15 0) < (t.sens i).temp → t.evt aThm evTHM_T_HIGH = true))
      ∧ s.sameBut [.thm, .boxes, .loans, .regs, .wire, .host, .pba] t)
    ∧ (s.shortDies = 0 → exec .sensorShortage s = .next s)
    ∧ (s.shortDies ≠ 0 → ∃ t, exec .sensorShortage s = .next t ∧ t.thm.hold = true
      ∧ t.reg (aThm + rTHM_RATE_EVENTS) = satAdd (s.reg (aThm + rTHM_RATE_EVENTS)) s.shortDies
      ∧ (∀ p, p < 4 → t.evt (aBox p) evBOX_RATE_HOLD = true ∧ (t.box p).budget = (s.box p).budget
        ∧ (s.thm.hold = false → (t.box p).withdrawn = (s.box p).budget * s.wdPct / 100)
        ∧ (s.thm.hold = true → t.box p = s.box p))
      ∧ s.sameBut [.thm, .boxes, .loans, .regs, .wire, .host, .pba] t)
    ∧ (s.thm.hold = false → exec .rateHoldEnd s = .next s)
    ∧ (s.thm.hold = true → ∃ t, exec .rateHoldEnd s = .next t ∧ t.thm.hold = false
      ∧ (∀ p, p < 4 → (t.box p).withdrawn = 0 ∧ (t.box p).budget = (s.box p).budget ∧ t.evt (aBox p) evBOX_RATE_END = true)
      ∧ s.sameBut [.thm, .boxes, .loans, .regs, .wire, .host, .pba] t)

/-- FAST_FRAME, SWITCH_OVER, FORCE_SWITCH, CLEAR_FAILED, RAM_PASS, REVERT and UNDERSTUDY_ACK (R305 to R311): a whole frame in
its turn updates the mirror and gives the shadow result, a mismatch where the code changes are not those the Understudy
computed, and any other starts a resynchronisation; a READY Understudy takes control with the mirrored ring states and
histories and every heater code as it stood, within 3 cycles; without one there is no controller; a controller whose recovery
fails three times is FAILED; after 1,000 clean cycles in a row and in SYNC C0 takes control back; a segment acknowledged leads
on to the next, or applies its item. Where the manual is open it follows logs 1 and 41. -/
def Obligations.UnderstudySwitchesOver : Prop :=
  ∀ (k : Fin 8) (s : State),
    let x := s.site k
    let back := fun (t : State) => (t.site k).sync = false ∧ (t.site k).resync = 2 ∧ t.evt (aOio k) evOIO_MIRROR_RESYNC = true
      ∧ t.reg (aOio k + rOIO_UND_RESYNC) = satAdd (s.reg (aOio k + rOIO_UND_RESYNC)) 1 ∧ (t.site k).mirror = x.mirror
    ((s.siteUsed k = false ∨ s.siteFeat k 2 = false ∨ x.other.role = uFAILED) → ∀ f mm, exec (.fastFrame k f mm) s = .next s)
    ∧ (s.siteUsed k = true → s.siteFeat k 2 = true → x.other.role ≠ uFAILED →
      (∀ wrong : Bool, exec (.fastFrame k [] wrong) s = .next (s.modSite k (fun x => { x.breakRun with missed := x.missed + 1 })))
      ∧ (∀ (f : List Byte) (wrong : Bool), f ≠ [] → frameOk f = false → ∃ t, exec (.fastFrame k f wrong) s = .next t ∧ back t
        ∧ (t.site k).missed = x.missed + 1 ∧ (t.site k).seen = (x.seen + 1) % 2 ^ 24 ∧ (t.site k).other.clean = 0)
      ∧ (∀ (f : List Byte) (wrong : Bool), frameOk f = true → frameCycle f ≠ (x.seen + 1) % 2 ^ 24 →
        ∃ t, exec (.fastFrame k f wrong) s = .next t ∧ back t ∧ (t.site k).seen = frameCycle f ∧ (t.site k).missed = 0
          ∧ (t.site k).other.clean = 0)
      ∧ (∀ (f : List Byte) (wrong : Bool), frameOk f = true → frameCycle f = (x.seen + 1) % 2 ^ 24 →
        let mm := !frameKind1 f && (wrong || leAt f 4 216 != x.delta)
        (x.sync = true → x.other.role = uUNDER → ∃ t w, exec (.fastFrame k f wrong) s = .next t
          ∧ (t.site k).seen = frameCycle f ∧ (t.site k).missed = 0 ∧ (t.site k).sync = true
          ∧ (t.site k).mirror = (frameEntries f).foldl (fun m e => tblSet 0 m e.1 e.2) x.mirror
          ∧ (t.site k).mmRun = (if mm then x.mmRun + 1 else 0) ∧ t.wire = s.wire ++ [.shadow k mm] ++ w
          ∧ (mm = true → t.reg (aOio k + rOIO_UND_MISMATCH) = satAdd (s.reg (aOio k + rOIO_UND_MISMATCH)) 1)
          ∧ s.sameBut [.sites, .regs, .wire, .host, .pba] t)
        ∧ (x.sync = false → x.resync = 2 → frameKind1 f = true →
          ∃ t, exec (.fastFrame k f wrong) s = .next t ∧ (t.site k).resync = 1 ∧ (t.site k).sync = false ∧ s.sameBut [.sites] t)
        ∧ (x.sync = false → x.resync = 1 → frameKind1 f = false →
          ∃ t, exec (.fastFrame k f wrong) s = .next t ∧ (t.site k).sync = true)
        ∧ (x.sync = false → ((x.resync = 2 ∧ frameKind1 f = false) ∨ (x.resync = 1 ∧ frameKind1 f = true)) →
          exec (.fastFrame k f wrong) s = .next (s.modSite k (fun x => { x with missed := 0, seen := frameCycle f })))))
    ∧ ((s.siteUsed k = false ∨ (x.isReady = true ∧ s.fld (aOio k + rOIO_UND_CTL) 0 0 = 0)) →
      exec (.switchOver k) s = .next (s.modSite k (fun x => { x with force := false })))
    ∧ (s.siteUsed k = true →
      (x.isReady = false → ∃ t, exec (.switchOver k) s = .next t ∧ t.evt (aOio k) evOIO_NO_CONTROLLER = true
        ∧ t.site k = { x with force := false } ∧ s.sameBut [.sites, .regs, .wire, .host, .pba] t)
      ∧ (x.isReady = true → s.fld (aOio k + rOIO_UND_CTL) 0 0 = 1 → x.lead ≤ 1 → ∃ t, exec (.switchOver k) s = .next t
        ∧ (t.site k).lead = 1 - x.lead ∧ (t.site k).sync = false ∧ 1 ≤ (t.site k).lastGap ∧ (t.site k).lastGap ≤ 3
        ∧ (t.site k).gap = (t.site k).lastGap - min 2 x.missed ∧ (t.site k).wt = []
        ∧ (x.lead = 0 → (t.site k).c0.role = uRECOVER ∧ (t.site k).c1.role = uLEAD)
        ∧ (x.lead = 1 → (t.site k).c1.role = uRECOVER ∧ (t.site k).c0.role = uLEAD)
        ∧ (∀ g ∈ ringsOf k, (t.ring g).st = tblGet 0 x.mirror (g % 288) ∧ (t.ring g).losses = tblGet [] x.hist (g % 288)
          ∧ (t.ring g).code = (s.ring g).code ∧ (t.ring g).lane = (s.ring g).lane ∧ (t.ring g).trim = none)
        ∧ t.reg (aOio k + rOIO_UND_SWITCHES) = satAdd (s.reg (aOio k + rOIO_UND_SWITCHES)) 1 ∧ t.evt (aOio k) evOIO_SWITCH_OVER = true
        ∧ s.sameBut [.sites, .rings, .ports, .links, .regs, .wire, .host, .pba, .freeCtr] t))
    ∧ (s.pageOpen .oio k true = false → exec (.forceSwitch k) s = .next s ∧ exec (.clearFailed k) s = .next s)
    ∧ (s.pageOpen .oio k true = true →
      exec (.forceSwitch k) s = .next (if x.isReady then s.modSite k (fun x => { x with force := true }) else s)
      ∧ (x.other.role ≠ uFAILED → exec (.clearFailed k) s = .next s)
      ∧ (x.other.role = uFAILED → ∃ t, exec (.clearFailed k) s = .next t ∧ (t.site k).other.role = uRECOVER
        ∧ (t.site k).other.attempts = 0 ∧ (t.site k).sync = false ∧ (t.site k).wantKind1 = true ∧ (t.site k).lead = x.lead
        ∧ s.sameBut [.sites] t))
    ∧ (∀ (c : Fin 2) (ok : Bool), x.lead ≤ 1 →
      (c.1 = x.lead → ∃ t, exec (.ramPass k c ok) s = .next t ∧ (t.site k).lead = x.lead
        ∧ (c.1 = 0 → (t.site k).c0 = { x.c0 with ramOk := ok, passEnd := some s.ctrlClk } ∧ (t.site k).c1 = x.c1)
        ∧ (c.1 = 1 → (t.site k).c1 = { x.c1 with ramOk := ok, passEnd := some s.ctrlClk } ∧ (t.site k).c0 = x.c0))
      ∧ (c.1 ≠ x.lead → x.other.role = uRECOVER →
        (ok = true → ∃ t, exec (.ramPass k c ok) s = .next t ∧ (t.site k).other =
          { x.other with ramOk := true, passEnd := some s.ctrlClk, passed := true })
        ∧ (ok = false → ∃ t, exec (.ramPass k c ok) s = .next t
          ∧ (x.other.attempts < 2 → (t.site k).other.role = uRECOVER ∧ (t.site k).other.attempts = x.other.attempts + 1)
          ∧ (2 ≤ x.other.attempts → (t.site k).other.role = uFAILED ∧ t.evt (aOio k) evOIO_LEAD_FAILED = true)))
      ∧ (c.1 ≠ x.lead → x.other.role = uUNDER → ∃ t, exec (.ramPass k c ok) s = .next t
        ∧ (ok = true → (t.site k).other = { x.other with ramOk := true, passEnd := some s.ctrlClk })
        ∧ (ok = false → (t.site k).other.role = uRECOVER ∧ (t.site k).sync = false
          ∧ (x.ready = true → t.evt (aOio k) evOIO_UND_UNHEALTHY = true))))
    ∧ (s.fld (aOio k + rOIO_UND_CTL) 1 1 = 1 → x.lead = 1 → x.other.role = uRECOVER → 1000 ≤ x.other.clean → x.sync = true →
      s.siteBusy k = false → x.gap = 0 → x.force = false → ∃ t, exec (.revert k) s = .next t ∧ (t.site k).lead = 0
        ∧ (t.site k).c0.role = uLEAD
        ∧ (t.site k).c1.role = uUNDER ∧ t.evt (aOio k) evOIO_REVERT = true ∧ s.sameBut [.sites, .regs, .wire, .host, .pba] t)
    ∧ ((s.fld (aOio k + rOIO_UND_CTL) 1 1 = 0 ∨ x.lead = 0 ∨ x.other.role ≠ uRECOVER ∨ x.other.clean < 1000 ∨ x.sync = false
      ∨ s.siteBusy k = true ∨ 0 < x.gap ∨ x.force = true) → exec (.revert k) s = .next s)
    ∧ (x.other.role = uFAILED → ∀ a b, exec (.understudyAck k a b) s = .next s)
    ∧ (x.other.role ≠ uFAILED →
      (∀ (it : WtItem) (n : Nat) (l : List (WtItem × Nat)), x.wt = (it, n) :: l →
        (1 < n → exec (.understudyAck k true false) s = .next (s.modSite k (fun x => { x with wt := (it, n - 1) :: l })))
        ∧ (n ≤ 1 → exec (.understudyAck k true false) s = .next ((s.modSite k (fun x => { x with wt := l })).applyItem k it))
        ∧ (n ≤ 1 → ∀ g, it = .ringFailed g → siteOfRing g = k → (s.ring g).st ≠ gFAILED → (s.ring g).lane = gNone →
          (s.ring g).nextLane = gNone → (s.port (portOfRing g)).st ≠ pACQ → ∃ t, exec (.understudyAck k true false) s = .next t
            ∧ (t.site k).wt = l ∧ t.ring g = { s.ring g with st := gFAILED, trim := none }
            ∧ t.evt (aOio k) evOIO_RING_FAILED = true ∧ s.sameBut [.sites, .rings, .regs, .wire, .host, .pba] t))
      ∧ exec (.understudyAck k false true) s = .next (s.modSite k (fun x => { x with wantKind1 := true }))
      ∧ exec (.understudyAck k false false) s = .next s)

/-! ## Trust and resets (ch. 11) -/

/-- Every command of the mailbox (R335, R336): a row runs the record at the head of the engine's order when it is that row's;
the first check that fails gives the status it ends with: a mode that does not allow it, keys or provisioning, a lockout, the
tag, a counter not above CTR_LAST, or a reset that is due; the instance is then no longer busy and shows the code. An
assignment that waits for its key to be mirrored has its checks behind it. Where the manual is open it follows logs 41, 50 and
53. -/
def Obligations.MailboxCommandsAreChecked : Prop :=
  ∀ (path : Path) (ok : Bool) (s : State),
    let b := onBoard path
    let r := s.record b
    let cmd := leAt r 0 1
    ∀ x ∈ [(Instr.resetPartition path, isCmd 1 r && leAt r 16 1 != 2), (.resetDevice path, isCmd 1 r && leAt r 16 1 == 2),
        (.fwActivate path, isCmd 2 r), (.keyRollover path, isCmd 3 r), (.fuseWrite path ok, isCmd 4 r), (.curtain path, isCmd 5 r),
        (.linkFence path, isCmd 6 r && !bit (leAt r 24 1) 0), (.unfence path, isCmd 6 r && bit (leAt r 24 1) 0),
        (.testUnlock path, isCmd 7 r), (.tenantAssign path, isCmd 8 r), (.settingsCommit path, isCmd 9 r),
        (.getChallenge path, isCmd 0x40 r), (.flashWrite path, isCmd 0x41 r), (.provision path, isCmd 0x42 r)],
      (s.mbOrder.head? ≠ some b ∨ x.2 = false → exec x.1 s = .next s)
      ∧ (s.mbOrder.head? = some b → x.2 = true → (isCmd 8 r = true → s.sec.assign = none) →
        let ends := fun (u : State) (n : Nat) => ∃ t, exec x.1 s = .next t ∧ t = u.mbDone b n ∧ (t.mb b).busy = false
          ∧ (t.mb b).code = n ∧ (t.mb b).cmd = cmd
        (modeCheck s.mode cmd (leAt r 16 1) b ≠ 0 → ends s (modeCheck s.mode cmd (leAt r 16 1) b))
        ∧ (modeCheck s.mode cmd (leAt r 16 1) b = 0 →
          (s.provCheck cmd = false → ends s mNOPROV)
          ∧ (s.provCheck cmd = true → s.sec.lockout = true → ends s mLOCKOUT)
          ∧ (s.provCheck cmd = true → s.sec.lockout = false → 9 < cmd → s.pwr.resetDue ≠ none → ends s mBUSY)
          ∧ (s.provCheck cmd = true → s.sec.lockout = false → cmd ≤ 9 →
            (s.tagRight r = false → ∃ u : State, ends u mBADTAG ∧ u.sec.lockout = (s.sec.tagFails == 15)
              ∧ u.sec.tagFails = (if s.sec.tagFails = 15 then 0 else s.sec.tagFails + 1) ∧ u.sec.ctrLast = s.sec.ctrLast)
            ∧ (s.tagRight r = true → recCtr r ≤ s.sec.ctrLast →
              ends { s with sec := { s.sec with tagFails := 0 } } mREPLAY)
            ∧ (s.tagRight r = true → s.sec.ctrLast < recCtr r → s.markWaits (recCtr r) = false → s.pwr.resetDue ≠ none →
              ∃ u : State, ends u mBUSY ∧ u.sec.ctrLast = recCtr r ∧ u.sec.tagFails = 0))))

/-- RESET_PARTITION, RESET_DEVICE, DEVICE_RESET, CORE_RESET and CLUSTER_RESET (R313, R327 to R329): a partition reset leaves
each named partition without tenant and, where no settings are applied to it, its memory zero and its cores and sync objects
as after reset, and is refused while one is in reset or FAILED; a device reset becomes due, and then leaves everything but
fuses, flash and what lies outside the device as after reset; a core reset clears the core and returns its tickets but leaves
scratch, where a running record may leave the words it had not written at their earlier values; it waits while its partition
switches contexts, and does nothing while the page does not answer. Where the manual is open it follows logs 47, 52, 53 and
61. -/
def Obligations.ResetsClearWhatTheyName : Prop :=
  (∀ (path : Path) (s : State),
    let b := onBoard path
    let r := s.record b
    let u := (s.checks b).1
    s.mbOrder.head? = some b → isCmd 1 r = true → (s.checks b).2 = mOK →
      (leAt r 16 1 = 2 → exec (.resetDevice path) s = .next (({ u with pwr := { u.pwr with resetDue := some 2 } }).mbDone b mOK))
      ∧ (leAt r 16 1 ≠ 2 →
        let ps := setBits (leAt r 17 1) 0 4
        ((leAt r 16 1 ≠ 1 ∨ ps = [] ∨ ∃ p ∈ ps, (u.part p).st = 3) → exec (.resetPartition path) s = .next (u.mbDone b mBADARG))
        ∧ (leAt r 16 1 = 1 → (∀ p ∈ ps, (u.part p).st ≠ 3) → (∃ p ∈ ps, (u.part p).st = 2) →
          exec (.resetPartition path) s = .next (u.mbDone b mBUSY))
        ∧ (leAt r 16 1 = 1 → ps ≠ [] → (∀ p ∈ ps, (u.part p).st < 2) → ∃ w : State,
          exec (.resetPartition path) s = .next (w.mbDone b mOK)
          ∧ (∀ p ∈ ps, w.part p = ⟨0, 0⟩ ∧ w.evt (aPart p) evPART_RESET_DONE = true)
          ∧ (∀ p, p ∉ ps → w.part p = u.part p)
          ∧ ∀ p, ps = [p] → u.sec.applied.filter (fun w => ofPartition p w.1) = [] →
            (∀ a, sliceAddr p 0 0 ≤ a → a < sliceAddr p 0 0 + 2 ^ 31 → w.memByte a = 0)
            ∧ (∀ a, scratchAddr (576 * p) 0 ≤ a → a < scratchAddr (576 * p) 0 + 576 * 2 ^ 18 → w.memByte a = 0)
            ∧ (∀ n, n < 576 → w.core (576 * p + n) = CoreSt.init) ∧ w.sync p = SynSt.init ∧ (w.usher p).handles = [])))
  ∧ (∀ s : State,
    (s.pwr.resetDue = none → exec .deviceReset s = .next s)
    ∧ (∀ c, s.pwr.resetDue = some c → ∃ t, exec .deviceReset s = .next t
      ∧ (∀ f : Field, f ∉ [Field.freeCtr, .wire, .host, .hostBad, .flash, .fuses, .pwr] → f.same State.reset t) ∧ t.hostBad = s.hostBad
      ∧ t.fuses = s.fuses ∧ t.flash = s.flash
      ∧ t.pwr = { PwrSt.init with pwrgd := s.pwr.pwrgd, perstN := s.pwr.perstN, trip := s.pwr.trip, cause := c }))
  ∧ (∀ (core : Fin 2304) (s : State),
    let p := partOfCore core
    (s.pageOpen .part p true = false → exec (.coreReset core) s = .next s)
    ∧ (s.pageOpen .part p true = true →
      ((s.usher p).stopped = true → exec (.coreReset core) s = .next (s.modUsher p (fun u =>
        { u with waitReset := u.waitReset ++ [(false, core.1)] })))
      ∧ ((s.usher p).stopped = false → ∃ t, exec (.coreReset core) s = .next t ∧ t.core core = CoreSt.init
        ∧ (∀ a, t.memByte a = s.memByte a ∨ ∃ f ∈ (s.core core).open_, recOp f.slot.bytes ≤ 5
          ∧ ∃ w ∈ f.undo, ∃ c ∈ w.cells, c.1 = a ∧ t.memByte a = c.2.1)
        ∧ (∀ e ∈ (t.box p).queue, e.core ≠ core.1) ∧ (∀ j, j ≠ core.1 → t.core j = s.core j)
        ∧ ((∀ n ∈ (s.box p).notices, n.1 ≠ core.1) → (t.box p).free = (s.box p).free + (s.core core).held)
        ∧ t.evt (aPart p) evPART_LOCAL_RESET_DONE = true ∧ rb (t.reg (aCore core + rHDR_PAGE_CTL)) 29 = true)))
  ∧ ∀ (clu : Fin 48) (s : State),
    let p := partOfClu clu
    (s.pageOpen .part p true = false → exec (.clusterReset clu) s = .next s)
    ∧ (s.pageOpen .part p true = true →
      ((s.usher p).stopped = true → exec (.clusterReset clu) s = .next (s.modUsher p (fun u =>
        { u with waitReset := u.waitReset ++ [(true, clu.1)] })))
      ∧ ((s.usher p).stopped = false → ∃ t, exec (.clusterReset clu) s = .next t ∧ t.evt (aPart p) evPART_LOCAL_RESET_DONE = true
        ∧ (∀ n, n < 48 → t.core (48 * clu.1 + n) = CoreSt.init) ∧ (∀ n, n < 16 → (t.chan (16 * clu.1 + n)).st = hDISABLED)
        ∧ (t.clu clu).repaired = (s.clu clu).repaired))

/-- FW_ACTIVATE, KEY_ROLLOVER, FUSE_WRITE, FLASH_WRITE, SETTINGS_COMMIT and PROVISION after their checks (R304, R318, R339,
R340, R343, R344, R349): outside the temperature window the command ends with TEMP; an image or blob that does not verify is
refused; a record written makes the slot active, or the settings current, or holds the new key; a fuse word takes the new bits
beside those it has, and a word whose read-back is wrong ends with FUSE; flash takes the bytes of host memory, and a slot
written loses its bad mark; a write before whose next page or word the window is found closed stops there with TEMP. Where the
manual is open it follows logs 50 and 53. -/
def Obligations.FirmwareKeysFusesAndFlash : Prop :=
  ∀ (path : Path) (good : Bool) (s : State),
    let b := onBoard path
    let r := s.record b
    let u := (s.checks b).1
    let slot := leAt r 16 1 % 2
    let temp := u.windowRefused.mbDone b mTEMP
    let took := fun (w : State) => w.sec.copy = 1 - u.sec.copy ∧ w.sec.held = none ∧ ctlGen w.sec.ctrl = (ctlGen u.sec.ctrl + 1) % 2 ^ 32
    s.mbOrder.head? = some b → (s.checks b).2 = mOK → u.sec.record.length = 64 →
      (isCmd 2 r = true →
        (u.flashWindow = false → exec (.fwActivate path) s = .next temp)
        ∧ (u.flashWindow = true → u.imageOk slot = false → ∃ w : State, exec (.fwActivate path) s = .next (w.mbDone b mIMAGE)
          ∧ w.evt aDev evDEV_SLOT_BAD = true ∧ w.pwr = u.pwr)
        ∧ (u.flashWindow = true → u.imageOk slot = true →
          let more := bit (leAt r 17 1) 0 = true ∧ u.fuses.svnMin < fwSvn (u.fwHeader slot)
          ∃ w : State,
          (Config.flashOk u.freeCtr = true → took w ∧ ctlActive w.sec.ctrl = slot ∧ ctlBad w.sec.ctrl 8 slot = false
            ∧ ((¬ more ∨ (Config.windowHolds (u.freeCtr + 1) = true ∧ Config.fuseOk (u.freeCtr + 2) = true)) →
              exec (.fwActivate path) s = .next (w.mbDone b mOK) ∧ w.pwr.resetDue = some 3)
            ∧ (more → Config.windowHolds (u.freeCtr + 1) = false → exec (.fwActivate path) s = .next (w.mbDone b mTEMP)
              ∧ w.evt aThm evTHM_WINDOW_REFUSED = true ∧ w.fuses = u.fuses ∧ w.pwr = u.pwr)
            ∧ (more → Config.windowHolds (u.freeCtr + 1) = true → w.evt aSec evSEC_FUSE_WRITTEN = true
              ∧ (Config.fuseOk (u.freeCtr + 2) = false → exec (.fwActivate path) s = .next (w.mbDone b mFUSE) ∧ w.pwr = u.pwr))
            ∧ (¬ more → w.fuses = u.fuses))
          ∧ (Config.flashOk u.freeCtr = false → exec (.fwActivate path) s = .next (w.mbDone b mFLASH) ∧ w.sec = u.sec ∧ w.pwr = u.pwr)))
      ∧ (isCmd 3 r = true →
        (u.flashWindow = false → exec (.keyRollover path) s = .next temp)
        ∧ (u.flashWindow = true → ∃ w : State,
          (Config.flashOk u.freeCtr = true → exec (.keyRollover path) s = .next (w.mbDone b mOK) ∧ took w
            ∧ w.sec.key = u.unwrap labelRoll (recCtr r) (slice r 16 32)
            ∧ ctlKeyGen w.sec.ctrl = (ctlKeyGen u.sec.record + 1) % 2 ^ 32 ∧ w.evt aSec evSEC_KEY_ROLLED = true)
          ∧ (Config.flashOk u.freeCtr = false → exec (.keyRollover path) s = .next (w.mbDone b mFLASH) ∧ w.sec = u.sec)))
      ∧ (isCmd 4 r = true →
        let die := leAt r 16 1
        let region := leAt r 17 1
        let row := leAt r 18 2
        let data := if region = 1 then leAt r 20 4 % 16 else leAt r 20 4
        (u.fuseWord die region row = none → exec (.fuseWrite path good) s = .next (u.mbDone b mBADARG))
        ∧ ∀ old, u.fuseWord die region row = some old →
          (region = 1 → old ||| data = 15 → exec (.fuseWrite path good) s = .next (u.mbDone b mBADARG))
          ∧ (region ≠ 1 ∨ old ||| data ≠ 15 →
            (u.fuseWindow die = false → exec (.fuseWrite path good) s = .next temp)
            ∧ (u.fuseWindow die = true → ∃ (w : State) (t : Nat),
              exec (.fuseWrite path good) s = .next (w.mbDone b (if good then mOK else mFUSE))
              ∧ w.fuseWord die region row = some (old ||| t) ∧ bitsIn t data = true ∧ (good = true → t = data)
              ∧ w.evt aSec evSEC_FUSE_WRITTEN = true ∧ u.sameBut [.fuses, .freeCtr, .regs, .wire, .host, .pba] w)))
      ∧ (isCmd 0x41 r = true →
        let region := leAt r 16 1
        let off := leAt r 20 4
        let n := leAt r 32 4
        let badArg := 4 ≤ region ∨ regionSize region < off + n ∨ (u.mode ≠ moRECOVERY ∧ u.regionInUse region = true)
        let at_ := regionAddr region + off
        let data := u.hostRead (leAt r 24 8) n
        let k := regionMark region
        let outside := fun (w : State) => ∀ a, (a < at_ ∨ at_ + n ≤ a) → tblGet 0xFF#8 w.flash a = tblGet 0xFF#8 u.flash a
        (badArg → exec (.flashWrite path) s = .next (u.mbDone b mBADARG))
        ∧ (¬ badArg → u.flashWindow = false → exec (.flashWrite path) s = .next temp)
        ∧ (¬ badArg → u.flashWindow = true → ∀ i, u.stopsAt at_ n = some i → ∃ w : State,
          exec (.flashWrite path) s = .next (w.mbDone b mTEMP) ∧ w.evt aThm evTHM_WINDOW_REFUSED = true
          ∧ w.flashRead at_ (256 * (i + 1) - at_ % 256) = data.take (256 * (i + 1) - at_ % 256) ∧ outside w ∧ w.sec = u.sec)
        ∧ (¬ badArg → u.flashWindow = true → u.stopsAt at_ n = none → ∃ w : State,
          (Config.flashOk u.freeCtr = false → exec (.flashWrite path) s = .next (w.mbDone b mFLASH) ∧ w.sec = u.sec ∧ outside w)
          ∧ (Config.flashOk u.freeCtr = true → w.flashRead at_ n = data
            ∧ (ctlBad u.sec.record k.1 k.2 = false ∨ u.sec.ctrl = [] → exec (.flashWrite path) s = .next (w.mbDone b mOK)
              ∧ w.sec = u.sec ∧ outside w)
            ∧ (ctlBad u.sec.record k.1 k.2 = true → u.sec.ctrl ≠ [] →
              exec (.flashWrite path) s = .next (w.mbDone b (if Config.flashOk (u.freeCtr + 1) then mOK else mFLASH))
              ∧ (Config.flashOk (u.freeCtr + 1) = true → took w ∧ ctlBad w.sec.ctrl k.1 k.2 = false)
              ∧ (Config.flashOk (u.freeCtr + 1) = false → w.sec = u.sec)))
          ∧ u.sameBut [.flash, .freeCtr, .sec] w))
      ∧ (isCmd 9 r = true →
        (u.flashWindow = false → exec (.settingsCommit path) s = .next temp)
        ∧ (u.flashWindow = true → u.blobUsable slot = false → exec (.settingsCommit path) s = .next (u.mbDone b mSCHEMA))
        ∧ (u.flashWindow = true → u.blobUsable slot = true → ∃ w : State,
          (Config.flashOk u.freeCtr = true → exec (.settingsCommit path) s = .next (w.mbDone b mOK) ∧ took w
            ∧ ctlCurrent w.sec.ctrl = slot ∧ ctlBad w.sec.ctrl 9 slot = false)
          ∧ (Config.flashOk u.freeCtr = false → exec (.settingsCommit path) s = .next (w.mbDone b mFLASH) ∧ w.sec = u.sec)
          ∧ u.sameBut [.sec, .flash, .freeCtr] w))
      ∧ (isCmd 0x42 r = true →
        (u.flashWindow = false → exec (.provision path) s = .next temp)
        ∧ (u.flashWindow = true → Config.fuseOk u.freeCtr = false → ∃ w : State, exec (.provision path) s = .next (w.mbDone b mFUSE)
          ∧ w.fuses.provisioned = u.fuses.provisioned ∧ w.sec = u.sec ∧ w.flash = u.flash)
        ∧ (u.flashWindow = true → Config.fuseOk u.freeCtr = true → ∃ (w : State) (n : Nat), exec (.provision path) s = .next (w.mbDone b n)
          ∧ w.fuses.provisioned = true ∧ w.evt aSec evSEC_FUSE_WRITTEN = true
          ∧ ((n = mOK ∧ w.sec.key = slice r 16 32 ∧ w.sec.ctrLast = 65536 ∧ ctlKeyGen w.sec.ctrl = 0) ∨ (n = mFLASH ∧ w.sec.key = u.sec.key))))

/-- TENANT_ASSIGN, LINK_FENCE, UNFENCE and CURTAIN after their checks (R252, R341, R342): a tenant goes only to a partition
that has none, once its key is at every site, and waits for the Understudies that mirror one; a key that differs from that of
another partition with the tenant is refused; a fence disables the named ports and locks them, until it is released; a curtain of a wrong kind or class is refused, and every
named link that does not refuse it sends one with its tenant's next counter. Where the manual is open it follows logs 41, 50
and 53. -/
def Obligations.TenantsFencesAndCurtainOrders : Prop :=
  ∀ (path : Path) (s : State),
    let b := onBoard path
    let r := s.record b
    let u := (s.checks b).1
    (∀ x, s.sec.assign = some x → s.mbOrder.head? = some b → isCmd 8 r = true →
      (s.keyMirrored x.2 = false → exec (.tenantAssign path) s = .next s)
      ∧ (s.keyMirrored x.2 = true → exec (.tenantAssign path) s = .next
        ((({ s with sec := { s.sec with assign := none } }).setPart x.1 ⟨1, x.2⟩).mbDone b mOK)))
    ∧ (s.mbOrder.head? = some b → (s.checks b).2 = mOK →
      (isCmd 8 r = true → s.sec.assign = none →
        let p := leAt r 16 1
        let t := leAt r 18 2
        let key := u.unwrap labelCurt (recCtr r) (slice r 20 32)
        let ends := fun (n : Nat) => exec (.tenantAssign path) s = .next (u.mbDone b n)
        (4 ≤ p ∨ t = 0 ∨ t = 0xFFFF → ends mBADARG)
        ∧ (p < 4 → t ≠ 0 → t ≠ 0xFFFF →
          ((u.part p).st = 2 → ends mBUSY) ∧ ((u.part p).st = 1 ∨ (u.part p).st = 3 → ends mASSIGNED)
          ∧ ((u.part p).st = 0 → u.tenantElsewhere p t = true → tblGet [] (u.site 0).keys t ≠ key → ends mBADARG)
          ∧ ((u.part p).st = 0 → (u.tenantElsewhere p t = false ∨ tblGet [] (u.site 0).keys t = key) →
            ((∀ k, k < 8 → (u.site k).mirrored = false) → u.keyMirrored t = true → ∃ w : State,
              exec (.tenantAssign path) s = .next (w.mbDone b mOK) ∧ w.part p = ⟨1, t⟩
              ∧ (∀ k, k < 8 → tblGet [] (w.site k).keys t = key) ∧ (∀ q, q ≠ p → w.part q = u.part q) ∧ u.sameBut [.parts, .sites] w)
            ∧ ((∃ k, k < 8 ∧ (u.site k).mirrored = true) → ∃ w : State, exec (.tenantAssign path) s = .next w
              ∧ w.sec = { u.sec with assign := some (p, t) } ∧ w.mbOrder = u.mbOrder ∧ w.keyMirrored t = false
              ∧ (∀ k, k < 8 → (u.site k).mirrored = true → (WtItem.key t key, (WtItem.key t key).segments) ∈ (w.site k).wt)
              ∧ (∀ k, k < 8 → (u.site k).mirrored = false → tblGet [] (w.site k).keys t = key) ∧ u.sameBut [.sec, .sites] w))))
      ∧ (isCmd 6 r = true → bit (leAt r 24 1) 0 = false → ∃ w : State, exec (.linkFence path) s = .next (w.mbDone b mOK)
        ∧ (∀ port, port < 64 → bit (leAt r 16 8) port = true → w.portEn port = false ∧ port ∈ w.sec.fenced)
        ∧ ∀ port, port ∈ u.sec.fenced → port ∈ w.sec.fenced)
      ∧ (isCmd 6 r = true → bit (leAt r 24 1) 0 = true → ∃ w : State, exec (.unfence path) s = .next (w.mbDone b mOK)
        ∧ (∀ port, port < 64 → (port ∈ w.sec.fenced ↔ port ∈ u.sec.fenced ∧ bit (leAt r 16 8) port = false)) ∧ u.sameBut [.sec] w)
      ∧ (isCmd 5 r = true →
        let kind := leAt r 32 1
        let tcm := leAt r 33 1
        let pm := leAt r 34 1
        let t := leAt r 36 2
        let ls := u.namedLinks (leAt r 16 8) (leAt r 24 8)
        let wrong := kind = 0 ∨ 4 < kind ∨ bit tcm 0 = true ∨ bit tcm 7 = true ∨ 15 < pm
        (wrong → exec (.curtain path) s = .next (u.mbDone b mBADARG))
        ∧ (¬ wrong → ∃ w : State,
          exec (.curtain path) s = .next (w.mbDone b (if ls.any (fun l => u.curtRefused l kind t) then mREFUSED else mOK))
          ∧ (∀ l ∈ ls, u.curtRefused l kind t = false → tblGet 0 (w.link l).ctrTx t = tblGet 0 (u.link l).ctrTx t + 1)
          ∧ (∀ l, (l ∉ ls ∨ u.curtRefused l kind t = true) → w.link l = u.link l) ∧ u.sameBut [.links, .sites, .wire] w)))

/-- TEST_UNLOCK, GET_CHALLENGE, CHALLENGE_EXPIRY, LOCKOUT_END, TAP_INSTRUCTION, HELD_WRITE, MSI_X_VECTOR_UNMASK and
UCIE_RETRAIN_COMPLETE (R18, R324, R332, R345, R374): a test unlock needs the signed challenge, and leaves all memory and keys
wiped and every port disabled; until then the test port runs its four public instructions only, and then a loopback leaves its
result in the wrapper of the die it tests, where a wrapper access reads it; a record held for the window is written once it
opens; a vector that is unmasked sends its pending message; a ring pair that has retrained is in service again, and what was
held for it goes on. Where the manual is open it follows logs 1, 18, 46, 50 and 84. -/
def Obligations.TestAccessAndHeldWork : Prop :=
  (∀ (path : Path) (s : State),
    let b := onBoard path
    let r := s.record b
    let u := (s.checks b).1
    s.mbOrder.head? = some b → (s.checks b).2 = mOK →
      (isCmd 7 r = true →
        let signed := leAt r 112 1 = 1 ∧ u.sec.challenge ≠ [] ∧ sha384 Config.testKey = u.fuses.testHash
          ∧ ecdsaOk Config.testKey (slice r 16 96) (sha384 (u.sec.challenge ++ leBytes 4 u.serialNo ++ slice r 112 1)) = true
        (¬ signed → exec (.testUnlock path) s = .next (u.mbDone b mBADARG))
        ∧ (signed → ∃ w : State, exec (.testUnlock path) s = .next (w.mbDone b mOK) ∧ w.sec.unlocked = true ∧ w.sec.key = []
          ∧ w.mem = [] ∧ w.ecc = [] ∧ (∀ port, port < 64 → w.portEn port = false) ∧ (∀ k, k < 8 → (w.site k).keys = [])
          ∧ w.evt aSec evSEC_TEST_UNLOCK = true))
      ∧ (isCmd 0x40 r = true → ∃ w : State, exec (.getChallenge path) s = .next (w.mbDone b mOK) ∧ w.sec.challenge.length = 32
        ∧ (w.mb b).rsp = padTo 128 w.sec.challenge ∧ u.sameBut [.sec, .freeCtr, .mbHost, .mbBoard] w))
  ∧ ∀ s : State,
    exec .challengeExpiry s = .next { s with sec := { s.sec with challenge := [] } }
    ∧ exec .lockoutEnd s = .next { s with sec := { s.sec with lockout := false } }
    ∧ (∀ (die : Fin 16) (i : Tap),
      (i ∈ [Tap.bypass, .idcode, .samplePreload, .extest] → exec (.tapInstruction die i) s = .next { s with wire := s.wire ++ [.tap die i] })
      ∧ (s.sec.unlocked = false → i ∉ [Tap.bypass, .idcode, .samplePreload, .extest] →
        exec (.tapInstruction die i) s = .next { s with wire := s.wire ++ [.tap die .bypass] })
      ∧ (s.sec.unlocked = true →
        (∀ c, i = .other c → exec (.tapInstruction die i) s = .next { s with wire := s.wire ++ [.tap die i] })
        ∧ (∀ b l, i = .wrapper b l → exec (.tapInstruction die i) s = .next { s with
          wire := s.wire ++ [.tap die i, .tapResult (tapDie die b) (tblGet 0 s.sec.loops (loopKey (tapDie die b) l))] })
        ∧ ∀ b l, i = .loopback b l → ∃ t n, exec (.tapInstruction die i) s = .next t ∧ t.wire = s.wire ++ [.tap die i]
          ∧ t.sec = { s.sec with loops := tblSet 0 s.sec.loops (loopKey (tapDie die b) l) n } ∧ s.sameBut [.wire, .sec, .freeCtr] t))
    ∧ (s.sec.held = none ∨ s.flashWindow = false → exec .heldWrite s = .next s)
    ∧ (∀ r, s.sec.held = some r → s.flashWindow = true → ∃ t, exec .heldWrite s = .next t ∧ s.sameBut [.sec, .flash, .freeCtr] t
      ∧ (Config.flashOk s.freeCtr = true → t.sec.held = none ∧ t.sec.copy = 1 - s.sec.copy
        ∧ t.sec.ctrl = putAt r 4 (leBytes 4 (ctlGen s.sec.ctrl + 1)))
      ∧ (Config.flashOk s.freeCtr = false → t.sec = s.sec))
    ∧ (∀ vec : Fin 2048, s.pwr.inReset = false → 1 ≤ s.pwr.step → ∃ t, exec (.msiXVectorUnmask vec) s = .next t
      ∧ rb (t.reg (aMsix + 16 * vec.1 + 12)) 0 = false
      ∧ (vec.1 ∈ s.pba → t.wire = s.wire ++ [.msix vec] ∧ t.pba = s.pba.filter (fun x => x != vec.1))
      ∧ (vec.1 ∉ s.pba → t.wire = s.wire ∧ t.pba = s.pba) ∧ s.sameBut [.regs, .wire, .pba] t)
    ∧ (∀ (ring : Bool) (k : Fin 8),
      let x := if ring then k.1 else 8 + k.1
      (x ∉ s.pwr.retraining ∨ s.keptDown x = true → exec (.ucieRetrainComplete ring k) s = .next s)
      ∧ (x ∈ s.pwr.retraining → s.keptDown x = false →
        let up := { s with pwr := { s.pwr with retraining := s.pwr.retraining.filter (fun y => y != x) } }
        exec (.ucieRetrainComplete ring k) s = .next up.releaseHeld ∧ up.releaseHeld.pwr = up.pwr
        ∧ ((∀ p, p < 4 → s.relayOf p = []) → s.chans = [] → up.releaseHeld = up)))

/-- GET_VERSION, GET_CAPABILITIES, NEGOTIATE_ALGORITHMS, GET_DIGESTS, GET_CERTIFICATE, CHALLENGE and GET_MEASUREMENTS (R346):
while the prompter runs, each request is answered in its order, version first, then capabilities, then algorithms, and before
its turn with ERROR; only P-384 with SHA-384 is settled on; slot 0 alone has a chain; measurements name the five blocks. Where
the manual is open it follows log 56. -/
def Obligations.AttestationAnswersInOrder : Prop :=
  ∀ (s : State),
    let replies := fun (n : Nat) (a : SpdmRsp) => Host.Outcome.next { s with sec := { s.sec with spdm := n }, wire := s.wire ++ [.spdm a] }
    let answer := fun (a : SpdmRsp) => Host.Outcome.next { s with wire := s.wire ++ [.spdm a] }
    s.prompterUp = true →
      exec .getVersion s = replies 1 (.version 1 2)
      ∧ (1 ≤ s.sec.spdm → exec .getCapabilities s = replies 2 (.capabilities true true true))
      ∧ (s.sec.spdm < 1 → exec .getCapabilities s = answer .error)
      ∧ (2 ≤ s.sec.spdm → exec (.negotiateAlgorithms true true) s = replies 3 (.algorithms true true))
      ∧ (∀ a c, s.sec.spdm < 2 ∨ (a && c) = false → exec (.negotiateAlgorithms a c) s = answer .error)
      ∧ (s.sec.spdm < 3 → exec .getDigests s = answer .error ∧ (∀ a o n, exec (.getCertificate a o n) s = answer .error)
        ∧ (∀ a n, exec (.challenge a n) s = answer .error) ∧ ∀ i g n, exec (.getMeasurements i g n) s = answer .error)
      ∧ (3 ≤ s.sec.spdm →
        exec .getDigests s = answer (.digests 1 (sha384 s.certChain))
        ∧ (∀ o n, o ≤ s.certChain.length → exec (.getCertificate 0 o n) s = answer (.certificate 0 (slice s.certChain o n)
          (s.certChain.length - o - (slice s.certChain o n).length)))
        ∧ (∀ a o n, a ≠ 0 ∨ s.certChain.length < o → exec (.getCertificate a o n) s = answer .error)
        ∧ (∀ n, ∃ t own sig, exec (.challenge 0 n) s = .next t ∧ own.length = 32 ∧ sig.length = 96
          ∧ t.wire = s.wire ++ [.spdm (.challengeAuth 0 (sha384 s.certChain) own sig)] ∧ s.sameBut [.wire, .freeCtr] t)
        ∧ (∀ a n, a ≠ 0 → exec (.challenge a n) s = answer .error)
        ∧ ∀ i g n,
          (i ≤ 5 ∨ i = 0xFF → ∃ t sig, exec (.getMeasurements i g n) s = .next t ∧ sig.length = (if g then 96 else 0)
            ∧ t.wire = s.wire ++ [.spdm (.measurements (if i = 0 then [1, 2, 3, 4, 5].map (fun j => (j, []))
              else if i = 0xFF then [1, 2, 3, 4, 5].map (fun j => (j, s.measurement j)) else [(i, s.measurement i)]) sig)]
            ∧ s.sameBut [.wire, .freeCtr] t)
          ∧ (5 < i → i ≠ 0xFF → exec (.getMeasurements i g n) s = answer .error))

/-! ## Bring-up, clocks and registers (ch. 1, 11, 13) -/

/-- POWER_ON, PERST_N_DEASSERT and STEP_TIMEOUT (R313, R314, R319, R333): the device boots when nothing keeps it in reset any
more. A prompter ROM that fails leaves MODE = HELD; no valid control record, or no valid firmware slot, leaves RECOVERY; a die
with a wrong IDENT leaves HELD, and every such die is logged; otherwise the active slot, or the other when it fails, is booted,
step 3 waits for the chiplets, and with them settled the device comes to NORMAL or RESTRICTED with BOOT_DONE. The step under
way that overruns its budget records itself in BOOT_STAT and fails what had not finished; from step 3 on the sequence goes on.
Where the manual is open it follows log 54. -/
def Obligations.BringUpEndsInItsMode : Prop :=
  let booted := fun (t : State) => t.pwr.step = 8 ∧ t.pwr.boot = none ∧ t.pwr.inReset = false
    ∧ (t.mode = moNORMAL ∨ t.mode = moRESTRICTED) ∧ t.evt aDev evDEV_BOOT_DONE = true
  (∀ (env : BootEnv) (s : State),
    ∀ x ∈ [(Instr.powerOn env, { s.pwr with pwrgd := true }), (.perstNDeassert env, { s.pwr with perstN := true })],
      let u := s.setPwr x.2
      let failed := fun (t : State) (mode step code : Nat) => t.mode = mode ∧ t.fld (aDev + rDEV_BOOT_STAT) 27 24 = step
        ∧ t.fld (aDev + rDEV_BOOT_STAT) 23 16 = code ∧ t.evt aDev evDEV_RECOVERY = true ∧ t.pwr.inReset = false ∧ t.pwr.boot = none
      (u.mayBoot = false → exec x.1 s = .next u)
      ∧ (u.mayBoot = true → env.hang = some 0 → exec x.1 s = .next (u.setPwr { u.pwr with boot := some (env, false) }))
      ∧ (u.mayBoot = true → env.hang = none → s.pwr.step = 0 → s.sec.ctrl = [] → s.sec.held = none → s.sec.fw = [] →
        ∃ t, exec x.1 s = .next t
        ∧ (env.romOk = false → failed t moHELD 1 fcROM)
        ∧ (env.romOk = true → s.bootRecord = none → failed t moRECOVERY 1 fcNONE)
        ∧ ∀ r c, env.romOk = true → s.bootRecord = some (r, c) →
          (s.imageOk 0 = false → s.imageOk 1 = false → failed t moRECOVERY 2 fcNONE)
          ∧ (s.imageOk 0 = true ∨ s.imageOk 1 = true →
            ((∃ d, d < 16 ∧ s.identOk d = false) → failed t moHELD 3 fcIDENT
              ∧ ∀ d, d < 16 → s.identOk d = false →
                .logged (.identFail (bits (tblGet 0 s.fuses.ident d) 35 32) (bits (tblGet 0 s.fuses.ident d) 38 36)) ∈ t.wire)
            ∧ (s.imageOk (ctlActive r) = false → t.sec.fwSlot = 1 - ctlActive r)
            ∧ (s.imageOk (ctlActive r) = true → ctlBad r 8 (ctlActive r) = false → t.sec.fwSlot = ctlActive r)
            ∧ ((∀ d, d < 16 → s.identOk d = true) →
              ((∀ k, k < 8 → 2 ≤ (s.site k).status ∨ (s.part (k / 2)).st = 3) → booted t)
              ∧ (env.partFail = [] → env.siteFail = [] → (∃ k, k < 8 ∧ (s.site k).status < 2 ∧ (s.part (k / 2)).st ≠ 3) →
                t.exchangeOpen = true ∧ t.pwr.inReset = false)))))
  ∧ ∀ (step : Nat) (ps ks : List Nat) (s : State),
    (s.pwr.boot = none → exec (.stepTimeout step ps ks) s = .next s)
    ∧ ∀ b, s.pwr.boot = some b →
      (s.pwr.inReset = true → step = 0 →
        exec (.stepTimeout step ps ks) s = .next (s.setPwr { s.pwr with pllHeld := [0], boot := none }))
      ∧ ((s.pwr.inReset = true ∧ step ≠ 0) ∨ (s.pwr.inReset = false ∧ step ≠ s.pwr.step + 1) →
        exec (.stepTimeout step ps ks) s = .next s)
      ∧ (s.pwr.inReset = false → step = s.pwr.step + 1 → step ≤ 8 → (step = 3 → b.2 = true) →
        ∃ t, exec (.stepTimeout step ps ks) s = .next t
        ∧ (step = 1 ∨ step = 2 → t.fld (aDev + rDEV_BOOT_STAT) 27 24 = step ∧ t.fld (aDev + rDEV_BOOT_STAT) 23 16 = fcTIMEOUT
          ∧ t.pwr.boot = none ∧ t.mode = (if step = 1 then moHELD else moRECOVERY))
        ∧ (3 ≤ step → booted t)
        ∧ (step = 3 → ∀ k, k < 8 → k ∈ ks ∨ ((s.site k).status < 2 ∧ (s.part (k / 2)).st ≠ 3) → (t.site k).status = 3)
        ∧ (3 ≤ step → step ≤ 6 → ∀ p ∈ ps, (t.part (p % 4)).st = 3)
        ∧ (7 ≤ step → ∀ p, p < 4 → t.part p = s.part p))

/-- CHIPLET_DESCRIPTOR, SELECT_ECHO and CHIPLET_DESCRIPTOR_TIMEOUT (R319 to R322): while step 3 waits for a site it takes a
descriptor; the second that fails its CHECK, one with no speed or no port, one with a wrong licence, a wrong echo or no
descriptor in time make the site FAILED; a wrong identity makes the part a reject whatever else the descriptor holds; a good
one is answered with its SELECT record, and the right echo puts the selection into force; with the last site settled bring-up
goes on. Where the manual is open it follows logs 1, 51, 54 and 55. -/
def Obligations.ChipletsAreSelected : Prop :=
  ∀ (k : Fin 8) (s : State),
    let others := ∃ j, j < 8 ∧ j ≠ k.1 ∧ (s.site j).status < 2 ∧ (s.part (j / 2)).st ≠ 3
    let failed := fun (t : State) => (t.site k).status = 3 ∧ (others → t.pwr = s.pwr ∧ t.sec = s.sec)
    (∀ (d lic : List Byte),
      let waits := s.exchangeOpen = true ∧ (s.site k).status = 0 ∧ (s.part (k.1 / 2)).st ≠ 3
      let good := d.length = 32 ∧ leAt d 28 4 = crc32 (d.take 28)
      let fails := ∃ t, exec (.chipletDescriptor k d lic) s = .next t ∧ failed t
      (¬ waits → exec (.chipletDescriptor k d lic) s = .next s)
      ∧ (waits → ¬ good →
        ((s.site k).checkFails = 1 → fails)
        ∧ ((s.site k).checkFails ≠ 1 → exec (.chipletDescriptor k d lic) s = .next
          (s.modSite k (fun x => { x with checkFails := x.checkFails + 1 }))))
      ∧ (waits → good →
        (s.descIdent k d = false → ∃ t, exec (.chipletDescriptor k d lic) s = .next t ∧ t.mode = moHELD
          ∧ t.fld (aDev + rDEV_BOOT_STAT) 23 16 = fcIDENT ∧ t.pwr.boot = none)
        ∧ (leAt d 3 1 = 0 ∨ bits (leAt d 5 1) 2 0 = 0 ∨ leAt d 4 1 < 4 → descRefused d = true)
        ∧ (s.descIdent k d = true → descRefused d = true → fails)
        ∧ (s.descIdent k d = true → descRefused d = false → s.licenceOk d lic = false →
          ∃ t, exec (.chipletDescriptor k d lic) s = .next t ∧ failed t ∧ .logged (.chipletLicence k) ∈ t.wire
            ∧ (others → t.fld (aDev + rDEV_BOOT_STAT) 23 16 = fcLICENCE))
        ∧ (s.descIdent k d = true → descRefused d = false → s.licenceOk d lic = true → ∃ sel : List Byte,
          exec (.chipletDescriptor k d lic) s = .next { s.modSite k (fun x => { x with status := 1, sel := sel, desc := d }) with
            wire := s.wire ++ [.select k sel] }
          ∧ sel.length = 12 ∧ leAt sel 1 1 = min (min (leAt d 3 1) (leAt d 9 1)) 8 ∧ leAt sel 3 1 = bits (leAt d 5 1) 2 0
          ∧ slice sel 4 2 = slice d 6 2 ∧ leAt sel 6 1 = min (leAt d 8 1) 0x21 ∧ slice sel 8 4 = leBytes 4 (crc32 (sel.take 8))
          ∧ leAt sel 2 1 = (if 16 ≤ leAt d 4 1 then 0 else if 12 ≤ leAt d 4 1 then 1 else if 8 ≤ leAt d 4 1 then 2 else 3))))
    ∧ (∀ r : List Byte,
      ((s.site k).status ≠ 1 → exec (.selectEcho k r) s = .next s)
      ∧ ((s.site k).status = 1 → r ≠ (s.site k).sel → ∃ t, exec (.selectEcho k r) s = .next t ∧ (t.site k).status = 3)
      ∧ ((s.site k).status = 1 → r = (s.site k).sel → ∃ t, exec (.selectEcho k r) s = .next t ∧ (t.site k).status = 2
        ∧ (s.pwr.boot = none ∨ (s.exchangeOpen = true ∧ others) →
          t.site k = { s.site k with status := 2 } ∧ s.sameBut [.sites] t)
        ∧ (∀ env, s.exchangeOpen = true → s.pwr.boot = some (env, true) → env.hang = none → ¬ others →
          t.pwr.step = 8 ∧ (t.mode = moNORMAL ∨ t.mode = moRESTRICTED) ∧ t.evt aDev evDEV_BOOT_DONE = true)))
    ∧ (s.exchangeOpen = true → (s.site k).status = 0 → ∃ t, exec (.chipletDescriptorTimeout k) s = .next t ∧ failed t)
    ∧ (s.exchangeOpen = false ∨ (s.site k).status ≠ 0 → exec (.chipletDescriptorTimeout k) s = .next s)

/-- PWRGD_FALL, PERST_N, THERMAL_TRIP, REF_LOST, REF_RESTORED, CLOCK_FATAL, PLL_UNLOCK, D2D_PLL_UNLOCK and SYNTH_UNLOCK (R31,
R284, R313, R327): a fall of PWRGD, PERST# and a thermal trip leave everything but fuses, flash and what lies outside as after
reset; a lost reference puts a locked time-stamp unit into HOLDOVER; a fatal clock fault holds all partitions, a core PLL its
own, and the interface PLL of a die retrains its modules. Where the manual is open it follows logs 1, 9 and 52. -/
def Obligations.ClockAndResetPinsAct : Prop :=
  ∀ s : State,
    let outside := [Field.freeCtr, .wire, .host, .hostBad, .flash, .fuses, .pwr]
    let asReset := fun (t : State) => (∀ f : Field, f ∉ outside → f.same State.reset t) ∧ t.fuses = s.fuses ∧ t.flash = s.flash
      ∧ t.hostBad = s.hostBad ∧ t.pending = s.pending
    (∃ t, exec .pwrgdFall s = .next t ∧ asReset t ∧ t.pwr = { PwrSt.init with pwrgd := false, perstN := s.pwr.perstN, trip := false, cause := 0 })
    ∧ (s.pwr.pwrgd = false → exec .perstN s = .next (s.setPwr { s.pwr with perstN := false }))
    ∧ (s.pwr.pwrgd = true → ∃ t, exec .perstN s = .next t ∧ asReset t
      ∧ t.pwr = { PwrSt.init with pwrgd := true, perstN := false, trip := s.pwr.trip, cause := 1 })
    ∧ (s.pwr.trip = true ∨ s.pwr.pwrgd = false → exec .thermalTrip s = .next s)
    ∧ (s.pwr.trip = false → s.pwr.pwrgd = true → ∃ t, exec .thermalTrip s = .next t ∧ asReset t ∧ t.wire = s.wire ++ [.thermtrip]
      ∧ t.host = s.host ∧ t.pwr = { PwrSt.init with pwrgd := true, perstN := s.pwr.perstN, trip := true, cause := s.pwr.cause })
    ∧ (s.prompterUp = false → exec .refLost s = .next s ∧ exec .refRestored s = .next s ∧ exec .clockFatal s = .next s
      ∧ (∀ p, exec (.pllUnlock p) s = .next s) ∧ (∀ d, exec (.d2dPllUnlock d) s = .next s) ∧ ∀ k, exec (.synthUnlock k) s = .next s)
    ∧ (s.prompterUp = true →
      (s.pwr.refLost = true → exec .refLost s = .next s)
      ∧ (s.pwr.refLost = false → ∃ t, exec .refLost s = .next t ∧ t.pwr = { s.pwr with refLost := true } ∧ .logged .refLost ∈ t.wire
        ∧ t.tsu.state = (if s.tsu.state = tLOCKED then tHOLDOVER else s.tsu.state) ∧ t.tsu.gts = s.tsu.gts
        ∧ (s.tsu.state = tLOCKED → t.tsu.holdAt = s.ctrlClk ∧ t.evt aTsu evTSU_HOLDOVER = true)
        ∧ s.sameBut [.pwr, .wire, .tsu, .regs, .host, .pba] t)
      ∧ (s.pwr.refLost = false ∨ s.pwr.clockFatal = true → exec .refRestored s = .next s ∧ exec .clockFatal s = .next s)
      ∧ (s.pwr.refLost = true → s.pwr.clockFatal = false →
        exec .refRestored s = .next { s with pwr := { s.pwr with refLost := false }, wire := s.wire ++ [.logged .refRestored] }
        ∧ ∃ t, exec .clockFatal s = .next t ∧ t.pwr.clockFatal = true ∧ .logged .clockFatal ∈ t.wire
          ∧ ∀ p, p < 4 → p ∈ t.pwr.pllHeld ∧ (t.part p).st = (if (s.part p).st = 3 then 3 else 2))
      ∧ (∀ p : Fin 4, p.1 ∈ s.pwr.pllHeld → exec (.pllUnlock p) s = .next s)
      ∧ (0 ∉ s.pwr.pllHeld → ∃ t, exec (.pllUnlock 0) s = .next t ∧ asReset t ∧ .logged (.pllUnlock 0) ∈ t.wire
        ∧ t.pwr = { PwrSt.init with pwrgd := s.pwr.pwrgd, perstN := s.pwr.perstN, trip := s.pwr.trip, cause := s.pwr.cause, pllHeld := [0] })
      ∧ (∀ p : Fin 4, p ≠ 0 → p.1 ∉ s.pwr.pllHeld → ∃ t, exec (.pllUnlock p) s = .next t ∧ t.pwr.pllHeld = s.pwr.pllHeld ++ [p.1]
        ∧ (∀ x ∈ [8 + 2 * p.1, 9 + 2 * p.1] ++ ringsOfDie p, x ∈ t.pwr.retraining) ∧ .logged (.pllUnlock p) ∈ t.wire
        ∧ (t.part p).st = (if (s.part p).st = 3 then 3 else 2) ∧ ∀ q, q ≠ p.1 → t.part q = s.part q)
      ∧ (∀ d : Fin 12, ∃ l, exec (.d2dPllUnlock d) s = .next (s.setPwr { s.pwr with retraining := l })
        ∧ ∀ x, x ∈ l ↔ x ∈ s.pwr.retraining ∨ x ∈ modulesOf d)
      ∧ ∀ k : Fin 8, ∃ t l, exec (.synthUnlock k) s = .next t ∧ t.pwr = { s.pwr with synthBad := l } ∧ (∀ x, x ∈ l ↔ x ∈ s.pwr.synthBad ∨ x = k.1)
        ∧ ((∀ port ∈ portsOf k, ∀ l ∈ s.linksOf port, (s.link l).state = lDOWN) → t = s.setPwr { s.pwr with synthBad := l }))

/-- REGISTER_WRITE and RC_READ (R13, R15, R364, R376): a host write of 4 aligned bytes to a place that answers writes the RW
fields, the RWL fields while the page is not locked, and clears the W1C bits written 1, and no other register; a register with
a command of its own does that command, and one that is fixed while its unit runs ignores the write; 8 aligned bytes are two
such writes. A read answers the register's value and clears its RC fields; any other access is counted in BAD_ACCESS and
answers zeros; the board's paths take 4-byte accesses of the prompter's pages only, with a mailbox of their own. Where the
manual is open it follows logs 50 and 85. -/
def Obligations.AccessesActByTheirCodes : Prop :=
  (∀ (addr : Nat) (data : List Byte) (s : State), data.length = 4 → addr % 4 = 0 →
    let v := BitVec.ofNat 32 (leOf data)
    let out := exec (.registerWrite .host addr data) s
    (s.placeOpen true (s.place addr) = false → out = .next s)
    ∧ (s.placeOpen true (s.place addr) = true →
      (∀ p o, s.place addr = .obj p o true →
        out = .next (s.modSync p (fun y => { y with metas := tblSet 0 y.metas o (v.toNat % 2 ^ 30) })))
      ∧ (∀ p o, s.place addr = .obj p o false → out = exec (.hostSet (Fin.ofNat 4 p) (Fin.ofNat 65536 o) v) s)
      ∧ (∀ w, s.place addr = .msix w →
        (w % 4 ≠ 3 → out = .next (s.setReg (aMsix + 4 * w) v))
        ∧ (w % 4 = 3 → rb v 0 = true → out = .next (s.setFld (aMsix + 4 * w) 0 0 1))
        ∧ (w % 4 = 3 → rb v 0 = false → out = exec (.msiXVectorUnmask (Fin.ofNat 2048 (w / 4))) s))
      ∧ (∀ w, s.place addr = .pba w → out = .next s)
      ∧ ∀ k i off, s.place addr = .page k i off →
        (0x40 ≤ off → (writeActs k off = false
            ∨ (k = .dma ∧ off ∈ [rDMA_RING_BASE_LO, rDMA_RING_BASE_HI, rDMA_RING_SIZE] ∧ (s.chan i).st = hDISABLED)
            ∨ (k = .core ∧ off ∈ [rCORE_QBASE, rCORE_QSIZE] ∧ (s.core i).st = cHALTED)
            ∨ (k = .thm ∧ off = rTHM_DEV_LIMIT ∧ s.pwr.step < 7)) → ∃ t, out = .next t
          ∧ (∀ b, b < 32 → (t.reg (pageBase k i + off)).getLsbD b =
            (if (rowAt k off).w1c.getLsbD b = true ∧ v.getLsbD b = true then false
             else if (rowAt k off).rw.getLsbD b = true ∨ ((rowAt k off).rwl.getLsbD b = true ∧ s.locked (pageBase k i) = false)
               then v.getLsbD b
             else (s.reg (pageBase k i + off)).getLsbD b))
          ∧ (∀ a, a ≠ pageBase k i + off → t.reg a = s.reg a) ∧ s.sameBut [.regs] t)
        ∧ ((k = .dma ∧ off ∈ [rDMA_RING_BASE_LO, rDMA_RING_BASE_HI, rDMA_RING_SIZE] ∧ (s.chan i).st ≠ hDISABLED)
            ∨ (k = .core ∧ off ∈ [rCORE_QBASE, rCORE_QSIZE] ∧ (s.core i).st ≠ cHALTED) → out = .next s)
        ∧ (∀ x ∈ wholeWrites i v, k = x.1 → off = x.2.1 → out = exec x.2.2 s)
        ∧ (∀ x ∈ bitWrites s i, k = x.1 → off = x.2.1 →
          ((∀ y ∈ bitWrites s i, y.1 = k → y.2.1 = off → rb v y.2.2.1 = false) → out = .next s)
          ∧ (rb v x.2.2.1 = true → (∀ y ∈ bitWrites s i, y.1 = k → y.2.1 = off → y.2.2.1 ≠ x.2.2.1 → rb v y.2.2.1 = false) →
            out = exec x.2.2.2 s))
        ∧ (k = .part → off = rPART_RESET_CTL → rf v 11 8 < 12 →
          (rf v 31 30 = 1 → rf v 5 0 < 48 → out = exec (.coreReset (Fin.ofNat 2304 (576 * i + 48 * rf v 11 8 + rf v 5 0))) s)
          ∧ (rf v 31 30 = 2 → out = exec (.clusterReset (Fin.ofNat 48 (12 * i + rf v 11 8))) s)
          ∧ (rf v 31 30 = 0 ∨ rf v 31 30 = 3 → out = .next s))
        ∧ (k = .dev → off = rDEV_CROUTE → out = .next { s with
          croutes := tblSet 0 s.croutes (s.fld (aDev + rDEV_CROUTE_SEL) 5 0) (v &&& 0xFF00003F#32) })
        ∧ (k = .tsu → off = rTSU_ASYM_VAL → out = .next { s with tsu := { s.tsu with
          asym := tblSet 0 s.tsu.asym (s.fld (aTsu + rTSU_ASYM_SEL) 5 0) v.toNat } })
        ∧ (∀ n : Fin 8, k = .oio → off = 0x100 + 0x40 * n.1 + rOIOPORT_CTL →
          let port : Fin 64 := Fin.ofNat 64 (8 * i + n.1)
          (rb v 31 = true → ∃ u w, exec (.portCapWrite port v) s = .next u ∧ exec (.portEnable port) u = .next w
            ∧ out = .next (w.steerHome port))
          ∧ (rb v 31 = false → ∃ u w, exec (.portDisable port) s = .next u ∧ exec (.portCapWrite port v) u = .next w
            ∧ out = .next (w.steerHome port)))
        ∧ (off = rHDR_EVT_EN ∨ off = rHDR_PAGE_CTL → out = exec (.evtEnWrite addr v) s)
        ∧ (off = rHDR_EVT_FORCE → out = exec (.evtForceWrite addr v) s)
        ∧ (off = rHDR_ERR_COUNT_CLR → out = exec (.errCountClr addr v) s)))
  ∧ (∀ (addr : Nat) (data : List Byte) (s : State),
    (data.length = 8 → addr % 8 = 0 → ∃ u, exec (.registerWrite .host addr (data.take 4)) s = .next u
      ∧ exec (.registerWrite .host addr data) s = exec (.registerWrite .host (addr + 4) (data.drop 4)) u)
    ∧ ((data.length ≠ 4 ∨ addr % 4 ≠ 0) → (data.length ≠ 8 ∨ addr % 8 ≠ 0) →
      (s.pageOpen .prompt 0 true = false → exec (.registerWrite .host addr data) s = .next s)
      ∧ (s.pageOpen .prompt 0 true = true → ∃ t, exec (.registerWrite .host addr data) s = .next t
        ∧ t.reg (aPrompt + rPROMPT_BAD_ACCESS) = satAdd (s.reg (aPrompt + rPROMPT_BAD_ACCESS)) 1
        ∧ t.evt aPrompt evPROMPT_ACCESS_BAD = true ∧ s.sameBut [.regs, .wire, .host, .pba, .freeCtr] t))
    ∧ (∀ path : Path, path ≠ .host →
      (data.length ≠ 4 ∨ s.boardReach addr = false → exec (.registerWrite path addr data) s = .next s)
      ∧ (data.length = 4 → s.boardReach addr = true → addr < aMb →
        exec (.registerWrite path addr data) s = exec (.registerWrite .host addr data) s))
    ∧ ∀ path : Path, data.length = 4 → s.pageOpen .cmdmb 0 true = true →
      let b := onBoard path
      (∀ i, i < 64 → addr = aMb + 0x100 + 4 * i → exec (.registerWrite path addr data) s = .next
        (s.modMb b (fun m => { m with buf := m.buf.take (4 * i) ++ leBytes 4 (leOf data) ++ m.buf.drop (4 * i + 4) })))
      ∧ (addr = aMb + rCMDMB_DOORBELL →
        (bit (leOf data) 0 = false ∨ (s.mb b).busy = true → exec (.registerWrite path addr data) s = .next s)
        ∧ (bit (leOf data) 0 = true → (s.mb b).busy = false → s.mbOrder = [] → cmdDefined (leAt (s.mb b).buf 0 1) = true →
          exec (.registerWrite path addr data) s = .next { s.modMb b (fun m => { m with
            busy := true, started := m.buf, fallback := false }) with mbOrder := [b] })))
  ∧ ∀ (addr : Nat) (s : State),
    let tells := fun (a : Nat) => s.wire ++ [Emission.readData (leBytes 4 (s.readAt a).toNat)]
    (addr % 4 = 0 →
      (s.placeOpen false (s.place addr) = false →
        exec (.rcRead .host addr 4) s = .next { s with wire := s.wire ++ [.readData [0, 0, 0, 0]] })
      ∧ ((∀ k i off, s.place addr ≠ .page k i off) → exec (.rcRead .host addr 4) s = .next { s with wire := tells addr })
      ∧ ∀ k i off, s.place addr = .page k i off → s.pageOpen k i false = true →
        (¬ (k = .tsu ∧ off = rTSU_GTS_LO) → ¬ (k = .oio ∧ off ∈ [rOIO_HS_FOREIGN, rOIO_HS_CUE_BAD]) →
          ∃ t, exec (.rcRead .host addr 4) s = .next t ∧ t.wire = tells addr
          ∧ t.reg (pageBase k i + off) = s.reg (pageBase k i + off) &&& ~~~(rowAt k off).rc
          ∧ (∀ a, a ≠ pageBase k i + off → t.reg a = s.reg a) ∧ s.sameBut [.regs, .wire] t)
        ∧ (k = .tsu → off = rTSU_GTS_LO → exec (.rcRead .host addr 4) s = exec (.gtsLoRead 4) s)
        ∧ (k = .oio → off = rOIO_HS_FOREIGN → ∃ t, exec (.rcRead .host addr 4) s = .next t ∧ t.wire = tells addr
          ∧ t.hs (s.hsPort i) = { s.hs (s.hsPort i) with foreign := 0 } ∧ s.sameBut [.ports, .wire] t)
        ∧ (k = .oio → off = rOIO_HS_CUE_BAD → ∃ t, exec (.rcRead .host addr 4) s = .next t ∧ t.wire = tells addr
          ∧ t.hs (s.hsPort i) = { s.hs (s.hsPort i) with cueBad := 0 } ∧ s.sameBut [.ports, .wire] t))
    ∧ (addr % 8 = 0 → ∃ u q, exec (.rcRead .host addr 4) s = .next u ∧ exec (.rcRead .host (addr + 4) 4) u = .next q
      ∧ exec (.rcRead .host addr 8) s = .next { q with
        wire := s.wire ++ [.readData (leBytes 4 (s.readAt addr).toNat ++ leBytes 4 (u.readAt (addr + 4)).toNat)] })
    ∧ (∀ n, 0 < n → n < 4 → addr % 4 + n ≤ 4 → ∃ u, exec (.rcRead .host (addr - addr % 4) 4) s = .next u
      ∧ exec (.rcRead .host addr n) s = .next { u with
        wire := s.wire ++ [.readData (slice (leBytes 4 (s.readAt (addr - addr % 4)).toNat) (addr % 4) n)] })
    ∧ (∀ n, ¬ (n = 4 ∧ addr % 4 = 0) → ¬ (n = 8 ∧ addr % 8 = 0) → ¬ (0 < n ∧ n < 4 ∧ addr % 4 + n ≤ 4) →
      ∃ t w, exec (.rcRead .host addr n) s = .next t ∧ t.wire = w ++ [.readData (List.replicate n 0)]
      ∧ (s.pageOpen .prompt 0 true = true → t.evt aPrompt evPROMPT_ACCESS_BAD = true
        ∧ t.reg (aPrompt + rPROMPT_BAD_ACCESS) = satAdd (s.reg (aPrompt + rPROMPT_BAD_ACCESS)) 1))
    ∧ ∀ (path : Path) (n : Nat), path ≠ .host →
      (n ≠ 4 → exec (.rcRead path addr n) s = .next s)
      ∧ (s.boardReach addr = false → exec (.rcRead path addr 4) s = .next { s with wire := s.wire ++ [.readData [0, 0, 0, 0]] })
      ∧ (s.boardReach addr = true → addr < aMb → exec (.rcRead path addr 4) s = exec (.rcRead .host addr 4) s)
      ∧ (s.boardReach addr = true → aMb ≤ addr → ∃ t, exec (.rcRead path addr 4) s = .next t
        ∧ t.wire = s.wire ++ [.readData (leBytes 4 (s.boardRead addr).toNat)]
        ∧ t.mbBoard = (if addr = aMb + rCMDMB_BAD_TAG then { s.mbBoard with badTag := 0 } else s.mbBoard)
        ∧ s.sameBut [.wire, .mbBoard] t)

/-- GTS_LO_READ, EVT_FORCE_WRITE, EVT_EN_WRITE and ERR_COUNT_CLR (R267, R373, R374, R377): a read of GTS_LO answers the low
word and latches the high one into GTS_HI, and otherwise is a read as any other; EVT_FORCE sets the event bits that the page
has; an enable, of the page, of the fabric events or of a port's link events, is written by its access code, and PAGE_CTL.LOCK
once set stays set; ERR_COUNT_CLR clears the count; a page that does not answer ignores them all. -/
def Obligations.HeaderRegistersAct : Prop :=
  ∀ s : State,
    (s.pageOpen .tsu 0 false = true → ∃ t, exec (.gtsLoRead 4) s = .next t ∧ t.tsu = { s.tsu with hi := s.tsu.gts / 2 ^ 32 }
      ∧ t.wire = s.wire ++ [.readData (leBytes 4 (s.tsu.gts % 2 ^ 32))] ∧ s.sameBut [.tsu, .wire] t)
    ∧ (∀ n, (n ≠ 4 ∨ s.pageOpen .tsu 0 false = false) → exec (.gtsLoRead n) s = exec (.rcRead .host (aTsu + rTSU_GTS_LO) n) s)
    ∧ (∀ (page : Nat) (v : W32) (k : PageKind) (i : Nat), page % 4096 = 0 → s.place page = .page k i 0 →
      (s.pageOpen k i true = false → exec (.evtForceWrite page v) s = .next s ∧ exec (.errCountClr page v) s = .next s)
      ∧ (s.pageOpen k i true = true →
        (v &&& (rowAt k rHDR_EVT_STAT).w1c = 0 → exec (.evtForceWrite page v) s = .next s)
        ∧ (∃ t, exec (.evtForceWrite page v) s = .next t ∧ s.sameBut [.regs, .wire, .host, .pba, .freeCtr] t
          ∧ (∀ b, b < 32 → rb v b = true → rb (rowAt k rHDR_EVT_STAT).w1c b = true → t.evt (pageBase k i) b = true)
          ∧ ∀ b, b < 32 → s.evt (pageBase k i) b = true → t.evt (pageBase k i) b = true)
        ∧ (rb v 0 = false → exec (.errCountClr page v) s = .next s)
        ∧ (rb v 0 = true → exec (.errCountClr page v) s = .next (s.setReg (pageBase k i + rHDR_ERR_COUNT) 0))))
    ∧ ∀ (addr : Nat) (v : W32) (k : PageKind) (i off : Nat), addr % 4 = 0 → s.place addr = .page k i off →
      (s.pageOpen k i true = false → exec (.evtEnWrite addr v) s = .next s)
      ∧ (s.pageOpen k i true = true →
      ((k = .dev ∧ off = rDEV_FAB_EVT_EN) ∨ (k = .oio ∧ 0x300 ≤ off ∧ off < 0x700 ∧ off % 0x80 = rOIOLINK_LNK_EVT_EN) →
        ∃ t, exec (.evtEnWrite addr v) s = .next t ∧ t.reg (pageBase k i + off) = v ∧ s.sameBut [.regs, .wire, .pba] t)
      ∧ (off = rHDR_EVT_EN → ∃ t, exec (.evtEnWrite addr v) s = .next t ∧ s.sameBut [.regs, .wire, .pba] t
        ∧ t.reg (pageBase k i + off) = (rowAt k off).written (s.locked (pageBase k i)) (s.reg (pageBase k i + off)) v)
      ∧ (off = rHDR_PAGE_CTL → ∃ t, exec (.evtEnWrite addr v) s = .next t ∧ s.sameBut [.regs, .wire, .pba] t
        ∧ t.locked (pageBase k i) = (s.locked (pageBase k i) || rb v 29)
        ∧ ∀ b, b < 11 ∨ b = 30 ∨ b = 31 → rb (t.reg (pageBase k i + off)) b = rb v b))

/-! ## The whole block -/

/-- The block takes the commands that wait one by one, in their order: a step runs the first of the queue on the state with
the rest of it. With none waiting it advances one edge of the control clock, which changes nothing but the clocks while the
core clocks stand (the model's choice, log 1). -/
def Obligations.StepRunsTheFrontCommand : Prop :=
  ∀ (c : Instr) (rest : List Instr) (s : State),
    (s.pending = c :: rest → step s = exec c { s with pending := rest })
    ∧ (s.pending = [] → ∃ t, step s = .next t ∧ t.ctrlClk = s.ctrlClk + 1 ∧ t.pending = []
      ∧ (s.clocked = false → t = { s with ctrlClk := s.ctrlClk + 1 })
      ∧ (s.clocked = true → s.tsu.gts / 16000 = (s.tsu.acc + s.tsu.inc) / 2 ^ 40 / 16000 →
        t = { s with ctrlClk := s.ctrlClk + 1, tsu := s.tsu.setAcc (s.tsu.acc + s.tsu.inc) }))

/-- Every command completes on every state, but an ECC write-back of a word that does not exist; and each changes no part of
the state but those that `mayChange` names for it. Whatever it is, no blown fuse bit is lost (R318) and what the device has
sent stays sent. Where the manual is open it follows log 1. -/
def Obligations.EveryCommandCompletesInItsFrame : Prop :=
  ∀ (i : Instr) (s : State), (∀ a, i = .eccWriteback a → addrExists a = true) →
    ∃ t, exec i s = .next t ∧ s.sameBut (mayChange i) t ∧ FuseSt.grows s.fuses t.fuses ∧ (∃ l, t.wire = s.wire ++ l)

/-- Every step keeps the canonical form of all memories, of flash and of the register store, from any state that has it and
not only from those that a run reaches: addresses rise strictly and no entry holds what an unlisted address reads as. Where
the manual is open it follows log 2. -/
def Obligations.EveryStepKeepsCanonicalMemory : Prop :=
  ∀ s t : State, Memory.wf s = true → step s = .next t → Memory.wf t = true

/-- After reset the memories are in canonical form, the queue is empty, every core is HALTED without tickets, every channel
DISABLED, every partition UNASSIGNED, every port and link DOWN, every ring PARKED, the time-stamp unit FREE with GTS 0,
BOOT_STAT.MODE 0, and the registers read their reset values (R68, R169, R234, R267, R372 and the tables of chapter 13). Where
the manual is open it follows logs 2 and 7. -/
def Obligations.ResetLeavesTheSpecsValues : Prop :=
  let s := State.reset
  Memory.wf s = true ∧ s.pending = [] ∧ s.pwr.inReset = true ∧ s.mode = 0
    ∧ (∀ n, (s.core n).st = cHALTED ∧ (s.core n).held = 0 ∧ (s.core n).flight = []) ∧ (∀ n, (s.chan n).st = hDISABLED)
    ∧ (∀ p, (s.part p).st = 0) ∧ (∀ n, (s.port n).st = pDOWN) ∧ (∀ l, (s.link l).state = lDOWN) ∧ (∀ g, (s.ring g).st = gPARKED)
    ∧ s.tsu.state = tFREE ∧ s.tsu.gts = 0 ∧ (∀ p o, s.objVal p o = 0)
    ∧ (∀ p, p < 4 → s.reg (aSyn p + rSYN_WAIT_DEF) = 1000000#32) ∧ (∀ k, k < 8 → s.reg (aOio k + rOIO_CREDIT_TO) = 100#32)
    ∧ (∀ c, c < 48 → s.locked (aClu c) = false) ∧ ∀ a : Nat, s.memByte a = 0

/-- A flit ends with the CRC-64 of its first 248 bytes, most significant byte first (R227), so that what a link sends passes
the check; the route slot and body of a message read back as the message. -/
def Obligations.FlitsAndMessagesReadBack : Prop :=
  (crc64 [0x31, 0x32, 0x33, 0x34, 0x35, 0x36, 0x37, 0x38, 0x39] = 0x6C40DF5F0B497347 ∧ crc64 [] = 0 ∧ crc64 [1] = 0x42F0E1EBA9EA3693)
  ∧ (∀ bs : List Byte, crc64 (bs ++ beBytes 8 (crc64 bs)) = 0)
  ∧ (∀ (h fld : Nat) (pay : List Byte), pay.length ≤ 240 → ∃ b : List Byte, flitBytes h pay fld = b ++ beBytes 8 (crc64 b)
    ∧ b.length = 248 ∧ flitCrcOk (flitBytes h pay fld) = true ∧ flitHdr (flitBytes h pay fld) = h % 2 ^ 32
    ∧ flitField (flitBytes h pay fld) = fld % 2 ^ 32 ∧ slice (flitBytes h pay fld) 4 pay.length = pay)
  ∧ ∀ m : Msg, m.wf = true → m.body.length < 2 ^ 20 → readMsg m.tc (msgBytes m) = m
end

