-- ==== Sys2Proof/Laws/Memory.lean ====
section
/-! SUPPORT. The laws of sparse stores and byte memories: what a read after a write gives, and that every operation keeps
the canonical form. -/

namespace Sys2Proof.Machine

open Sys2Proof

variable {α : Type}

/-! ## Reading after writing -/

theorem tblGet_tblDrop_same (d : α) (t : Tbl α) (k : Nat) : tblGet d (tblDrop k t) k = d := by
  induction t with
  | nil => rfl
  | cons e r ih =>
    obtain ⟨j, v⟩ := e
    by_cases h : j = k
    · simpa [tblDrop, h] using ih
    · simp [tblDrop, h, tblGet, ih]

theorem tblGet_tblDrop_other (d : α) (t : Tbl α) {k j : Nat} (h : j ≠ k) : tblGet d (tblDrop k t) j = tblGet d t j := by
  induction t with
  | nil => rfl
  | cons e r ih =>
    obtain ⟨i, v⟩ := e
    by_cases hi : i = k
    · subst hi
      simpa [tblDrop, tblGet, Ne.symm h] using ih
    · by_cases hj : i = j
      · subst hj
        simp [tblDrop, tblGet, hi]
      · simp [tblDrop, tblGet, hi, hj, ih]

/-- What a store with an entry put in reads as. -/
theorem tblGet_tblIns (d : α) (t : Tbl α) (k j : Nat) (v : α) (h : tblGet d t k = d ∨ j ≠ k)
    (hn : ∀ e ∈ t, e.1 ≠ k) : tblGet d (tblIns k v t) j = if k = j then v else tblGet d t j := by
  induction t with
  | nil => rfl
  | cons e r ih =>
    obtain ⟨i, w⟩ := e
    have hik : i ≠ k := hn (i, w) (by simp)
    by_cases hl : k < i
    · simp [tblIns, hl, tblGet]
    · have hr : ∀ e ∈ r, e.1 ≠ k := fun e he => hn e (by simp [he])
      have hg : tblGet d r k = d ∨ j ≠ k := h.imp (fun h => by simpa [tblGet, hik] using h) id
      by_cases hj : i = j
      · subst hj
        simp [tblIns, hl, tblGet, Ne.symm hik]
      · simp [tblIns, hl, tblGet, hj, ih hg hr]

theorem tblDrop_ne (t : Tbl α) (k : Nat) : ∀ e ∈ tblDrop k t, e.1 ≠ k := by
  induction t with
  | nil => simp [tblDrop]
  | cons e r ih =>
    obtain ⟨j, v⟩ := e
    by_cases h : j = k
    · simpa [tblDrop, h] using ih
    · simpa [tblDrop, h] using ih

variable [DecidableEq α]

/-- A read after a write: the value written at its own key, and every other key as before. -/
theorem tblGet_tblSet (d : α) (t : Tbl α) (k j : Nat) (v : α) :
    tblGet d (tblSet d t k v) j = if k = j then v else tblGet d t j := by
  unfold tblSet
  by_cases hv : v = d
  · by_cases h : k = j
    · subst h
      simp [hv, tblGet_tblDrop_same]
    · simp [hv, h, tblGet_tblDrop_other d t (Ne.symm h)]
  · rw [if_neg hv, tblGet_tblIns d _ k j v (Or.inl (tblGet_tblDrop_same d t k)) (tblDrop_ne t k)]
    by_cases h : k = j
    · simp [h]
    · simp [h, tblGet_tblDrop_other d t (Ne.symm h)]

@[simp] theorem tblGet_tblSet_same (d : α) (t : Tbl α) (k : Nat) (v : α) : tblGet d (tblSet d t k v) k = v := by
  simp [tblGet_tblSet]

theorem tblGet_tblSet_other (d : α) (t : Tbl α) {k j : Nat} (v : α) (h : j ≠ k) :
    tblGet d (tblSet d t k v) j = tblGet d t j := by simp [tblGet_tblSet, Ne.symm h]

/-- A register store whose unlisted values differ by address reads after a write as one with a fixed value does. -/
theorem tblGet_tblSet_at (d : Nat → α) (t : Tbl α) (k j : Nat) (v : α) :
    tblGet (d j) (tblSet (d k) t k v) j = if k = j then v else tblGet (d j) t j := by
  by_cases h : k = j
  · subst h
    simp
  · have hd : ∀ (x : Tbl α), tblGet (d j) (tblDrop k x) j = tblGet (d j) x j := fun x => tblGet_tblDrop_other _ x (Ne.symm h)
    unfold tblSet
    by_cases hv : v = d k
    · simp [hv, h, hd]
    · rw [if_neg hv, if_neg h]
      have := tblGet_tblIns (d j) (tblDrop k t) k j v (Or.inr (Ne.symm h)) (tblDrop_ne t k)
      rw [this, if_neg h, hd]

/-! ## The canonical form -/

theorem tblWfFrom_mono (d : Nat → α) {t : Tbl α} {a b : Nat} (h : b ≤ a) (ht : tblWfFrom d a t = true) :
    tblWfFrom d b t = true := by
  cases t with
  | nil => rfl
  | cons e r =>
    obtain ⟨k, v⟩ := e
    simp only [tblWfFrom, Bool.and_eq_true, decide_eq_true_eq] at ht ⊢
    exact ⟨⟨Nat.le_trans h ht.1.1, ht.1.2⟩, ht.2⟩

theorem tblWfFrom_drop (d : Nat → α) (k : Nat) {t : Tbl α} {a : Nat} (ht : tblWfFrom d a t = true) :
    tblWfFrom d a (tblDrop k t) = true := by
  induction t generalizing a with
  | nil => rfl
  | cons e r ih =>
    obtain ⟨j, v⟩ := e
    simp only [tblWfFrom, Bool.and_eq_true, decide_eq_true_eq] at ht
    by_cases h : j = k
    · simpa [tblDrop, h] using tblWfFrom_mono d (Nat.le_succ_of_le ht.1.1) (ih ht.2)
    · simp [tblDrop, h, tblWfFrom, ht.1.1, ht.1.2, ih ht.2]

theorem tblWfFrom_ins (d : Nat → α) (k : Nat) (v : α) (hv : v ≠ d k) {t : Tbl α} {a : Nat} (ha : a ≤ k)
    (ht : tblWfFrom d a t = true) (hn : ∀ e ∈ t, e.1 ≠ k) : tblWfFrom d a (tblIns k v t) = true := by
  induction t generalizing a with
  | nil => simp [tblIns, tblWfFrom, ha, hv]
  | cons e r ih =>
    obtain ⟨j, w⟩ := e
    simp only [tblWfFrom, Bool.and_eq_true, decide_eq_true_eq] at ht
    have hj : j ≠ k := hn (j, w) (by simp)
    by_cases hl : k < j
    · simp only [tblIns, hl, if_true, tblWfFrom, Bool.and_eq_true, decide_eq_true_eq]
      exact ⟨⟨ha, hv⟩, ⟨hl, ht.1.2⟩, ht.2⟩
    · simp only [tblIns, hl, if_false, tblWfFrom, Bool.and_eq_true, decide_eq_true_eq]
      exact ⟨⟨ht.1.1, ht.1.2⟩, ih (by omega) ht.2 (fun e he => hn e (by simp [he]))⟩

/-- A write keeps the canonical form. -/
theorem tblWf_tblSet (d : Nat → α) (t : Tbl α) (k : Nat) (v : α) (h : tblWf d t = true) : tblWf d (tblSet (d k) t k v) = true := by
  unfold tblWf tblSet at *
  split
  · exact tblWfFrom_drop d k h
  · exact tblWfFrom_ins d k v (by assumption) (Nat.zero_le k) (tblWfFrom_drop d k h) (tblDrop_ne t k)

/-- Clearing keeps the canonical form. -/
theorem tblWfFrom_clear (d : Nat → α) (p : Nat → Bool) {t : Tbl α} {a : Nat} (h : tblWfFrom d a t = true) :
    tblWfFrom d a (tblClear p t) = true := by
  induction t generalizing a with
  | nil => rfl
  | cons e r ih =>
    obtain ⟨j, v⟩ := e
    simp only [tblWfFrom, Bool.and_eq_true, decide_eq_true_eq] at h
    cases hp : p j with
    | true => simpa [tblClear, hp] using tblWfFrom_mono d (Nat.le_succ_of_le h.1.1) (ih h.2)
    | false =>
      have hr : tblWfFrom d (j + 1) (List.filter (fun e => !p e.1) r) = true := ih h.2
      simp [tblClear, hp, tblWfFrom, h.1.1, h.1.2, hr]

theorem tblWf_tblClear (d : Nat → α) (p : Nat → Bool) (t : Tbl α) (h : tblWf d t = true) : tblWf d (tblClear p t) = true :=
  tblWfFrom_clear d p h

omit [DecidableEq α] in
/-- What a cleared store reads as. -/
theorem tblGet_tblClear (d : α) (p : Nat → Bool) (t : Tbl α) (k : Nat) :
    tblGet d (tblClear p t) k = if p k then d else tblGet d t k := by
  induction t with
  | nil => simp [tblClear, tblGet]
  | cons e r ih =>
    obtain ⟨j, v⟩ := e
    cases hp : p j with
    | true =>
      have : tblClear p ((j, v) :: r) = tblClear p r := by simp [tblClear, hp]
      rw [this, ih]
      by_cases hj : j = k
      · subst hj
        simp [hp]
      · simp [tblGet, hj]
    | false =>
      have : tblClear p ((j, v) :: r) = (j, v) :: tblClear p r := by simp [tblClear, hp]
      rw [this]
      by_cases hj : j = k
      · subst hj
        simp [tblGet, hp]
      · simp [tblGet, hj, ih]

/-! ## Byte memories -/

/-- A write of bytes keeps the canonical form. -/
theorem tblWf_memWrite (d : Byte) (m : Tbl Byte) (a : Nat) (bs : List Byte) (h : tblWf (fun _ => d) m = true) :
    tblWf (fun _ => d) (memWrite d m a bs) = true := by
  induction bs generalizing m a with
  | nil => exact h
  | cons b r ih => exact ih _ _ (tblWf_tblSet (fun _ => d) m a b h)

/-- Every byte outside a write reads as before. -/
theorem tblGet_memWrite_out (d : Byte) (m : Tbl Byte) (a : Nat) (bs : List Byte) (x : Nat)
    (h : x < a ∨ a + bs.length ≤ x) : tblGet d (memWrite d m a bs) x = tblGet d m x := by
  induction bs generalizing m a with
  | nil => rfl
  | cons b r ih =>
    simp only [List.length_cons] at h
    rw [memWrite, ih _ _ (by omega), tblGet_tblSet_other d m b (by omega)]

/-- Every byte inside a write reads as the byte written. -/
theorem tblGet_memWrite_in (d : Byte) (m : Tbl Byte) (a : Nat) (bs : List Byte) (i : Nat) (h : i < bs.length) :
    tblGet d (memWrite d m a bs) (a + i) = bs[i] := by
  induction bs generalizing m a i with
  | nil => simp at h
  | cons b r ih =>
    cases i with
    | zero => rw [memWrite, Nat.add_zero, tblGet_memWrite_out _ _ _ _ _ (Or.inl (by omega))]; simp
    | succ i =>
      have : a + (i + 1) = a + 1 + i := by omega
      rw [memWrite, this, ih _ _ _ (by simpa using h)]
      simp

/-- A read after a write at the same place gives the bytes written. -/
theorem memRead_memWrite (d : Byte) (m : Tbl Byte) (a : Nat) (bs : List Byte) :
    memRead d (memWrite d m a bs) a bs.length = bs := by
  have key : ∀ (n : Nat) (f : Tbl Byte) (b : Nat), memRead d f b n = (List.range n).map (fun i => tblGet d f (b + i)) := by
    intro n
    induction n with
    | zero => intros; rfl
    | succ n ih =>
      intro f b
      rw [memRead, ih, List.range_succ_eq_map]
      simp [Function.comp_def, Nat.add_comm, Nat.add_left_comm]
  rw [key]
  apply List.ext_getElem
  · simp
  · intro i h1 h2
    simp [tblGet_memWrite_in d m a bs i h2]

end Sys2Proof.Machine
end

