-- ==== Sys2Proof/Laws/Keeps.lean ====
section
/-! SUPPORT. What an operation leaves alone: the relation `Keeps F s t` says that the queue of commands is the same, that
the counter of free values and the outputs only grow, that no blown fuse bit is lost, that the memories stay in canonical
form, and that only the parts named by the bits of `F` (`Field.num`) differ. Each operation has one lemma `…_keeps`, by its
callees' lemmas, for every `F` that has the bits of what it may change. -/

namespace Sys2Proof.Machine

open Sys2Proof

/-- The bit that stands for a part of the state in a set of parts. -/
def Field.num : Field → Nat
  | .ctrlClk => 0 | .freeCtr => 1 | .wire => 2 | .regs => 3 | .mem => 4 | .ecc => 5
  | .host => 6 | .flash => 7 | .pba => 8 | .pwr => 9 | .fuses => 10 | .sec => 11
  | .mbHost => 12 | .mbBoard => 13 | .mbOrder => 14 | .fab => 15 | .thm => 16 | .tsu => 17
  | .parts => 18 | .boxes => 19 | .loans => 20 | .ushers => 21 | .syncs => 22 | .clus => 23
  | .cores => 24 | .chans => 25 | .sites => 26 | .rings => 27 | .ports => 28 | .links => 29
  | .peers => 30 | .croutes => 31 | .inbox => 32 | .relay => 33 | .hostBad => 34

/-- The parts that the bits of a number name. -/
def fieldMask (F : List Field) : Nat := F.foldl (fun m f => m ||| 2 ^ f.num) 0

/-- `t` follows `s` by operations of the block that change the parts named by `F` at most. -/
structure Keeps (F : Nat) (s t : State) : Prop where
  same : ∀ f : Field, F.testBit f.num = false → f.same s t
  pending : t.pending = s.pending
  ctr : s.freeCtr ≤ t.freeCtr
  wire : s.wire <+: t.wire
  fuses : FuseSt.grows s.fuses t.fuses
  wf : Memory.wf s = true → Memory.wf t = true

/-! ## Sets of parts -/

theorem mask_trans {H G F : Nat} (h : H ||| G = G) (k : G ||| F = F) : H ||| F = F := by
  rw [← k, ← Nat.or_assoc, h]

theorem mask_bit {G F i : Nat} (k : G ||| F = F) (g : G.testBit i = true) : F.testBit i = true := by
  rw [← k, Nat.testBit_or, g, Bool.true_or]

theorem Field.same_refl (f : Field) (s : State) : f.same s s := by cases f <;> rfl

theorem Field.same_trans {f : Field} {s t u : State} (a : f.same s t) (b : f.same t u) : f.same s u := by
  cases f <;> exact Eq.trans b a

/-- A change of one part. -/
theorem Field.same_of {F : Nat} {g : Field} {s t u : State} (h : ∀ f : Field, F.testBit f.num = false → f.same s t)
    (k : F.testBit g.num = true) (d : ∀ f : Field, f ≠ g → f.same t u) (f : Field) (hf : F.testBit f.num = false) :
    f.same s u :=
  Field.same_trans (h f hf) (d f (fun e => by rw [e, k] at hf; cases hf))

/-! ## Fuses -/

theorem bitsIn_refl (a : Nat) : bitsIn a a = true := by simp [bitsIn]

theorem bitsIn_or (a b : Nat) : bitsIn a (a ||| b) = true := by
  simp only [bitsIn, beq_iff_eq]
  exact Nat.eq_of_testBit_eq (fun i => by simp; grind)

theorem bitsIn_trans {a b c : Nat} (h : bitsIn a b = true) (k : bitsIn b c = true) : bitsIn a c = true := by
  simp only [bitsIn, beq_iff_eq] at *
  rw [← h, Nat.and_assoc, k]

theorem FuseSt.grows_refl (f : FuseSt) : FuseSt.grows f f :=
  ⟨bitsIn_refl _, bitsIn_refl _, id, fun _ => bitsIn_refl _, fun _ => BitVec.and_self, rfl, rfl, rfl, rfl, rfl, rfl, rfl, rfl,
    rfl, rfl, rfl, rfl, rfl, rfl, rfl⟩

theorem FuseSt.grows_trans {f g h : FuseSt} (a : FuseSt.grows f g) (b : FuseSt.grows g h) : FuseSt.grows f h := by
  obtain ⟨a1, a2, a3, a4, a5, a⟩ := a
  obtain ⟨b1, b2, b3, b4, b5, b⟩ := b
  exact ⟨bitsIn_trans a1 b1, bitsIn_trans a2 b2, fun h => b3 (a3 h), fun k => bitsIn_trans (a4 k) (b4 k),
    fun i => by rw [← a5 i, BitVec.and_assoc, b5 i], by grind⟩

/-! ## The relation -/

theorem Keeps.refl {F : Nat} (s : State) : Keeps F s s :=
  ⟨fun f _ => f.same_refl s, rfl, Nat.le_refl _, List.prefix_refl _, FuseSt.grows_refl _, id⟩

theorem Keeps.trans {F : Nat} {s t u : State} (a : Keeps F s t) (b : Keeps F t u) : Keeps F s u :=
  ⟨fun f h => Field.same_trans (a.same f h) (b.same f h), b.pending.trans a.pending, Nat.le_trans a.ctr b.ctr, a.wire.trans b.wire,
    FuseSt.grows_trans a.fuses b.fuses, fun h => b.wf (a.wf h)⟩

theorem Keeps.mono {F G : Nat} {s t : State} (a : Keeps F s t) (h : F ||| G = G) : Keeps G s t :=
  ⟨fun f k => a.same f (by rw [← h, Nat.testBit_or, Bool.or_eq_false_iff] at k; exact k.1), a.pending, a.ctr, a.wire, a.fuses, a.wf⟩

theorem keeps_ite {F : Nat} {s0 a b : State} {c : Prop} [Decidable c] (h1 : c → Keeps F s0 a) (h2 : ¬c → Keeps F s0 b) :
    Keeps F s0 (if c then a else b) := by
  split
  · exact h1 ‹_›
  · exact h2 ‹_›

theorem keeps_ite_fst {F : Nat} {α : Type} {s0 : State} {a b : State × α} {c : Prop} [Decidable c] (h1 : c → Keeps F s0 a.1)
    (h2 : ¬c → Keeps F s0 b.1) : Keeps F s0 (if c then a else b).1 := by
  split
  · exact h1 ‹_›
  · exact h2 ‹_›

theorem keeps_foldl {F : Nat} {s0 : State} {β : Type} {f : State → β → State} {l : List β} {s : State}
    (hf : ∀ s x, Keeps F s0 s → Keeps F s0 (f s x)) (h : Keeps F s0 s) : Keeps F s0 (l.foldl f s) := by
  induction l generalizing s with
  | nil => exact h
  | cons x r ih => exact ih (hf s x h)

theorem keeps_foldl_fst {F : Nat} {s0 : State} {α β : Type} {f : State × α → β → State × α} {l : List β} {a : State × α}
    (hf : ∀ a x, Keeps F s0 a.1 → Keeps F s0 (f a x).1) (h : Keeps F s0 a.1) : Keeps F s0 (l.foldl f a).1 := by
  induction l generalizing a with
  | nil => exact h
  | cons x r ih => exact ih (hf a x h)

theorem keeps_forN {F : Nat} {s0 : State} {f : Nat → State → State} {n : Nat} {s : State}
    (hf : ∀ i s, Keeps F s0 s → Keeps F s0 (f i s)) (h : Keeps F s0 s) : Keeps F s0 (forN f n s) := by
  induction n with
  | zero => exact h
  | succ n ih => exact hf n _ ih

/-! ## A change of one part that the relation says nothing more about -/

theorem keeps_ctrlClk {F : Nat} {s0 s : State} {x} (hF : 1 ||| F = F) (h : Keeps F s0 s) :
    Keeps F s0 { s with ctrlClk := x } :=
  ⟨Field.same_of (g := .ctrlClk) h.same (mask_bit hF rfl) (fun f d => by cases f <;> first | rfl | exact absurd rfl d),
    h.pending, h.ctr, h.wire, h.fuses, h.wf⟩

theorem keeps_pba {F : Nat} {s0 s : State} {x} (hF : 256 ||| F = F) (h : Keeps F s0 s) :
    Keeps F s0 { s with pba := x } :=
  ⟨Field.same_of (g := .pba) h.same (mask_bit hF rfl) (fun f d => by cases f <;> first | rfl | exact absurd rfl d),
    h.pending, h.ctr, h.wire, h.fuses, h.wf⟩

theorem keeps_pwr {F : Nat} {s0 s : State} {x} (hF : 512 ||| F = F) (h : Keeps F s0 s) :
    Keeps F s0 { s with pwr := x } :=
  ⟨Field.same_of (g := .pwr) h.same (mask_bit hF rfl) (fun f d => by cases f <;> first | rfl | exact absurd rfl d),
    h.pending, h.ctr, h.wire, h.fuses, h.wf⟩

theorem keeps_sec {F : Nat} {s0 s : State} {x} (hF : 2048 ||| F = F) (h : Keeps F s0 s) :
    Keeps F s0 { s with sec := x } :=
  ⟨Field.same_of (g := .sec) h.same (mask_bit hF rfl) (fun f d => by cases f <;> first | rfl | exact absurd rfl d),
    h.pending, h.ctr, h.wire, h.fuses, h.wf⟩

theorem keeps_mbHost {F : Nat} {s0 s : State} {x} (hF : 4096 ||| F = F) (h : Keeps F s0 s) :
    Keeps F s0 { s with mbHost := x } :=
  ⟨Field.same_of (g := .mbHost) h.same (mask_bit hF rfl) (fun f d => by cases f <;> first | rfl | exact absurd rfl d),
    h.pending, h.ctr, h.wire, h.fuses, h.wf⟩

theorem keeps_mbBoard {F : Nat} {s0 s : State} {x} (hF : 8192 ||| F = F) (h : Keeps F s0 s) :
    Keeps F s0 { s with mbBoard := x } :=
  ⟨Field.same_of (g := .mbBoard) h.same (mask_bit hF rfl) (fun f d => by cases f <;> first | rfl | exact absurd rfl d),
    h.pending, h.ctr, h.wire, h.fuses, h.wf⟩

theorem keeps_mbOrder {F : Nat} {s0 s : State} {x} (hF : 16384 ||| F = F) (h : Keeps F s0 s) :
    Keeps F s0 { s with mbOrder := x } :=
  ⟨Field.same_of (g := .mbOrder) h.same (mask_bit hF rfl) (fun f d => by cases f <;> first | rfl | exact absurd rfl d),
    h.pending, h.ctr, h.wire, h.fuses, h.wf⟩

theorem keeps_fab {F : Nat} {s0 s : State} {x} (hF : 32768 ||| F = F) (h : Keeps F s0 s) :
    Keeps F s0 { s with fab := x } :=
  ⟨Field.same_of (g := .fab) h.same (mask_bit hF rfl) (fun f d => by cases f <;> first | rfl | exact absurd rfl d),
    h.pending, h.ctr, h.wire, h.fuses, h.wf⟩

theorem keeps_thm {F : Nat} {s0 s : State} {x} (hF : 65536 ||| F = F) (h : Keeps F s0 s) :
    Keeps F s0 { s with thm := x } :=
  ⟨Field.same_of (g := .thm) h.same (mask_bit hF rfl) (fun f d => by cases f <;> first | rfl | exact absurd rfl d),
    h.pending, h.ctr, h.wire, h.fuses, h.wf⟩

theorem keeps_tsu {F : Nat} {s0 s : State} {x} (hF : 131072 ||| F = F) (h : Keeps F s0 s) :
    Keeps F s0 { s with tsu := x } :=
  ⟨Field.same_of (g := .tsu) h.same (mask_bit hF rfl) (fun f d => by cases f <;> first | rfl | exact absurd rfl d),
    h.pending, h.ctr, h.wire, h.fuses, h.wf⟩

theorem keeps_parts {F : Nat} {s0 s : State} {x} (hF : 262144 ||| F = F) (h : Keeps F s0 s) :
    Keeps F s0 { s with parts := x } :=
  ⟨Field.same_of (g := .parts) h.same (mask_bit hF rfl) (fun f d => by cases f <;> first | rfl | exact absurd rfl d),
    h.pending, h.ctr, h.wire, h.fuses, h.wf⟩

theorem keeps_boxes {F : Nat} {s0 s : State} {x} (hF : 524288 ||| F = F) (h : Keeps F s0 s) :
    Keeps F s0 { s with boxes := x } :=
  ⟨Field.same_of (g := .boxes) h.same (mask_bit hF rfl) (fun f d => by cases f <;> first | rfl | exact absurd rfl d),
    h.pending, h.ctr, h.wire, h.fuses, h.wf⟩

theorem keeps_loans {F : Nat} {s0 s : State} {x} (hF : 1048576 ||| F = F) (h : Keeps F s0 s) :
    Keeps F s0 { s with loans := x } :=
  ⟨Field.same_of (g := .loans) h.same (mask_bit hF rfl) (fun f d => by cases f <;> first | rfl | exact absurd rfl d),
    h.pending, h.ctr, h.wire, h.fuses, h.wf⟩

theorem keeps_ushers {F : Nat} {s0 s : State} {x} (hF : 2097152 ||| F = F) (h : Keeps F s0 s) :
    Keeps F s0 { s with ushers := x } :=
  ⟨Field.same_of (g := .ushers) h.same (mask_bit hF rfl) (fun f d => by cases f <;> first | rfl | exact absurd rfl d),
    h.pending, h.ctr, h.wire, h.fuses, h.wf⟩

theorem keeps_syncs {F : Nat} {s0 s : State} {x} (hF : 4194304 ||| F = F) (h : Keeps F s0 s) :
    Keeps F s0 { s with syncs := x } :=
  ⟨Field.same_of (g := .syncs) h.same (mask_bit hF rfl) (fun f d => by cases f <;> first | rfl | exact absurd rfl d),
    h.pending, h.ctr, h.wire, h.fuses, h.wf⟩

theorem keeps_clus {F : Nat} {s0 s : State} {x} (hF : 8388608 ||| F = F) (h : Keeps F s0 s) :
    Keeps F s0 { s with clus := x } :=
  ⟨Field.same_of (g := .clus) h.same (mask_bit hF rfl) (fun f d => by cases f <;> first | rfl | exact absurd rfl d),
    h.pending, h.ctr, h.wire, h.fuses, h.wf⟩

theorem keeps_cores {F : Nat} {s0 s : State} {x} (hF : 16777216 ||| F = F) (h : Keeps F s0 s) :
    Keeps F s0 { s with cores := x } :=
  ⟨Field.same_of (g := .cores) h.same (mask_bit hF rfl) (fun f d => by cases f <;> first | rfl | exact absurd rfl d),
    h.pending, h.ctr, h.wire, h.fuses, h.wf⟩

theorem keeps_chans {F : Nat} {s0 s : State} {x} (hF : 33554432 ||| F = F) (h : Keeps F s0 s) :
    Keeps F s0 { s with chans := x } :=
  ⟨Field.same_of (g := .chans) h.same (mask_bit hF rfl) (fun f d => by cases f <;> first | rfl | exact absurd rfl d),
    h.pending, h.ctr, h.wire, h.fuses, h.wf⟩

theorem keeps_sites {F : Nat} {s0 s : State} {x} (hF : 67108864 ||| F = F) (h : Keeps F s0 s) :
    Keeps F s0 { s with sites := x } :=
  ⟨Field.same_of (g := .sites) h.same (mask_bit hF rfl) (fun f d => by cases f <;> first | rfl | exact absurd rfl d),
    h.pending, h.ctr, h.wire, h.fuses, h.wf⟩

theorem keeps_rings {F : Nat} {s0 s : State} {x} (hF : 134217728 ||| F = F) (h : Keeps F s0 s) :
    Keeps F s0 { s with rings := x } :=
  ⟨Field.same_of (g := .rings) h.same (mask_bit hF rfl) (fun f d => by cases f <;> first | rfl | exact absurd rfl d),
    h.pending, h.ctr, h.wire, h.fuses, h.wf⟩

theorem keeps_ports {F : Nat} {s0 s : State} {x} (hF : 268435456 ||| F = F) (h : Keeps F s0 s) :
    Keeps F s0 { s with ports := x } :=
  ⟨Field.same_of (g := .ports) h.same (mask_bit hF rfl) (fun f d => by cases f <;> first | rfl | exact absurd rfl d),
    h.pending, h.ctr, h.wire, h.fuses, h.wf⟩

theorem keeps_links {F : Nat} {s0 s : State} {x} (hF : 536870912 ||| F = F) (h : Keeps F s0 s) :
    Keeps F s0 { s with links := x } :=
  ⟨Field.same_of (g := .links) h.same (mask_bit hF rfl) (fun f d => by cases f <;> first | rfl | exact absurd rfl d),
    h.pending, h.ctr, h.wire, h.fuses, h.wf⟩

theorem keeps_peers {F : Nat} {s0 s : State} {x} (hF : 1073741824 ||| F = F) (h : Keeps F s0 s) :
    Keeps F s0 { s with peers := x } :=
  ⟨Field.same_of (g := .peers) h.same (mask_bit hF rfl) (fun f d => by cases f <;> first | rfl | exact absurd rfl d),
    h.pending, h.ctr, h.wire, h.fuses, h.wf⟩

theorem keeps_croutes {F : Nat} {s0 s : State} {x} (hF : 2147483648 ||| F = F) (h : Keeps F s0 s) :
    Keeps F s0 { s with croutes := x } :=
  ⟨Field.same_of (g := .croutes) h.same (mask_bit hF rfl) (fun f d => by cases f <;> first | rfl | exact absurd rfl d),
    h.pending, h.ctr, h.wire, h.fuses, h.wf⟩

theorem keeps_inbox {F : Nat} {s0 s : State} {x} (hF : 4294967296 ||| F = F) (h : Keeps F s0 s) :
    Keeps F s0 { s with inbox := x } :=
  ⟨Field.same_of (g := .inbox) h.same (mask_bit hF rfl) (fun f d => by cases f <;> first | rfl | exact absurd rfl d),
    h.pending, h.ctr, h.wire, h.fuses, h.wf⟩

theorem keeps_relay {F : Nat} {s0 s : State} {x} (hF : 8589934592 ||| F = F) (h : Keeps F s0 s) :
    Keeps F s0 { s with relay := x } :=
  ⟨Field.same_of (g := .relay) h.same (mask_bit hF rfl) (fun f d => by cases f <;> first | rfl | exact absurd rfl d),
    h.pending, h.ctr, h.wire, h.fuses, h.wf⟩

theorem keeps_hostBad {F : Nat} {s0 s : State} {x} (hF : 17179869184 ||| F = F) (h : Keeps F s0 s) :
    Keeps F s0 { s with hostBad := x } :=
  ⟨Field.same_of (g := .hostBad) h.same (mask_bit hF rfl) (fun f d => by cases f <;> first | rfl | exact absurd rfl d),
    h.pending, h.ctr, h.wire, h.fuses, h.wf⟩

/-- Rings, ports and links change together. -/
theorem keeps_rings_ports_links {F : Nat} {s0 s : State} {x y z} (hF : 939524096 ||| F = F)
    (h : Keeps F s0 s) : Keeps F s0 { s with rings := x, ports := y, links := z } :=
  keeps_links (s := { s with rings := x, ports := y }) (mask_trans rfl hF)
    (keeps_ports (s := { s with rings := x }) (mask_trans rfl hF) (keeps_rings (mask_trans rfl hF) h))

/-- The counter of free values advances. -/
theorem keeps_ctr {F : Nat} {s0 s : State} {n : Nat} (hF : 2 ||| F = F) (h : Keeps F s0 s) :
    Keeps F s0 { s with freeCtr := s.freeCtr + n } :=
  ⟨Field.same_of (g := .freeCtr) h.same (mask_bit hF rfl) (fun f d => by cases f <;> first | rfl | exact absurd rfl d),
    h.pending, Nat.le_add_right_of_le h.ctr, h.wire, h.fuses, h.wf⟩

/-! ## The operations that change what the relation speaks of -/

theorem State.emit_keeps {F : Nat} {s0 : State} (s : State) (e : Emission) (hF : 4 ||| F = F) (h : Keeps F s0 s) :
    Keeps F s0 (s.emit e) :=
  ⟨Field.same_of (g := .wire) h.same (mask_bit hF rfl) (fun f d => by cases f <;> first | rfl | exact absurd rfl d),
    h.pending, h.ctr, h.wire.trans (List.prefix_append _ _), h.fuses, h.wf⟩

theorem State.tick_keeps {F : Nat} {s0 : State} (s : State) (hF : 2 ||| F = F) (h : Keeps F s0 s) :
    Keeps F s0 s.tick := keeps_ctr hF h

/-- A change of `mem` that keeps the canonical form. -/
theorem keeps_mem {F : Nat} {s0 s : State} {x : Tbl Byte} (hF : 16 ||| F = F) (h : Keeps F s0 s)
    (hm : tblWf (fun _ => 0#8) s.mem = true → tblWf (fun _ => 0#8) x = true) : Keeps F s0 { s with mem := x } := by
  refine ⟨Field.same_of (g := .mem) h.same (mask_bit hF rfl) (fun f d => by cases f <;> first | rfl | exact absurd rfl d),
    h.pending, h.ctr, h.wire, h.fuses, fun w => ?_⟩
  have := h.wf w
  simp only [Memory.wf, Bool.and_eq_true] at this ⊢
  exact ⟨⟨⟨⟨(hm this.1.1.1.1), this.1.1.1.2⟩, this.1.1.2⟩, this.1.2⟩, this.2⟩

/-- A change of `ecc` that keeps the canonical form. -/
theorem keeps_ecc {F : Nat} {s0 s : State} {x : Tbl Health} (hF : 32 ||| F = F) (h : Keeps F s0 s)
    (hm : tblWf (fun _ => Health.ok) s.ecc = true → tblWf (fun _ => Health.ok) x = true) : Keeps F s0 { s with ecc := x } := by
  refine ⟨Field.same_of (g := .ecc) h.same (mask_bit hF rfl) (fun f d => by cases f <;> first | rfl | exact absurd rfl d),
    h.pending, h.ctr, h.wire, h.fuses, fun w => ?_⟩
  have := h.wf w
  simp only [Memory.wf, Bool.and_eq_true] at this ⊢
  exact ⟨⟨⟨⟨this.1.1.1.1, (hm this.1.1.1.2)⟩, this.1.1.2⟩, this.1.2⟩, this.2⟩

/-- A change of `host` that keeps the canonical form. -/
theorem keeps_host {F : Nat} {s0 s : State} {x : Tbl Byte} (hF : 64 ||| F = F) (h : Keeps F s0 s)
    (hm : tblWf (fun _ => 0#8) s.host = true → tblWf (fun _ => 0#8) x = true) : Keeps F s0 { s with host := x } := by
  refine ⟨Field.same_of (g := .host) h.same (mask_bit hF rfl) (fun f d => by cases f <;> first | rfl | exact absurd rfl d),
    h.pending, h.ctr, h.wire, h.fuses, fun w => ?_⟩
  have := h.wf w
  simp only [Memory.wf, Bool.and_eq_true] at this ⊢
  exact ⟨⟨⟨⟨this.1.1.1.1, this.1.1.1.2⟩, (hm this.1.1.2)⟩, this.1.2⟩, this.2⟩

/-- A change of `flash` that keeps the canonical form. -/
theorem keeps_flash {F : Nat} {s0 s : State} {x : Tbl Byte} (hF : 128 ||| F = F) (h : Keeps F s0 s)
    (hm : tblWf (fun _ => 0xFF#8) s.flash = true → tblWf (fun _ => 0xFF#8) x = true) : Keeps F s0 { s with flash := x } := by
  refine ⟨Field.same_of (g := .flash) h.same (mask_bit hF rfl) (fun f d => by cases f <;> first | rfl | exact absurd rfl d),
    h.pending, h.ctr, h.wire, h.fuses, fun w => ?_⟩
  have := h.wf w
  simp only [Memory.wf, Bool.and_eq_true] at this ⊢
  exact ⟨⟨⟨⟨this.1.1.1.1, this.1.1.1.2⟩, this.1.1.2⟩, (hm this.1.2)⟩, this.2⟩

/-- A change of `regs` that keeps the canonical form. -/
theorem keeps_regs {F : Nat} {s0 s : State} {x : Tbl W32} (hF : 8 ||| F = F) (h : Keeps F s0 s)
    (hm : tblWf (resetAt) s.regs = true → tblWf (resetAt) x = true) : Keeps F s0 { s with regs := x } := by
  refine ⟨Field.same_of (g := .regs) h.same (mask_bit hF rfl) (fun f d => by cases f <;> first | rfl | exact absurd rfl d),
    h.pending, h.ctr, h.wire, h.fuses, fun w => ?_⟩
  have := h.wf w
  simp only [Memory.wf, Bool.and_eq_true] at this ⊢
  exact ⟨⟨⟨⟨this.1.1.1.1, this.1.1.1.2⟩, this.1.1.2⟩, this.1.2⟩, (hm this.2)⟩

theorem State.setReg_keeps {F : Nat} {s0 : State} (s : State) (a : Nat) (v : W32) (hF : 8 ||| F = F)
    (h : Keeps F s0 s) : Keeps F s0 (s.setReg a v) := keeps_regs hF h (tblWf_tblSet resetAt _ _ _)

theorem State.resetPages_keeps {F : Nat} {s0 : State} (s : State) (lo hi : Nat) (keep : Nat → Bool)
    (hF : 8 ||| F = F) (h : Keeps F s0 s) : Keeps F s0 (s.resetPages lo hi keep) :=
  keeps_regs hF h (tblWf_tblClear _ _ _)

theorem State.setHealth_keeps {F : Nat} {s0 : State} (s : State) (w : Nat) (x : Health) (hF : 32 ||| F = F)
    (h : Keeps F s0 s) : Keeps F s0 (s.setHealth w x) := keeps_ecc hF h (tblWf_tblSet (fun _ => Health.ok) _ _ _)

theorem State.putBytes_keeps {F : Nat} {s0 : State} (s : State) (a : Nat) (bs : List Byte) (hF : 16 ||| F = F)
    (h : Keeps F s0 s) : Keeps F s0 (s.putBytes a bs) := keeps_mem hF h (tblWf_memWrite _ _ _ _)

/-- Memory and word healths change together. -/
theorem keeps_mem_ecc {F : Nat} {s0 s : State} {x : Tbl Byte} {y : Tbl Health} (hF : 48 ||| F = F)
    (h : Keeps F s0 s) (hm : tblWf (fun _ => 0#8) s.mem = true → tblWf (fun _ => 0#8) x = true)
    (he : tblWf (fun _ => Health.ok) s.ecc = true → tblWf (fun _ => Health.ok) y = true) :
    Keeps F s0 { s with mem := x, ecc := y } :=
  keeps_ecc (s := { s with mem := x }) (mask_trans rfl hF) (keeps_mem (mask_trans rfl hF) h hm) he

theorem State.zeroMem_keeps {F : Nat} {s0 : State} (s : State) (a n : Nat) (hF : 48 ||| F = F)
    (h : Keeps F s0 s) : Keeps F s0 (s.zeroMem a n) := keeps_mem_ecc hF h (tblWf_tblClear _ _ _) (tblWf_tblClear _ _ _)

theorem State.hostWrite_keeps {F : Nat} {s0 : State} (s : State) (a : Nat) (bs : List Byte) (hF : 64 ||| F = F)
    (h : Keeps F s0 s) : Keeps F s0 (s.hostWrite a bs) := keeps_host hF h (tblWf_memWrite _ _ _ _)

theorem State.flashWrite_keeps {F : Nat} {s0 : State} (s : State) (a : Nat) (bs : List Byte) (hF : 128 ||| F = F)
    (h : Keeps F s0 s) : Keeps F s0 (s.flashWrite a bs) := keeps_flash hF h (tblWf_memWrite _ _ _ _)

/-- Changes of the fuses that lose no blown bit. -/
theorem keeps_fuses {F : Nat} {s0 s : State} (hF : 1024 ||| F = F) (h : Keeps F s0 s) {x : FuseSt}
    (hf : FuseSt.grows s.fuses x) : Keeps F s0 { s with fuses := x } :=
  ⟨Field.same_of (g := .fuses) h.same (mask_bit hF rfl) (fun f d => by cases f <;> first | rfl | exact absurd rfl d),
    h.pending, h.ctr, h.wire, FuseSt.grows_trans h.fuses hf, h.wf⟩

/-- What a list of parts leaves out stands in what `Keeps` says. -/
theorem Keeps.sameBut {F : List Field} {s t : State} (h : Keeps (fieldMask F) s t) (hF : ∀ f : Field, f ∈ F ∨ (fieldMask F).testBit f.num = false) :
    s.sameBut F t := ⟨h.pending, fun f hf => h.same f ((hF f).resolve_left hf)⟩

end Sys2Proof.Machine
end

