-- ==== Sys2Proof/Laws/KeepsUnits.lean ====
section
/-! SUPPORT. `Keeps` for the operations of the units, registers, events, memory, box offices, flits and the fabric. -/

namespace Sys2Proof.Machine

open Sys2Proof

theorem State.setPart_keeps {σ : State} {F : Nat} (s : State) (i : Nat) (x : PartSt) (hF : 262144 ||| F = F) (hk : Keeps F σ s) :
    Keeps F σ (State.setPart s i x) := by
  unfold State.setPart
  repeat' (first | with_reducible (first
    | assumption) | with_reducible refine keeps_parts (mask_trans rfl hF) ?_)

theorem State.modPart_keeps {σ : State} {F : Nat} (s : State) (i : Nat) (f : PartSt → PartSt) (hF : 262144 ||| F = F) (hk : Keeps F σ s) :
    Keeps F σ (State.modPart s i f) := by
  unfold State.modPart
  repeat' (first | with_reducible (first
    | assumption
    | refine State.setPart_keeps _ _ _ (mask_trans rfl hF) ?_))

theorem State.setBox_keeps {σ : State} {F : Nat} (s : State) (i : Nat) (x : BoxSt) (hF : 524288 ||| F = F) (hk : Keeps F σ s) :
    Keeps F σ (State.setBox s i x) := by
  unfold State.setBox
  repeat' (first | with_reducible (first
    | assumption) | with_reducible refine keeps_boxes (mask_trans rfl hF) ?_)

theorem State.modBox_keeps {σ : State} {F : Nat} (s : State) (i : Nat) (f : BoxSt → BoxSt) (hF : 524288 ||| F = F) (hk : Keeps F σ s) :
    Keeps F σ (State.modBox s i f) := by
  unfold State.modBox
  repeat' (first | with_reducible (first
    | assumption
    | refine State.setBox_keeps _ _ _ (mask_trans rfl hF) ?_))

theorem State.setUsher_keeps {σ : State} {F : Nat} (s : State) (i : Nat) (x : UshSt) (hF : 2097152 ||| F = F) (hk : Keeps F σ s) :
    Keeps F σ (State.setUsher s i x) := by
  unfold State.setUsher
  repeat' (first | with_reducible (first
    | assumption) | with_reducible refine keeps_ushers (mask_trans rfl hF) ?_)

theorem State.modUsher_keeps {σ : State} {F : Nat} (s : State) (i : Nat) (f : UshSt → UshSt) (hF : 2097152 ||| F = F) (hk : Keeps F σ s) :
    Keeps F σ (State.modUsher s i f) := by
  unfold State.modUsher
  repeat' (first | with_reducible (first
    | assumption
    | refine State.setUsher_keeps _ _ _ (mask_trans rfl hF) ?_))

theorem State.setSync_keeps {σ : State} {F : Nat} (s : State) (i : Nat) (x : SynSt) (hF : 4194304 ||| F = F) (hk : Keeps F σ s) :
    Keeps F σ (State.setSync s i x) := by
  unfold State.setSync
  repeat' (first | with_reducible (first
    | assumption) | with_reducible refine keeps_syncs (mask_trans rfl hF) ?_)

theorem State.modSync_keeps {σ : State} {F : Nat} (s : State) (i : Nat) (f : SynSt → SynSt) (hF : 4194304 ||| F = F) (hk : Keeps F σ s) :
    Keeps F σ (State.modSync s i f) := by
  unfold State.modSync
  repeat' (first | with_reducible (first
    | assumption
    | refine State.setSync_keeps _ _ _ (mask_trans rfl hF) ?_))

theorem State.setClu_keeps {σ : State} {F : Nat} (s : State) (i : Nat) (x : CluSt) (hF : 8388608 ||| F = F) (hk : Keeps F σ s) :
    Keeps F σ (State.setClu s i x) := by
  unfold State.setClu
  repeat' (first | with_reducible (first
    | assumption) | with_reducible refine keeps_clus (mask_trans rfl hF) ?_)

theorem State.modClu_keeps {σ : State} {F : Nat} (s : State) (i : Nat) (f : CluSt → CluSt) (hF : 8388608 ||| F = F) (hk : Keeps F σ s) :
    Keeps F σ (State.modClu s i f) := by
  unfold State.modClu
  repeat' (first | with_reducible (first
    | assumption
    | refine State.setClu_keeps _ _ _ (mask_trans rfl hF) ?_))

theorem State.setCore_keeps {σ : State} {F : Nat} (s : State) (i : Nat) (x : CoreSt) (hF : 16777216 ||| F = F) (hk : Keeps F σ s) :
    Keeps F σ (State.setCore s i x) := by
  unfold State.setCore
  repeat' (first | with_reducible (first
    | assumption) | with_reducible refine keeps_cores (mask_trans rfl hF) ?_)

theorem State.modCore_keeps {σ : State} {F : Nat} (s : State) (i : Nat) (f : CoreSt → CoreSt) (hF : 16777216 ||| F = F) (hk : Keeps F σ s) :
    Keeps F σ (State.modCore s i f) := by
  unfold State.modCore
  repeat' (first | with_reducible (first
    | assumption
    | refine State.setCore_keeps _ _ _ (mask_trans rfl hF) ?_))

theorem State.setChan_keeps {σ : State} {F : Nat} (s : State) (i : Nat) (x : ChanSt) (hF : 33554432 ||| F = F) (hk : Keeps F σ s) :
    Keeps F σ (State.setChan s i x) := by
  unfold State.setChan
  repeat' (first | with_reducible (first
    | assumption) | with_reducible refine keeps_chans (mask_trans rfl hF) ?_)

theorem State.modChan_keeps {σ : State} {F : Nat} (s : State) (i : Nat) (f : ChanSt → ChanSt) (hF : 33554432 ||| F = F) (hk : Keeps F σ s) :
    Keeps F σ (State.modChan s i f) := by
  unfold State.modChan
  repeat' (first | with_reducible (first
    | assumption
    | refine State.setChan_keeps _ _ _ (mask_trans rfl hF) ?_))

theorem State.setSite_keeps {σ : State} {F : Nat} (s : State) (i : Nat) (x : SiteSt) (hF : 67108864 ||| F = F) (hk : Keeps F σ s) :
    Keeps F σ (State.setSite s i x) := by
  unfold State.setSite
  repeat' (first | with_reducible (first
    | assumption) | with_reducible refine keeps_sites (mask_trans rfl hF) ?_)

theorem State.modSite_keeps {σ : State} {F : Nat} (s : State) (i : Nat) (f : SiteSt → SiteSt) (hF : 67108864 ||| F = F) (hk : Keeps F σ s) :
    Keeps F σ (State.modSite s i f) := by
  unfold State.modSite
  repeat' (first | with_reducible (first
    | assumption
    | refine State.setSite_keeps _ _ _ (mask_trans rfl hF) ?_))

theorem State.setRing_keeps {σ : State} {F : Nat} (s : State) (i : Nat) (x : RingSt) (hF : 134217728 ||| F = F) (hk : Keeps F σ s) :
    Keeps F σ (State.setRing s i x) := by
  unfold State.setRing
  repeat' (first | with_reducible (first
    | assumption) | with_reducible refine keeps_rings (mask_trans rfl hF) ?_)

theorem State.modRing_keeps {σ : State} {F : Nat} (s : State) (i : Nat) (f : RingSt → RingSt) (hF : 134217728 ||| F = F) (hk : Keeps F σ s) :
    Keeps F σ (State.modRing s i f) := by
  unfold State.modRing
  repeat' (first | with_reducible (first
    | assumption
    | refine State.setRing_keeps _ _ _ (mask_trans rfl hF) ?_))

theorem State.setPort_keeps {σ : State} {F : Nat} (s : State) (i : Nat) (x : PortSt) (hF : 268435456 ||| F = F) (hk : Keeps F σ s) :
    Keeps F σ (State.setPort s i x) := by
  unfold State.setPort
  repeat' (first | with_reducible (first
    | assumption) | with_reducible refine keeps_ports (mask_trans rfl hF) ?_)

theorem State.modPort_keeps {σ : State} {F : Nat} (s : State) (i : Nat) (f : PortSt → PortSt) (hF : 268435456 ||| F = F) (hk : Keeps F σ s) :
    Keeps F σ (State.modPort s i f) := by
  unfold State.modPort
  repeat' (first | with_reducible (first
    | assumption
    | refine State.setPort_keeps _ _ _ (mask_trans rfl hF) ?_))

theorem State.setLink_keeps {σ : State} {F : Nat} (s : State) (i : Nat) (x : LinkSt) (hF : 536870912 ||| F = F) (hk : Keeps F σ s) :
    Keeps F σ (State.setLink s i x) := by
  unfold State.setLink
  repeat' (first | with_reducible (first
    | assumption) | with_reducible refine keeps_links (mask_trans rfl hF) ?_)

theorem State.modLink_keeps {σ : State} {F : Nat} (s : State) (i : Nat) (f : LinkSt → LinkSt) (hF : 536870912 ||| F = F) (hk : Keeps F σ s) :
    Keeps F σ (State.modLink s i f) := by
  unfold State.modLink
  repeat' (first | with_reducible (first
    | assumption
    | refine State.setLink_keeps _ _ _ (mask_trans rfl hF) ?_))

theorem State.setInbox_keeps {σ : State} {F : Nat} (s : State) (i : Nat) (x : List Arrived) (hF : 4294967296 ||| F = F) (hk : Keeps F σ s) :
    Keeps F σ (State.setInbox s i x) := by
  unfold State.setInbox
  repeat' (first | with_reducible (first
    | assumption) | with_reducible refine keeps_inbox (mask_trans rfl hF) ?_)

theorem State.setRelay_keeps {σ : State} {F : Nat} (s : State) (i : Nat) (x : List Arrived) (hF : 8589934592 ||| F = F) (hk : Keeps F σ s) :
    Keeps F σ (State.setRelay s i x) := by
  unfold State.setRelay
  repeat' (first | with_reducible (first
    | assumption) | with_reducible refine keeps_relay (mask_trans rfl hF) ?_)

theorem State.setFld_keeps {σ : State} {F : Nat} (s : State) (a : Nat) (hi : Nat) (lo : Nat) (v : Nat) (hF : 8 ||| F = F) (hk : Keeps F σ s) :
    Keeps F σ (State.setFld s a hi lo v) := by
  unfold State.setFld
  repeat' (first | with_reducible (first
    | assumption
    | refine State.setReg_keeps _ _ _ (mask_trans rfl hF) ?_))

theorem State.bump_keeps {σ : State} {F : Nat} (s : State) (a : Nat) (n : Nat) (hF : 8 ||| F = F) (hk : Keeps F σ s) :
    Keeps F σ (State.bump s a n) := by
  unfold State.bump
  repeat' (first | with_reducible (first
    | assumption
    | refine State.setReg_keeps _ _ _ (mask_trans rfl hF) ?_))

theorem State.sendMsix_keeps {σ : State} {F : Nat} (s : State) (v : Nat) (hF : 260 ||| F = F) (hk : Keeps F σ s) :
    Keeps F σ (State.sendMsix s v) := by
  unfold State.sendMsix
  repeat' (first | with_reducible (first
    | assumption
    | refine State.emit_keeps _ _ (mask_trans rfl hF) ?_
    | refine keeps_ite (fun _ => ?_) (fun _ => ?_)) | with_reducible refine keeps_pba (mask_trans rfl hF) ?_)

theorem State.pageMsix_keeps {σ : State} {F : Nat} (s : State) (page : Nat) (hF : 260 ||| F = F) (hk : Keeps F σ s) :
    Keeps F σ (State.pageMsix s page) := by
  unfold State.pageMsix
  repeat' (first | with_reducible (first
    | assumption
    | refine State.sendMsix_keeps _ _ (mask_trans rfl hF) ?_
    | refine keeps_ite (fun _ => ?_) (fun _ => ?_)))

theorem State.setEv_keeps {σ : State} {F : Nat} (s : State) (page : Nat) (e : Ev) (hF : 8 ||| F = F) (hk : Keeps F σ s) :
    Keeps F σ (State.setEv s page e) := by
  unfold State.setEv
  repeat' (first | with_reducible (first
    | assumption
    | refine State.setReg_keeps _ _ _ (mask_trans rfl hF) ?_
    | refine State.bump_keeps _ _ _ (mask_trans rfl hF) ?_))

theorem State.logDrop_keeps {σ : State} {F : Nat} (s : State) (hF : 268 ||| F = F) (hk : Keeps F σ s) :
    Keeps F σ (State.logDrop s) := by
  unfold State.logDrop
  repeat' (first | with_reducible (first
    | assumption
    | refine State.bump_keeps _ _ _ (mask_trans rfl hF) ?_
    | refine State.setEv_keeps _ _ _ (mask_trans rfl hF) ?_
    | refine State.pageMsix_keeps _ _ (mask_trans rfl hF) ?_
    | refine keeps_ite (fun _ => ?_) (fun _ => ?_)))

theorem State.logRecord_keeps {σ : State} {F : Nat} (s : State) (page : Nat) (src : Nat) (forced : Bool) (e : Ev) (hF : 332 ||| F = F) (hk : Keeps F σ s) :
    Keeps F σ (State.logRecord s page src forced e) := by
  unfold State.logRecord
  repeat' (first | with_reducible (first
    | assumption
    | refine State.logDrop_keeps _ (mask_trans rfl hF) ?_
    | refine State.hostWrite_keeps _ _ _ (mask_trans rfl hF) ?_
    | refine State.setFld_keeps _ _ _ _ _ (mask_trans rfl hF) ?_
    | refine keeps_ite (fun _ => ?_) (fun _ => ?_)))

theorem State.raiseEv_keeps {σ : State} {F : Nat} (s : State) (page : Nat) (src : Nat) (forced : Bool) (e : Ev) (hF : 332 ||| F = F) (hk : Keeps F σ s) :
    Keeps F σ (State.raiseEv s page src forced e) := by
  unfold State.raiseEv
  repeat' (first | with_reducible (first
    | assumption
    | refine State.setEv_keeps _ _ _ (mask_trans rfl hF) ?_
    | refine State.logRecord_keeps _ _ _ _ _ (mask_trans rfl hF) ?_
    | refine keeps_ite (fun _ => ?_) (fun _ => ?_)))

theorem State.raiseAll_keeps {σ : State} {F : Nat} (s : State) (page : Nat) (src : Nat) (forced : Bool) (es : List Ev) (hF : 332 ||| F = F) (hk : Keeps F σ s) :
    Keeps F σ (State.raiseAll s page src forced es) := by
  unfold State.raiseAll
  repeat' (first | with_reducible (first
    | assumption
    | refine State.raiseEv_keeps _ _ _ _ _ (mask_trans rfl hF) ?_
    | refine State.pageMsix_keeps _ _ (mask_trans rfl hF) ?_
    | refine keeps_ite (fun _ => ?_) (fun _ => ?_)
    | refine keeps_foldl (fun _ _ hk => ?_) ?_))

theorem State.raise_keeps {σ : State} {F : Nat} (s : State) (page : Nat) (src : Nat) (bit : Nat) (hF : 332 ||| F = F) (hk : Keeps F σ s) :
    Keeps F σ (State.raise s page src bit) := by
  unfold State.raise
  repeat' (first | with_reducible (first
    | assumption
    | refine State.raiseAll_keeps _ _ _ _ _ (mask_trans rfl hF) ?_))

theorem State.raiseArg_keeps {σ : State} {F : Nat} (s : State) (page : Nat) (src : Nat) (bit : Nat) (a0 : Nat) (a1 : Nat) (hF : 332 ||| F = F) (hk : Keeps F σ s) :
    Keeps F σ (State.raiseArg s page src bit a0 a1) := by
  unfold State.raiseArg
  repeat' (first | with_reducible (first
    | assumption
    | refine State.raiseAll_keeps _ _ _ _ _ (mask_trans rfl hF) ?_))

theorem State.evDev_keeps {σ : State} {F : Nat} (s : State) (bit : Nat) (hF : 332 ||| F = F) (hk : Keeps F σ s) :
    Keeps F σ (State.evDev s bit) := by
  unfold State.evDev
  repeat' (first | with_reducible (first
    | assumption
    | refine State.raise_keeps _ _ _ _ (mask_trans rfl hF) ?_))

theorem State.evFab_keeps {σ : State} {F : Nat} (s : State) (bit : Nat) (hF : 332 ||| F = F) (hk : Keeps F σ s) :
    Keeps F σ (State.evFab s bit) := by
  unfold State.evFab
  repeat' (first | with_reducible (first
    | assumption
    | refine State.raiseAll_keeps _ _ _ _ _ (mask_trans rfl hF) ?_))

theorem State.evPrompt_keeps {σ : State} {F : Nat} (s : State) (bit : Nat) (hF : 332 ||| F = F) (hk : Keeps F σ s) :
    Keeps F σ (State.evPrompt s bit) := by
  unfold State.evPrompt
  repeat' (first | with_reducible (first
    | assumption
    | refine State.raise_keeps _ _ _ _ (mask_trans rfl hF) ?_))

theorem State.evTsu_keeps {σ : State} {F : Nat} (s : State) (bit : Nat) (a0 : Nat) (a1 : Nat) (hF : 332 ||| F = F) (hk : Keeps F σ s) :
    Keeps F σ (State.evTsu s bit a0 a1) := by
  unfold State.evTsu
  repeat' (first | with_reducible (first
    | assumption
    | refine State.raiseArg_keeps _ _ _ _ _ _ (mask_trans rfl hF) ?_))

theorem State.evThm_keeps {σ : State} {F : Nat} (s : State) (bit : Nat) (a0 : Nat) (hF : 332 ||| F = F) (hk : Keeps F σ s) :
    Keeps F σ (State.evThm s bit a0) := by
  unfold State.evThm
  repeat' (first | with_reducible (first
    | assumption
    | refine State.raiseArg_keeps _ _ _ _ _ _ (mask_trans rfl hF) ?_))

theorem State.evSec_keeps {σ : State} {F : Nat} (s : State) (bit : Nat) (hF : 332 ||| F = F) (hk : Keeps F σ s) :
    Keeps F σ (State.evSec s bit) := by
  unfold State.evSec
  repeat' (first | with_reducible (first
    | assumption
    | refine State.raise_keeps _ _ _ _ (mask_trans rfl hF) ?_))

theorem State.evMb_keeps {σ : State} {F : Nat} (s : State) (bit : Nat) (a0 : Nat) (hF : 332 ||| F = F) (hk : Keeps F σ s) :
    Keeps F σ (State.evMb s bit a0) := by
  unfold State.evMb
  repeat' (first | with_reducible (first
    | assumption
    | refine State.raiseArg_keeps _ _ _ _ _ _ (mask_trans rfl hF) ?_))

theorem State.evSite_keeps {σ : State} {F : Nat} (s : State) (k : Nat) (bit : Nat) (hF : 332 ||| F = F) (hk : Keeps F σ s) :
    Keeps F σ (State.evSite s k bit) := by
  unfold State.evSite
  repeat' (first | with_reducible (first
    | assumption
    | refine State.raise_keeps _ _ _ _ (mask_trans rfl hF) ?_))

theorem State.evPort_keeps {σ : State} {F : Nat} (s : State) (port : Nat) (bit : Nat) (hF : 332 ||| F = F) (hk : Keeps F σ s) :
    Keeps F σ (State.evPort s port bit) := by
  unfold State.evPort
  repeat' (first | with_reducible (first
    | assumption
    | refine State.raise_keeps _ _ _ _ (mask_trans rfl hF) ?_))

theorem State.evLnk_keeps {σ : State} {F : Nat} (s : State) (port : Nat) (bit : Nat) (a0 : Nat) (hF : 332 ||| F = F) (hk : Keeps F σ s) :
    Keeps F σ (State.evLnk s port bit a0) := by
  unfold State.evLnk
  repeat' (first | with_reducible (first
    | assumption
    | refine State.raiseAll_keeps _ _ _ _ _ (mask_trans rfl hF) ?_))

theorem State.evPart_keeps {σ : State} {F : Nat} (s : State) (p : Nat) (bit : Nat) (hF : 332 ||| F = F) (hk : Keeps F σ s) :
    Keeps F σ (State.evPart s p bit) := by
  unfold State.evPart
  repeat' (first | with_reducible (first
    | assumption
    | refine State.raise_keeps _ _ _ _ (mask_trans rfl hF) ?_))

theorem State.evUsh_keeps {σ : State} {F : Nat} (s : State) (p : Nat) (bit : Nat) (a0 : Nat) (a1 : Nat) (hF : 332 ||| F = F) (hk : Keeps F σ s) :
    Keeps F σ (State.evUsh s p bit a0 a1) := by
  unfold State.evUsh
  repeat' (first | with_reducible (first
    | assumption
    | refine State.raiseArg_keeps _ _ _ _ _ _ (mask_trans rfl hF) ?_))

theorem State.evBox_keeps {σ : State} {F : Nat} (s : State) (p : Nat) (bit : Nat) (hF : 332 ||| F = F) (hk : Keeps F σ s) :
    Keeps F σ (State.evBox s p bit) := by
  unfold State.evBox
  repeat' (first | with_reducible (first
    | assumption
    | refine State.raise_keeps _ _ _ _ (mask_trans rfl hF) ?_))

theorem State.evSyn_keeps {σ : State} {F : Nat} (s : State) (p : Nat) (bit : Nat) (a0 : Nat) (a1 : Nat) (hF : 332 ||| F = F) (hk : Keeps F σ s) :
    Keeps F σ (State.evSyn s p bit a0 a1) := by
  unfold State.evSyn
  repeat' (first | with_reducible (first
    | assumption
    | refine State.raiseArg_keeps _ _ _ _ _ _ (mask_trans rfl hF) ?_))

theorem State.evClu_keeps {σ : State} {F : Nat} (s : State) (c : Nat) (bit : Nat) (a0 : Nat) (hF : 332 ||| F = F) (hk : Keeps F σ s) :
    Keeps F σ (State.evClu s c bit a0) := by
  unfold State.evClu
  repeat' (first | with_reducible (first
    | assumption
    | refine State.raiseArg_keeps _ _ _ _ _ _ (mask_trans rfl hF) ?_))

theorem State.evChan_keeps {σ : State} {F : Nat} (s : State) (ch : Nat) (bit : Nat) (a0 : Nat) (hF : 332 ||| F = F) (hk : Keeps F σ s) :
    Keeps F σ (State.evChan s ch bit a0) := by
  unfold State.evChan
  repeat' (first | with_reducible (first
    | assumption
    | refine State.raiseArg_keeps _ _ _ _ _ _ (mask_trans rfl hF) ?_))

theorem State.evCore_keeps {σ : State} {F : Nat} (s : State) (i : Nat) (bit : Nat) (a0 : Nat) (a1 : Nat) (hF : 332 ||| F = F) (hk : Keeps F σ s) :
    Keeps F σ (State.evCore s i bit a0 a1) := by
  unfold State.evCore
  repeat' (first | with_reducible (first
    | assumption
    | refine State.raiseArg_keeps _ _ _ _ _ _ (mask_trans rfl hF) ?_))

theorem State.onPage_keeps {σ : State} {F : Nat} (s : State) (k : PageKind) (inst : Nat) (f : State → State) (hf : ∀ (t : State), Keeps F σ t → Keeps F σ (f t)) (hF : 0 ||| F = F) (hk : Keeps F σ s) :
    Keeps F σ (State.onPage s k inst f) := by
  unfold State.onPage
  repeat' (first | with_reducible (first
    | assumption
    | refine hf _ ?_
    | refine keeps_ite (fun _ => ?_) (fun _ => ?_)))

theorem State.captureErr_keeps {σ : State} {F : Nat} (s : State) (w : Nat) (ue : Bool) (hF : 8 ||| F = F) (hk : Keeps F σ s) :
    Keeps F σ (State.captureErr s w ue) := by
  unfold State.captureErr
  repeat' (first | with_reducible (first
    | assumption
    | refine State.setReg_keeps _ _ _ (mask_trans rfl hF) ?_
    | refine keeps_ite (fun _ => ?_) (fun _ => ?_)))

theorem State.countRow_keeps {σ : State} {F : Nat} (s : State) (w : Nat) (hF : 8388608 ||| F = F) (hk : Keeps F σ s) :
    Keeps F σ (State.countRow s w) := by
  unfold State.countRow
  repeat' (first | with_reducible (first
    | assumption
    | refine State.modClu_keeps _ _ _ (mask_trans rfl hF) ?_
    | refine keeps_ite (fun _ => ?_) (fun _ => ?_)))

theorem State.countCe_keeps {σ : State} {F : Nat} (s : State) (w : Nat) (hF : 8388616 ||| F = F) (hk : Keeps F σ s) :
    Keeps F σ (State.countCe s w) := by
  unfold State.countCe
  repeat' (first | with_reducible (first
    | assumption
    | refine State.countRow_keeps _ _ (mask_trans rfl hF) ?_
    | refine State.captureErr_keeps _ _ _ (mask_trans rfl hF) ?_
    | refine State.bump_keeps _ _ _ (mask_trans rfl hF) ?_))

theorem State.poisonWord_keeps {σ : State} {F : Nat} (s : State) (w : Nat) (hF : 364 ||| F = F) (hk : Keeps F σ s) :
    Keeps F σ (State.poisonWord s w) := by
  unfold State.poisonWord
  repeat' (first | with_reducible (first
    | assumption
    | refine State.setHealth_keeps _ _ _ (mask_trans rfl hF) ?_
    | refine State.captureErr_keeps _ _ _ (mask_trans rfl hF) ?_
    | refine State.bump_keeps _ _ _ (mask_trans rfl hF) ?_
    | refine State.evClu_keeps _ _ _ _ (mask_trans rfl hF) ?_))

theorem State.touch_keeps {σ : State} {F : Nat} (s : State) (fixed : Bool) (w : Nat) (hF : 8388990 ||| F = F) (hk : Keeps F σ s) :
    Keeps F σ (State.touch s fixed w) := by
  unfold State.touch
  repeat' (first | with_reducible (first
    | assumption
    | refine State.setHealth_keeps _ _ _ (mask_trans rfl hF) ?_
    | refine State.countCe_keeps _ _ (mask_trans rfl hF) ?_
    | refine State.poisonWord_keeps _ _ (mask_trans rfl hF) ?_
    | refine State.tick_keeps _ (mask_trans rfl hF) ?_
    | refine State.putBytes_keeps _ _ _ (mask_trans rfl hF) ?_
    | refine keeps_ite (fun _ => ?_) (fun _ => ?_)) | split)

theorem State.readMem_keeps {σ : State} {F : Nat} (s : State) (a : Nat) (n : Nat) (hF : 8388990 ||| F = F) (hk : Keeps F σ s) :
    Keeps F σ (State.readMem s a n).1 := by
  unfold State.readMem
  repeat' (first | with_reducible (first
    | assumption
    | refine State.touch_keeps _ _ _ (mask_trans rfl hF) ?_
    | refine keeps_foldl (fun _ _ hk => ?_) ?_))

theorem State.writeMem_keeps {σ : State} {F : Nat} (s : State) (a : Nat) (bs : List Byte) (hF : 8388990 ||| F = F) (hk : Keeps F σ s) :
    Keeps F σ (State.writeMem s a bs).1 := by
  unfold State.writeMem
  repeat' (first | with_reducible (first
    | assumption
    | refine State.setHealth_keeps _ _ _ (mask_trans rfl hF) ?_
    | refine State.touch_keeps _ _ _ (mask_trans rfl hF) ?_
    | refine State.putBytes_keeps _ _ _ (mask_trans rfl hF) ?_
    | refine keeps_ite_fst (fun _ => ?_) (fun _ => ?_)
    | refine keeps_foldl_fst (fun _ _ hk => ?_) ?_))

theorem State.writeMarked_keeps {σ : State} {F : Nat} (s : State) (a : Nat) (cs : List (Byte × Bool)) (hF : 8388990 ||| F = F) (hk : Keeps F σ s) :
    Keeps F σ (State.writeMarked s a cs).1 := by
  unfold State.writeMarked
  repeat' (first | with_reducible (first
    | assumption
    | refine State.writeMem_keeps _ _ _ (mask_trans rfl hF) ?_
    | refine State.setHealth_keeps _ _ _ (mask_trans rfl hF) ?_
    | refine keeps_ite (fun _ => ?_) (fun _ => ?_)
    | refine keeps_foldl (fun _ _ hk => ?_) ?_))

theorem State.strike_keeps {σ : State} {F : Nat} (s : State) (c : Nat) (upsets : List (Nat × Upset)) (hF : 32 ||| F = F) (hk : Keeps F σ s) :
    Keeps F σ (State.strike s c upsets) := by
  unfold State.strike
  repeat' (first | with_reducible (first
    | assumption
    | refine State.setHealth_keeps _ _ _ (mask_trans rfl hF) ?_
    | refine keeps_foldl (fun _ _ hk => ?_) ?_))

theorem State.scrub_keeps {σ : State} {F : Nat} (s : State) (c : Nat) (upsets : List (Nat × Upset)) (hF : 8388990 ||| F = F) (hk : Keeps F σ s) :
    Keeps F σ (State.scrub s c upsets) := by
  unfold State.scrub
  repeat' (first | with_reducible (first
    | assumption
    | refine State.strike_keeps _ _ _ (mask_trans rfl hF) ?_
    | refine State.touch_keeps _ _ _ (mask_trans rfl hF) ?_
    | refine State.modClu_keeps _ _ _ (mask_trans rfl hF) ?_
    | refine State.evClu_keeps _ _ _ _ (mask_trans rfl hF) ?_
    | refine keeps_ite (fun _ => ?_) (fun _ => ?_)
    | refine keeps_foldl (fun _ _ hk => ?_) ?_))

theorem State.repairDone_keeps {σ : State} {F : Nat} (s : State) (c : Nat) (hF : 8388940 ||| F = F) (hk : Keeps F σ s) :
    Keeps F σ (State.repairDone s c) := by
  unfold State.repairDone
  repeat' (first | with_reducible (first
    | assumption
    | refine State.modClu_keeps _ _ _ (mask_trans rfl hF) ?_
    | refine State.raiseAll_keeps _ _ _ _ _ (mask_trans rfl hF) ?_) | split)

theorem State.setLoan_keeps {σ : State} {F : Nat} (s : State) (lender : Nat) (borrower : Nat) (n : Nat) (hF : 1048576 ||| F = F) (hk : Keeps F σ s) :
    Keeps F σ (State.setLoan s lender borrower n) := by
  unfold State.setLoan
  repeat' (first | with_reducible (first
    | assumption) | with_reducible refine keeps_loans (mask_trans rfl hF) ?_)

theorem State.setFree_keeps {σ : State} {F : Nat} (s : State) (p : Nat) (n : Nat) (hF : 524288 ||| F = F) (hk : Keeps F σ s) :
    Keeps F σ (State.setFree s p n) := by
  unfold State.setFree
  repeat' (first | with_reducible (first
    | assumption
    | refine State.modBox_keeps _ _ _ (mask_trans rfl hF) ?_))

theorem State.takeFromCores_keeps {σ : State} {F : Nat} (s : State) (p : Nat) (d : Nat) (hF : 524296 ||| F = F) (hk : Keeps F σ s) :
    Keeps F σ (State.takeFromCores s p d) := by
  unfold State.takeFromCores
  repeat' (first | with_reducible (first
    | assumption
    | refine State.modBox_keeps _ _ _ (mask_trans rfl hF) ?_
    | refine State.bump_keeps _ _ _ (mask_trans rfl hF) ?_))

theorem State.coverFuel_keeps {σ : State} {F : Nat} (n : Nat) (s : State) (p : Nat) (hF : 1572872 ||| F = F) (hk : Keeps F σ s) :
    Keeps F σ (State.coverFuel n s p) := by
  induction n generalizing s p with
  | zero => exact hk
  | succ n ih =>
    unfold State.coverFuel
    repeat' (first | with_reducible (first
      | assumption
      | refine State.setFree_keeps _ _ _ (mask_trans rfl hF) ?_
      | refine State.setLoan_keeps _ _ _ _ (mask_trans rfl hF) ?_
      | refine State.takeFromCores_keeps _ _ _ (mask_trans rfl hF) ?_
      | refine ih _ _ ?_
      | refine keeps_ite (fun _ => ?_) (fun _ => ?_)
      | refine keeps_ite_fst (fun _ => ?_) (fun _ => ?_)
      | refine keeps_foldl_fst (fun _ _ hk => ?_) ?_))

theorem State.cover_keeps {σ : State} {F : Nat} (s : State) (p : Nat) (hF : 1572872 ||| F = F) (hk : Keeps F σ s) :
    Keeps F σ (State.cover s p) := by
  unfold State.cover
  repeat' (first | with_reducible (first
    | assumption
    | refine State.coverFuel_keeps _ _ _ (mask_trans rfl hF) ?_))

theorem State.boxRequest_keeps {σ : State} {F : Nat} (s : State) (core : Nat) (n : Nat) (hF : 524288 ||| F = F) (hk : Keeps F σ s) :
    Keeps F σ (State.boxRequest s core n) := by
  unfold State.boxRequest
  repeat' (first | with_reducible (first
    | assumption
    | refine State.modBox_keeps _ _ _ (mask_trans rfl hF) ?_))

theorem State.boxCancel_keeps {σ : State} {F : Nat} (s : State) (core : Nat) (n : Nat) (hF : 524288 ||| F = F) (hk : Keeps F σ s) :
    Keeps F σ (State.boxCancel s core n) := by
  unfold State.boxCancel
  repeat' (first | with_reducible (first
    | assumption
    | refine State.modBox_keeps _ _ _ (mask_trans rfl hF) ?_))

theorem State.boxReturn_keeps {σ : State} {F : Nat} (s : State) (core : Nat) (n : Nat) (hF : 17301504 ||| F = F) (hk : Keeps F σ s) :
    Keeps F σ (State.boxReturn s core n) := by
  unfold State.boxReturn
  repeat' (first | with_reducible (first
    | assumption
    | refine State.modCore_keeps _ _ _ (mask_trans rfl hF) ?_
    | refine State.modBox_keeps _ _ _ (mask_trans rfl hF) ?_
    | refine keeps_ite (fun _ => ?_) (fun _ => ?_)))

theorem State.borrow_keeps {σ : State} {F : Nat} (s : State) (p : Nat) (need : Nat) (hF : 1572864 ||| F = F) (hk : Keeps F σ s) :
    Keeps F σ (State.borrow s p need) := by
  unfold State.borrow
  repeat' (first | with_reducible (first
    | assumption
    | refine State.modBox_keeps _ _ _ (mask_trans rfl hF) ?_
    | refine State.setLoan_keeps _ _ _ _ (mask_trans rfl hF) ?_
    | refine keeps_ite (fun _ => ?_) (fun _ => ?_)
    | refine keeps_foldl_fst (fun _ _ hk => ?_) ?_))

theorem State.recall_keeps {σ : State} {F : Nat} (s : State) (p : Nat) (need : Nat) (hF : 1572872 ||| F = F) (hk : Keeps F σ s) :
    Keeps F σ (State.recall s p need) := by
  unfold State.recall
  repeat' (first | with_reducible (first
    | assumption
    | refine State.cover_keeps _ _ (mask_trans rfl hF) ?_
    | refine State.setLoan_keeps _ _ _ _ (mask_trans rfl hF) ?_
    | refine State.modBox_keeps _ _ _ (mask_trans rfl hF) ?_
    | refine keeps_ite_fst (fun _ => ?_) (fun _ => ?_)
    | refine keeps_foldl_fst (fun _ _ hk => ?_) ?_))

theorem State.coreGranted_keeps {σ : State} {F : Nat} (s : State) (core : Nat) (n : Nat) (hF : 16777216 ||| F = F) (hk : Keeps F σ s) :
    Keeps F σ (State.coreGranted s core n) := by
  unfold State.coreGranted
  repeat' (first | with_reducible (first
    | assumption
    | refine State.modCore_keeps _ _ _ (mask_trans rfl hF) ?_))

theorem State.deliver_keeps {σ : State} {F : Nat} (s : State) (p : Nat) (e : BoxEnt) (hF : 17301512 ||| F = F) (hk : Keeps F σ s) :
    Keeps F σ (State.deliver s p e) := by
  unfold State.deliver
  repeat' (first | with_reducible (first
    | assumption
    | refine State.modBox_keeps _ _ _ (mask_trans rfl hF) ?_
    | refine State.setReg_keeps _ _ _ (mask_trans rfl hF) ?_
    | refine State.coreGranted_keeps _ _ _ (mask_trans rfl hF) ?_))

theorem State.grantHead_keeps {σ : State} {F : Nat} (s : State) (p : Nat) (hF : 18350088 ||| F = F) (hk : Keeps F σ s) :
    Keeps F σ (State.grantHead s p) := by
  unfold State.grantHead
  repeat' (first | with_reducible (first
    | assumption
    | refine State.recall_keeps _ _ _ (mask_trans rfl hF) ?_
    | refine State.borrow_keeps _ _ _ (mask_trans rfl hF) ?_
    | refine State.modBox_keeps _ _ _ (mask_trans rfl hF) ?_
    | refine State.deliver_keeps _ _ _ (mask_trans rfl hF) ?_
    | refine keeps_ite (fun _ => ?_) (fun _ => ?_)) | split)

theorem State.takeNotice_keeps {σ : State} {F : Nat} (s : State) (core : Nat) (hF : 17301836 ||| F = F) (hk : Keeps F σ s) :
    Keeps F σ (State.takeNotice s core) := by
  unfold State.takeNotice
  repeat' (first | with_reducible (first
    | assumption
    | refine State.modBox_keeps _ _ _ (mask_trans rfl hF) ?_
    | refine State.modCore_keeps _ _ _ (mask_trans rfl hF) ?_
    | refine State.boxRequest_keeps _ _ _ (mask_trans rfl hF) ?_
    | refine State.evCore_keeps _ _ _ _ _ (mask_trans rfl hF) ?_
    | refine keeps_ite (fun _ => ?_) (fun _ => ?_)))

theorem State.commit_keeps {σ : State} {F : Nat} (s : State) (p : Nat) (hF : 1573196 ||| F = F) (hk : Keeps F σ s) :
    Keeps F σ (State.commit s p) := by
  unfold State.commit
  repeat' (first | with_reducible (first
    | assumption
    | refine State.modBox_keeps _ _ _ (mask_trans rfl hF) ?_
    | refine State.evBox_keeps _ _ _ (mask_trans rfl hF) ?_
    | refine State.cover_keeps _ _ (mask_trans rfl hF) ?_
    | refine keeps_ite (fun _ => ?_) (fun _ => ?_)))

theorem State.rateEvent_keeps {σ : State} {F : Nat} (s : State) (n : Nat) (hF : 1638732 ||| F = F) (hk : Keeps F σ s) :
    Keeps F σ (State.rateEvent s n) := by
  unfold State.rateEvent
  repeat' (first | with_reducible (first
    | assumption
    | refine State.bump_keeps _ _ _ (mask_trans rfl hF) ?_
    | refine State.cover_keeps _ _ (mask_trans rfl hF) ?_
    | refine State.modBox_keeps _ _ _ (mask_trans rfl hF) ?_
    | refine State.evBox_keeps _ _ _ (mask_trans rfl hF) ?_
    | refine keeps_ite (fun _ => ?_) (fun _ => ?_)
    | refine keeps_foldl (fun _ _ hk => ?_) ?_) | with_reducible refine keeps_thm (mask_trans rfl hF) ?_)

theorem State.rateEnd_keeps {σ : State} {F : Nat} (s : State) (hF : 1638732 ||| F = F) (hk : Keeps F σ s) :
    Keeps F σ (State.rateEnd s) := by
  unfold State.rateEnd
  repeat' (first | with_reducible (first
    | assumption
    | refine State.evBox_keeps _ _ _ (mask_trans rfl hF) ?_
    | refine State.cover_keeps _ _ (mask_trans rfl hF) ?_
    | refine State.modBox_keeps _ _ _ (mask_trans rfl hF) ?_
    | refine keeps_ite (fun _ => ?_) (fun _ => ?_)
    | refine keeps_foldl (fun _ _ hk => ?_) ?_) | with_reducible refine keeps_thm (mask_trans rfl hF) ?_)

theorem State.applyBoardCap_keeps {σ : State} {F : Nat} (s : State) (hF : 1573196 ||| F = F) (hk : Keeps F σ s) :
    Keeps F σ (State.applyBoardCap s) := by
  unfold State.applyBoardCap
  repeat' (first | with_reducible (first
    | assumption
    | refine State.evBox_keeps _ _ _ (mask_trans rfl hF) ?_
    | refine State.cover_keeps _ _ (mask_trans rfl hF) ?_
    | refine State.modBox_keeps _ _ _ (mask_trans rfl hF) ?_
    | refine State.evThm_keeps _ _ _ (mask_trans rfl hF) ?_
    | refine keeps_ite (fun _ => ?_) (fun _ => ?_)
    | refine keeps_foldl (fun _ _ hk => ?_) ?_))

theorem State.audit_keeps {σ : State} {F : Nat} (s : State) (p : Nat) (hF : 524620 ||| F = F) (hk : Keeps F σ s) :
    Keeps F σ (State.audit s p) := by
  unfold State.audit
  repeat' (first | with_reducible (first
    | assumption
    | refine State.evBox_keeps _ _ _ (mask_trans rfl hF) ?_
    | refine State.modBox_keeps _ _ _ (mask_trans rfl hF) ?_
    | refine keeps_ite (fun _ => ?_) (fun _ => ?_)))

theorem State.endLoans_keeps {σ : State} {F : Nat} (s : State) (p : Nat) (hF : 1572872 ||| F = F) (hk : Keeps F σ s) :
    Keeps F σ (State.endLoans s p) := by
  unfold State.endLoans
  repeat' (first | with_reducible (first
    | assumption
    | refine State.modBox_keeps _ _ _ (mask_trans rfl hF) ?_
    | refine State.setLoan_keeps _ _ _ _ (mask_trans rfl hF) ?_
    | refine State.cover_keeps _ _ (mask_trans rfl hF) ?_
    | refine keeps_ite (fun _ => ?_) (fun _ => ?_)
    | refine keeps_foldl (fun _ _ hk => ?_) ?_))

theorem State.boxStart_keeps {σ : State} {F : Nat} (s : State) (p : Nat) (budget : Nat) (hF : 524288 ||| F = F) (hk : Keeps F σ s) :
    Keeps F σ (State.boxStart s p budget) := by
  unfold State.boxStart
  repeat' (first | with_reducible (first
    | assumption
    | refine State.setBox_keeps _ _ _ (mask_trans rfl hF) ?_))

theorem State.putFlit_keeps {σ : State} {F : Nat} (s : State) (l : Nat) (tenant : Nat) (f : List Byte) (hF : 536870916 ||| F = F) (hk : Keeps F σ s) :
    Keeps F σ (State.putFlit s l tenant f) := by
  unfold State.putFlit
  repeat' (first | with_reducible (first
    | assumption
    | refine State.modLink_keeps _ _ _ (mask_trans rfl hF) ?_
    | refine State.emit_keeps _ _ (mask_trans rfl hF) ?_
    | refine keeps_ite (fun _ => ?_) (fun _ => ?_)))

theorem State.placeSet_keeps {σ : State} {F : Nat} (s : State) (l : Nat) (os : List Byte) (hF : 536870916 ||| F = F) (hk : Keeps F σ s) :
    Keeps F σ (State.placeSet s l os) := by
  unfold State.placeSet
  repeat' (first | with_reducible (first
    | assumption
    | refine State.modLink_keeps _ _ _ (mask_trans rfl hF) ?_
    | refine State.emit_keeps _ _ (mask_trans rfl hF) ?_
    | refine keeps_ite (fun _ => ?_) (fun _ => ?_)))

theorem State.sendPlain_keeps {σ : State} {F : Nat} (s : State) (l : Nat) (type : Nat) (payload : List Byte) (hF : 536870916 ||| F = F) (hk : Keeps F σ s) :
    Keeps F σ (State.sendPlain s l type payload) := by
  unfold State.sendPlain
  repeat' (first | with_reducible (first
    | assumption
    | refine State.putFlit_keeps _ _ _ _ (mask_trans rfl hF) ?_
    | refine State.setLink_keeps _ _ _ (mask_trans rfl hF) ?_))

theorem State.sendNull_keeps {σ : State} {F : Nat} (s : State) (l : Nat) (hF : 536870916 ||| F = F) (hk : Keeps F σ s) :
    Keeps F σ (State.sendNull s l) := by
  unfold State.sendNull
  repeat' (first | with_reducible (first
    | assumption
    | refine State.sendPlain_keeps _ _ _ _ (mask_trans rfl hF) ?_))

theorem State.sendCtl_keeps {σ : State} {F : Nat} (s : State) (l : Nat) (body : List Byte) (hF : 536870916 ||| F = F) (hk : Keeps F σ s) :
    Keeps F σ (State.sendCtl s l body) := by
  unfold State.sendCtl
  repeat' (first | with_reducible (first
    | assumption
    | refine State.sendPlain_keeps _ _ _ _ (mask_trans rfl hF) ?_))

theorem State.reportCredits_keeps {σ : State} {F : Nat} (s : State) (l : Nat) (hF : 536870916 ||| F = F) (hk : Keeps F σ s) :
    Keeps F σ (State.reportCredits s l) := by
  unfold State.reportCredits
  repeat' (first | with_reducible (first
    | assumption
    | refine State.sendNull_keeps _ _ (mask_trans rfl hF) ?_
    | refine keeps_ite (fun _ => ?_) (fun _ => ?_)
    | refine keeps_forN (fun _ _ hk => ?_) ?_))

theorem State.sendData_keeps {σ : State} {F : Nat} (s : State) (l : Nat) (tc : Nat) (first : Bool) (hF : 536870916 ||| F = F) (hk : Keeps F σ s) :
    Keeps F σ (State.sendData s l tc first) := by
  unfold State.sendData
  repeat' (first | with_reducible (first
    | assumption
    | refine State.putFlit_keeps _ _ _ _ (mask_trans rfl hF) ?_
    | refine State.setLink_keeps _ _ _ (mask_trans rfl hF) ?_
    | refine keeps_ite (fun _ => ?_) (fun _ => ?_)) | split | (dsimp only; split))

theorem State.pump_keeps {σ : State} {F : Nat} (s : State) (l : Nat) (hF : 536870916 ||| F = F) (hk : Keeps F σ s) :
    Keeps F σ (State.pump s l) := by
  unfold State.pump
  repeat' (first | with_reducible (first
    | assumption
    | refine State.sendData_keeps _ _ _ _ (mask_trans rfl hF) ?_
    | refine keeps_ite (fun _ => ?_) (fun _ => ?_)
    | refine keeps_foldl (fun _ _ hk => ?_) ?_
    | refine keeps_forN (fun _ _ hk => ?_) ?_))

theorem State.noRoute_keeps {σ : State} {F : Nat} (s : State) (hF : 332 ||| F = F) (hk : Keeps F σ s) :
    Keeps F σ (State.noRoute s) := by
  unfold State.noRoute
  repeat' (first | with_reducible (first
    | assumption
    | refine State.evFab_keeps _ _ (mask_trans rfl hF) ?_
    | refine State.bump_keeps _ _ _ (mask_trans rfl hF) ?_))

theorem State.enqueue_keeps {σ : State} {F : Nat} (s : State) (l : Nat) (m : Msg) (hF : 536870912 ||| F = F) (hk : Keeps F σ s) :
    Keeps F σ (State.enqueue s l m) := by
  unfold State.enqueue
  repeat' (first | with_reducible (first
    | assumption
    | refine State.modLink_keeps _ _ _ (mask_trans rfl hF) ?_))

theorem State.deliverTo_keeps {σ : State} {F : Nat} (s : State) (p : Nat) (m : Msg) (l : Nat) (hF : 4294967296 ||| F = F) (hk : Keeps F σ s) :
    Keeps F σ (State.deliverTo s p m l) := by
  unfold State.deliverTo
  repeat' (first | with_reducible (first
    | assumption
    | refine State.setInbox_keeps _ _ _ (mask_trans rfl hF) ?_))

theorem State.forward_keeps {σ : State} {F : Nat} (s : State) (r : Nat) (m : Msg) (via : Option Nat) (hF : 13421773132 ||| F = F) (hk : Keeps F σ s) :
    Keeps F σ (State.forward s r m via).1 := by
  unfold State.forward
  repeat' (first | with_reducible (first
    | assumption
    | refine State.enqueue_keeps _ _ _ (mask_trans rfl hF) ?_
    | refine State.setRelay_keeps _ _ _ (mask_trans rfl hF) ?_
    | refine State.deliverTo_keeps _ _ _ _ (mask_trans rfl hF) ?_
    | refine State.noRoute_keeps _ (mask_trans rfl hF) ?_
    | refine keeps_ite_fst (fun _ => ?_) (fun _ => ?_)) | split)

theorem State.sendPeer_keeps {σ : State} {F : Nat} (s : State) (p : Nat) (c : Nat) (tc : Nat) (part : Nat) (profile : Nat) (body : List Byte) (hF : 13421773132 ||| F = F) (hk : Keeps F σ s) :
    Keeps F σ (State.sendPeer s p c tc part profile body).1 := by
  unfold State.sendPeer
  repeat' (first | with_reducible (first
    | assumption
    | refine State.enqueue_keeps _ _ _ (mask_trans rfl hF) ?_
    | refine State.noRoute_keeps _ (mask_trans rfl hF) ?_
    | refine State.forward_keeps _ _ _ _ (mask_trans rfl hF) ?_
    | refine keeps_ite_fst (fun _ => ?_) (fun _ => ?_)))

theorem State.reply_keeps {σ : State} {F : Nat} (s : State) (p : Nat) (m : Msg) (tc : Nat) (profile : Nat) (body : List Byte) (hF : 13421773132 ||| F = F) (hk : Keeps F σ s) :
    Keeps F σ (State.reply s p m tc profile body) := by
  unfold State.reply
  repeat' (first | with_reducible (first
    | assumption
    | refine State.forward_keeps _ _ _ _ (mask_trans rfl hF) ?_))

theorem State.freeCredits_keeps {σ : State} {F : Nat} (s : State) (l : Nat) (m : Msg) (hF : 536870916 ||| F = F) (hk : Keeps F σ s) :
    Keeps F σ (State.freeCredits s l m) := by
  unfold State.freeCredits
  repeat' (first | with_reducible (first
    | assumption
    | refine State.reportCredits_keeps _ _ (mask_trans rfl hF) ?_
    | refine State.modLink_keeps _ _ _ (mask_trans rfl hF) ?_
    | refine keeps_ite (fun _ => ?_) (fun _ => ?_)))

theorem State.takeMsg_keeps {σ : State} {F : Nat} (s : State) (p : Nat) (m : Msg) (hF : 4831838212 ||| F = F) (hk : Keeps F σ s) :
    Keeps F σ (State.takeMsg s p m) := by
  unfold State.takeMsg
  repeat' (first | with_reducible (first
    | assumption
    | refine State.freeCredits_keeps _ _ _ (mask_trans rfl hF) ?_
    | refine State.setInbox_keeps _ _ _ (mask_trans rfl hF) ?_) | split)

theorem State.discardMsg_keeps {σ : State} {F : Nat} (s : State) (p : Nat) (m : Msg) (hF : 4831838220 ||| F = F) (hk : Keeps F σ s) :
    Keeps F σ (State.discardMsg s p m) := by
  unfold State.discardMsg
  repeat' (first | with_reducible (first
    | assumption
    | refine State.takeMsg_keeps _ _ _ (mask_trans rfl hF) ?_
    | refine State.bump_keeps _ _ _ (mask_trans rfl hF) ?_
    | refine keeps_ite (fun _ => ?_) (fun _ => ?_)) | split)

theorem State.setHandle_keeps {σ : State} {F : Nat} (s : State) (p : Nat) (h : Nat) (x : Option HandleSt) (hF : 2097152 ||| F = F) (hk : Keeps F σ s) :
    Keeps F σ (State.setHandle s p h x) := by
  unfold State.setHandle
  repeat' (first | with_reducible (first
    | assumption
    | refine State.modUsher_keeps _ _ _ (mask_trans rfl hF) ?_))

theorem State.modShard_keeps {σ : State} {F : Nat} (s : State) (p : Nat) (h : Nat) (k : Nat) (f : ShardSt → ShardSt) (hF : 2097152 ||| F = F) (hk : Keeps F σ s) :
    Keeps F σ (State.modShard s p h k f) := by
  unfold State.modShard
  repeat' (first | with_reducible (first
    | assumption
    | refine State.setHandle_keeps _ _ _ _ (mask_trans rfl hF) ?_) | split)

theorem State.readHandle_keeps {σ : State} {F : Nat} (s : State) (p : Nat) (h : Nat) (off : Nat) (n : Nat) (c : Option Nat) (hF : 10486142 ||| F = F) (hk : Keeps F σ s) :
    Keeps F σ (State.readHandle s p h off n c).1 := by
  unfold State.readHandle
  repeat' (first | with_reducible (first
    | assumption
    | refine State.readMem_keeps _ _ _ (mask_trans rfl hF) ?_
    | refine State.modShard_keeps _ _ _ _ _ (mask_trans rfl hF) ?_
    | refine keeps_foldl_fst (fun _ _ hk => ?_) ?_) | split)

theorem State.writeHandle_keeps {σ : State} {F : Nat} (s : State) (p : Nat) (h : Nat) (off : Nat) (cs : List (Byte × Bool)) (c : Option Nat) (hF : 10486142 ||| F = F) (hk : Keeps F σ s) :
    Keeps F σ (State.writeHandle s p h off cs c).1 := by
  unfold State.writeHandle
  repeat' (first | with_reducible (first
    | assumption
    | refine State.writeMarked_keeps _ _ _ (mask_trans rfl hF) ?_
    | refine State.modShard_keeps _ _ _ _ _ (mask_trans rfl hF) ?_
    | refine keeps_foldl_fst (fun _ _ hk => ?_) ?_) | split)

theorem State.endRead_keeps {σ : State} {F : Nat} (s : State) (ch : Nat) (e : Endpt) (d : Int) (n : Nat) (hF : 10486142 ||| F = F) (hk : Keeps F σ s) :
    Keeps F σ (State.endRead s ch e d n).1 := by
  unfold State.endRead
  repeat' (first | with_reducible (first
    | assumption
    | refine State.readHandle_keeps _ _ _ _ _ _ (mask_trans rfl hF) ?_
    | refine State.readMem_keeps _ _ _ (mask_trans rfl hF) ?_) | split)

theorem State.endWrite_keeps {σ : State} {F : Nat} (s : State) (ch : Nat) (e : Endpt) (d : Int) (cs : List (Byte × Bool)) (hF : 10486142 ||| F = F) (hk : Keeps F σ s) :
    Keeps F σ (State.endWrite s ch e d cs).1 := by
  unfold State.endWrite
  repeat' (first | with_reducible (first
    | assumption
    | refine State.writeHandle_keeps _ _ _ _ _ _ (mask_trans rfl hF) ?_
    | refine State.writeMarked_keeps _ _ _ (mask_trans rfl hF) ?_
    | refine State.hostWrite_keeps _ _ _ (mask_trans rfl hF) ?_) | split)

theorem State.touchWords_keeps {σ : State} {F : Nat} (s : State) (e : Endpt) (fixed : Bool) (os : List Nat) (hF : 8388990 ||| F = F) (hk : Keeps F σ s) :
    Keeps F σ (State.touchWords s e fixed os).1 := by
  unfold State.touchWords
  repeat' (first | with_reducible (first
    | assumption
    | refine State.touch_keeps _ _ _ (mask_trans rfl hF) ?_
    | refine keeps_foldl_fst (fun _ _ hk => ?_) ?_) | split)

theorem State.unitRead_keeps {σ : State} {F : Nat} (s : State) (ch : Nat) (e : Endpt) (w : Nat) (d : Int) (n : Nat) (hF : 10486142 ||| F = F) (hk : Keeps F σ s) :
    Keeps F σ (State.unitRead s ch e w d n).1 := by
  unfold State.unitRead
  repeat' (first | with_reducible (first
    | assumption
    | refine State.touchWords_keeps _ _ _ _ (mask_trans rfl hF) ?_
    | refine State.endRead_keeps _ _ _ _ _ (mask_trans rfl hF) ?_))

theorem State.unitWrite_keeps {σ : State} {F : Nat} (s : State) (ch : Nat) (e : Endpt) (w : Nat) (d : Int) (cs : List (Byte × Bool)) (hF : 10486142 ||| F = F) (hk : Keeps F σ s) :
    Keeps F σ (State.unitWrite s ch e w d cs).1 := by
  unfold State.unitWrite
  repeat' (first | with_reducible (first
    | assumption
    | refine State.touchWords_keeps _ _ _ _ (mask_trans rfl hF) ?_
    | refine State.endWrite_keeps _ _ _ _ _ (mask_trans rfl hF) ?_))

end Sys2Proof.Machine
end

