-- ==== Sys2Proof/Laws/KeepsCores.lean ====
section
/-! SUPPORT. `Keeps` for the operations of cores and sync units. -/

namespace Sys2Proof.Machine

open Sys2Proof

theorem State.fetchOne_keeps {σ : State} {F : Nat} (s : State) (i : Nat) (hF : 25166206 ||| F = F) (hk : Keeps F σ s) :
    Keeps F σ (State.fetchOne s i) := by
  unfold State.fetchOne
  repeat' (first | with_reducible (first
    | assumption
    | refine State.modCore_keeps _ _ _ (mask_trans rfl hF) ?_
    | refine State.readMem_keeps _ _ _ (mask_trans rfl hF) ?_
    | refine keeps_ite (fun _ => ?_) (fun _ => ?_)))

theorem State.fetch_keeps {σ : State} {F : Nat} (s : State) (i : Nat) (hF : 25166206 ||| F = F) (hk : Keeps F σ s) :
    Keeps F σ (State.fetch s i) := by
  unfold State.fetch
  repeat' (first | with_reducible (first
    | assumption
    | refine State.fetchOne_keeps _ _ (mask_trans rfl hF) ?_
    | refine keeps_forN (fun _ _ hk => ?_) ?_))

theorem State.advance_keeps {σ : State} {F : Nat} (s : State) (i : Nat) (hF : 16777216 ||| F = F) (hk : Keeps F σ s) :
    Keeps F σ (State.advance s i) := by
  unfold State.advance
  repeat' (first | with_reducible (first
    | assumption
    | refine State.modCore_keeps _ _ _ (mask_trans rfl hF) ?_))

theorem State.modFlight_keeps {σ : State} {F : Nat} (s : State) (i : Nat) (idx : Nat) (f : Flight → Flight) (hF : 16777216 ||| F = F) (hk : Keeps F σ s) :
    Keeps F σ (State.modFlight s i idx f) := by
  unfold State.modFlight
  repeat' (first | with_reducible (first
    | assumption
    | refine State.modCore_keeps _ _ _ (mask_trans rfl hF) ?_))

theorem State.writeBack_keeps {σ : State} {F : Nat} (s : State) (i : Nat) (f : Flight) (hF : 8388990 ||| F = F) (hk : Keeps F σ s) :
    Keeps F σ (State.writeBack s i f) := by
  unfold State.writeBack
  repeat' (first | with_reducible (first
    | assumption
    | refine State.setReg_keeps _ _ _ (mask_trans rfl hF) ?_
    | refine State.writeMem_keeps _ _ _ (mask_trans rfl hF) ?_
    | refine State.evCore_keeps _ _ _ _ _ (mask_trans rfl hF) ?_
    | refine State.setFld_keeps _ _ _ _ _ (mask_trans rfl hF) ?_
    | refine keeps_ite (fun _ => ?_) (fun _ => ?_)))

theorem State.endFlight_keeps {σ : State} {F : Nat} (s : State) (i : Nat) (idx : Nat) (hF : 25166206 ||| F = F) (hk : Keeps F σ s) :
    Keeps F σ (State.endFlight s i idx) := by
  unfold State.endFlight
  repeat' (first | with_reducible (first
    | assumption
    | refine State.modFlight_keeps _ _ _ _ (mask_trans rfl hF) ?_
    | refine State.writeBack_keeps _ _ _ (mask_trans rfl hF) ?_) | split)

theorem State.abortFlight_keeps {σ : State} {F : Nat} (s : State) (i : Nat) (f : Flight) (hF : 29884798 ||| F = F) (hk : Keeps F σ s) :
    Keeps F σ (State.abortFlight s i f) := by
  unfold State.abortFlight
  repeat' (first | with_reducible (first
    | assumption
    | refine State.modSync_keeps _ _ _ (mask_trans rfl hF) ?_
    | refine State.boxCancel_keeps _ _ _ (mask_trans rfl hF) ?_
    | refine State.endFlight_keeps _ _ _ (mask_trans rfl hF) ?_
    | refine State.modFlight_keeps _ _ _ _ (mask_trans rfl hF) ?_
    | refine keeps_ite (fun _ => ?_) (fun _ => ?_)))

theorem State.abortDead_keeps {σ : State} {F : Nat} (s : State) (i : Nat) (hF : 29884798 ||| F = F) (hk : Keeps F σ s) :
    Keeps F σ (State.abortDead s i) := by
  unfold State.abortDead
  repeat' (first | with_reducible (first
    | assumption
    | refine State.abortFlight_keeps _ _ _ (mask_trans rfl hF) ?_
    | refine keeps_foldl (fun _ _ hk => ?_) ?_))

theorem State.abortBehind_keeps {σ : State} {F : Nat} (s : State) (i : Nat) (idx : Nat) (hF : 29884798 ||| F = F) (hk : Keeps F σ s) :
    Keeps F σ (State.abortBehind s i idx) := by
  unfold State.abortBehind
  repeat' (first | with_reducible (first
    | assumption
    | refine State.abortDead_keeps _ _ (mask_trans rfl hF) ?_
    | refine State.abortFlight_keeps _ _ _ (mask_trans rfl hF) ?_
    | refine keeps_foldl (fun _ _ hk => ?_) ?_))

theorem State.abortWaits_keeps {σ : State} {F : Nat} (s : State) (i : Nat) (hF : 29884798 ||| F = F) (hk : Keeps F σ s) :
    Keeps F σ (State.abortWaits s i) := by
  unfold State.abortWaits
  repeat' (first | with_reducible (first
    | assumption
    | refine State.abortFlight_keeps _ _ _ (mask_trans rfl hF) ?_
    | refine State.abortDead_keeps _ _ (mask_trans rfl hF) ?_
    | refine keeps_foldl (fun _ _ hk => ?_) ?_) | split)

theorem State.faultAt_keeps {σ : State} {F : Nat} (s : State) (i : Nat) (idx : Nat) (code : Nat) (hF : 29884798 ||| F = F) (hk : Keeps F σ s) :
    Keeps F σ (State.faultAt s i idx code) := by
  unfold State.faultAt
  repeat' (first | with_reducible (first
    | assumption
    | refine State.modCore_keeps _ _ _ (mask_trans rfl hF) ?_
    | refine State.abortBehind_keeps _ _ _ (mask_trans rfl hF) ?_))

theorem State.finish_keeps {σ : State} {F : Nat} (s : State) (i : Nat) (idx : Nat) (hF : 29884798 ||| F = F) (hk : Keeps F σ s) :
    Keeps F σ (State.finish s i idx) := by
  unfold State.finish
  repeat' (first | with_reducible (first
    | assumption
    | refine State.endFlight_keeps _ _ _ (mask_trans rfl hF) ?_
    | refine State.faultAt_keeps _ _ _ _ (mask_trans rfl hF) ?_
    | refine State.advance_keeps _ _ (mask_trans rfl hF) ?_
    | refine keeps_ite (fun _ => ?_) (fun _ => ?_)) | split)

theorem State.releaseWaiter_keeps {σ : State} {F : Nat} (s : State) (p : Nat) (w : Waiter) (hF : 20971520 ||| F = F) (hk : Keeps F σ s) :
    Keeps F σ (State.releaseWaiter s p w) := by
  unfold State.releaseWaiter
  repeat' (first | with_reducible (first
    | assumption
    | refine State.modCore_keeps _ _ _ (mask_trans rfl hF) ?_
    | refine State.modSync_keeps _ _ _ (mask_trans rfl hF) ?_
    | refine keeps_ite (fun _ => ?_) (fun _ => ?_)))

theorem State.tailMoved_keeps {σ : State} {F : Nat} (s : State) (p : Nat) (o : Nat) (hF : 25166206 ||| F = F) (hk : Keeps F σ s) :
    Keeps F σ (State.tailMoved s p o) := by
  unfold State.tailMoved
  repeat' (first | with_reducible (first
    | assumption
    | refine State.fetch_keeps _ _ (mask_trans rfl hF) ?_
    | refine keeps_foldl (fun _ _ hk => ?_) ?_))

theorem State.objOp_keeps {σ : State} {F : Nat} (s : State) (p : Nat) (o : Nat) (set : Bool) (v : Nat) (hF : 29360510 ||| F = F) (hk : Keeps F σ s) :
    Keeps F σ (State.objOp s p o set v) := by
  unfold State.objOp
  repeat' (first | with_reducible (first
    | assumption
    | refine State.modSync_keeps _ _ _ (mask_trans rfl hF) ?_
    | refine State.releaseWaiter_keeps _ _ _ (mask_trans rfl hF) ?_
    | refine State.tailMoved_keeps _ _ _ (mask_trans rfl hF) ?_
    | refine keeps_foldl (fun _ _ hk => ?_) ?_))

theorem State.addWaiter_keeps {σ : State} {F : Nat} (s : State) (p : Nat) (w : Waiter) (hF : 20971520 ||| F = F) (hk : Keeps F σ s) :
    Keeps F σ (State.addWaiter s p w) := by
  unfold State.addWaiter
  repeat' (first | with_reducible (first
    | assumption
    | refine State.modSync_keeps _ _ _ (mask_trans rfl hF) ?_
    | refine State.releaseWaiter_keeps _ _ _ (mask_trans rfl hF) ?_
    | refine keeps_ite (fun _ => ?_) (fun _ => ?_)))

theorem State.dropWaiter_keeps {σ : State} {F : Nat} (s : State) (p : Nat) (src : Nat) (hF : 4194304 ||| F = F) (hk : Keeps F σ s) :
    Keeps F σ (State.dropWaiter s p src) := by
  unfold State.dropWaiter
  repeat' (first | with_reducible (first
    | assumption
    | refine State.modSync_keeps _ _ _ (mask_trans rfl hF) ?_))

theorem State.modPeerSeq_keeps {σ : State} {F : Nat} (s : State) (p : Nat) (c : Nat) (f : PeerSeq → PeerSeq) (hF : 4194304 ||| F = F) (hk : Keeps F σ s) :
    Keeps F σ (State.modPeerSeq s p c f) := by
  unfold State.modPeerSeq
  repeat' (first | with_reducible (first
    | assumption
    | refine State.modSync_keeps _ _ _ (mask_trans rfl hF) ?_))

theorem State.sendSync_keeps {σ : State} {F : Nat} (s : State) (p : Nat) (c : Nat) (kind : Nat) (set : Bool) (obj : Nat) (value : Nat) (seq : Nat) (src : Nat) (hF : 13421773132 ||| F = F) (hk : Keeps F σ s) :
    Keeps F σ (State.sendSync s p c kind set obj value seq src).1 := by
  unfold State.sendSync
  repeat' (first | with_reducible (first
    | assumption
    | refine State.sendPeer_keeps _ _ _ _ _ _ _ (mask_trans rfl hF) ?_))

theorem State.resendMore_keeps {σ : State} {F : Nat} (s : State) (p : Nat) (hF : 13425967436 ||| F = F) (hk : Keeps F σ s) :
    Keeps F σ (State.resendMore s p) := by
  unfold State.resendMore
  repeat' (first | with_reducible (first
    | assumption
    | refine State.sendPeer_keeps _ _ _ _ _ _ _ (mask_trans rfl hF) ?_
    | refine State.modPeerSeq_keeps _ _ _ _ (mask_trans rfl hF) ?_
    | refine keeps_ite (fun _ => ?_) (fun _ => ?_)
    | refine keeps_foldl (fun _ _ hk => ?_) ?_
    | refine keeps_forN (fun _ _ hk => ?_) ?_) | split)

theorem State.remoteSignal_keeps {σ : State} {F : Nat} (s : State) (src : Nat) (c : Nat) (set : Bool) (obj : Nat) (value : Nat) (hF : 13425967436 ||| F = F) (hk : Keeps F σ s) :
    Keeps F σ (State.remoteSignal s src c set obj value).1 := by
  unfold State.remoteSignal
  repeat' (first | with_reducible (first
    | assumption
    | refine State.sendSync_keeps _ _ _ _ _ _ _ _ _ (mask_trans rfl hF) ?_
    | refine State.modPeerSeq_keeps _ _ _ _ (mask_trans rfl hF) ?_
    | refine keeps_ite_fst (fun _ => ?_) (fun _ => ?_)))

theorem State.returnTickets_keeps {σ : State} {F : Nat} (s : State) (i : Nat) (count : Nat) (hF : 17301504 ||| F = F) (hk : Keeps F σ s) :
    Keeps F σ (State.returnTickets s i count) := by
  unfold State.returnTickets
  repeat' (first | with_reducible (first
    | assumption
    | refine State.modCore_keeps _ _ _ (mask_trans rfl hF) ?_
    | refine State.boxCancel_keeps _ _ _ (mask_trans rfl hF) ?_
    | refine State.boxReturn_keeps _ _ _ (mask_trans rfl hF) ?_))

theorem State.endActs_keeps {σ : State} {F : Nat} (s : State) (i : Nat) (f : Flight) (hF : 29884798 ||| F = F) (hk : Keeps F σ s) :
    Keeps F σ (State.endActs s i f) := by
  unfold State.endActs
  repeat' (first | with_reducible (first
    | assumption
    | refine State.boxReturn_keeps _ _ _ (mask_trans rfl hF) ?_
    | refine State.setReg_keeps _ _ _ (mask_trans rfl hF) ?_
    | refine State.endFlight_keeps _ _ _ (mask_trans rfl hF) ?_
    | refine State.faultAt_keeps _ _ _ _ (mask_trans rfl hF) ?_
    | refine State.modCore_keeps _ _ _ (mask_trans rfl hF) ?_
    | refine State.evCore_keeps _ _ _ _ _ (mask_trans rfl hF) ?_
    | refine keeps_ite (fun _ => ?_) (fun _ => ?_)))

theorem State.act_keeps {σ : State} {F : Nat} (s : State) (i : Nat) (f : Flight) (hF : 13451657598 ||| F = F) (hk : Keeps F σ s) :
    Keeps F σ (State.act s i f) := by
  unfold State.act
  repeat' (first | with_reducible (first
    | assumption
    | refine State.modFlight_keeps _ _ _ _ (mask_trans rfl hF) ?_
    | refine State.remoteSignal_keeps _ _ _ _ _ _ (mask_trans rfl hF) ?_
    | refine State.objOp_keeps _ _ _ _ _ (mask_trans rfl hF) ?_
    | refine State.returnTickets_keeps _ _ _ (mask_trans rfl hF) ?_
    | refine State.endActs_keeps _ _ _ (mask_trans rfl hF) ?_
    | refine keeps_ite (fun _ => ?_) (fun _ => ?_)) | split | (dsimp only; split))

theorem State.settle_keeps {σ : State} {F : Nat} (s : State) (i : Nat) (hF : 13451657598 ||| F = F) (hk : Keeps F σ s) :
    Keeps F σ (State.settle s i) := by
  unfold State.settle
  repeat' (first | with_reducible (first
    | assumption
    | refine State.act_keeps _ _ _ (mask_trans rfl hF) ?_
    | refine keeps_foldl (fun _ _ hk => ?_) ?_) | split)

theorem State.settleAll_keeps {σ : State} {F : Nat} (s : State) (p : Nat) (hF : 13451657598 ||| F = F) (hk : Keeps F σ s) :
    Keeps F σ (State.settleAll s p) := by
  unfold State.settleAll
  repeat' (first | with_reducible (first
    | assumption
    | refine State.settle_keeps _ _ (mask_trans rfl hF) ?_
    | refine keeps_foldl (fun _ _ hk => ?_) ?_))

theorem State.roomFreed_keeps {σ : State} {F : Nat} (s : State) (p : Nat) (hF : 13451657598 ||| F = F) (hk : Keeps F σ s) :
    Keeps F σ (State.roomFreed s p) := by
  unfold State.roomFreed
  repeat' (first | with_reducible (first
    | assumption
    | refine State.settleAll_keeps _ _ (mask_trans rfl hF) ?_
    | refine State.resendMore_keeps _ _ (mask_trans rfl hF) ?_))

theorem State.askTickets_keeps {σ : State} {F : Nat} (s : State) (i : Nat) (hF : 17301504 ||| F = F) (hk : Keeps F σ s) :
    Keeps F σ (State.askTickets s i) := by
  unfold State.askTickets
  repeat' (first | with_reducible (first
    | assumption
    | refine State.boxRequest_keeps _ _ _ (mask_trans rfl hF) ?_
    | refine State.modFlight_keeps _ _ _ _ (mask_trans rfl hF) ?_
    | refine keeps_ite (fun _ => ?_) (fun _ => ?_)) | split)

theorem State.complete_keeps {σ : State} {F : Nat} (s : State) (i : Nat) (idx : Nat) (hF : 13451657598 ||| F = F) (hk : Keeps F σ s) :
    Keeps F σ (State.complete s i idx) := by
  unfold State.complete
  repeat' (first | with_reducible (first
    | assumption
    | refine State.fetch_keeps _ _ (mask_trans rfl hF) ?_
    | refine State.askTickets_keeps _ _ (mask_trans rfl hF) ?_
    | refine State.settle_keeps _ _ (mask_trans rfl hF) ?_
    | refine State.finish_keeps _ _ _ (mask_trans rfl hF) ?_))

theorem State.enter_keeps {σ : State} {F : Nat} (s : State) (i : Nat) (x : Slot) (code : Nat) (hF : 16777216 ||| F = F) (hk : Keeps F σ s) :
    Keeps F σ (State.enter s i x code) := by
  unfold State.enter
  repeat' (first | with_reducible (first
    | assumption
    | refine State.modCore_keeps _ _ _ (mask_trans rfl hF) ?_))

theorem State.issue_keeps {σ : State} {F : Nat} (s : State) (i : Nat) (op : Nat) (effect : State → Slot → State) (heffect : ∀ (t : State) (x1 : Slot), Keeps F σ t → Keeps F σ (effect t x1)) (hF : 13451657598 ||| F = F) (hk : Keeps F σ s) :
    Keeps F σ (State.issue s i op effect) := by
  unfold State.issue
  repeat' (first | with_reducible (first
    | assumption
    | refine heffect _ _ ?_
    | refine State.enter_keeps _ _ _ _ (mask_trans rfl hF) ?_
    | refine State.fetch_keeps _ _ (mask_trans rfl hF) ?_
    | refine State.settle_keeps _ _ (mask_trans rfl hF) ?_
    | refine keeps_ite (fun _ => ?_) (fun _ => ?_)) | split)

theorem State.scrWrite_keeps {σ : State} {F : Nat} (s : State) (i : Nat) (ws : List (Nat × List Byte)) (hF : 8388990 ||| F = F) (hk : Keeps F σ s) :
    Keeps F σ (State.scrWrite s i ws).1 := by
  unfold State.scrWrite
  repeat' (first | with_reducible (first
    | assumption
    | refine State.writeMem_keeps _ _ _ (mask_trans rfl hF) ?_
    | refine keeps_foldl_fst (fun _ _ hk => ?_) ?_))

theorem State.scrMeet_keeps {σ : State} {F : Nat} (s : State) (i : Nat) (rs : List (Nat × Nat)) (hF : 8388990 ||| F = F) (hk : Keeps F σ s) :
    Keeps F σ (State.scrMeet s i rs).1 := by
  unfold State.scrMeet
  repeat' (first | with_reducible (first
    | assumption
    | refine State.readMem_keeps _ _ _ (mask_trans rfl hF) ?_
    | refine keeps_foldl_fst (fun _ _ hk => ?_) ?_))

theorem State.computed_keeps {σ : State} {F : Nat} (s : State) (i : Nat) (x : Slot) (poison : Bool) (ws : List (Nat × List Byte)) (xs : List (Nat × Xa)) (fl : Flags) (hF : 25166206 ||| F = F) (hk : Keeps F σ s) :
    Keeps F σ (State.computed s i x poison ws xs fl) := by
  unfold State.computed
  repeat' (first | with_reducible (first
    | assumption
    | refine State.scrWrite_keeps _ _ _ (mask_trans rfl hF) ?_
    | refine State.tick_keeps _ (mask_trans rfl hF) ?_
    | refine State.modCore_keeps _ _ _ (mask_trans rfl hF) ?_
    | refine State.modFlight_keeps _ _ _ _ (mask_trans rfl hF) ?_
    | refine keeps_ite (fun _ => ?_) (fun _ => ?_)))

theorem State.matmul_keeps {σ : State} {F : Nat} (s : State) (i : Nat) (hF : 13451657598 ||| F = F) (hk : Keeps F σ s) :
    Keeps F σ (State.matmul s i) := by
  unfold State.matmul
  repeat' (first | with_reducible (first
    | assumption
    | refine State.issue_keeps _ _ _ _ (fun _ _ hk => ?_) (mask_trans rfl hF) ?_
    | refine State.scrMeet_keeps _ _ _ (mask_trans rfl hF) ?_
    | refine State.computed_keeps _ _ _ _ _ _ _ (mask_trans rfl hF) ?_) | with_reducible refine keeps_ctr (mask_trans rfl hF) ?_)

theorem State.vecop_keeps {σ : State} {F : Nat} (s : State) (i : Nat) (hF : 13451657598 ||| F = F) (hk : Keeps F σ s) :
    Keeps F σ (State.vecop s i) := by
  unfold State.vecop
  repeat' (first | with_reducible (first
    | assumption
    | refine State.issue_keeps _ _ _ _ (fun _ _ hk => ?_) (mask_trans rfl hF) ?_
    | refine State.scrMeet_keeps _ _ _ (mask_trans rfl hF) ?_
    | refine State.computed_keeps _ _ _ _ _ _ _ (mask_trans rfl hF) ?_))

theorem State.softmax_keeps {σ : State} {F : Nat} (s : State) (i : Nat) (hF : 13451657598 ||| F = F) (hk : Keeps F σ s) :
    Keeps F σ (State.softmax s i) := by
  unfold State.softmax
  repeat' (first | with_reducible (first
    | assumption
    | refine State.issue_keeps _ _ _ _ (fun _ _ hk => ?_) (mask_trans rfl hF) ?_
    | refine State.scrMeet_keeps _ _ _ (mask_trans rfl hF) ?_
    | refine State.computed_keeps _ _ _ _ _ _ _ (mask_trans rfl hF) ?_))

theorem State.convert_keeps {σ : State} {F : Nat} (s : State) (i : Nat) (hF : 13451657598 ||| F = F) (hk : Keeps F σ s) :
    Keeps F σ (State.convert s i) := by
  unfold State.convert
  repeat' (first | with_reducible (first
    | assumption
    | refine State.issue_keeps _ _ _ _ (fun _ _ hk => ?_) (mask_trans rfl hF) ?_
    | refine State.scrMeet_keeps _ _ _ (mask_trans rfl hF) ?_
    | refine State.computed_keeps _ _ _ _ _ _ _ (mask_trans rfl hF) ?_))

theorem State.xaSpill_keeps {σ : State} {F : Nat} (s : State) (i : Nat) (hF : 13451657598 ||| F = F) (hk : Keeps F σ s) :
    Keeps F σ (State.xaSpill s i) := by
  unfold State.xaSpill
  repeat' (first | with_reducible (first
    | assumption
    | refine State.issue_keeps _ _ _ _ (fun _ _ hk => ?_) (mask_trans rfl hF) ?_
    | refine State.computed_keeps _ _ _ _ _ _ _ (mask_trans rfl hF) ?_))

theorem State.xaFill_keeps {σ : State} {F : Nat} (s : State) (i : Nat) (hF : 13451657598 ||| F = F) (hk : Keeps F σ s) :
    Keeps F σ (State.xaFill s i) := by
  unfold State.xaFill
  repeat' (first | with_reducible (first
    | assumption
    | refine State.issue_keeps _ _ _ _ (fun _ _ hk => ?_) (mask_trans rfl hF) ?_
    | refine State.scrMeet_keeps _ _ _ (mask_trans rfl hF) ?_
    | refine State.computed_keeps _ _ _ _ _ _ _ (mask_trans rfl hF) ?_))

theorem State.copyRows_keeps {σ : State} {F : Nat} (s : State) (i : Nat) (x : Slot) (load : Bool) (hF : 27263358 ||| F = F) (hk : Keeps F σ s) :
    Keeps F σ (State.copyRows s i x load) := by
  unfold State.copyRows
  repeat' (first | with_reducible (first
    | assumption
    | refine State.modFlight_keeps _ _ _ _ (mask_trans rfl hF) ?_
    | refine State.readHandle_keeps _ _ _ _ _ _ (mask_trans rfl hF) ?_
    | refine State.writeMarked_keeps _ _ _ (mask_trans rfl hF) ?_
    | refine State.readMem_keeps _ _ _ (mask_trans rfl hF) ?_
    | refine State.writeHandle_keeps _ _ _ _ _ _ (mask_trans rfl hF) ?_
    | refine keeps_ite (fun _ => ?_) (fun _ => ?_)
    | refine keeps_ite_fst (fun _ => ?_) (fun _ => ?_)
    | refine keeps_foldl_fst (fun _ _ hk => ?_) ?_))

theorem State.load_keeps {σ : State} {F : Nat} (s : State) (i : Nat) (hF : 13453754750 ||| F = F) (hk : Keeps F σ s) :
    Keeps F σ (State.load s i) := by
  unfold State.load
  repeat' (first | with_reducible (first
    | assumption
    | refine State.issue_keeps _ _ _ _ (fun _ _ hk => ?_) (mask_trans rfl hF) ?_
    | refine State.copyRows_keeps _ _ _ _ (mask_trans rfl hF) ?_))

theorem State.store_keeps {σ : State} {F : Nat} (s : State) (i : Nat) (hF : 13453754750 ||| F = F) (hk : Keeps F σ s) :
    Keeps F σ (State.store s i) := by
  unfold State.store
  repeat' (first | with_reducible (first
    | assumption
    | refine State.issue_keeps _ _ _ _ (fun _ _ hk => ?_) (mask_trans rfl hF) ?_
    | refine State.copyRows_keeps _ _ _ _ (mask_trans rfl hF) ?_))

theorem State.signal_keeps {σ : State} {F : Nat} (s : State) (i : Nat) (hF : 13451657598 ||| F = F) (hk : Keeps F σ s) :
    Keeps F σ (State.signal s i) := by
  unfold State.signal
  repeat' (first | with_reducible (first
    | assumption
    | refine State.issue_keeps _ _ _ _ (fun _ _ hk => ?_) (mask_trans rfl hF) ?_))

theorem State.wait_keeps {σ : State} {F : Nat} (s : State) (i : Nat) (hF : 13451657598 ||| F = F) (hk : Keeps F σ s) :
    Keeps F σ (State.wait s i) := by
  unfold State.wait
  repeat' (first | with_reducible (first
    | assumption
    | refine State.issue_keeps _ _ _ _ (fun _ _ hk => ?_) (mask_trans rfl hF) ?_
    | refine State.addWaiter_keeps _ _ _ (mask_trans rfl hF) ?_))

theorem State.ticket_keeps {σ : State} {F : Nat} (s : State) (i : Nat) (hF : 13451657598 ||| F = F) (hk : Keeps F σ s) :
    Keeps F σ (State.ticket s i) := by
  unfold State.ticket
  repeat' (first | with_reducible (first
    | assumption
    | refine State.issue_keeps _ _ _ _ (fun _ _ hk => ?_) (mask_trans rfl hF) ?_
    | refine State.askTickets_keeps _ _ (mask_trans rfl hF) ?_))

theorem State.return__keeps {σ : State} {F : Nat} (s : State) (i : Nat) (hF : 13451657598 ||| F = F) (hk : Keeps F σ s) :
    Keeps F σ (State.return_ s i) := by
  unfold State.return_
  repeat' (first | with_reducible (first
    | assumption
    | refine State.issue_keeps _ _ _ _ (fun _ _ hk => ?_) (mask_trans rfl hF) ?_))

theorem State.cueWait_keeps {σ : State} {F : Nat} (s : State) (i : Nat) (hF : 13451657598 ||| F = F) (hk : Keeps F σ s) :
    Keeps F σ (State.cueWait s i) := by
  unfold State.cueWait
  repeat' (first | with_reducible (first
    | assumption
    | refine State.issue_keeps _ _ _ _ (fun _ _ hk => ?_) (mask_trans rfl hF) ?_
    | refine State.modFlight_keeps _ _ _ _ (mask_trans rfl hF) ?_))

theorem State.fence_keeps {σ : State} {F : Nat} (s : State) (i : Nat) (hF : 13451657598 ||| F = F) (hk : Keeps F σ s) :
    Keeps F σ (State.fence s i) := by
  unfold State.fence
  repeat' (first | with_reducible (first
    | assumption
    | refine State.issue_keeps _ _ _ _ (fun _ _ hk => ?_) (mask_trans rfl hF) ?_))

theorem State.end__keeps {σ : State} {F : Nat} (s : State) (i : Nat) (hF : 13451657598 ||| F = F) (hk : Keeps F σ s) :
    Keeps F σ (State.end_ s i) := by
  unfold State.end_
  repeat' (first | with_reducible (first
    | assumption
    | refine State.issue_keeps _ _ _ _ (fun _ _ hk => ?_) (mask_trans rfl hF) ?_))

theorem State.recordComplete_keeps {σ : State} {F : Nat} (s : State) (i : Nat) (idx : Nat) (hF : 13451657598 ||| F = F) (hk : Keeps F σ s) :
    Keeps F σ (State.recordComplete s i idx) := by
  unfold State.recordComplete
  repeat' (first | with_reducible (first
    | assumption
    | refine State.complete_keeps _ _ _ (mask_trans rfl hF) ?_
    | refine State.enter_keeps _ _ _ _ (mask_trans rfl hF) ?_
    | refine keeps_ite (fun _ => ?_) (fun _ => ?_)) | split)

theorem State.coreHalt_keeps {σ : State} {F : Nat} (s : State) (i : Nat) (hF : 16777548 ||| F = F) (hk : Keeps F σ s) :
    Keeps F σ (State.coreHalt s i) := by
  unfold State.coreHalt
  repeat' (first | with_reducible (first
    | assumption
    | refine State.setFld_keeps _ _ _ _ _ (mask_trans rfl hF) ?_
    | refine State.modCore_keeps _ _ _ (mask_trans rfl hF) ?_
    | refine State.evCore_keeps _ _ _ _ _ (mask_trans rfl hF) ?_
    | refine keeps_ite (fun _ => ?_) (fun _ => ?_)) | split)

theorem State.start_keeps {σ : State} {F : Nat} (s : State) (i : Nat) (hF : 25166206 ||| F = F) (hk : Keeps F σ s) :
    Keeps F σ (State.start s i) := by
  unfold State.start
  repeat' (first | with_reducible (first
    | assumption
    | refine State.fetch_keeps _ _ (mask_trans rfl hF) ?_
    | refine State.modCore_keeps _ _ _ (mask_trans rfl hF) ?_
    | refine keeps_ite (fun _ => ?_) (fun _ => ?_)))

theorem State.stop_keeps {σ : State} {F : Nat} (s : State) (i : Nat) (hF : 13451657598 ||| F = F) (hk : Keeps F σ s) :
    Keeps F σ (State.stop s i) := by
  unfold State.stop
  repeat' (first | with_reducible (first
    | assumption
    | refine State.settle_keeps _ _ (mask_trans rfl hF) ?_
    | refine State.abortWaits_keeps _ _ (mask_trans rfl hF) ?_
    | refine State.modCore_keeps _ _ _ (mask_trans rfl hF) ?_
    | refine keeps_ite (fun _ => ?_) (fun _ => ?_)))

theorem State.returnAll_keeps {σ : State} {F : Nat} (s : State) (i : Nat) (hF : 17301504 ||| F = F) (hk : Keeps F σ s) :
    Keeps F σ (State.returnAll s i) := by
  unfold State.returnAll
  repeat' (first | with_reducible (first
    | assumption
    | refine State.boxReturn_keeps _ _ _ (mask_trans rfl hF) ?_
    | refine keeps_ite (fun _ => ?_) (fun _ => ?_)))

theorem State.writeQhead_keeps {σ : State} {F : Nat} (s : State) (i : Nat) (v : W32) (hF : 16777224 ||| F = F) (hk : Keeps F σ s) :
    Keeps F σ (State.writeQhead s i v) := by
  unfold State.writeQhead
  repeat' (first | with_reducible (first
    | assumption
    | refine State.setFld_keeps _ _ _ _ _ (mask_trans rfl hF) ?_
    | refine State.modCore_keeps _ _ _ (mask_trans rfl hF) ?_
    | refine keeps_ite (fun _ => ?_) (fun _ => ?_)))

theorem State.writeQtail_keeps {σ : State} {F : Nat} (s : State) (i : Nat) (v : W32) (hF : 25166206 ||| F = F) (hk : Keeps F σ s) :
    Keeps F σ (State.writeQtail s i v) := by
  unfold State.writeQtail
  repeat' (first | with_reducible (first
    | assumption
    | refine State.fetch_keeps _ _ (mask_trans rfl hF) ?_
    | refine State.setFld_keeps _ _ _ _ _ (mask_trans rfl hF) ?_
    | refine keeps_ite (fun _ => ?_) (fun _ => ?_)))

theorem State.cueWaitTarget_keeps {σ : State} {F : Nat} (s : State) (i : Nat) (hF : 13451657598 ||| F = F) (hk : Keeps F σ s) :
    Keeps F σ (State.cueWaitTarget s i) := by
  unfold State.cueWaitTarget
  repeat' (first | with_reducible (first
    | assumption
    | refine State.complete_keeps _ _ _ (mask_trans rfl hF) ?_
    | refine State.modFlight_keeps _ _ _ _ (mask_trans rfl hF) ?_) | split)

theorem State.ticketTimeout_keeps {σ : State} {F : Nat} (s : State) (i : Nat) (hF : 13451657598 ||| F = F) (hk : Keeps F σ s) :
    Keeps F σ (State.ticketTimeout s i) := by
  unfold State.ticketTimeout
  repeat' (first | with_reducible (first
    | assumption
    | refine State.boxCancel_keeps _ _ _ (mask_trans rfl hF) ?_
    | refine State.complete_keeps _ _ _ (mask_trans rfl hF) ?_
    | refine State.modFlight_keeps _ _ _ _ (mask_trans rfl hF) ?_
    | refine keeps_ite (fun _ => ?_) (fun _ => ?_)) | split)

theorem State.signalEnds_keeps {σ : State} {F : Nat} (s : State) (core : Nat) (c : Nat) (seq : Nat) (code : Nat) (hF : 13453754750 ||| F = F) (hk : Keeps F σ s) :
    Keeps F σ (State.signalEnds s core c seq code) := by
  unfold State.signalEnds
  repeat' (first | with_reducible (first
    | assumption
    | refine State.modUsher_keeps _ _ _ (mask_trans rfl hF) ?_
    | refine State.complete_keeps _ _ _ (mask_trans rfl hF) ?_
    | refine State.modFlight_keeps _ _ _ _ (mask_trans rfl hF) ?_) | split)

theorem State.addLoss_keeps {σ : State} {F : Nat} (s : State) (p : Nat) (e : LossEnt) (hF : 4194304 ||| F = F) (hk : Keeps F σ s) :
    Keeps F σ (State.addLoss s p e) := by
  unfold State.addLoss
  repeat' (first | with_reducible (first
    | assumption
    | refine State.modSync_keeps _ _ _ (mask_trans rfl hF) ?_) | split)

theorem State.loseSignals_keeps {σ : State} {F : Nat} (s : State) (p : Nat) (c : Nat) (hF : 13453754750 ||| F = F) (hk : Keeps F σ s) :
    Keeps F σ (State.loseSignals s p c) := by
  unfold State.loseSignals
  repeat' (first | with_reducible (first
    | assumption
    | refine State.modPeerSeq_keeps _ _ _ _ (mask_trans rfl hF) ?_
    | refine State.addLoss_keeps _ _ _ (mask_trans rfl hF) ?_
    | refine State.signalEnds_keeps _ _ _ _ _ (mask_trans rfl hF) ?_
    | refine keeps_foldl (fun _ _ hk => ?_) ?_))

theorem State.declareLost_keeps {σ : State} {F : Nat} (s : State) (p : Nat) (c : Nat) (hF : 13453754750 ||| F = F) (hk : Keeps F σ s) :
    Keeps F σ (State.declareLost s p c) := by
  unfold State.declareLost
  repeat' (first | with_reducible (first
    | assumption
    | refine State.evSyn_keeps _ _ _ _ _ (mask_trans rfl hF) ?_
    | refine State.roomFreed_keeps _ _ (mask_trans rfl hF) ?_
    | refine State.loseSignals_keeps _ _ _ (mask_trans rfl hF) ?_
    | refine keeps_ite (fun _ => ?_) (fun _ => ?_)))

theorem State.loseAll_keeps {σ : State} {F : Nat} (s : State) (xs : List (Nat × Nat)) (during : State → State) (hduring : ∀ (t : State), Keeps F σ t → Keeps F σ (during t)) (hF : 13453754750 ||| F = F) (hk : Keeps F σ s) :
    Keeps F σ (State.loseAll s xs during) := by
  unfold State.loseAll
  repeat' (first | with_reducible (first
    | assumption
    | refine hduring _ ?_
    | refine State.loseSignals_keeps _ _ _ (mask_trans rfl hF) ?_
    | refine State.roomFreed_keeps _ _ (mask_trans rfl hF) ?_
    | refine State.evSyn_keeps _ _ _ _ _ (mask_trans rfl hF) ?_
    | refine keeps_foldl (fun _ _ hk => ?_) ?_))

theorem State.markApplied_keeps {σ : State} {F : Nat} (s : State) (p : Nat) (c : Nat) (q : Nat) (hF : 4194304 ||| F = F) (hk : Keeps F σ s) :
    Keeps F σ (State.markApplied s p c q) := by
  unfold State.markApplied
  repeat' (first | with_reducible (first
    | assumption
    | refine State.modSync_keeps _ _ _ (mask_trans rfl hF) ?_))

theorem State.syncAck_keeps {σ : State} {F : Nat} (s : State) (p : Nat) (m : Msg) (hF : 13451657598 ||| F = F) (hk : Keeps F σ s) :
    Keeps F σ (State.syncAck s p m) := by
  unfold State.syncAck
  repeat' (first | with_reducible (first
    | assumption
    | refine State.takeMsg_keeps _ _ _ (mask_trans rfl hF) ?_
    | refine State.evSyn_keeps _ _ _ _ _ (mask_trans rfl hF) ?_
    | refine State.markApplied_keeps _ _ _ _ (mask_trans rfl hF) ?_
    | refine State.roomFreed_keeps _ _ (mask_trans rfl hF) ?_
    | refine State.modPeerSeq_keeps _ _ _ _ (mask_trans rfl hF) ?_
    | refine keeps_ite (fun _ => ?_) (fun _ => ?_)) | split | (dsimp only; split))

theorem State.sendQuery_keeps {σ : State} {F : Nat} (s : State) (p : Nat) (c : Nat) (hF : 13421773132 ||| F = F) (hk : Keeps F σ s) :
    Keeps F σ (State.sendQuery s p c) := by
  unfold State.sendQuery
  repeat' (first | with_reducible (first
    | assumption
    | refine State.sendSync_keeps _ _ _ _ _ _ _ _ _ (mask_trans rfl hF) ?_
    | refine keeps_ite (fun _ => ?_) (fun _ => ?_)))

theorem State.seqReply_keeps {σ : State} {F : Nat} (s : State) (p : Nat) (m : Msg) (hF : 4836032844 ||| F = F) (hk : Keeps F σ s) :
    Keeps F σ (State.seqReply s p m) := by
  unfold State.seqReply
  repeat' (first | with_reducible (first
    | assumption
    | refine State.takeMsg_keeps _ _ _ (mask_trans rfl hF) ?_
    | refine State.evSyn_keeps _ _ _ _ _ (mask_trans rfl hF) ?_
    | refine State.markApplied_keeps _ _ _ _ (mask_trans rfl hF) ?_
    | refine State.modPeerSeq_keeps _ _ _ _ (mask_trans rfl hF) ?_
    | refine keeps_ite (fun _ => ?_) (fun _ => ?_)) | split | (dsimp only; split))

theorem State.refused_keeps {σ : State} {F : Nat} (s : State) (p : Nat) (m : Msg) (hF : 13453754750 ||| F = F) (hk : Keeps F σ s) :
    Keeps F σ (State.refused s p m) := by
  unfold State.refused
  repeat' (first | with_reducible (first
    | assumption
    | refine State.takeMsg_keeps _ _ _ (mask_trans rfl hF) ?_
    | refine State.roomFreed_keeps _ _ (mask_trans rfl hF) ?_
    | refine State.signalEnds_keeps _ _ _ _ _ (mask_trans rfl hF) ?_
    | refine State.modPeerSeq_keeps _ _ _ _ (mask_trans rfl hF) ?_
    | refine keeps_ite (fun _ => ?_) (fun _ => ?_)) | split | (dsimp only; split))

theorem State.dropped_keeps {σ : State} {F : Nat} (s : State) (p : Nat) (m : Msg) (hF : 13453754750 ||| F = F) (hk : Keeps F σ s) :
    Keeps F σ (State.dropped s p m) := by
  unfold State.dropped
  repeat' (first | with_reducible (first
    | assumption
    | refine State.takeMsg_keeps _ _ _ (mask_trans rfl hF) ?_
    | refine State.declareLost_keeps _ _ _ (mask_trans rfl hF) ?_
    | refine State.bump_keeps _ _ _ (mask_trans rfl hF) ?_
    | refine State.evSyn_keeps _ _ _ _ _ (mask_trans rfl hF) ?_
    | refine keeps_ite (fun _ => ?_) (fun _ => ?_)) | split | (dsimp only; split))

theorem State.freeLossOf_keeps {σ : State} {F : Nat} (s : State) (p : Nat) (c : Nat) (hF : 4194304 ||| F = F) (hk : Keeps F σ s) :
    Keeps F σ (State.freeLossOf s p c) := by
  unfold State.freeLossOf
  repeat' (first | with_reducible (first
    | assumption
    | refine State.modPeerSeq_keeps _ _ _ _ (mask_trans rfl hF) ?_
    | refine State.modSync_keeps _ _ _ (mask_trans rfl hF) ?_))

theorem State.resend_keeps {σ : State} {F : Nat} (s : State) (p : Nat) (hF : 13425967436 ||| F = F) (hk : Keeps F σ s) :
    Keeps F σ (State.resend s p) := by
  unfold State.resend
  repeat' (first | with_reducible (first
    | assumption
    | refine State.resendMore_keeps _ _ (mask_trans rfl hF) ?_
    | refine State.modPeerSeq_keeps _ _ _ _ (mask_trans rfl hF) ?_
    | refine State.freeLossOf_keeps _ _ _ (mask_trans rfl hF) ?_
    | refine keeps_ite (fun _ => ?_) (fun _ => ?_)))

theorem State.discard_keeps {σ : State} {F : Nat} (s : State) (p : Nat) (hF : 13425967436 ||| F = F) (hk : Keeps F σ s) :
    Keeps F σ (State.discard s p) := by
  unfold State.discard
  repeat' (first | with_reducible (first
    | assumption
    | refine State.sendSync_keeps _ _ _ _ _ _ _ _ _ (mask_trans rfl hF) ?_
    | refine State.freeLossOf_keeps _ _ _ (mask_trans rfl hF) ?_
    | refine keeps_ite (fun _ => ?_) (fun _ => ?_)) | split)

theorem State.sendAck_keeps {σ : State} {F : Nat} (s : State) (p : Nat) (c : Nat) (hF : 13425967436 ||| F = F) (hk : Keeps F σ s) :
    Keeps F σ (State.sendAck s p c) := by
  unfold State.sendAck
  repeat' (first | with_reducible (first
    | assumption
    | refine State.sendSync_keeps _ _ _ _ _ _ _ _ _ (mask_trans rfl hF) ?_
    | refine State.modPeerSeq_keeps _ _ _ _ (mask_trans rfl hF) ?_))

theorem State.signalMessage_keeps {σ : State} {F : Nat} (s : State) (p : Nat) (m : Msg) (hF : 13451133310 ||| F = F) (hk : Keeps F σ s) :
    Keeps F σ (State.signalMessage s p m) := by
  unfold State.signalMessage
  repeat' (first | with_reducible (first
    | assumption
    | refine State.discardMsg_keeps _ _ _ (mask_trans rfl hF) ?_
    | refine State.takeMsg_keeps _ _ _ (mask_trans rfl hF) ?_
    | refine State.modPeerSeq_keeps _ _ _ _ (mask_trans rfl hF) ?_
    | refine State.evSyn_keeps _ _ _ _ _ (mask_trans rfl hF) ?_
    | refine State.bump_keeps _ _ _ (mask_trans rfl hF) ?_
    | refine State.reply_keeps _ _ _ _ _ _ (mask_trans rfl hF) ?_
    | refine State.objOp_keeps _ _ _ _ _ (mask_trans rfl hF) ?_
    | refine State.sendAck_keeps _ _ _ (mask_trans rfl hF) ?_
    | refine keeps_ite (fun _ => ?_) (fun _ => ?_)) | split)

theorem State.ackTimer_keeps {σ : State} {F : Nat} (s : State) (p : Nat) (c : Nat) (hF : 13425967436 ||| F = F) (hk : Keeps F σ s) :
    Keeps F σ (State.ackTimer s p c) := by
  unfold State.ackTimer
  repeat' (first | with_reducible (first
    | assumption
    | refine State.sendAck_keeps _ _ _ (mask_trans rfl hF) ?_
    | refine keeps_ite (fun _ => ?_) (fun _ => ?_)))

theorem State.seqQuery_keeps {σ : State} {F : Nat} (s : State) (p : Nat) (m : Msg) (hF : 13421773132 ||| F = F) (hk : Keeps F σ s) :
    Keeps F σ (State.seqQuery s p m) := by
  unfold State.seqQuery
  repeat' (first | with_reducible (first
    | assumption
    | refine State.takeMsg_keeps _ _ _ (mask_trans rfl hF) ?_
    | refine State.sendSync_keeps _ _ _ _ _ _ _ _ _ (mask_trans rfl hF) ?_
    | refine keeps_ite (fun _ => ?_) (fun _ => ?_)) | split | (dsimp only; split))

theorem State.seqSkip_keeps {σ : State} {F : Nat} (s : State) (p : Nat) (m : Msg) (hF : 4836032516 ||| F = F) (hk : Keeps F σ s) :
    Keeps F σ (State.seqSkip s p m) := by
  unfold State.seqSkip
  repeat' (first | with_reducible (first
    | assumption
    | refine State.takeMsg_keeps _ _ _ (mask_trans rfl hF) ?_
    | refine State.modPeerSeq_keeps _ _ _ _ (mask_trans rfl hF) ?_
    | refine keeps_ite (fun _ => ?_) (fun _ => ?_)) | split | (dsimp only; split))

theorem State.takeWalk_keeps {σ : State} {F : Nat} (s : State) (p : Nat) (w : BhWalk) (remote : Bool) (hF : 13425967436 ||| F = F) (hk : Keeps F σ s) :
    Keeps F σ (State.takeWalk s p w remote) := by
  unfold State.takeWalk
  repeat' (first | with_reducible (first
    | assumption
    | refine State.modSync_keeps _ _ _ (mask_trans rfl hF) ?_
    | refine State.sendPeer_keeps _ _ _ _ _ _ _ (mask_trans rfl hF) ?_
    | refine keeps_ite (fun _ => ?_) (fun _ => ?_)) | split)

theorem State.startCensus_keeps {σ : State} {F : Nat} (s : State) (p : Nat) (cause : Nat) (extra : List Waiter) (hF : 13425967436 ||| F = F) (hk : Keeps F σ s) :
    Keeps F σ (State.startCensus s p cause extra) := by
  unfold State.startCensus
  repeat' (first | with_reducible (first
    | assumption
    | refine State.modSync_keeps _ _ _ (mask_trans rfl hF) ?_
    | refine State.takeWalk_keeps _ _ _ _ (mask_trans rfl hF) ?_
    | refine keeps_foldl (fun _ _ hk => ?_) ?_))

theorem State.expiryCensus_keeps {σ : State} {F : Nat} (s : State) (p : Nat) (w : Waiter) (hF : 13425967436 ||| F = F) (hk : Keeps F σ s) :
    Keeps F σ (State.expiryCensus s p w) := by
  unfold State.expiryCensus
  repeat' (first | with_reducible (first
    | assumption
    | refine State.modSync_keeps _ _ _ (mask_trans rfl hF) ?_
    | refine State.startCensus_keeps _ _ _ _ (mask_trans rfl hF) ?_
    | refine keeps_ite (fun _ => ?_) (fun _ => ?_)))

theorem State.periodicCensus_keeps {σ : State} {F : Nat} (s : State) (p : Nat) (hF : 13425967436 ||| F = F) (hk : Keeps F σ s) :
    Keeps F σ (State.periodicCensus s p) := by
  unfold State.periodicCensus
  repeat' (first | with_reducible (first
    | assumption
    | refine State.bump_keeps _ _ _ (mask_trans rfl hF) ?_
    | refine State.startCensus_keeps _ _ _ _ (mask_trans rfl hF) ?_
    | refine keeps_ite (fun _ => ?_) (fun _ => ?_)))

theorem State.bhQuery_keeps {σ : State} {F : Nat} (s : State) (p : Nat) (m : Msg) (hF : 13421773132 ||| F = F) (hk : Keeps F σ s) :
    Keeps F σ (State.bhQuery s p m) := by
  unfold State.bhQuery
  repeat' (first | with_reducible (first
    | assumption
    | refine State.takeMsg_keeps _ _ _ (mask_trans rfl hF) ?_
    | refine State.reply_keeps _ _ _ _ _ _ (mask_trans rfl hF) ?_
    | refine keeps_ite (fun _ => ?_) (fun _ => ?_)))

theorem State.bhReply_keeps {σ : State} {F : Nat} (s : State) (p : Nat) (m : Msg) (hF : 13425967436 ||| F = F) (hk : Keeps F σ s) :
    Keeps F σ (State.bhReply s p m) := by
  unfold State.bhReply
  repeat' (first | with_reducible (first
    | assumption
    | refine State.takeMsg_keeps _ _ _ (mask_trans rfl hF) ?_
    | refine State.modSync_keeps _ _ _ (mask_trans rfl hF) ?_
    | refine State.takeWalk_keeps _ _ _ _ (mask_trans rfl hF) ?_
    | refine keeps_ite (fun _ => ?_) (fun _ => ?_)) | split | (dsimp only; split))

theorem State.bhTimeout_keeps {σ : State} {F : Nat} (s : State) (p : Nat) (ctx : Nat) (hF : 4194312 ||| F = F) (hk : Keeps F σ s) :
    Keeps F σ (State.bhTimeout s p ctx) := by
  unfold State.bhTimeout
  repeat' (first | with_reducible (first
    | assumption
    | refine State.bump_keeps _ _ _ (mask_trans rfl hF) ?_
    | refine State.modSync_keeps _ _ _ (mask_trans rfl hF) ?_) | split)

theorem State.reportCycle_keeps {σ : State} {F : Nat} (s : State) (p : Nat) (c : Census) (x : List BhNode × Bool) (hF : 332 ||| F = F) (hk : Keeps F σ s) :
    Keeps F σ (State.reportCycle s p c x) := by
  unfold State.reportCycle
  repeat' (first | with_reducible (first
    | assumption
    | refine State.evSyn_keeps _ _ _ _ _ (mask_trans rfl hF) ?_
    | refine State.bump_keeps _ _ _ (mask_trans rfl hF) ?_
    | refine State.hostWrite_keeps _ _ _ (mask_trans rfl hF) ?_
    | refine State.setFld_keeps _ _ _ _ _ (mask_trans rfl hF) ?_
    | refine keeps_ite (fun _ => ?_) (fun _ => ?_)
    | refine keeps_foldl (fun _ _ hk => ?_) ?_))

theorem State.bhReport_keeps {σ : State} {F : Nat} (s : State) (p : Nat) (hF : 13425967436 ||| F = F) (hk : Keeps F σ s) :
    Keeps F σ (State.bhReport s p) := by
  unfold State.bhReport
  repeat' (first | with_reducible (first
    | assumption
    | refine State.reportCycle_keeps _ _ _ _ (mask_trans rfl hF) ?_
    | refine State.setReg_keeps _ _ _ (mask_trans rfl hF) ?_
    | refine State.modSync_keeps _ _ _ (mask_trans rfl hF) ?_
    | refine State.startCensus_keeps _ _ _ _ (mask_trans rfl hF) ?_
    | refine keeps_ite (fun _ => ?_) (fun _ => ?_)
    | refine keeps_foldl (fun _ _ hk => ?_) ?_) | split | (dsimp only; split))

theorem State.expireWait_keeps {σ : State} {F : Nat} (s : State) (p : Nat) (w : Waiter) (hF : 13425967436 ||| F = F) (hk : Keeps F σ s) :
    Keeps F σ (State.expireWait s p w) := by
  unfold State.expireWait
  repeat' (first | with_reducible (first
    | assumption
    | refine State.expiryCensus_keeps _ _ _ (mask_trans rfl hF) ?_
    | refine State.evSyn_keeps _ _ _ _ _ (mask_trans rfl hF) ?_
    | refine State.bump_keeps _ _ _ (mask_trans rfl hF) ?_))

end Sys2Proof.Machine
end

