-- ==== Sys2Proof/Laws/KeepsUsher.lean ====
section
/-! SUPPORT. `Keeps` for the operations of Usher and the DMA engine. -/

namespace Sys2Proof.Machine

open Sys2Proof

theorem State.logPlace_keeps {σ : State} {F : Nat} (s : State) (p : Nat) (code : Nat) (ctx : Nat) (handle : Nat) (shard : Nat) (from_ : Nat) (to_ : Nat) (hF : 334 ||| F = F) (hk : Keeps F σ s) :
    Keeps F σ (State.logPlace s p code ctx handle shard from_ to_) := by
  unfold State.logPlace
  repeat' (first | with_reducible (first
    | assumption
    | refine State.evUsh_keeps _ _ _ _ _ (mask_trans rfl hF) ?_
    | refine State.bump_keeps _ _ _ (mask_trans rfl hF) ?_
    | refine State.setFld_keeps _ _ _ _ _ (mask_trans rfl hF) ?_
    | refine State.hostWrite_keeps _ _ _ (mask_trans rfl hF) ?_
    | refine State.tick_keeps _ (mask_trans rfl hF) ?_
    | refine keeps_ite (fun _ => ?_) (fun _ => ?_)))

theorem State.logWhole_keeps {σ : State} {F : Nat} (s : State) (p : Nat) (code : Nat) (ctx : Nat) (handle : Nat) (hF : 334 ||| F = F) (hk : Keeps F σ s) :
    Keeps F σ (State.logWhole s p code ctx handle) := by
  unfold State.logWhole
  repeat' (first | with_reducible (first
    | assumption
    | refine State.logPlace_keeps _ _ _ _ _ _ _ _ (mask_trans rfl hF) ?_))

theorem State.finishReq_keeps {σ : State} {F : Nat} (s : State) (p : Nat) (r : UshReq) (code : Nat) (result : Nat) (hF : 31457662 ||| F = F) (hk : Keeps F σ s) :
    Keeps F σ (State.finishReq s p r code result) := by
  unfold State.finishReq
  repeat' (first | with_reducible (first
    | assumption
    | refine State.hostWrite_keeps _ _ _ (mask_trans rfl hF) ?_
    | refine State.dropWaiter_keeps _ _ _ (mask_trans rfl hF) ?_
    | refine State.modUsher_keeps _ _ _ (mask_trans rfl hF) ?_
    | refine State.evUsh_keeps _ _ _ _ _ (mask_trans rfl hF) ?_
    | refine State.objOp_keeps _ _ _ _ _ (mask_trans rfl hF) ?_
    | refine keeps_ite (fun _ => ?_) (fun _ => ?_)))

theorem State.readReq_keeps {σ : State} {F : Nat} (s : State) (p : Nat) (hF : 31457662 ||| F = F) (hk : Keeps F σ s) :
    Keeps F σ (State.readReq s p) := by
  unfold State.readReq
  repeat' (first | with_reducible (first
    | assumption
    | refine State.modUsher_keeps _ _ _ (mask_trans rfl hF) ?_
    | refine State.setFld_keeps _ _ _ _ _ (mask_trans rfl hF) ?_
    | refine State.finishReq_keeps _ _ _ _ _ (mask_trans rfl hF) ?_
    | refine State.addWaiter_keeps _ _ _ (mask_trans rfl hF) ?_
    | refine keeps_ite (fun _ => ?_) (fun _ => ?_)))

theorem State.nextReq_keeps {σ : State} {F : Nat} (s : State) (p : Nat) (hF : 31457662 ||| F = F) (hk : Keeps F σ s) :
    Keeps F σ (State.nextReq s p) := by
  unfold State.nextReq
  repeat' (first | with_reducible (first
    | assumption
    | refine State.readReq_keeps _ _ (mask_trans rfl hF) ?_
    | refine keeps_forN (fun _ _ hk => ?_) ?_))

theorem State.reqDone_keeps {σ : State} {F : Nat} (s : State) (p : Nat) (r : UshReq) (code : Nat) (result : Nat) (hF : 31457662 ||| F = F) (hk : Keeps F σ s) :
    Keeps F σ (State.reqDone s p r code result) := by
  unfold State.reqDone
  repeat' (first | with_reducible (first
    | assumption
    | refine State.nextReq_keeps _ _ (mask_trans rfl hF) ?_
    | refine State.finishReq_keeps _ _ _ _ _ (mask_trans rfl hF) ?_))

theorem State.setPhase_keeps {σ : State} {F : Nat} (s : State) (p : Nat) (n : Nat) (hF : 2097152 ||| F = F) (hk : Keeps F σ s) :
    Keeps F σ (State.setPhase s p n) := by
  unfold State.setPhase
  repeat' (first | with_reducible (first
    | assumption
    | refine State.modUsher_keeps _ _ _ (mask_trans rfl hF) ?_))

theorem State.recount_keeps {σ : State} {F : Nat} (s : State) (p : Nat) (hF : 2097484 ||| F = F) (hk : Keeps F σ s) :
    Keeps F σ (State.recount s p) := by
  unfold State.recount
  repeat' (first | with_reducible (first
    | assumption
    | refine State.evUsh_keeps _ _ _ _ _ (mask_trans rfl hF) ?_
    | refine State.modUsher_keeps _ _ _ (mask_trans rfl hF) ?_
    | refine keeps_ite (fun _ => ?_) (fun _ => ?_)))

theorem State.copySlice_keeps {σ : State} {F : Nat} (s : State) (src : Nat) (dst : Nat) (n : Nat) (hF : 8388990 ||| F = F) (hk : Keeps F σ s) :
    Keeps F σ (State.copySlice s src dst n).1 := by
  unfold State.copySlice
  repeat' (first | with_reducible (first
    | assumption
    | refine State.readMem_keeps _ _ _ (mask_trans rfl hF) ?_
    | refine State.writeMarked_keeps _ _ _ (mask_trans rfl hF) ?_))

theorem State.commitMove_keeps {σ : State} {F : Nat} (s : State) (p : Nat) (hid : Nat) (k : Nat) (m : MoveSt) (hF : 10486142 ||| F = F) (hk : Keeps F σ s) :
    Keeps F σ (State.commitMove s p hid k m) := by
  unfold State.commitMove
  repeat' (first | with_reducible (first
    | assumption
    | refine State.zeroMem_keeps _ _ _ (mask_trans rfl hF) ?_
    | refine State.copySlice_keeps _ _ _ _ (mask_trans rfl hF) ?_
    | refine State.modShard_keeps _ _ _ _ _ (mask_trans rfl hF) ?_
    | refine State.logPlace_keeps _ _ _ _ _ _ _ _ (mask_trans rfl hF) ?_
    | refine keeps_ite (fun _ => ?_) (fun _ => ?_)) | split)

theorem State.startMoves_keeps {σ : State} {F : Nat} (s : State) (p : Nat) (hid : Nat) (forPin : Bool) (ms : List (Nat × Nat × Nat)) (hF : 2097152 ||| F = F) (hk : Keeps F σ s) :
    Keeps F σ (State.startMoves s p hid forPin ms) := by
  unfold State.startMoves
  repeat' (first | with_reducible (first
    | assumption
    | refine State.modShard_keeps _ _ _ _ _ (mask_trans rfl hF) ?_
    | refine keeps_foldl (fun _ _ hk => ?_) ?_))

theorem State.planMoves_keeps {σ : State} {F : Nat} (s : State) (p : Nat) (hF : 2097152 ||| F = F) (hk : Keeps F σ s) :
    Keeps F σ (State.planMoves s p).1 := by
  unfold State.planMoves
  repeat' (first | with_reducible (first
    | assumption
    | refine State.startMoves_keeps _ _ _ _ _ (mask_trans rfl hF) ?_
    | refine keeps_ite_fst (fun _ => ?_) (fun _ => ?_)
    | refine keeps_foldl_fst (fun _ _ hk => ?_) ?_) | split | (dsimp only; split))

theorem State.placement_keeps {σ : State} {F : Nat} (s : State) (p : Nat) (hF : 2097484 ||| F = F) (hk : Keeps F σ s) :
    Keeps F σ (State.placement s p).1 := by
  unfold State.placement
  repeat' (first | with_reducible (first
    | assumption
    | refine State.recount_keeps _ _ (mask_trans rfl hF) ?_
    | refine State.planMoves_keeps _ _ (mask_trans rfl hF) ?_
    | refine keeps_ite_fst (fun _ => ?_) (fun _ => ?_)))

theorem State.filled_keeps {σ : State} {F : Nat} (s : State) (p : Nat) (hid : Nat) (k : Nat) (hF : 2097486 ||| F = F) (hk : Keeps F σ s) :
    Keeps F σ (State.filled s p hid k) := by
  unfold State.filled
  repeat' (first | with_reducible (first
    | assumption
    | refine State.modShard_keeps _ _ _ _ _ (mask_trans rfl hF) ?_
    | refine State.modUsher_keeps _ _ _ (mask_trans rfl hF) ?_
    | refine State.logPlace_keeps _ _ _ _ _ _ _ _ (mask_trans rfl hF) ?_
    | refine State.setHandle_keeps _ _ _ _ (mask_trans rfl hF) ?_
    | refine keeps_ite (fun _ => ?_) (fun _ => ?_)) | split | (dsimp only; split))

theorem State.evicted_keeps {σ : State} {F : Nat} (s : State) (p : Nat) (hid : Nat) (k : Nat) (hF : 2097486 ||| F = F) (hk : Keeps F σ s) :
    Keeps F σ (State.evicted s p hid k) := by
  unfold State.evicted
  repeat' (first | with_reducible (first
    | assumption
    | refine State.modShard_keeps _ _ _ _ _ (mask_trans rfl hF) ?_
    | refine State.logPlace_keeps _ _ _ _ _ _ _ _ (mask_trans rfl hF) ?_
    | refine State.modUsher_keeps _ _ _ (mask_trans rfl hF) ?_) | split)

theorem State.stays_keeps {σ : State} {F : Nat} (s : State) (p : Nat) (hid : Nat) (k : Nat) (hF : 2097152 ||| F = F) (hk : Keeps F σ s) :
    Keeps F σ (State.stays s p hid k) := by
  unfold State.stays
  repeat' (first | with_reducible (first
    | assumption
    | refine State.modUsher_keeps _ _ _ (mask_trans rfl hF) ?_) | split)

theorem State.mpFail_keeps {σ : State} {F : Nat} (s : State) (p : Nat) (r : MpReq) (code : Nat) (hF : 2097484 ||| F = F) (hk : Keeps F σ s) :
    Keeps F σ (State.mpFail s p r code) := by
  unfold State.mpFail
  repeat' (first | with_reducible (first
    | assumption
    | refine State.modUsher_keeps _ _ _ (mask_trans rfl hF) ?_
    | refine State.modShard_keeps _ _ _ _ _ (mask_trans rfl hF) ?_
    | refine State.stays_keeps _ _ _ _ (mask_trans rfl hF) ?_
    | refine State.evUsh_keeps _ _ _ _ _ (mask_trans rfl hF) ?_
    | refine keeps_ite (fun _ => ?_) (fun _ => ?_)) | split)

theorem State.mpSend_keeps {σ : State} {F : Nat} (s : State) (p : Nat) (r : MpReq) (hF : 13432258942 ||| F = F) (hk : Keeps F σ s) :
    Keeps F σ (State.mpSend s p r) := by
  unfold State.mpSend
  repeat' (first | with_reducible (first
    | assumption
    | refine State.readMem_keeps _ _ _ (mask_trans rfl hF) ?_
    | refine State.mpFail_keeps _ _ _ _ (mask_trans rfl hF) ?_
    | refine State.sendPeer_keeps _ _ _ _ _ _ _ (mask_trans rfl hF) ?_
    | refine State.modUsher_keeps _ _ _ (mask_trans rfl hF) ?_
    | refine keeps_ite (fun _ => ?_) (fun _ => ?_)) | split | (dsimp only; split))

theorem State.zeroFills_keeps {σ : State} {F : Nat} (s : State) (p : Nat) (hF : 2097534 ||| F = F) (hk : Keeps F σ s) :
    Keeps F σ (State.zeroFills s p) := by
  unfold State.zeroFills
  repeat' (first | with_reducible (first
    | assumption
    | refine State.filled_keeps _ _ _ _ (mask_trans rfl hF) ?_
    | refine State.zeroMem_keeps _ _ _ (mask_trans rfl hF) ?_
    | refine keeps_ite (fun _ => ?_) (fun _ => ?_)
    | refine keeps_foldl (fun _ _ hk => ?_) ?_) | split)

theorem State.mpPump_keeps {σ : State} {F : Nat} (s : State) (p : Nat) (hF : 13432258942 ||| F = F) (hk : Keeps F σ s) :
    Keeps F σ (State.mpPump s p) := by
  unfold State.mpPump
  repeat' (first | with_reducible (first
    | assumption
    | refine State.mpSend_keeps _ _ _ (mask_trans rfl hF) ?_
    | refine State.zeroFills_keeps _ _ (mask_trans rfl hF) ?_
    | refine keeps_ite (fun _ => ?_) (fun _ => ?_)
    | refine keeps_forN (fun _ _ hk => ?_) ?_) | split)

theorem State.mpQueue_keeps {σ : State} {F : Nat} (s : State) (p : Nat) (hid : Nat) (k : Nat) (partner : Nat) (n : Nat) (read : Bool) (hF : 2097152 ||| F = F) (hk : Keeps F σ s) :
    Keeps F σ (State.mpQueue s p hid k partner n read) := by
  unfold State.mpQueue
  repeat' (first | with_reducible (first
    | assumption
    | refine State.modUsher_keeps _ _ _ (mask_trans rfl hF) ?_
    | refine State.modShard_keeps _ _ _ _ _ (mask_trans rfl hF) ?_))

theorem State.mpLinkDown_keeps {σ : State} {F : Nat} (s : State) (p : Nat) (rs : List MpReq) (hF : 13432258942 ||| F = F) (hk : Keeps F σ s) :
    Keeps F σ (State.mpLinkDown s p rs) := by
  unfold State.mpLinkDown
  repeat' (first | with_reducible (first
    | assumption
    | refine State.mpPump_keeps _ _ (mask_trans rfl hF) ?_
    | refine State.mpFail_keeps _ _ _ _ (mask_trans rfl hF) ?_
    | refine keeps_foldl (fun _ _ hk => ?_) ?_))

theorem State.request_keeps {σ : State} {F : Nat} (s : State) (p : Nat) (op : Nat) (names : Bool) (places : Bool) (f : State → UshReq → State) (hf : ∀ (t : State) (x1 : UshReq), Keeps F σ t → Keeps F σ (f t x1)) (hF : 31457662 ||| F = F) (hk : Keeps F σ s) :
    Keeps F σ (State.request s p op names places f) := by
  unfold State.request
  repeat' (first | with_reducible (first
    | assumption
    | refine hf _ _ ?_
    | refine State.reqDone_keeps _ _ _ _ _ (mask_trans rfl hF) ?_
    | refine keeps_ite (fun _ => ?_) (fun _ => ?_)) | split)

theorem State.create_keeps {σ : State} {F : Nat} (s : State) (p : Nat) (hF : 31457662 ||| F = F) (hk : Keeps F σ s) :
    Keeps F σ (State.create s p) := by
  unfold State.create
  repeat' (first | with_reducible (first
    | assumption
    | refine State.reqDone_keeps _ _ _ _ _ (mask_trans rfl hF) ?_
    | refine State.zeroMem_keeps _ _ _ (mask_trans rfl hF) ?_
    | refine State.modUsher_keeps _ _ _ (mask_trans rfl hF) ?_
    | refine State.setHandle_keeps _ _ _ _ (mask_trans rfl hF) ?_
    | refine State.logPlace_keeps _ _ _ _ _ _ _ _ (mask_trans rfl hF) ?_
    | refine keeps_ite (fun _ => ?_) (fun _ => ?_)
    | refine keeps_foldl (fun _ _ hk => ?_) ?_) | split)

theorem State.destroy_keeps {σ : State} {F : Nat} (s : State) (p : Nat) (hF : 31457662 ||| F = F) (hk : Keeps F σ s) :
    Keeps F σ (State.destroy s p) := by
  unfold State.destroy
  repeat' (first | with_reducible (first
    | assumption
    | refine State.request_keeps _ _ _ _ _ _ (fun _ _ hk => ?_) (mask_trans rfl hF) ?_
    | refine State.reqDone_keeps _ _ _ _ _ (mask_trans rfl hF) ?_
    | refine State.modUsher_keeps _ _ _ (mask_trans rfl hF) ?_
    | refine State.setHandle_keeps _ _ _ _ (mask_trans rfl hF) ?_
    | refine keeps_ite (fun _ => ?_) (fun _ => ?_)) | split)

theorem State.pinned_keeps {σ : State} {F : Nat} (s : State) (p : Nat) (r : UshReq) (h : HandleSt) (hF : 31457662 ||| F = F) (hk : Keeps F σ s) :
    Keeps F σ (State.pinned s p r h) := by
  unfold State.pinned
  repeat' (first | with_reducible (first
    | assumption
    | refine State.reqDone_keeps _ _ _ _ _ (mask_trans rfl hF) ?_
    | refine State.logWhole_keeps _ _ _ _ _ (mask_trans rfl hF) ?_
    | refine State.setHandle_keeps _ _ _ _ (mask_trans rfl hF) ?_))

theorem State.pin_keeps {σ : State} {F : Nat} (s : State) (p : Nat) (hF : 31457662 ||| F = F) (hk : Keeps F σ s) :
    Keeps F σ (State.pin s p) := by
  unfold State.pin
  repeat' (first | with_reducible (first
    | assumption
    | refine State.request_keeps _ _ _ _ _ _ (fun _ _ hk => ?_) (mask_trans rfl hF) ?_
    | refine State.reqDone_keeps _ _ _ _ _ (mask_trans rfl hF) ?_
    | refine State.pinned_keeps _ _ _ _ (mask_trans rfl hF) ?_
    | refine State.setPhase_keeps _ _ _ (mask_trans rfl hF) ?_
    | refine State.startMoves_keeps _ _ _ _ _ (mask_trans rfl hF) ?_
    | refine keeps_ite (fun _ => ?_) (fun _ => ?_)) | split | (dsimp only; split))

theorem State.unpin_keeps {σ : State} {F : Nat} (s : State) (p : Nat) (hF : 31457662 ||| F = F) (hk : Keeps F σ s) :
    Keeps F σ (State.unpin s p) := by
  unfold State.unpin
  repeat' (first | with_reducible (first
    | assumption
    | refine State.request_keeps _ _ _ _ _ _ (fun _ _ hk => ?_) (mask_trans rfl hF) ?_
    | refine State.reqDone_keeps _ _ _ _ _ (mask_trans rfl hF) ?_
    | refine State.logWhole_keeps _ _ _ _ _ (mask_trans rfl hF) ?_
    | refine State.setHandle_keeps _ _ _ _ (mask_trans rfl hF) ?_
    | refine keeps_ite (fun _ => ?_) (fun _ => ?_)) | split)

theorem State.migrate_keeps {σ : State} {F : Nat} (s : State) (p : Nat) (hid : Nat) (k : Nat) (hF : 31457662 ||| F = F) (hk : Keeps F σ s) :
    Keeps F σ (State.migrate s p hid k) := by
  unfold State.migrate
  repeat' (first | with_reducible (first
    | assumption
    | refine State.modShard_keeps _ _ _ _ _ (mask_trans rfl hF) ?_
    | refine State.evUsh_keeps _ _ _ _ _ (mask_trans rfl hF) ?_
    | refine State.logPlace_keeps _ _ _ _ _ _ _ _ (mask_trans rfl hF) ?_
    | refine State.commitMove_keeps _ _ _ _ _ (mask_trans rfl hF) ?_
    | refine State.pinned_keeps _ _ _ _ (mask_trans rfl hF) ?_
    | refine keeps_ite (fun _ => ?_) (fun _ => ?_)) | split | (dsimp only; split))

theorem State.mapReq_keeps {σ : State} {F : Nat} (s : State) (p : Nat) (un : Bool) (hF : 31457662 ||| F = F) (hk : Keeps F σ s) :
    Keeps F σ (State.mapReq s p un) := by
  unfold State.mapReq
  repeat' (first | with_reducible (first
    | assumption
    | refine State.reqDone_keeps _ _ _ _ _ (mask_trans rfl hF) ?_
    | refine State.modUsher_keeps _ _ _ (mask_trans rfl hF) ?_
    | refine keeps_ite (fun _ => ?_) (fun _ => ?_)) | split)

theorem State.placePoint_keeps {σ : State} {F : Nat} (s : State) (p : Nat) (hF : 31457662 ||| F = F) (hk : Keeps F σ s) :
    Keeps F σ (State.placePoint s p) := by
  unfold State.placePoint
  repeat' (first | with_reducible (first
    | assumption
    | refine State.request_keeps _ _ _ _ _ _ (fun _ _ hk => ?_) (mask_trans rfl hF) ?_
    | refine State.placement_keeps _ _ (mask_trans rfl hF) ?_
    | refine State.reqDone_keeps _ _ _ _ _ (mask_trans rfl hF) ?_))

theorem State.ctxShards_keeps {σ : State} {F : Nat} (s : State) (p : Nat) (ctx : Nat) (f : ShardSt → ShardSt) (hF : 2097152 ||| F = F) (hk : Keeps F σ s) :
    Keeps F σ (State.ctxShards s p ctx f) := by
  unfold State.ctxShards
  repeat' (first | with_reducible (first
    | assumption
    | refine State.modUsher_keeps _ _ _ (mask_trans rfl hF) ?_))

theorem State.rehearseBegin_keeps {σ : State} {F : Nat} (s : State) (p : Nat) (hF : 31457662 ||| F = F) (hk : Keeps F σ s) :
    Keeps F σ (State.rehearseBegin s p) := by
  unfold State.rehearseBegin
  repeat' (first | with_reducible (first
    | assumption
    | refine State.request_keeps _ _ _ _ _ _ (fun _ _ hk => ?_) (mask_trans rfl hF) ?_
    | refine State.ctxShards_keeps _ _ _ _ (mask_trans rfl hF) ?_
    | refine State.reqDone_keeps _ _ _ _ _ (mask_trans rfl hF) ?_
    | refine State.modUsher_keeps _ _ _ (mask_trans rfl hF) ?_))

theorem State.rehearseEnd_keeps {σ : State} {F : Nat} (s : State) (p : Nat) (hF : 31457662 ||| F = F) (hk : Keeps F σ s) :
    Keeps F σ (State.rehearseEnd s p) := by
  unfold State.rehearseEnd
  repeat' (first | with_reducible (first
    | assumption
    | refine State.request_keeps _ _ _ _ _ _ (fun _ _ hk => ?_) (mask_trans rfl hF) ?_
    | refine State.ctxShards_keeps _ _ _ _ (mask_trans rfl hF) ?_
    | refine State.modUsher_keeps _ _ _ (mask_trans rfl hF) ?_
    | refine State.reqDone_keeps _ _ _ _ _ (mask_trans rfl hF) ?_
    | refine State.placement_keeps _ _ (mask_trans rfl hF) ?_))

theorem State.epoch_keeps {σ : State} {F : Nat} (s : State) (p : Nat) (hF : 2097152 ||| F = F) (hk : Keeps F σ s) :
    Keeps F σ (State.epoch s p) := by
  unfold State.epoch
  repeat' (first | with_reducible (first
    | assumption
    | refine State.modUsher_keeps _ _ _ (mask_trans rfl hF) ?_))

theorem State.sceneDefine_keeps {σ : State} {F : Nat} (s : State) (p : Nat) (hF : 31457662 ||| F = F) (hk : Keeps F σ s) :
    Keeps F σ (State.sceneDefine s p) := by
  unfold State.sceneDefine
  repeat' (first | with_reducible (first
    | assumption
    | refine State.request_keeps _ _ _ _ _ _ (fun _ _ hk => ?_) (mask_trans rfl hF) ?_
    | refine State.reqDone_keeps _ _ _ _ _ (mask_trans rfl hF) ?_
    | refine State.modUsher_keeps _ _ _ (mask_trans rfl hF) ?_
    | refine keeps_ite (fun _ => ?_) (fun _ => ?_)))

theorem State.startFill_keeps {σ : State} {F : Nat} (s : State) (p : Nat) (hid : Nat) (k : Nat) (l : Nat × Nat) (hF : 2097152 ||| F = F) (hk : Keeps F σ s) :
    Keeps F σ (State.startFill s p hid k l) := by
  unfold State.startFill
  repeat' (first | with_reducible (first
    | assumption
    | refine State.modShard_keeps _ _ _ _ _ (mask_trans rfl hF) ?_
    | refine State.mpQueue_keeps _ _ _ _ _ _ _ (mask_trans rfl hF) ?_) | split)

theorem State.startEvict_keeps {σ : State} {F : Nat} (s : State) (p : Nat) (hid : Nat) (k : Nat) (hF : 2097486 ||| F = F) (hk : Keeps F σ s) :
    Keeps F σ (State.startEvict s p hid k) := by
  unfold State.startEvict
  repeat' (first | with_reducible (first
    | assumption
    | refine State.evicted_keeps _ _ _ _ (mask_trans rfl hF) ?_
    | refine State.mpQueue_keeps _ _ _ _ _ _ _ (mask_trans rfl hF) ?_
    | refine State.modShard_keeps _ _ _ _ _ (mask_trans rfl hF) ?_
    | refine State.evUsh_keeps _ _ _ _ _ (mask_trans rfl hF) ?_
    | refine State.stays_keeps _ _ _ _ (mask_trans rfl hF) ?_
    | refine State.modUsher_keeps _ _ _ (mask_trans rfl hF) ?_
    | refine keeps_ite (fun _ => ?_) (fun _ => ?_)) | split | (dsimp only; split))

theorem State.swapGo_keeps {σ : State} {F : Nat} (s : State) (p : Nat) (hF : 13432258942 ||| F = F) (hk : Keeps F σ s) :
    Keeps F σ (State.swapGo s p) := by
  unfold State.swapGo
  repeat' (first | with_reducible (first
    | assumption
    | refine State.setPhase_keeps _ _ _ (mask_trans rfl hF) ?_
    | refine State.mpPump_keeps _ _ (mask_trans rfl hF) ?_
    | refine State.startEvict_keeps _ _ _ _ (mask_trans rfl hF) ?_
    | refine keeps_ite (fun _ => ?_) (fun _ => ?_)
    | refine keeps_foldl (fun _ _ hk => ?_) ?_) | split)

theorem State.swapStart_keeps {σ : State} {F : Nat} (s : State) (p : Nat) (r : UshReq) (list : List Nat) (hF : 13453230462 ||| F = F) (hk : Keeps F σ s) :
    Keeps F σ (State.swapStart s p r list) := by
  unfold State.swapStart
  repeat' (first | with_reducible (first
    | assumption
    | refine State.reqDone_keeps _ _ _ _ _ (mask_trans rfl hF) ?_
    | refine State.logWhole_keeps _ _ _ _ _ (mask_trans rfl hF) ?_
    | refine State.modUsher_keeps _ _ _ (mask_trans rfl hF) ?_
    | refine State.setPhase_keeps _ _ _ (mask_trans rfl hF) ?_
    | refine State.setHandle_keeps _ _ _ _ (mask_trans rfl hF) ?_
    | refine State.swapGo_keeps _ _ (mask_trans rfl hF) ?_
    | refine State.startFill_keeps _ _ _ _ _ (mask_trans rfl hF) ?_
    | refine keeps_ite (fun _ => ?_) (fun _ => ?_)
    | refine keeps_foldl (fun _ _ hk => ?_) ?_) | split | (dsimp only; split))

theorem State.swapEarly_keeps {σ : State} {F : Nat} (s : State) (p : Nat) (list : List Nat) (ctx : Nat) (hF : 13432258942 ||| F = F) (hk : Keeps F σ s) :
    Keeps F σ (State.swapEarly s p list ctx) := by
  unfold State.swapEarly
  repeat' (first | with_reducible (first
    | assumption
    | refine State.setPhase_keeps _ _ _ (mask_trans rfl hF) ?_
    | refine State.startFill_keeps _ _ _ _ _ (mask_trans rfl hF) ?_
    | refine State.mpPump_keeps _ _ (mask_trans rfl hF) ?_
    | refine keeps_foldl (fun _ _ hk => ?_) ?_) | split)

theorem State.sceneSwap_keeps {σ : State} {F : Nat} (s : State) (p : Nat) (hF : 13453230462 ||| F = F) (hk : Keeps F σ s) :
    Keeps F σ (State.sceneSwap s p) := by
  unfold State.sceneSwap
  repeat' (first | with_reducible (first
    | assumption
    | refine State.swapGo_keeps _ _ (mask_trans rfl hF) ?_
    | refine State.swapEarly_keeps _ _ _ _ (mask_trans rfl hF) ?_
    | refine State.reqDone_keeps _ _ _ _ _ (mask_trans rfl hF) ?_
    | refine State.swapStart_keeps _ _ _ _ (mask_trans rfl hF) ?_
    | refine keeps_ite (fun _ => ?_) (fun _ => ?_)) | split)

theorem State.swapComplete_keeps {σ : State} {F : Nat} (s : State) (p : Nat) (hF : 31457662 ||| F = F) (hk : Keeps F σ s) :
    Keeps F σ (State.swapComplete s p) := by
  unfold State.swapComplete
  repeat' (first | with_reducible (first
    | assumption
    | refine State.modUsher_keeps _ _ _ (mask_trans rfl hF) ?_
    | refine State.setHandle_keeps _ _ _ _ (mask_trans rfl hF) ?_
    | refine State.reqDone_keeps _ _ _ _ _ (mask_trans rfl hF) ?_
    | refine State.logWhole_keeps _ _ _ _ _ (mask_trans rfl hF) ?_
    | refine State.placement_keeps _ _ (mask_trans rfl hF) ?_
    | refine keeps_ite (fun _ => ?_) (fun _ => ?_)
    | refine keeps_foldl (fun _ _ hk => ?_) ?_) | split)

theorem State.mpTake_keeps {σ : State} {F : Nat} (s : State) (p : Nat) (r : MpReq) (hF : 2097152 ||| F = F) (hk : Keeps F σ s) :
    Keeps F σ (State.mpTake s p r) := by
  unfold State.mpTake
  repeat' (first | with_reducible (first
    | assumption
    | refine State.modUsher_keeps _ _ _ (mask_trans rfl hF) ?_))

theorem State.pieceDone_keeps {σ : State} {F : Nat} (s : State) (p : Nat) (r : MpReq) (hF : 2097152 ||| F = F) (hk : Keeps F σ s) :
    Keeps F σ (State.pieceDone s p r).1 := by
  unfold State.pieceDone
  repeat' (first | with_reducible (first
    | assumption
    | refine State.modShard_keeps _ _ _ _ _ (mask_trans rfl hF) ?_))

theorem State.mpReadData_keeps {σ : State} {F : Nat} (s : State) (p : Nat) (m : Msg) (hF : 13432258942 ||| F = F) (hk : Keeps F σ s) :
    Keeps F σ (State.mpReadData s p m) := by
  unfold State.mpReadData
  repeat' (first | with_reducible (first
    | assumption
    | refine State.discardMsg_keeps _ _ _ (mask_trans rfl hF) ?_
    | refine State.takeMsg_keeps _ _ _ (mask_trans rfl hF) ?_
    | refine State.mpPump_keeps _ _ (mask_trans rfl hF) ?_
    | refine State.mpFail_keeps _ _ _ _ (mask_trans rfl hF) ?_
    | refine State.mpTake_keeps _ _ _ (mask_trans rfl hF) ?_
    | refine State.writeMarked_keeps _ _ _ (mask_trans rfl hF) ?_
    | refine State.pieceDone_keeps _ _ _ (mask_trans rfl hF) ?_
    | refine State.filled_keeps _ _ _ _ (mask_trans rfl hF) ?_
    | refine State.modShard_keeps _ _ _ _ _ (mask_trans rfl hF) ?_
    | refine keeps_ite (fun _ => ?_) (fun _ => ?_)) | split | (dsimp only; split))

theorem State.mpWriteAck_keeps {σ : State} {F : Nat} (s : State) (p : Nat) (m : Msg) (hF : 13432258942 ||| F = F) (hk : Keeps F σ s) :
    Keeps F σ (State.mpWriteAck s p m) := by
  unfold State.mpWriteAck
  repeat' (first | with_reducible (first
    | assumption
    | refine State.discardMsg_keeps _ _ _ (mask_trans rfl hF) ?_
    | refine State.takeMsg_keeps _ _ _ (mask_trans rfl hF) ?_
    | refine State.mpPump_keeps _ _ (mask_trans rfl hF) ?_
    | refine State.mpFail_keeps _ _ _ _ (mask_trans rfl hF) ?_
    | refine State.mpTake_keeps _ _ _ (mask_trans rfl hF) ?_
    | refine State.pieceDone_keeps _ _ _ (mask_trans rfl hF) ?_
    | refine State.evicted_keeps _ _ _ _ (mask_trans rfl hF) ?_
    | refine keeps_ite (fun _ => ?_) (fun _ => ?_)) | split | (dsimp only; split))

theorem State.mpTimeout_keeps {σ : State} {F : Nat} (s : State) (p : Nat) (tag : Nat) (hF : 13432258942 ||| F = F) (hk : Keeps F σ s) :
    Keeps F σ (State.mpTimeout s p tag) := by
  unfold State.mpTimeout
  repeat' (first | with_reducible (first
    | assumption
    | refine State.mpPump_keeps _ _ (mask_trans rfl hF) ?_
    | refine State.mpFail_keeps _ _ _ _ (mask_trans rfl hF) ?_) | split)

theorem State.writeExport_keeps {σ : State} {F : Nat} (s : State) (p : Nat) (v : W32) (hF : 2097208 ||| F = F) (hk : Keeps F σ s) :
    Keeps F σ (State.writeExport s p v) := by
  unfold State.writeExport
  repeat' (first | with_reducible (first
    | assumption
    | refine State.modUsher_keeps _ _ _ (mask_trans rfl hF) ?_
    | refine State.setFld_keeps _ _ _ _ _ (mask_trans rfl hF) ?_
    | refine State.zeroMem_keeps _ _ _ (mask_trans rfl hF) ?_
    | refine keeps_ite (fun _ => ?_) (fun _ => ?_)
    | refine keeps_foldl (fun _ _ hk => ?_) ?_) | split)

theorem State.exportRead_keeps {σ : State} {F : Nat} (s : State) (p : Nat) (addr : Nat) (n : Nat) (hF : 8388990 ||| F = F) (hk : Keeps F σ s) :
    Keeps F σ (State.exportRead s p addr n).1 := by
  unfold State.exportRead
  repeat' (first | with_reducible (first
    | assumption
    | refine State.readMem_keeps _ _ _ (mask_trans rfl hF) ?_
    | refine keeps_foldl_fst (fun _ _ hk => ?_) ?_))

theorem State.mpRead_keeps {σ : State} {F : Nat} (s : State) (p : Nat) (m : Msg) (hF : 13430161790 ||| F = F) (hk : Keeps F σ s) :
    Keeps F σ (State.mpRead s p m) := by
  unfold State.mpRead
  repeat' (first | with_reducible (first
    | assumption
    | refine State.discardMsg_keeps _ _ _ (mask_trans rfl hF) ?_
    | refine State.takeMsg_keeps _ _ _ (mask_trans rfl hF) ?_
    | refine State.exportRead_keeps _ _ _ _ (mask_trans rfl hF) ?_
    | refine State.reply_keeps _ _ _ _ _ _ (mask_trans rfl hF) ?_
    | refine keeps_ite (fun _ => ?_) (fun _ => ?_)))

theorem State.mpWrite_keeps {σ : State} {F : Nat} (s : State) (p : Nat) (m : Msg) (hF : 13430161790 ||| F = F) (hk : Keeps F σ s) :
    Keeps F σ (State.mpWrite s p m) := by
  unfold State.mpWrite
  repeat' (first | with_reducible (first
    | assumption
    | refine State.discardMsg_keeps _ _ _ (mask_trans rfl hF) ?_
    | refine State.takeMsg_keeps _ _ _ (mask_trans rfl hF) ?_
    | refine State.writeMarked_keeps _ _ _ (mask_trans rfl hF) ?_
    | refine State.reply_keeps _ _ _ _ _ _ (mask_trans rfl hF) ?_
    | refine keeps_ite (fun _ => ?_) (fun _ => ?_)
    | refine keeps_foldl (fun _ _ hk => ?_) ?_))

theorem State.hostMiss_keeps {σ : State} {F : Nat} (s : State) (a : Nat) (hF : 332 ||| F = F) (hk : Keeps F σ s) :
    Keeps F σ (State.hostMiss s a) := by
  unfold State.hostMiss
  repeat' (first | with_reducible (first
    | assumption
    | refine State.evUsh_keeps _ _ _ _ _ (mask_trans rfl hF) ?_))

theorem State.bar2Read_keeps {σ : State} {F : Nat} (s : State) (a : Nat) (n : Nat) (hF : 10486142 ||| F = F) (hk : Keeps F σ s) :
    Keeps F σ (State.bar2Read s a n) := by
  unfold State.bar2Read
  repeat' (first | with_reducible (first
    | assumption
    | refine State.readHandle_keeps _ _ _ _ _ _ (mask_trans rfl hF) ?_
    | refine State.emit_keeps _ _ (mask_trans rfl hF) ?_
    | refine State.hostMiss_keeps _ _ (mask_trans rfl hF) ?_
    | refine keeps_ite (fun _ => ?_) (fun _ => ?_)
    | refine keeps_foldl_fst (fun _ _ hk => ?_) ?_) | split)

theorem State.bar2Write_keeps {σ : State} {F : Nat} (s : State) (a : Nat) (bs : List Byte) (hF : 10486142 ||| F = F) (hk : Keeps F σ s) :
    Keeps F σ (State.bar2Write s a bs) := by
  unfold State.bar2Write
  repeat' (first | with_reducible (first
    | assumption
    | refine State.readHandle_keeps _ _ _ _ _ _ (mask_trans rfl hF) ?_
    | refine State.writeHandle_keeps _ _ _ _ _ _ (mask_trans rfl hF) ?_
    | refine State.hostMiss_keeps _ _ (mask_trans rfl hF) ?_
    | refine keeps_ite (fun _ => ?_) (fun _ => ?_)
    | refine keeps_ite_fst (fun _ => ?_) (fun _ => ?_)
    | refine keeps_foldl_fst (fun _ _ hk => ?_) ?_) | split | (dsimp only; split))

theorem State.writeReqTail_keeps {σ : State} {F : Nat} (s : State) (p : Nat) (v : W32) (hF : 31457662 ||| F = F) (hk : Keeps F σ s) :
    Keeps F σ (State.writeReqTail s p v) := by
  unfold State.writeReqTail
  repeat' (first | with_reducible (first
    | assumption
    | refine State.nextReq_keeps _ _ (mask_trans rfl hF) ?_
    | refine State.modUsher_keeps _ _ _ (mask_trans rfl hF) ?_))

theorem State.readDesc_keeps {σ : State} {F : Nat} (s : State) (ch : Nat) (hF : 44040574 ||| F = F) (hk : Keeps F σ s) :
    Keeps F σ (State.readDesc s ch) := by
  unfold State.readDesc
  repeat' (first | with_reducible (first
    | assumption
    | refine State.endRead_keeps _ _ _ _ _ (mask_trans rfl hF) ?_
    | refine State.modChan_keeps _ _ _ (mask_trans rfl hF) ?_
    | refine keeps_ite (fun _ => ?_) (fun _ => ?_)
    | refine keeps_ite_fst (fun _ => ?_) (fun _ => ?_)) | split)

theorem State.arm_keeps {σ : State} {F : Nat} (s : State) (ch : Nat) (hF : 54525952 ||| F = F) (hk : Keeps F σ s) :
    Keeps F σ (State.arm s ch) := by
  unfold State.arm
  repeat' (first | with_reducible (first
    | assumption
    | refine State.modChan_keeps _ _ _ (mask_trans rfl hF) ?_
    | refine State.addWaiter_keeps _ _ _ (mask_trans rfl hF) ?_
    | refine keeps_ite (fun _ => ?_) (fun _ => ?_)) | split)

theorem State.chanGo_keeps {σ : State} {F : Nat} (s : State) (ch : Nat) (hF : 65012094 ||| F = F) (hk : Keeps F σ s) :
    Keeps F σ (State.chanGo s ch) := by
  unfold State.chanGo
  repeat' (first | with_reducible (first
    | assumption
    | refine State.arm_keeps _ _ (mask_trans rfl hF) ?_
    | refine State.readDesc_keeps _ _ (mask_trans rfl hF) ?_
    | refine keeps_forN (fun _ _ hk => ?_) ?_))

theorem State.countBytes_keeps {σ : State} {F : Nat} (s : State) (ch : Nat) (n : Nat) (hF : 33554432 ||| F = F) (hk : Keeps F σ s) :
    Keeps F σ (State.countBytes s ch n) := by
  unfold State.countBytes
  repeat' (first | with_reducible (first
    | assumption
    | refine State.modChan_keeps _ _ _ (mask_trans rfl hF) ?_))

theorem State.chanErr_keeps {σ : State} {F : Nat} (s : State) (ch : Nat) (code : Nat) (hF : 33554432 ||| F = F) (hk : Keeps F σ s) :
    Keeps F σ (State.chanErr s ch code) := by
  unfold State.chanErr
  repeat' (first | with_reducible (first
    | assumption
    | refine State.modChan_keeps _ _ _ (mask_trans rfl hF) ?_))

theorem State.copyLocal_keeps {σ : State} {F : Nat} (s : State) (ch : Nat) (d : List Byte) (a : Endpt) (b : Endpt) (rows : List Row) (hF : 44040574 ||| F = F) (hk : Keeps F σ s) :
    Keeps F σ (State.copyLocal s ch d a b rows) := by
  unfold State.copyLocal
  repeat' (first | with_reducible (first
    | assumption
    | refine State.unitRead_keeps _ _ _ _ _ _ (mask_trans rfl hF) ?_
    | refine State.unitWrite_keeps _ _ _ _ _ _ (mask_trans rfl hF) ?_
    | refine State.countBytes_keeps _ _ _ (mask_trans rfl hF) ?_
    | refine State.tick_keeps _ (mask_trans rfl hF) ?_
    | refine State.chanErr_keeps _ _ _ (mask_trans rfl hF) ?_
    | refine keeps_ite (fun _ => ?_) (fun _ => ?_)
    | refine keeps_foldl_fst (fun _ _ hk => ?_) ?_))

theorem State.peerSend_keeps {σ : State} {F : Nat} (s : State) (ch : Nat) (d : List Byte) (a : Endpt) (b : Endpt) (rows : List Row) (q : PeerReq) (hF : 13455327564 ||| F = F) (hk : Keeps F σ s) :
    Keeps F σ (State.peerSend s ch d a b rows q) := by
  unfold State.peerSend
  repeat' (first | with_reducible (first
    | assumption
    | refine State.chanErr_keeps _ _ _ (mask_trans rfl hF) ?_
    | refine State.modChan_keeps _ _ _ (mask_trans rfl hF) ?_
    | refine State.sendPeer_keeps _ _ _ _ _ _ _ (mask_trans rfl hF) ?_
    | refine keeps_ite (fun _ => ?_) (fun _ => ?_)) | split)

theorem State.peerPump_keeps {σ : State} {F : Nat} (s : State) (ch : Nat) (hF : 13455327564 ||| F = F) (hk : Keeps F σ s) :
    Keeps F σ (State.peerPump s ch) := by
  unfold State.peerPump
  repeat' (first | with_reducible (first
    | assumption
    | refine State.peerSend_keeps _ _ _ _ _ _ _ (mask_trans rfl hF) ?_
    | refine keeps_ite (fun _ => ?_) (fun _ => ?_)
    | refine keeps_forN (fun _ _ hk => ?_) ?_) | split)

theorem State.copyPeer_keeps {σ : State} {F : Nat} (s : State) (ch : Nat) (d : List Byte) (a : Endpt) (rows : List Row) (hF : 13465813374 ||| F = F) (hk : Keeps F σ s) :
    Keeps F σ (State.copyPeer s ch d a rows) := by
  unfold State.copyPeer
  repeat' (first | with_reducible (first
    | assumption
    | refine State.peerPump_keeps _ _ (mask_trans rfl hF) ?_
    | refine State.modChan_keeps _ _ _ (mask_trans rfl hF) ?_
    | refine State.unitRead_keeps _ _ _ _ _ _ (mask_trans rfl hF) ?_
    | refine State.chanErr_keeps _ _ _ (mask_trans rfl hF) ?_
    | refine keeps_ite (fun _ => ?_) (fun _ => ?_)
    | refine keeps_foldl_fst (fun _ _ hk => ?_) ?_))

theorem State.startDesc_keeps {σ : State} {F : Nat} (s : State) (ch : Nat) (fits : List Byte → Bool) (run : State → DescSlot → Endpt → Endpt → State) (hrun : ∀ (t : State) (x1 : DescSlot) (x2 : Endpt) (x3 : Endpt), Keeps F σ t → Keeps F σ (run t x1 x2 x3)) (hF : 37748736 ||| F = F) (hk : Keeps F σ s) :
    Keeps F σ (State.startDesc s ch fits run) := by
  unfold State.startDesc
  repeat' (first | with_reducible (first
    | assumption
    | refine hrun _ _ _ _ ?_
    | refine State.dropWaiter_keeps _ _ _ (mask_trans rfl hF) ?_
    | refine State.modChan_keeps _ _ _ (mask_trans rfl hF) ?_
    | refine State.chanErr_keeps _ _ _ (mask_trans rfl hF) ?_
    | refine keeps_ite (fun _ => ?_) (fun _ => ?_)) | split)

theorem State.copyColl_keeps {σ : State} {F : Nat} (s : State) (ch : Nat) (mode : Nat) (first : Nat) (sw : Nat) (a : Endpt) (rows : List Row) (hF : 13465813374 ||| F = F) (hk : Keeps F σ s) :
    Keeps F σ (State.copyColl s ch mode first sw a rows) := by
  unfold State.copyColl
  repeat' (first | with_reducible (first
    | assumption
    | refine State.unitRead_keeps _ _ _ _ _ _ (mask_trans rfl hF) ?_
    | refine State.modChan_keeps _ _ _ (mask_trans rfl hF) ?_
    | refine State.chanErr_keeps _ _ _ (mask_trans rfl hF) ?_
    | refine State.peerPump_keeps _ _ (mask_trans rfl hF) ?_
    | refine keeps_ite (fun _ => ?_) (fun _ => ?_)
    | refine keeps_foldl_fst (fun _ _ hk => ?_) ?_))

theorem State.moveRows_keeps {σ : State} {F : Nat} (s : State) (ch : Nat) (mode : Nat) (hF : 13470007678 ||| F = F) (hk : Keeps F σ s) :
    Keeps F σ (State.moveRows s ch mode) := by
  unfold State.moveRows
  repeat' (first | with_reducible (first
    | assumption
    | refine State.startDesc_keeps _ _ _ _ (fun _ _ _ _ hk => ?_) (mask_trans rfl hF) ?_
    | refine State.chanErr_keeps _ _ _ (mask_trans rfl hF) ?_
    | refine State.copyColl_keeps _ _ _ _ _ _ _ (mask_trans rfl hF) ?_
    | refine State.copyPeer_keeps _ _ _ _ _ (mask_trans rfl hF) ?_
    | refine State.copyLocal_keeps _ _ _ _ _ _ (mask_trans rfl hF) ?_
    | refine keeps_ite (fun _ => ?_) (fun _ => ?_)))

theorem State.fetchElem_keeps {σ : State} {F : Nat} (s : State) (ch : Nat) (d : List Byte) (a : Endpt) (b : Endpt) (k : Nat) (idx : Nat) (hF : 44040574 ||| F = F) (hk : Keeps F σ s) :
    Keeps F σ (State.fetchElem s ch d a b k idx).1 := by
  unfold State.fetchElem
  repeat' (first | with_reducible (first
    | assumption
    | refine State.unitRead_keeps _ _ _ _ _ _ (mask_trans rfl hF) ?_
    | refine State.modChan_keeps _ _ _ (mask_trans rfl hF) ?_
    | refine State.chanErr_keeps _ _ _ (mask_trans rfl hF) ?_
    | refine State.unitWrite_keeps _ _ _ _ _ _ (mask_trans rfl hF) ?_
    | refine State.countBytes_keeps _ _ _ (mask_trans rfl hF) ?_
    | refine keeps_ite (fun _ => ?_) (fun _ => ?_)
    | refine keeps_ite_fst (fun _ => ?_) (fun _ => ?_)))

theorem State.fetchMode_keeps {σ : State} {F : Nat} (s : State) (ch : Nat) (hF : 13470007678 ||| F = F) (hk : Keeps F σ s) :
    Keeps F σ (State.fetchMode s ch) := by
  unfold State.fetchMode
  repeat' (first | with_reducible (first
    | assumption
    | refine State.startDesc_keeps _ _ _ _ (fun _ _ _ _ hk => ?_) (mask_trans rfl hF) ?_
    | refine State.chanErr_keeps _ _ _ (mask_trans rfl hF) ?_
    | refine State.endRead_keeps _ _ _ _ _ (mask_trans rfl hF) ?_
    | refine State.fetchElem_keeps _ _ _ _ _ _ _ (mask_trans rfl hF) ?_
    | refine State.peerPump_keeps _ _ (mask_trans rfl hF) ?_
    | refine keeps_ite (fun _ => ?_) (fun _ => ?_)
    | refine keeps_ite_fst (fun _ => ?_) (fun _ => ?_)
    | refine keeps_foldl_fst (fun _ _ hk => ?_) ?_) | split | (dsimp only; split))

theorem State.reshuffleRow_keeps {σ : State} {F : Nat} (s : State) (ch : Nat) (sw : Nat) (dw : Nat) (a : Endpt) (b : Endpt) (ins : List (Int × Nat)) (outs : List (Int × Nat)) (f : List (List (Byte × Bool)) → List (List (Byte × Bool))) (hF : 44040574 ||| F = F) (hk : Keeps F σ s) :
    Keeps F σ (State.reshuffleRow s ch sw dw a b ins outs f).1 := by
  unfold State.reshuffleRow
  repeat' (first | with_reducible (first
    | assumption
    | refine State.unitRead_keeps _ _ _ _ _ _ (mask_trans rfl hF) ?_
    | refine State.unitWrite_keeps _ _ _ _ _ _ (mask_trans rfl hF) ?_
    | refine State.countBytes_keeps _ _ _ (mask_trans rfl hF) ?_
    | refine State.tick_keeps _ (mask_trans rfl hF) ?_
    | refine State.chanErr_keeps _ _ _ (mask_trans rfl hF) ?_
    | refine keeps_ite (fun _ => ?_) (fun _ => ?_)
    | refine keeps_ite_fst (fun _ => ?_) (fun _ => ?_)
    | refine keeps_foldl_fst (fun _ _ hk => ?_) ?_))

theorem State.weave_keeps {σ : State} {F : Nat} (s : State) (ch : Nat) (back : Bool) (hF : 48234878 ||| F = F) (hk : Keeps F σ s) :
    Keeps F σ (State.weave s ch back) := by
  unfold State.weave
  repeat' (first | with_reducible (first
    | assumption
    | refine State.startDesc_keeps _ _ _ _ (fun _ _ _ _ hk => ?_) (mask_trans rfl hF) ?_
    | refine State.reshuffleRow_keeps _ _ _ _ _ _ _ _ _ (mask_trans rfl hF) ?_
    | refine State.chanErr_keeps _ _ _ (mask_trans rfl hF) ?_
    | refine keeps_ite (fun _ => ?_) (fun _ => ?_)
    | refine keeps_ite_fst (fun _ => ?_) (fun _ => ?_)
    | refine keeps_foldl_fst (fun _ _ hk => ?_) ?_))

theorem State.planeGroup_keeps {σ : State} {F : Nat} (s : State) (ch : Nat) (d : List Byte) (a : Endpt) (b : Endpt) (aux : Option Endpt) (e : Nat) (nb : Nat) (ns : Nat) (g : Nat) (i : Nat) (hF : 44040574 ||| F = F) (hk : Keeps F σ s) :
    Keeps F σ (State.planeGroup s ch d a b aux e nb ns g i).1 := by
  unfold State.planeGroup
  repeat' (first | with_reducible (first
    | assumption
    | refine State.unitRead_keeps _ _ _ _ _ _ (mask_trans rfl hF) ?_
    | refine State.unitWrite_keeps _ _ _ _ _ _ (mask_trans rfl hF) ?_
    | refine State.countBytes_keeps _ _ _ (mask_trans rfl hF) ?_
    | refine State.chanErr_keeps _ _ _ (mask_trans rfl hF) ?_
    | refine keeps_ite (fun _ => ?_) (fun _ => ?_)
    | refine keeps_ite_fst (fun _ => ?_) (fun _ => ?_)
    | refine keeps_foldl_fst (fun _ _ hk => ?_) ?_) | split)

theorem State.plane_keeps {σ : State} {F : Nat} (s : State) (ch : Nat) (shuf : Nat) (hF : 48234878 ||| F = F) (hk : Keeps F σ s) :
    Keeps F σ (State.plane s ch shuf) := by
  unfold State.plane
  repeat' (first | with_reducible (first
    | assumption
    | refine State.startDesc_keeps _ _ _ _ (fun _ _ _ _ hk => ?_) (mask_trans rfl hF) ?_
    | refine State.chanErr_keeps _ _ _ (mask_trans rfl hF) ?_
    | refine State.planeGroup_keeps _ _ _ _ _ _ _ _ _ _ _ (mask_trans rfl hF) ?_
    | refine State.tick_keeps _ (mask_trans rfl hF) ?_
    | refine keeps_ite (fun _ => ?_) (fun _ => ?_)
    | refine keeps_ite_fst (fun _ => ?_) (fun _ => ?_)
    | refine keeps_foldl_fst (fun _ _ hk => ?_) ?_) | split | (dsimp only; split))

theorem State.chanEvent_keeps {σ : State} {F : Nat} (s : State) (ch : Nat) (hF : 33554764 ||| F = F) (hk : Keeps F σ s) :
    Keeps F σ (State.chanEvent s ch) := by
  unfold State.chanEvent
  repeat' (first | with_reducible (first
    | assumption
    | refine State.evChan_keeps _ _ _ _ (mask_trans rfl hF) ?_
    | refine State.bump_keeps _ _ _ (mask_trans rfl hF) ?_
    | refine State.modChan_keeps _ _ _ (mask_trans rfl hF) ?_
    | refine keeps_ite (fun _ => ?_) (fun _ => ?_)))

theorem State.chainOut_keeps {σ : State} {F : Nat} (s : State) (ch : Nat) (hF : 33554764 ||| F = F) (hk : Keeps F σ s) :
    Keeps F σ (State.chainOut s ch) := by
  unfold State.chainOut
  repeat' (first | with_reducible (first
    | assumption
    | refine State.evChan_keeps _ _ _ _ (mask_trans rfl hF) ?_
    | refine State.chanEvent_keeps _ _ (mask_trans rfl hF) ?_
    | refine keeps_ite (fun _ => ?_) (fun _ => ?_)))

theorem State.descBack_keeps {σ : State} {F : Nat} (s : State) (ch : Nat) (x : DescSlot) (code : Nat) (hF : 44040574 ||| F = F) (hk : Keeps F σ s) :
    Keeps F σ (State.descBack s ch x code) := by
  unfold State.descBack
  repeat' (first | with_reducible (first
    | assumption
    | refine State.endWrite_keeps _ _ _ _ _ (mask_trans rfl hF) ?_
    | refine State.modChan_keeps _ _ _ (mask_trans rfl hF) ?_
    | refine State.setReg_keeps _ _ _ (mask_trans rfl hF) ?_
    | refine keeps_ite (fun _ => ?_) (fun _ => ?_)) | split)

theorem State.chanHalt_keeps {σ : State} {F : Nat} (s : State) (ch : Nat) (hF : 37748736 ||| F = F) (hk : Keeps F σ s) :
    Keeps F σ (State.chanHalt s ch) := by
  unfold State.chanHalt
  repeat' (first | with_reducible (first
    | assumption
    | refine State.modChan_keeps _ _ _ (mask_trans rfl hF) ?_
    | refine State.dropWaiter_keeps _ _ _ (mask_trans rfl hF) ?_))

theorem State.setErr_keeps {σ : State} {F : Nat} (s : State) (ch : Nat) (idx : Nat) (code : Nat) (hF : 8 ||| F = F) (hk : Keeps F σ s) :
    Keeps F σ (State.setErr s ch idx code) := by
  unfold State.setErr
  repeat' (first | with_reducible (first
    | assumption
    | refine State.setReg_keeps _ _ _ (mask_trans rfl hF) ?_))

theorem State.descEnd_keeps {σ : State} {F : Nat} (s : State) (ch : Nat) (x : DescSlot) (code : Nat) (hF : 65012094 ||| F = F) (hk : Keeps F σ s) :
    Keeps F σ (State.descEnd s ch x code) := by
  unfold State.descEnd
  repeat' (first | with_reducible (first
    | assumption
    | refine State.descBack_keeps _ _ _ _ (mask_trans rfl hF) ?_
    | refine State.objOp_keeps _ _ _ _ _ (mask_trans rfl hF) ?_
    | refine State.chainOut_keeps _ _ (mask_trans rfl hF) ?_
    | refine State.evChan_keeps _ _ _ _ (mask_trans rfl hF) ?_
    | refine State.modChan_keeps _ _ _ (mask_trans rfl hF) ?_
    | refine State.chanGo_keeps _ _ (mask_trans rfl hF) ?_
    | refine State.setErr_keeps _ _ _ _ (mask_trans rfl hF) ?_
    | refine State.chanHalt_keeps _ _ (mask_trans rfl hF) ?_
    | refine State.raiseAll_keeps _ _ _ _ _ (mask_trans rfl hF) ?_
    | refine keeps_ite (fun _ => ?_) (fun _ => ?_)))

theorem State.descComplete_keeps {σ : State} {F : Nat} (s : State) (ch : Nat) (hF : 65012094 ||| F = F) (hk : Keeps F σ s) :
    Keeps F σ (State.descComplete s ch) := by
  unfold State.descComplete
  repeat' (first | with_reducible (first
    | assumption
    | refine State.descEnd_keeps _ _ _ _ (mask_trans rfl hF) ?_
    | refine keeps_ite (fun _ => ?_) (fun _ => ?_)) | split | (dsimp only; split))

theorem State.chanTimeout_keeps {σ : State} {F : Nat} (s : State) (ch : Nat) (hF : 65012094 ||| F = F) (hk : Keeps F σ s) :
    Keeps F σ (State.chanTimeout s ch) := by
  unfold State.chanTimeout
  repeat' (first | with_reducible (first
    | assumption
    | refine State.descEnd_keeps _ _ _ _ (mask_trans rfl hF) ?_
    | refine keeps_ite (fun _ => ?_) (fun _ => ?_)) | split)

theorem State.abort_keeps {σ : State} {F : Nat} (s : State) (ch : Nat) (hF : 48234878 ||| F = F) (hk : Keeps F σ s) :
    Keeps F σ (State.abort s ch) := by
  unfold State.abort
  repeat' (first | with_reducible (first
    | assumption
    | refine State.setErr_keeps _ _ _ _ (mask_trans rfl hF) ?_
    | refine State.descBack_keeps _ _ _ _ (mask_trans rfl hF) ?_
    | refine State.evChan_keeps _ _ _ _ (mask_trans rfl hF) ?_
    | refine State.chanHalt_keeps _ _ (mask_trans rfl hF) ?_
    | refine keeps_ite (fun _ => ?_) (fun _ => ?_)) | split)

theorem State.resumeChan_keeps {σ : State} {F : Nat} (s : State) (ch : Nat) (hF : 65012094 ||| F = F) (hk : Keeps F σ s) :
    Keeps F σ (State.resumeChan s ch) := by
  unfold State.resumeChan
  repeat' (first | with_reducible (first
    | assumption
    | refine State.chanGo_keeps _ _ (mask_trans rfl hF) ?_
    | refine State.modChan_keeps _ _ _ (mask_trans rfl hF) ?_
    | refine keeps_ite (fun _ => ?_) (fun _ => ?_)))

theorem State.writeRingTail_keeps {σ : State} {F : Nat} (s : State) (ch : Nat) (v : W32) (hF : 65012094 ||| F = F) (hk : Keeps F σ s) :
    Keeps F σ (State.writeRingTail s ch v) := by
  unfold State.writeRingTail
  repeat' (first | with_reducible (first
    | assumption
    | refine State.chanGo_keeps _ _ (mask_trans rfl hF) ?_
    | refine State.modChan_keeps _ _ _ (mask_trans rfl hF) ?_
    | refine keeps_ite (fun _ => ?_) (fun _ => ?_)))

theorem State.setPrio_keeps {σ : State} {F : Nat} (s : State) (ch : Nat) (v : W32) (hF : 8 ||| F = F) (hk : Keeps F σ s) :
    Keeps F σ (State.setPrio s ch v) := by
  unfold State.setPrio
  repeat' (first | with_reducible (first
    | assumption
    | refine State.setFld_keeps _ _ _ _ _ (mask_trans rfl hF) ?_))

theorem State.enableChan_keeps {σ : State} {F : Nat} (s : State) (ch : Nat) (v : W32) (hF : 33554440 ||| F = F) (hk : Keeps F σ s) :
    Keeps F σ (State.enableChan s ch v) := by
  unfold State.enableChan
  repeat' (first | with_reducible (first
    | assumption
    | refine State.setPrio_keeps _ _ _ (mask_trans rfl hF) ?_
    | refine State.modChan_keeps _ _ _ (mask_trans rfl hF) ?_
    | refine State.setFld_keeps _ _ _ _ _ (mask_trans rfl hF) ?_
    | refine keeps_ite (fun _ => ?_) (fun _ => ?_)))

theorem State.disableChan_keeps {σ : State} {F : Nat} (s : State) (ch : Nat) (v : W32) (hF : 48234878 ||| F = F) (hk : Keeps F σ s) :
    Keeps F σ (State.disableChan s ch v) := by
  unfold State.disableChan
  repeat' (first | with_reducible (first
    | assumption
    | refine State.setPrio_keeps _ _ _ (mask_trans rfl hF) ?_
    | refine State.setFld_keeps _ _ _ _ _ (mask_trans rfl hF) ?_
    | refine State.modChan_keeps _ _ _ (mask_trans rfl hF) ?_
    | refine State.abort_keeps _ _ (mask_trans rfl hF) ?_
    | refine keeps_ite (fun _ => ?_) (fun _ => ?_)))

theorem State.natError_keeps {σ : State} {F : Nat} (s : State) (p : Nat) (m : Msg) (status : Nat) (hF : 13421773132 ||| F = F) (hk : Keeps F σ s) :
    Keeps F σ (State.natError s p m status) := by
  unfold State.natError
  repeat' (first | with_reducible (first
    | assumption
    | refine State.reply_keeps _ _ _ _ _ _ (mask_trans rfl hF) ?_))

theorem State.nativeRead_keeps {σ : State} {F : Nat} (s : State) (p : Nat) (m : Msg) (hF : 13432258942 ||| F = F) (hk : Keeps F σ s) :
    Keeps F σ (State.nativeRead s p m) := by
  unfold State.nativeRead
  repeat' (first | with_reducible (first
    | assumption
    | refine State.discardMsg_keeps _ _ _ (mask_trans rfl hF) ?_
    | refine State.takeMsg_keeps _ _ _ (mask_trans rfl hF) ?_
    | refine State.natError_keeps _ _ _ _ (mask_trans rfl hF) ?_
    | refine State.readHandle_keeps _ _ _ _ _ _ (mask_trans rfl hF) ?_
    | refine State.reply_keeps _ _ _ _ _ _ (mask_trans rfl hF) ?_
    | refine keeps_ite (fun _ => ?_) (fun _ => ?_)))

theorem State.nativeWrite_keeps {σ : State} {F : Nat} (s : State) (p : Nat) (m : Msg) (hF : 13432258942 ||| F = F) (hk : Keeps F σ s) :
    Keeps F σ (State.nativeWrite s p m) := by
  unfold State.nativeWrite
  repeat' (first | with_reducible (first
    | assumption
    | refine State.discardMsg_keeps _ _ _ (mask_trans rfl hF) ?_
    | refine State.takeMsg_keeps _ _ _ (mask_trans rfl hF) ?_
    | refine State.natError_keeps _ _ _ _ (mask_trans rfl hF) ?_
    | refine State.writeHandle_keeps _ _ _ _ _ _ (mask_trans rfl hF) ?_
    | refine State.reply_keeps _ _ _ _ _ _ (mask_trans rfl hF) ?_
    | refine keeps_ite (fun _ => ?_) (fun _ => ?_)))

theorem State.natTake_keeps {σ : State} {F : Nat} (s : State) (ch : Nat) (r : PeerReq) (hF : 33554432 ||| F = F) (hk : Keeps F σ s) :
    Keeps F σ (State.natTake s ch r) := by
  unfold State.natTake
  repeat' (first | with_reducible (first
    | assumption
    | refine State.modChan_keeps _ _ _ (mask_trans rfl hF) ?_))

theorem State.natFail_keeps {σ : State} {F : Nat} (s : State) (ch : Nat) (r : PeerReq) (code : Nat) (hF : 33554432 ||| F = F) (hk : Keeps F σ s) :
    Keeps F σ (State.natFail s ch r code) := by
  unfold State.natFail
  repeat' (first | with_reducible (first
    | assumption
    | refine State.chanErr_keeps _ _ _ (mask_trans rfl hF) ?_
    | refine State.modChan_keeps _ _ _ (mask_trans rfl hF) ?_
    | refine State.natTake_keeps _ _ _ (mask_trans rfl hF) ?_))

theorem State.gotData_keeps {σ : State} {F : Nat} (s : State) (ch : Nat) (r : PeerReq) (cs : List (Byte × Bool)) (hF : 13465813374 ||| F = F) (hk : Keeps F σ s) :
    Keeps F σ (State.gotData s ch r cs) := by
  unfold State.gotData
  repeat' (first | with_reducible (first
    | assumption
    | refine State.natTake_keeps _ _ _ (mask_trans rfl hF) ?_
    | refine State.chanErr_keeps _ _ _ (mask_trans rfl hF) ?_
    | refine State.peerPump_keeps _ _ (mask_trans rfl hF) ?_
    | refine State.modChan_keeps _ _ _ (mask_trans rfl hF) ?_
    | refine State.unitWrite_keeps _ _ _ _ _ _ (mask_trans rfl hF) ?_
    | refine State.countBytes_keeps _ _ _ (mask_trans rfl hF) ?_
    | refine keeps_ite (fun _ => ?_) (fun _ => ?_)) | split | (dsimp only; split))

theorem State.readData_keeps {σ : State} {F : Nat} (s : State) (p : Nat) (m : Msg) (hF : 13465813374 ||| F = F) (hk : Keeps F σ s) :
    Keeps F σ (State.readData s p m) := by
  unfold State.readData
  repeat' (first | with_reducible (first
    | assumption
    | refine State.takeMsg_keeps _ _ _ (mask_trans rfl hF) ?_
    | refine State.natFail_keeps _ _ _ _ (mask_trans rfl hF) ?_
    | refine State.gotData_keeps _ _ _ _ (mask_trans rfl hF) ?_
    | refine keeps_ite (fun _ => ?_) (fun _ => ?_)) | split)

theorem State.writeAck_keeps {σ : State} {F : Nat} (s : State) (p : Nat) (m : Msg) (hF : 13455327564 ||| F = F) (hk : Keeps F σ s) :
    Keeps F σ (State.writeAck s p m) := by
  unfold State.writeAck
  repeat' (first | with_reducible (first
    | assumption
    | refine State.takeMsg_keeps _ _ _ (mask_trans rfl hF) ?_
    | refine State.natFail_keeps _ _ _ _ (mask_trans rfl hF) ?_
    | refine State.peerPump_keeps _ _ (mask_trans rfl hF) ?_
    | refine State.countBytes_keeps _ _ _ (mask_trans rfl hF) ?_
    | refine State.natTake_keeps _ _ _ (mask_trans rfl hF) ?_
    | refine keeps_ite (fun _ => ?_) (fun _ => ?_)) | split)

theorem State.nativeError_keeps {σ : State} {F : Nat} (s : State) (p : Nat) (m : Msg) (hF : 4865392644 ||| F = F) (hk : Keeps F σ s) :
    Keeps F σ (State.nativeError s p m) := by
  unfold State.nativeError
  repeat' (first | with_reducible (first
    | assumption
    | refine State.takeMsg_keeps _ _ _ (mask_trans rfl hF) ?_
    | refine State.natFail_keeps _ _ _ _ (mask_trans rfl hF) ?_
    | refine keeps_ite (fun _ => ?_) (fun _ => ?_)) | split)

theorem State.natLinkDown_keeps {σ : State} {F : Nat} (s : State) (xs : List (Nat × PeerReq)) (hF : 33554432 ||| F = F) (hk : Keeps F σ s) :
    Keeps F σ (State.natLinkDown s xs) := by
  unfold State.natLinkDown
  repeat' (first | with_reducible (first
    | assumption
    | refine State.natFail_keeps _ _ _ _ (mask_trans rfl hF) ?_
    | refine keeps_foldl (fun _ _ hk => ?_) ?_))

end Sys2Proof.Machine
end

