-- ==== Sys2Proof/Laws/KeepsLinks.lean ====
section
/-! SUPPORT. `Keeps` for the operations of lanes, temperature, links, time, rings, curtains, controllers, ports and the house. -/

namespace Sys2Proof.Machine

open Sys2Proof

theorem State.assignBank_keeps {σ : State} {F : Nat} (s : State) (port : Nat) (rx : Bool) (n : Nat) (lines : Nat → Bool) (hF : 134217728 ||| F = F) (hk : Keeps F σ s) :
    Keeps F σ (State.assignBank s port rx n lines) := by
  unfold State.assignBank
  repeat' (first | with_reducible (first
    | assumption
    | refine State.modRing_keeps _ _ _ (mask_trans rfl hF) ?_
    | refine keeps_ite (fun _ => ?_) (fun _ => ?_)
    | refine keeps_foldl (fun _ _ hk => ?_) ?_) | split)

theorem State.assignWide_keeps {σ : State} {F : Nat} (s : State) (port : Nat) (rx : Bool) (n : Nat) (hF : 134217728 ||| F = F) (hk : Keeps F σ s) :
    Keeps F σ (State.assignWide s port rx n) := by
  unfold State.assignWide
  repeat' (first | with_reducible (first
    | assumption
    | refine State.assignBank_keeps _ _ _ _ _ (mask_trans rfl hF) ?_
    | refine keeps_ite (fun _ => ?_) (fun _ => ?_)))

theorem State.assignPort_keeps {σ : State} {F : Nat} (s : State) (port : Nat) (w : Nat) (hF : 134217728 ||| F = F) (hk : Keeps F σ s) :
    Keeps F σ (State.assignPort s port w) := by
  unfold State.assignPort
  repeat' (first | with_reducible (first
    | assumption
    | refine State.assignWide_keeps _ _ _ _ (mask_trans rfl hF) ?_))

theorem State.assignMap_keeps {σ : State} {F : Nat} (s : State) (port : Nat) (w : Nat) (hF : 201326592 ||| F = F) (hk : Keeps F σ s) :
    Keeps F σ (State.assignMap s port w) := by
  unfold State.assignMap
  repeat' (first | with_reducible (first
    | assumption
    | refine State.modSite_keeps _ _ _ (mask_trans rfl hF) ?_
    | refine State.assignPort_keeps _ _ _ (mask_trans rfl hF) ?_))

theorem State.steerTo_keeps {σ : State} {F : Nat} (s : State) (port : Nat) (out : Nat) (hF : 268435460 ||| F = F) (hk : Keeps F σ s) :
    Keeps F σ (State.steerTo s port out) := by
  unfold State.steerTo
  repeat' (first | with_reducible (first
    | assumption
    | refine State.emit_keeps _ _ (mask_trans rfl hF) ?_
    | refine State.modPort_keeps _ _ _ (mask_trans rfl hF) ?_
    | refine keeps_ite (fun _ => ?_) (fun _ => ?_)))

theorem State.steerHome_keeps {σ : State} {F : Nat} (s : State) (port : Nat) (hF : 268435460 ||| F = F) (hk : Keeps F σ s) :
    Keeps F σ (State.steerHome s port) := by
  unfold State.steerHome
  repeat' (first | with_reducible (first
    | assumption
    | refine State.steerTo_keeps _ _ _ (mask_trans rfl hF) ?_
    | refine keeps_ite (fun _ => ?_) (fun _ => ?_)))

theorem State.noteTraining_keeps {σ : State} {F : Nat} (s : State) (port : Nat) (hF : 268435456 ||| F = F) (hk : Keeps F σ s) :
    Keeps F σ (State.noteTraining s port) := by
  unfold State.noteTraining
  repeat' (first | with_reducible (first
    | assumption
    | refine State.modPort_keeps _ _ _ (mask_trans rfl hF) ?_))

theorem State.setSens_keeps {σ : State} {F : Nat} (s : State) (i : Nat) (x : SensSt) (hF : 65536 ||| F = F) (hk : Keeps F σ s) :
    Keeps F σ (State.setSens s i x) := by
  unfold State.setSens
  repeat' (first | with_reducible (first
    | assumption) | with_reducible refine keeps_thm (mask_trans rfl hF) ?_)

theorem State.takeReadings_keeps {σ : State} {F : Nat} (s : State) (rs : List SensRead) (hF : 65536 ||| F = F) (hk : Keeps F σ s) :
    Keeps F σ (State.takeReadings s rs) := by
  unfold State.takeReadings
  repeat' (first | with_reducible (first
    | assumption
    | refine State.setSens_keeps _ _ _ (mask_trans rfl hF) ?_
    | refine keeps_ite (fun _ => ?_) (fun _ => ?_)
    | refine keeps_foldl (fun _ _ hk => ?_) ?_) | split)

theorem State.thmEvents_keeps {σ : State} {F : Nat} (s : State) (bs : List (Nat × Bool)) (hF : 332 ||| F = F) (hk : Keeps F σ s) :
    Keeps F σ (State.thmEvents s bs) := by
  unfold State.thmEvents
  repeat' (first | with_reducible (first
    | assumption
    | refine State.raiseAll_keeps _ _ _ _ _ (mask_trans rfl hF) ?_))

theorem State.sample_keeps {σ : State} {F : Nat} (s : State) (rs : List SensRead) (hF : 1638732 ||| F = F) (hk : Keeps F σ s) :
    Keeps F σ (State.sample s rs) := by
  unfold State.sample
  repeat' (first | with_reducible (first
    | assumption
    | refine State.takeReadings_keeps _ _ (mask_trans rfl hF) ?_
    | refine State.setSens_keeps _ _ _ (mask_trans rfl hF) ?_
    | refine State.thmEvents_keeps _ _ (mask_trans rfl hF) ?_
    | refine State.rateEvent_keeps _ _ (mask_trans rfl hF) ?_
    | refine keeps_ite (fun _ => ?_) (fun _ => ?_)
    | refine keeps_foldl (fun _ _ hk => ?_) ?_) | with_reducible refine keeps_thm (mask_trans rfl hF) ?_)

theorem State.shortage_keeps {σ : State} {F : Nat} (s : State) (hF : 1638732 ||| F = F) (hk : Keeps F σ s) :
    Keeps F σ (State.shortage s) := by
  unfold State.shortage
  repeat' (first | with_reducible (first
    | assumption
    | refine State.rateEvent_keeps _ _ (mask_trans rfl hF) ?_
    | refine State.evThm_keeps _ _ _ (mask_trans rfl hF) ?_
    | refine keeps_ite (fun _ => ?_) (fun _ => ?_)))

theorem State.windowRefused_keeps {σ : State} {F : Nat} (s : State) (hF : 332 ||| F = F) (hk : Keeps F σ s) :
    Keeps F σ (State.windowRefused s) := by
  unfold State.windowRefused
  repeat' (first | with_reducible (first
    | assumption
    | refine State.evThm_keeps _ _ _ (mask_trans rfl hF) ?_))

theorem State.evLink_keeps {σ : State} {F : Nat} (s : State) (l : Nat) (bit : Nat) (a0 : Nat) (hF : 332 ||| F = F) (hk : Keeps F σ s) :
    Keeps F σ (State.evLink s l bit a0) := by
  unfold State.evLink
  repeat' (first | with_reducible (first
    | assumption
    | refine State.evLnk_keeps _ _ _ _ (mask_trans rfl hF) ?_))

theorem State.dropMsg_keeps {σ : State} {F : Nat} (s : State) (p : Nat) (m : Msg) (l : Nat) (status : Nat) (hF : 13421773132 ||| F = F) (hk : Keeps F σ s) :
    Keeps F σ (State.dropMsg s p m l status) := by
  unfold State.dropMsg
  repeat' (first | with_reducible (first
    | assumption
    | refine State.bump_keeps _ _ _ (mask_trans rfl hF) ?_
    | refine State.forward_keeps _ _ _ _ (mask_trans rfl hF) ?_
    | refine keeps_ite (fun _ => ?_) (fun _ => ?_)))

theorem State.sendDown_keeps {σ : State} {F : Nat} (s : State) (l : Nat) (cause : Nat) (hF : 4 ||| F = F) (hk : Keeps F σ s) :
    Keeps F σ (State.sendDown s l cause) := by
  unfold State.sendDown
  repeat' (first | with_reducible (first
    | assumption
    | refine State.emit_keeps _ _ (mask_trans rfl hF) ?_
    | refine keeps_ite (fun _ => ?_) (fun _ => ?_)))

theorem State.forgetLink_keeps {σ : State} {F : Nat} (s : State) (l : Nat) (hF : 12884901888 ||| F = F) (hk : Keeps F σ s) :
    Keeps F σ (State.forgetLink s l) := by
  unfold State.forgetLink
  repeat' (first | with_reducible (first
    | assumption
    | refine State.setRelay_keeps _ _ _ (mask_trans rfl hF) ?_
    | refine keeps_foldl (fun _ _ hk => ?_) ?_) | with_reducible refine keeps_inbox (mask_trans rfl hF) ?_)

theorem State.linkDown_keeps {σ : State} {F : Nat} (s : State) (l : Nat) (cause : Nat) (hF : 13822853502 ||| F = F) (hk : Keeps F σ s) :
    Keeps F σ (State.linkDown s l cause) := by
  unfold State.linkDown
  repeat' (first | with_reducible (first
    | assumption
    | refine State.sendDown_keeps _ _ _ (mask_trans rfl hF) ?_
    | refine State.forgetLink_keeps _ _ (mask_trans rfl hF) ?_
    | refine State.modSite_keeps _ _ _ (mask_trans rfl hF) ?_
    | refine State.setLink_keeps _ _ _ (mask_trans rfl hF) ?_
    | refine State.loseAll_keeps _ _ _ (fun _ hk => ?_) (mask_trans rfl hF) ?_
    | refine State.mpLinkDown_keeps _ _ _ (mask_trans rfl hF) ?_
    | refine State.natLinkDown_keeps _ _ (mask_trans rfl hF) ?_
    | refine State.dropMsg_keeps _ _ _ _ _ (mask_trans rfl hF) ?_
    | refine State.setFld_keeps _ _ _ _ _ (mask_trans rfl hF) ?_
    | refine State.bump_keeps _ _ _ (mask_trans rfl hF) ?_
    | refine State.evLink_keeps _ _ _ _ (mask_trans rfl hF) ?_
    | refine State.modPort_keeps _ _ _ (mask_trans rfl hF) ?_
    | refine keeps_ite (fun _ => ?_) (fun _ => ?_)
    | refine keeps_foldl (fun _ _ hk => ?_) ?_))

theorem State.portDown_keeps {σ : State} {F : Nat} (s : State) (port : Nat) (cause : Nat) (hF : 13822853502 ||| F = F) (hk : Keeps F σ s) :
    Keeps F σ (State.portDown s port cause) := by
  unfold State.portDown
  repeat' (first | with_reducible (first
    | assumption
    | refine State.linkDown_keeps _ _ _ (mask_trans rfl hF) ?_
    | refine keeps_foldl (fun _ _ hk => ?_) ?_))

theorem State.siteDown_keeps {σ : State} {F : Nat} (s : State) (k : Nat) (cause : Nat) (hF : 13822853502 ||| F = F) (hk : Keeps F σ s) :
    Keeps F σ (State.siteDown s k cause) := by
  unfold State.siteDown
  repeat' (first | with_reducible (first
    | assumption
    | refine State.portDown_keeps _ _ _ (mask_trans rfl hF) ?_
    | refine keeps_foldl (fun _ _ hk => ?_) ?_))

theorem State.sendOs_keeps {σ : State} {F : Nat} (s : State) (port : Nat) (type : Nat) (reason : Nat) (hF : 4 ||| F = F) (hk : Keeps F σ s) :
    Keeps F σ (State.sendOs s port type reason) := by
  unfold State.sendOs
  repeat' (first | with_reducible (first
    | assumption
    | refine State.emit_keeps _ _ (mask_trans rfl hF) ?_))

theorem State.pausePort_keeps {σ : State} {F : Nat} (s : State) (port : Nat) (reason : Nat) (st : Nat) (hF : 805306380 ||| F = F) (hk : Keeps F σ s) :
    Keeps F σ (State.pausePort s port reason st) := by
  unfold State.pausePort
  repeat' (first | with_reducible (first
    | assumption
    | refine State.modPort_keeps _ _ _ (mask_trans rfl hF) ?_
    | refine State.modLink_keeps _ _ _ (mask_trans rfl hF) ?_
    | refine State.bump_keeps _ _ _ (mask_trans rfl hF) ?_
    | refine State.sendOs_keeps _ _ _ _ (mask_trans rfl hF) ?_
    | refine keeps_ite (fun _ => ?_) (fun _ => ?_)
    | refine keeps_foldl (fun _ _ hk => ?_) ?_))

theorem State.retrain_keeps {σ : State} {F : Nat} (s : State) (port : Nat) (reason : Nat) (hF : 805306380 ||| F = F) (hk : Keeps F σ s) :
    Keeps F σ (State.retrain s port reason) := by
  unfold State.retrain
  repeat' (first | with_reducible (first
    | assumption
    | refine State.modPort_keeps _ _ _ (mask_trans rfl hF) ?_
    | refine State.pausePort_keeps _ _ _ _ (mask_trans rfl hF) ?_
    | refine keeps_ite (fun _ => ?_) (fun _ => ?_)) | split)

theorem State.collect_keeps {σ : State} {F : Nat} (s : State) (port : Nat) (hF : 268435456 ||| F = F) (hk : Keeps F σ s) :
    Keeps F σ (State.collect s port) := by
  unfold State.collect
  repeat' (first | with_reducible (first
    | assumption
    | refine State.modPort_keeps _ _ _ (mask_trans rfl hF) ?_))

theorem State.combine_keeps {σ : State} {F : Nat} (s : State) (port : Nat) (hF : 805306380 ||| F = F) (hk : Keeps F σ s) :
    Keeps F σ (State.combine s port) := by
  unfold State.combine
  repeat' (first | with_reducible (first
    | assumption
    | refine State.modPort_keeps _ _ _ (mask_trans rfl hF) ?_
    | refine State.pausePort_keeps _ _ _ _ (mask_trans rfl hF) ?_
    | refine keeps_ite (fun _ => ?_) (fun _ => ?_)))

theorem State.refit_keeps {σ : State} {F : Nat} (s : State) (port : Nat) (hF : 13957071230 ||| F = F) (hk : Keeps F σ s) :
    Keeps F σ (State.refit s port) := by
  unfold State.refit
  repeat' (first | with_reducible (first
    | assumption
    | refine State.modPort_keeps _ _ _ (mask_trans rfl hF) ?_
    | refine State.portDown_keeps _ _ _ (mask_trans rfl hF) ?_
    | refine State.evPort_keeps _ _ _ (mask_trans rfl hF) ?_
    | refine State.assignMap_keeps _ _ _ (mask_trans rfl hF) ?_
    | refine keeps_ite (fun _ => ?_) (fun _ => ?_)) | split)

theorem State.refitEv_keeps {σ : State} {F : Nat} (s : State) (port : Nat) (hF : 13957071230 ||| F = F) (hk : Keeps F σ s) :
    Keeps F σ (State.refitEv s port) := by
  unfold State.refitEv
  repeat' (first | with_reducible (first
    | assumption
    | refine State.refit_keeps _ _ (mask_trans rfl hF) ?_
    | refine State.evPort_keeps _ _ _ (mask_trans rfl hF) ?_
    | refine keeps_ite (fun _ => ?_) (fun _ => ?_)))

theorem State.reshape_keeps {σ : State} {F : Nat} (s : State) (port : Nat) (reason : Nat) (hF : 13957071230 ||| F = F) (hk : Keeps F σ s) :
    Keeps F σ (State.reshape s port reason) := by
  unfold State.reshape
  repeat' (first | with_reducible (first
    | assumption
    | refine State.retrain_keeps _ _ _ (mask_trans rfl hF) ?_
    | refine State.refitEv_keeps _ _ (mask_trans rfl hF) ?_
    | refine keeps_ite (fun _ => ?_) (fun _ => ?_)))

theorem State.resendFrom_keeps {σ : State} {F : Nat} (s : State) (l : Nat) (seq : Nat) (hF : 536870924 ||| F = F) (hk : Keeps F σ s) :
    Keeps F σ (State.resendFrom s l seq) := by
  unfold State.resendFrom
  repeat' (first | with_reducible (first
    | assumption
    | refine State.bump_keeps _ _ _ (mask_trans rfl hF) ?_
    | refine State.modLink_keeps _ _ _ (mask_trans rfl hF) ?_
    | refine State.emit_keeps _ _ (mask_trans rfl hF) ?_
    | refine keeps_ite (fun _ => ?_) (fun _ => ?_)
    | refine keeps_foldl (fun _ _ hk => ?_) ?_))

theorem State.replayFrom_keeps {σ : State} {F : Nat} (s : State) (l : Nat) (seq : Nat) (hF : 13822853502 ||| F = F) (hk : Keeps F σ s) :
    Keeps F σ (State.replayFrom s l seq) := by
  unfold State.replayFrom
  repeat' (first | with_reducible (first
    | assumption
    | refine State.evLink_keeps _ _ _ _ (mask_trans rfl hF) ?_
    | refine State.linkDown_keeps _ _ _ (mask_trans rfl hF) ?_
    | refine State.retrain_keeps _ _ _ (mask_trans rfl hF) ?_
    | refine State.modLink_keeps _ _ _ (mask_trans rfl hF) ?_
    | refine State.bump_keeps _ _ _ (mask_trans rfl hF) ?_
    | refine State.resendFrom_keeps _ _ _ (mask_trans rfl hF) ?_
    | refine keeps_ite (fun _ => ?_) (fun _ => ?_)))

theorem State.linkFault_keeps {σ : State} {F : Nat} (s : State) (l : Nat) (hF : 13822853502 ||| F = F) (hk : Keeps F σ s) :
    Keeps F σ (State.linkFault s l) := by
  unfold State.linkFault
  repeat' (first | with_reducible (first
    | assumption
    | refine State.linkDown_keeps _ _ _ (mask_trans rfl hF) ?_
    | refine State.evLink_keeps _ _ _ _ (mask_trans rfl hF) ?_))

theorem State.applyAck_keeps {σ : State} {F : Nat} (s : State) (l : Nat) (q : Nat) (nak : Bool) (hF : 13822853502 ||| F = F) (hk : Keeps F σ s) :
    Keeps F σ (State.applyAck s l q nak) := by
  unfold State.applyAck
  repeat' (first | with_reducible (first
    | assumption
    | refine State.linkFault_keeps _ _ (mask_trans rfl hF) ?_
    | refine State.modLink_keeps _ _ _ (mask_trans rfl hF) ?_
    | refine State.replayFrom_keeps _ _ _ (mask_trans rfl hF) ?_
    | refine State.pump_keeps _ _ (mask_trans rfl hF) ?_
    | refine keeps_ite (fun _ => ?_) (fun _ => ?_)))

theorem State.applyReturn_keeps {σ : State} {F : Nat} (s : State) (l : Nat) (i : Nat) (ret : Nat) (hF : 13822853502 ||| F = F) (hk : Keeps F σ s) :
    Keeps F σ (State.applyReturn s l i ret) := by
  unfold State.applyReturn
  repeat' (first | with_reducible (first
    | assumption
    | refine State.linkFault_keeps _ _ (mask_trans rfl hF) ?_
    | refine State.modLink_keeps _ _ _ (mask_trans rfl hF) ?_
    | refine keeps_ite (fun _ => ?_) (fun _ => ?_)))

theorem State.applyField_keeps {σ : State} {F : Nat} (s : State) (l : Nat) (f : Nat) (hF : 13822853502 ||| F = F) (hk : Keeps F σ s) :
    Keeps F σ (State.applyField s l f) := by
  unfold State.applyField
  repeat' (first | with_reducible (first
    | assumption
    | refine State.applyReturn_keeps _ _ _ _ (mask_trans rfl hF) ?_
    | refine State.applyAck_keeps _ _ _ _ (mask_trans rfl hF) ?_
    | refine keeps_ite (fun _ => ?_) (fun _ => ?_)))

theorem State.oweAck_keeps {σ : State} {F : Nat} (s : State) (l : Nat) (nak : Bool) (hF : 536870916 ||| F = F) (hk : Keeps F σ s) :
    Keeps F σ (State.oweAck s l nak) := by
  unfold State.oweAck
  repeat' (first | with_reducible (first
    | assumption
    | refine State.reportCredits_keeps _ _ (mask_trans rfl hF) ?_
    | refine State.modLink_keeps _ _ _ (mask_trans rfl hF) ?_))

theorem State.nak_keeps {σ : State} {F : Nat} (s : State) (l : Nat) (hF : 536870916 ||| F = F) (hk : Keeps F σ s) :
    Keeps F σ (State.nak s l) := by
  unfold State.nak
  repeat' (first | with_reducible (first
    | assumption
    | refine State.oweAck_keeps _ _ _ (mask_trans rfl hF) ?_
    | refine State.modLink_keeps _ _ _ (mask_trans rfl hF) ?_
    | refine keeps_ite (fun _ => ?_) (fun _ => ?_)))

theorem State.crcFail_keeps {σ : State} {F : Nat} (s : State) (l : Nat) (counts : Bool) (hF : 805306380 ||| F = F) (hk : Keeps F σ s) :
    Keeps F σ (State.crcFail s l counts) := by
  unfold State.crcFail
  repeat' (first | with_reducible (first
    | assumption
    | refine State.bump_keeps _ _ _ (mask_trans rfl hF) ?_
    | refine State.modLink_keeps _ _ _ (mask_trans rfl hF) ?_
    | refine State.nak_keeps _ _ (mask_trans rfl hF) ?_
    | refine State.retrain_keeps _ _ _ (mask_trans rfl hF) ?_
    | refine keeps_ite (fun _ => ?_) (fun _ => ?_)))

theorem State.countFlit_keeps {σ : State} {F : Nat} (s : State) (port : Nat) (hF : 268435456 ||| F = F) (hk : Keeps F σ s) :
    Keeps F σ (State.countFlit s port) := by
  unfold State.countFlit
  repeat' (first | with_reducible (first
    | assumption
    | refine State.modPort_keeps _ _ _ (mask_trans rfl hF) ?_
    | refine keeps_ite (fun _ => ?_) (fun _ => ?_)))

theorem State.recvFlit_keeps {σ : State} {F : Nat} (s : State) (l : Nat) (flit : List Byte) (f : State → State) (hf : ∀ (t : State), Keeps F σ t → Keeps F σ (f t)) (hF : 13822853502 ||| F = F) (hk : Keeps F σ s) :
    Keeps F σ (State.recvFlit s l flit f) := by
  unfold State.recvFlit
  repeat' (first | with_reducible (first
    | assumption
    | refine hf _ ?_
    | refine State.countFlit_keeps _ _ (mask_trans rfl hF) ?_
    | refine State.crcFail_keeps _ _ _ (mask_trans rfl hF) ?_
    | refine State.modLink_keeps _ _ _ (mask_trans rfl hF) ?_
    | refine State.applyField_keeps _ _ _ (mask_trans rfl hF) ?_
    | refine keeps_ite (fun _ => ?_) (fun _ => ?_)))

theorem State.moveHeld_keeps {σ : State} {F : Nat} (s : State) (p : Nat) (hF : 9126805508 ||| F = F) (hk : Keeps F σ s) :
    Keeps F σ (State.moveHeld s p) := by
  unfold State.moveHeld
  repeat' (first | with_reducible (first
    | assumption
    | refine State.freeCredits_keeps _ _ _ (mask_trans rfl hF) ?_
    | refine State.setRelay_keeps _ _ _ (mask_trans rfl hF) ?_
    | refine keeps_forN (fun _ _ hk => ?_) ?_) | split)

theorem State.holdMsg_keeps {σ : State} {F : Nat} (s : State) (p : Nat) (m : Msg) (l : Nat) (hF : 9126805508 ||| F = F) (hk : Keeps F σ s) :
    Keeps F σ (State.holdMsg s p m l) := by
  unfold State.holdMsg
  repeat' (first | with_reducible (first
    | assumption
    | refine State.moveHeld_keeps _ _ (mask_trans rfl hF) ?_
    | refine State.setRelay_keeps _ _ _ (mask_trans rfl hF) ?_))

theorem State.arrive_keeps {σ : State} {F : Nat} (s : State) (l : Nat) (m : Msg) (hF : 13421773132 ||| F = F) (hk : Keeps F σ s) :
    Keeps F σ (State.arrive s l m) := by
  unfold State.arrive
  repeat' (first | with_reducible (first
    | assumption
    | refine State.modLink_keeps _ _ _ (mask_trans rfl hF) ?_
    | refine State.bump_keeps _ _ _ (mask_trans rfl hF) ?_
    | refine State.freeCredits_keeps _ _ _ (mask_trans rfl hF) ?_
    | refine State.dropMsg_keeps _ _ _ _ _ (mask_trans rfl hF) ?_
    | refine State.deliverTo_keeps _ _ _ _ (mask_trans rfl hF) ?_
    | refine State.holdMsg_keeps _ _ _ _ (mask_trans rfl hF) ?_
    | refine keeps_ite (fun _ => ?_) (fun _ => ?_)))

theorem State.parseSlots_keeps {σ : State} {F : Nat} (n : Nat) (s : State) (l tc : Nat) (bs : List Byte) (hF : 13421773132 ||| F = F) (hk : Keeps F σ s) :
    Keeps F σ (State.parseSlots n s l tc bs) := by
  induction n generalizing s bs with
  | zero => exact hk
  | succ n ih =>
    unfold State.parseSlots
    repeat' (first | with_reducible (first
      | assumption
      | refine State.bump_keeps _ _ _ (mask_trans rfl hF) ?_
      | refine State.modLink_keeps _ _ _ (mask_trans rfl hF) ?_
      | refine State.arrive_keeps _ _ _ (mask_trans rfl hF) ?_
      | refine ih _ _ ?_
      | refine keeps_ite (fun _ => ?_) (fun _ => ?_)))

theorem State.deliverFlit_keeps {σ : State} {F : Nat} (s : State) (l : Nat) (flit : List Byte) (hF : 13421773132 ||| F = F) (hk : Keeps F σ s) :
    Keeps F σ (State.deliverFlit s l flit) := by
  unfold State.deliverFlit
  repeat' (first | with_reducible (first
    | assumption
    | refine State.modLink_keeps _ _ _ (mask_trans rfl hF) ?_
    | refine State.bump_keeps _ _ _ (mask_trans rfl hF) ?_
    | refine State.parseSlots_keeps _ _ _ _ _ (mask_trans rfl hF) ?_
    | refine keeps_ite (fun _ => ?_) (fun _ => ?_)))

theorem State.dataFlit_keeps {σ : State} {F : Nat} (s : State) (l : Nat) (flit : List Byte) (hF : 13822853502 ||| F = F) (hk : Keeps F σ s) :
    Keeps F σ (State.dataFlit s l flit) := by
  unfold State.dataFlit
  repeat' (first | with_reducible (first
    | assumption
    | refine State.recvFlit_keeps _ _ _ _ (fun _ hk => ?_) (mask_trans rfl hF) ?_
    | refine State.modLink_keeps _ _ _ (mask_trans rfl hF) ?_
    | refine State.deliverFlit_keeps _ _ _ (mask_trans rfl hF) ?_
    | refine State.oweAck_keeps _ _ _ (mask_trans rfl hF) ?_
    | refine State.nak_keeps _ _ (mask_trans rfl hF) ?_
    | refine keeps_ite (fun _ => ?_) (fun _ => ?_)))

theorem State.ackLapse_keeps {σ : State} {F : Nat} (s : State) (l : Nat) (hF : 536870916 ||| F = F) (hk : Keeps F σ s) :
    Keeps F σ (State.ackLapse s l) := by
  unfold State.ackLapse
  repeat' (first | with_reducible (first
    | assumption
    | refine State.oweAck_keeps _ _ _ (mask_trans rfl hF) ?_
    | refine keeps_ite (fun _ => ?_) (fun _ => ?_)))

theorem State.replayLapse_keeps {σ : State} {F : Nat} (s : State) (l : Nat) (hF : 13822853502 ||| F = F) (hk : Keeps F σ s) :
    Keeps F σ (State.replayLapse s l) := by
  unfold State.replayLapse
  repeat' (first | with_reducible (first
    | assumption
    | refine State.replayFrom_keeps _ _ _ (mask_trans rfl hF) ?_
    | refine keeps_ite (fun _ => ?_) (fun _ => ?_)))

theorem State.messageStart_keeps {σ : State} {F : Nat} (s : State) (l : Nat) (tc : Nat) (hF : 536870916 ||| F = F) (hk : Keeps F σ s) :
    Keeps F σ (State.messageStart s l tc) := by
  unfold State.messageStart
  repeat' (first | with_reducible (first
    | assumption
    | refine State.modLink_keeps _ _ _ (mask_trans rfl hF) ?_
    | refine State.pump_keeps _ _ (mask_trans rfl hF) ?_
    | refine State.sendData_keeps _ _ _ _ (mask_trans rfl hF) ?_
    | refine keeps_ite (fun _ => ?_) (fun _ => ?_)) | split)

theorem State.creditTimeout_keeps {σ : State} {F : Nat} (s : State) (l : Nat) (tc : Nat) (hF : 13822853502 ||| F = F) (hk : Keeps F σ s) :
    Keeps F σ (State.creditTimeout s l tc) := by
  unfold State.creditTimeout
  repeat' (first | with_reducible (first
    | assumption
    | refine State.linkDown_keeps _ _ _ (mask_trans rfl hF) ?_
    | refine keeps_ite (fun _ => ?_) (fun _ => ?_)) | split)

theorem State.refuseOwn_keeps {σ : State} {F : Nat} (s : State) (p : Nat) (m : Msg) (hF : 13487309182 ||| F = F) (hk : Keeps F σ s) :
    Keeps F σ (State.refuseOwn s p m) := by
  unfold State.refuseOwn
  repeat' (first | with_reducible (first
    | assumption
    | refine State.natFail_keeps _ _ _ _ (mask_trans rfl hF) ?_
    | refine State.mpPump_keeps _ _ (mask_trans rfl hF) ?_
    | refine State.mpFail_keeps _ _ _ _ (mask_trans rfl hF) ?_
    | refine State.declareLost_keeps _ _ _ (mask_trans rfl hF) ?_
    | refine keeps_ite (fun _ => ?_) (fun _ => ?_)) | split)

theorem State.relayForward_keeps {σ : State} {F : Nat} (s : State) (p : Nat) (idx : Nat) (hF : 13487309182 ||| F = F) (hk : Keeps F σ s) :
    Keeps F σ (State.relayForward s p idx) := by
  unfold State.relayForward
  repeat' (first | with_reducible (first
    | assumption
    | refine State.moveHeld_keeps _ _ (mask_trans rfl hF) ?_
    | refine State.setRelay_keeps _ _ _ (mask_trans rfl hF) ?_
    | refine State.bump_keeps _ _ _ (mask_trans rfl hF) ?_
    | refine State.forward_keeps _ _ _ _ (mask_trans rfl hF) ?_
    | refine State.enqueue_keeps _ _ _ (mask_trans rfl hF) ?_
    | refine State.deliverTo_keeps _ _ _ _ (mask_trans rfl hF) ?_
    | refine State.refuseOwn_keeps _ _ _ (mask_trans rfl hF) ?_
    | refine State.noRoute_keeps _ (mask_trans rfl hF) ?_
    | refine State.dropMsg_keeps _ _ _ _ _ (mask_trans rfl hF) ?_
    | refine keeps_ite (fun _ => ?_) (fun _ => ?_)) | split)

theorem State.phyTrained_keeps {σ : State} {F : Nat} (s : State) (port : Nat) (delayOk : Bool) (hF : 805306702 ||| F = F) (hk : Keeps F σ s) :
    Keeps F σ (State.phyTrained s port delayOk) := by
  unfold State.phyTrained
  repeat' (first | with_reducible (first
    | assumption
    | refine State.tick_keeps _ (mask_trans rfl hF) ?_
    | refine State.modPort_keeps _ _ _ (mask_trans rfl hF) ?_
    | refine State.noteTraining_keeps _ _ (mask_trans rfl hF) ?_
    | refine State.evPort_keeps _ _ _ (mask_trans rfl hF) ?_
    | refine State.modLink_keeps _ _ _ (mask_trans rfl hF) ?_
    | refine State.sendCtl_keeps _ _ _ (mask_trans rfl hF) ?_
    | refine keeps_ite (fun _ => ?_) (fun _ => ?_)
    | refine keeps_foldl (fun _ _ hk => ?_) ?_))

theorem State.capResend_keeps {σ : State} {F : Nat} (s : State) (l : Nat) (hF : 536870916 ||| F = F) (hk : Keeps F σ s) :
    Keeps F σ (State.capResend s l) := by
  unfold State.capResend
  repeat' (first | with_reducible (first
    | assumption
    | refine State.sendCtl_keeps _ _ _ (mask_trans rfl hF) ?_
    | refine keeps_ite (fun _ => ?_) (fun _ => ?_)))

theorem State.capTimeout_keeps {σ : State} {F : Nat} (s : State) (l : Nat) (hF : 13822853502 ||| F = F) (hk : Keeps F σ s) :
    Keeps F σ (State.capTimeout s l) := by
  unfold State.capTimeout
  repeat' (first | with_reducible (first
    | assumption
    | refine State.linkDown_keeps _ _ _ (mask_trans rfl hF) ?_
    | refine keeps_ite (fun _ => ?_) (fun _ => ?_)))

theorem State.recvCtl_keeps {σ : State} {F : Nat} (s : State) (l : Nat) (flit : List Byte) (msg : Nat) (f : State → List Byte → State) (hf : ∀ (t : State) (x1 : List Byte), Keeps F σ t → Keeps F σ (f t x1)) (hF : 13822853502 ||| F = F) (hk : Keeps F σ s) :
    Keeps F σ (State.recvCtl s l flit msg f) := by
  unfold State.recvCtl
  repeat' (first | with_reducible (first
    | assumption
    | refine hf _ _ ?_
    | refine State.recvFlit_keeps _ _ _ _ (fun _ hk => ?_) (mask_trans rfl hF) ?_
    | refine keeps_ite (fun _ => ?_) (fun _ => ?_)
    | refine keeps_foldl (fun _ _ hk => ?_) ?_))

theorem State.linkGoesUp_keeps {σ : State} {F : Nat} (s : State) (l : Nat) (hF : 13690339662 ||| F = F) (hk : Keeps F σ s) :
    Keeps F σ (State.linkGoesUp s l) := by
  unfold State.linkGoesUp
  repeat' (first | with_reducible (first
    | assumption
    | refine State.tick_keeps _ (mask_trans rfl hF) ?_
    | refine State.setLink_keeps _ _ _ (mask_trans rfl hF) ?_
    | refine State.modPort_keeps _ _ _ (mask_trans rfl hF) ?_
    | refine State.raiseAll_keeps _ _ _ _ _ (mask_trans rfl hF) ?_
    | refine State.sendQuery_keeps _ _ _ (mask_trans rfl hF) ?_
    | refine keeps_foldl (fun _ _ hk => ?_) ?_) | split | (dsimp only; split) | with_reducible refine keeps_tsu (mask_trans rfl hF) ?_)

theorem State.sendCapAck_keeps {σ : State} {F : Nat} (s : State) (l : Nat) (c : List Byte) (hF : 536870916 ||| F = F) (hk : Keeps F σ s) :
    Keeps F σ (State.sendCapAck s l c) := by
  unfold State.sendCapAck
  repeat' (first | with_reducible (first
    | assumption
    | refine State.sendCtl_keeps _ _ _ (mask_trans rfl hF) ?_))

theorem State.takeCap_keeps {σ : State} {F : Nat} (s : State) (l : Nat) (c : List Byte) (hF : 13957202302 ||| F = F) (hk : Keeps F σ s) :
    Keeps F σ (State.takeCap s l c) := by
  unfold State.takeCap
  repeat' (first | with_reducible (first
    | assumption
    | refine State.sendCapAck_keeps _ _ _ (mask_trans rfl hF) ?_
    | refine State.linkDown_keeps _ _ _ (mask_trans rfl hF) ?_
    | refine State.modLink_keeps _ _ _ (mask_trans rfl hF) ?_
    | refine State.modPort_keeps _ _ _ (mask_trans rfl hF) ?_
    | refine State.refit_keeps _ _ (mask_trans rfl hF) ?_
    | refine State.evFab_keeps _ _ (mask_trans rfl hF) ?_
    | refine State.linkGoesUp_keeps _ _ (mask_trans rfl hF) ?_
    | refine keeps_ite (fun _ => ?_) (fun _ => ?_)) | split)

theorem State.cap_keeps {σ : State} {F : Nat} (s : State) (l : Nat) (flit : List Byte) (hF : 13957202302 ||| F = F) (hk : Keeps F σ s) :
    Keeps F σ (State.cap s l flit) := by
  unfold State.cap
  repeat' (first | with_reducible (first
    | assumption
    | refine State.recvCtl_keeps _ _ _ _ _ (fun _ _ hk => ?_) (mask_trans rfl hF) ?_
    | refine State.takeCap_keeps _ _ _ (mask_trans rfl hF) ?_))

theorem State.capAck_keeps {σ : State} {F : Nat} (s : State) (l : Nat) (flit : List Byte) (hF : 13822984574 ||| F = F) (hk : Keeps F σ s) :
    Keeps F σ (State.capAck s l flit) := by
  unfold State.capAck
  repeat' (first | with_reducible (first
    | assumption
    | refine State.recvCtl_keeps _ _ _ _ _ (fun _ _ hk => ?_) (mask_trans rfl hF) ?_
    | refine State.modLink_keeps _ _ _ (mask_trans rfl hF) ?_
    | refine State.linkGoesUp_keeps _ _ (mask_trans rfl hF) ?_
    | refine keeps_ite (fun _ => ?_) (fun _ => ?_)))

theorem State.recvOs_keeps {σ : State} {F : Nat} (s : State) (port : Nat) (os : List Byte) (type : Nat) (f : State → State) (hf : ∀ (t : State), Keeps F σ t → Keeps F σ (f t)) (hF : 8 ||| F = F) (hk : Keeps F σ s) :
    Keeps F σ (State.recvOs s port os type f) := by
  unfold State.recvOs
  repeat' (first | with_reducible (first
    | assumption
    | refine hf _ ?_
    | refine State.bump_keeps _ _ _ (mask_trans rfl hF) ?_
    | refine keeps_ite (fun _ => ?_) (fun _ => ?_)))

theorem State.joinPeer_keeps {σ : State} {F : Nat} (s : State) (port : Nat) (os : List Byte) (hF : 13957071230 ||| F = F) (hk : Keeps F σ s) :
    Keeps F σ (State.joinPeer s port os) := by
  unfold State.joinPeer
  repeat' (first | with_reducible (first
    | assumption
    | refine State.modPort_keeps _ _ _ (mask_trans rfl hF) ?_
    | refine State.refitEv_keeps _ _ (mask_trans rfl hF) ?_))

theorem State.repause_keeps {σ : State} {F : Nat} (s : State) (port : Nat) (hF : 536870912 ||| F = F) (hk : Keeps F σ s) :
    Keeps F σ (State.repause s port) := by
  unfold State.repause
  repeat' (first | with_reducible (first
    | assumption
    | refine State.modLink_keeps _ _ _ (mask_trans rfl hF) ?_
    | refine keeps_ite (fun _ => ?_) (fun _ => ?_)
    | refine keeps_foldl (fun _ _ hk => ?_) ?_))

theorem State.followMove_keeps {σ : State} {F : Nat} (s : State) (port : Nat) (hF : 134218062 ||| F = F) (hk : Keeps F σ s) :
    Keeps F σ (State.followMove s port) := by
  unfold State.followMove
  repeat' (first | with_reducible (first
    | assumption
    | refine State.tick_keeps _ (mask_trans rfl hF) ?_
    | refine State.evPort_keeps _ _ _ (mask_trans rfl hF) ?_
    | refine State.modRing_keeps _ _ _ (mask_trans rfl hF) ?_
    | refine keeps_ite (fun _ => ?_) (fun _ => ?_)) | split | (dsimp only; split))

theorem State.pauseOs_keeps {σ : State} {F : Nat} (s : State) (port : Nat) (os : List Byte) (hF : 13957071230 ||| F = F) (hk : Keeps F σ s) :
    Keeps F σ (State.pauseOs s port os) := by
  unfold State.pauseOs
  repeat' (first | with_reducible (first
    | assumption
    | refine State.recvOs_keeps _ _ _ _ _ (fun _ hk => ?_) (mask_trans rfl hF) ?_
    | refine State.joinPeer_keeps _ _ _ (mask_trans rfl hF) ?_
    | refine State.followMove_keeps _ _ (mask_trans rfl hF) ?_
    | refine State.repause_keeps _ _ (mask_trans rfl hF) ?_
    | refine State.pausePort_keeps _ _ _ _ (mask_trans rfl hF) ?_
    | refine State.modPort_keeps _ _ _ (mask_trans rfl hF) ?_
    | refine keeps_ite (fun _ => ?_) (fun _ => ?_)))

theorem State.finishRetrain_keeps {σ : State} {F : Nat} (s : State) (port : Nat) (hF : 13957071230 ||| F = F) (hk : Keeps F σ s) :
    Keeps F σ (State.finishRetrain s port) := by
  unfold State.finishRetrain
  repeat' (first | with_reducible (first
    | assumption
    | refine State.modLink_keeps _ _ _ (mask_trans rfl hF) ?_
    | refine State.modPort_keeps _ _ _ (mask_trans rfl hF) ?_
    | refine State.evLnk_keeps _ _ _ _ (mask_trans rfl hF) ?_
    | refine State.reshape_keeps _ _ _ (mask_trans rfl hF) ?_
    | refine keeps_ite (fun _ => ?_) (fun _ => ?_)
    | refine keeps_foldl (fun _ _ hk => ?_) ?_))

theorem State.wakeLink_keeps {σ : State} {F : Nat} (s : State) (l : Nat) (exp : Nat) (hF : 536870924 ||| F = F) (hk : Keeps F σ s) :
    Keeps F σ (State.wakeLink s l exp) := by
  unfold State.wakeLink
  repeat' (first | with_reducible (first
    | assumption
    | refine State.setLink_keeps _ _ _ (mask_trans rfl hF) ?_
    | refine State.placeSet_keeps _ _ _ (mask_trans rfl hF) ?_
    | refine State.resendFrom_keeps _ _ _ (mask_trans rfl hF) ?_
    | refine State.reportCredits_keeps _ _ (mask_trans rfl hF) ?_
    | refine State.pump_keeps _ _ (mask_trans rfl hF) ?_
    | refine keeps_foldl (fun _ _ hk => ?_) ?_))

theorem State.resumeOs_keeps {σ : State} {F : Nat} (s : State) (port : Nat) (os : List Byte) (hF : 13957071230 ||| F = F) (hk : Keeps F σ s) :
    Keeps F σ (State.resumeOs s port os) := by
  unfold State.resumeOs
  repeat' (first | with_reducible (first
    | assumption
    | refine State.recvOs_keeps _ _ _ _ _ (fun _ hk => ?_) (mask_trans rfl hF) ?_
    | refine State.joinPeer_keeps _ _ _ (mask_trans rfl hF) ?_
    | refine State.wakeLink_keeps _ _ _ (mask_trans rfl hF) ?_
    | refine State.finishRetrain_keeps _ _ (mask_trans rfl hF) ?_
    | refine keeps_ite (fun _ => ?_) (fun _ => ?_)
    | refine keeps_foldl (fun _ _ hk => ?_) ?_))

theorem State.retrainComplete_keeps {σ : State} {F : Nat} (s : State) (port : Nat) (hF : 13957071230 ||| F = F) (hk : Keeps F σ s) :
    Keeps F σ (State.retrainComplete s port) := by
  unfold State.retrainComplete
  repeat' (first | with_reducible (first
    | assumption
    | refine State.sendOs_keeps _ _ _ _ (mask_trans rfl hF) ?_
    | refine State.modLink_keeps _ _ _ (mask_trans rfl hF) ?_
    | refine State.finishRetrain_keeps _ _ (mask_trans rfl hF) ?_
    | refine keeps_ite (fun _ => ?_) (fun _ => ?_)
    | refine keeps_foldl (fun _ _ hk => ?_) ?_))

theorem State.retrainTimeout_keeps {σ : State} {F : Nat} (s : State) (port : Nat) (hF : 13822853502 ||| F = F) (hk : Keeps F σ s) :
    Keeps F σ (State.retrainTimeout s port) := by
  unfold State.retrainTimeout
  repeat' (first | with_reducible (first
    | assumption
    | refine State.linkDown_keeps _ _ _ (mask_trans rfl hF) ?_
    | refine State.modLink_keeps _ _ _ (mask_trans rfl hF) ?_
    | refine State.modPort_keeps _ _ _ (mask_trans rfl hF) ?_
    | refine State.bump_keeps _ _ _ (mask_trans rfl hF) ?_
    | refine State.sendOs_keeps _ _ _ _ (mask_trans rfl hF) ?_
    | refine keeps_ite (fun _ => ?_) (fun _ => ?_)
    | refine keeps_foldl (fun _ _ hk => ?_) ?_))

theorem State.downOs_keeps {σ : State} {F : Nat} (s : State) (port : Nat) (os : List Byte) (hF : 13822853502 ||| F = F) (hk : Keeps F σ s) :
    Keeps F σ (State.downOs s port os) := by
  unfold State.downOs
  repeat' (first | with_reducible (first
    | assumption
    | refine State.recvOs_keeps _ _ _ _ _ (fun _ hk => ?_) (mask_trans rfl hF) ?_
    | refine State.linkDown_keeps _ _ _ (mask_trans rfl hF) ?_
    | refine keeps_foldl (fun _ _ hk => ?_) ?_))

theorem State.censusSend_keeps {σ : State} {F : Nat} (s : State) (l : Nat) (hF : 536870916 ||| F = F) (hk : Keeps F σ s) :
    Keeps F σ (State.censusSend s l) := by
  unfold State.censusSend
  repeat' (first | with_reducible (first
    | assumption
    | refine State.sendCtl_keeps _ _ _ (mask_trans rfl hF) ?_
    | refine keeps_ite (fun _ => ?_) (fun _ => ?_)))

theorem State.census_keeps {σ : State} {F : Nat} (s : State) (l : Nat) (flit : List Byte) (hF : 13822853502 ||| F = F) (hk : Keeps F σ s) :
    Keeps F σ (State.census s l flit) := by
  unfold State.census
  repeat' (first | with_reducible (first
    | assumption
    | refine State.recvCtl_keeps _ _ _ _ _ (fun _ _ hk => ?_) (mask_trans rfl hF) ?_
    | refine State.setReg_keeps _ _ _ (mask_trans rfl hF) ?_
    | refine State.linkFault_keeps _ _ (mask_trans rfl hF) ?_
    | refine keeps_ite (fun _ => ?_) (fun _ => ?_)))

theorem State.modTsu_keeps {σ : State} {F : Nat} (s : State) (f : TsuSt → TsuSt) (hF : 131072 ||| F = F) (hk : Keeps F σ s) :
    Keeps F σ (State.modTsu s f) := by
  unfold State.modTsu
  repeat' (first | with_reducible (first
    | assumption) | with_reducible refine keeps_tsu (mask_trans rfl hF) ?_)

theorem State.tickEffects_keeps {σ : State} {F : Nat} (s : State) (hF : 131404 ||| F = F) (hk : Keeps F σ s) :
    Keeps F σ (State.tickEffects s) := by
  unfold State.tickEffects
  repeat' (first | with_reducible (first
    | assumption
    | refine State.modTsu_keeps _ _ (mask_trans rfl hF) ?_
    | refine State.raiseAll_keeps _ _ _ _ _ (mask_trans rfl hF) ?_
    | refine State.evTsu_keeps _ _ _ _ (mask_trans rfl hF) ?_
    | refine keeps_ite (fun _ => ?_) (fun _ => ?_)) | split | (dsimp only; split))

theorem State.edge_keeps {σ : State} {F : Nat} (s : State) (hF : 131405 ||| F = F) (hk : Keeps F σ s) :
    Keeps F σ (State.edge s) := by
  unfold State.edge
  repeat' (first | with_reducible (first
    | assumption
    | refine State.modTsu_keeps _ _ (mask_trans rfl hF) ?_
    | refine State.tickEffects_keeps _ (mask_trans rfl hF) ?_
    | refine keeps_ite (fun _ => ?_) (fun _ => ?_)) | with_reducible refine keeps_ctrlClk (mask_trans rfl hF) ?_)

theorem State.runToTick_keeps {σ : State} {F : Nat} (s : State) (hF : 131405 ||| F = F) (hk : Keeps F σ s) :
    Keeps F σ (State.runToTick s) := by
  unfold State.runToTick
  repeat' (first | with_reducible (first
    | assumption
    | refine State.tickEffects_keeps _ (mask_trans rfl hF) ?_
    | refine State.modTsu_keeps _ _ (mask_trans rfl hF) ?_
    | refine keeps_ite (fun _ => ?_) (fun _ => ?_)) | with_reducible refine keeps_ctrlClk (mask_trans rfl hF) ?_)

theorem State.enterHoldover_keeps {σ : State} {F : Nat} (s : State) (hF : 131404 ||| F = F) (hk : Keeps F σ s) :
    Keeps F σ (State.enterHoldover s) := by
  unfold State.enterHoldover
  repeat' (first | with_reducible (first
    | assumption
    | refine State.evTsu_keeps _ _ _ _ (mask_trans rfl hF) ?_
    | refine State.modTsu_keeps _ _ (mask_trans rfl hF) ?_))

theorem State.enterAcquire_keeps {σ : State} {F : Nat} (s : State) (hF : 131404 ||| F = F) (hk : Keeps F σ s) :
    Keeps F σ (State.enterAcquire s) := by
  unfold State.enterAcquire
  repeat' (first | with_reducible (first
    | assumption
    | refine State.setReg_keeps _ _ _ (mask_trans rfl hF) ?_
    | refine State.modTsu_keeps _ _ (mask_trans rfl hF) ?_
    | refine State.evTsu_keeps _ _ _ _ (mask_trans rfl hF) ?_
    | refine State.bump_keeps _ _ _ (mask_trans rfl hF) ?_
    | refine keeps_ite (fun _ => ?_) (fun _ => ?_)))

theorem State.writeTsuCfg_keeps {σ : State} {F : Nat} (s : State) (v : W32) (hF : 131404 ||| F = F) (hk : Keeps F σ s) :
    Keeps F σ (State.writeTsuCfg s v) := by
  unfold State.writeTsuCfg
  repeat' (first | with_reducible (first
    | assumption
    | refine State.setReg_keeps _ _ _ (mask_trans rfl hF) ?_
    | refine State.enterAcquire_keeps _ (mask_trans rfl hF) ?_
    | refine State.modTsu_keeps _ _ (mask_trans rfl hF) ?_
    | refine keeps_ite (fun _ => ?_) (fun _ => ?_)))

theorem State.captureSet_keeps {σ : State} {F : Nat} (s : State) (hF : 131072 ||| F = F) (hk : Keeps F σ s) :
    Keeps F σ (State.captureSet s) := by
  unfold State.captureSet
  repeat' (first | with_reducible (first
    | assumption
    | refine State.modTsu_keeps _ _ (mask_trans rfl hF) ?_
    | refine keeps_ite (fun _ => ?_) (fun _ => ?_)))

theorem State.writeRate_keeps {σ : State} {F : Nat} (s : State) (v : W32) (hF : 131072 ||| F = F) (hk : Keeps F σ s) :
    Keeps F σ (State.writeRate s v) := by
  unfold State.writeRate
  repeat' (first | with_reducible (first
    | assumption
    | refine State.modTsu_keeps _ _ (mask_trans rfl hF) ?_
    | refine keeps_ite (fun _ => ?_) (fun _ => ?_)))

theorem State.sendTiming_keeps {σ : State} {F : Nat} (s : State) (port : Nat) (role : Nat) (hF : 537001988 ||| F = F) (hk : Keeps F σ s) :
    Keeps F σ (State.sendTiming s port role) := by
  unfold State.sendTiming
  repeat' (first | with_reducible (first
    | assumption
    | refine State.modTsu_keeps _ _ (mask_trans rfl hF) ?_
    | refine State.sendCtl_keeps _ _ _ (mask_trans rfl hF) ?_
    | refine keeps_ite (fun _ => ?_) (fun _ => ?_)))

theorem State.timingDue_keeps {σ : State} {F : Nat} (s : State) (port : Nat) (hF : 537001988 ||| F = F) (hk : Keeps F σ s) :
    Keeps F σ (State.timingDue s port) := by
  unfold State.timingDue
  repeat' (first | with_reducible (first
    | assumption
    | refine State.sendTiming_keeps _ _ _ (mask_trans rfl hF) ?_
    | refine keeps_ite (fun _ => ?_) (fun _ => ?_)))

theorem State.servo_keeps {σ : State} {F : Nat} (s : State) (th : Int) (hF : 131404 ||| F = F) (hk : Keeps F σ s) :
    Keeps F σ (State.servo s th) := by
  unfold State.servo
  repeat' (first | with_reducible (first
    | assumption
    | refine State.setReg_keeps _ _ _ (mask_trans rfl hF) ?_
    | refine State.enterAcquire_keeps _ (mask_trans rfl hF) ?_
    | refine State.modTsu_keeps _ _ (mask_trans rfl hF) ?_
    | refine State.evTsu_keeps _ _ _ _ (mask_trans rfl hF) ?_
    | refine keeps_ite (fun _ => ?_) (fun _ => ?_)))

theorem State.altOffset_keeps {σ : State} {F : Nat} (s : State) (th : Int) (hF : 332 ||| F = F) (hk : Keeps F σ s) :
    Keeps F σ (State.altOffset s th) := by
  unfold State.altOffset
  repeat' (first | with_reducible (first
    | assumption
    | refine State.setReg_keeps _ _ _ (mask_trans rfl hF) ?_
    | refine State.evTsu_keeps _ _ _ _ (mask_trans rfl hF) ?_
    | refine keeps_ite (fun _ => ?_) (fun _ => ?_)))

theorem State.timingIn_keeps {σ : State} {F : Nat} (s : State) (port : Nat) (b : List Byte) (t : Nat) (hF : 537002316 ||| F = F) (hk : Keeps F σ s) :
    Keeps F σ (State.timingIn s port b t) := by
  unfold State.timingIn
  repeat' (first | with_reducible (first
    | assumption
    | refine State.modTsu_keeps _ _ (mask_trans rfl hF) ?_
    | refine State.sendTiming_keeps _ _ _ (mask_trans rfl hF) ?_
    | refine State.servo_keeps _ _ (mask_trans rfl hF) ?_
    | refine State.altOffset_keeps _ _ (mask_trans rfl hF) ?_
    | refine keeps_ite (fun _ => ?_) (fun _ => ?_)) | split)

theorem State.writeThrough_keeps {σ : State} {F : Nat} (s : State) (k : Nat) (it : WtItem) (apply : State → WtItem → State) (happly : ∀ (t : State) (x1 : WtItem), Keeps F σ t → Keeps F σ (apply t x1)) (hF : 67108864 ||| F = F) (hk : Keeps F σ s) :
    Keeps F σ (State.writeThrough s k it apply) := by
  unfold State.writeThrough
  repeat' (first | with_reducible (first
    | assumption
    | refine happly _ _ ?_
    | refine State.modSite_keeps _ _ _ (mask_trans rfl hF) ?_
    | refine keeps_ite (fun _ => ?_) (fun _ => ?_)))

theorem State.stepDown_keeps {σ : State} {F : Nat} (s : State) (port : Nat) (apply : State → WtItem → State) (happly : ∀ (t : State) (x1 : WtItem), Keeps F σ t → Keeps F σ (apply t x1)) (hF : 67108864 ||| F = F) (hk : Keeps F σ s) :
    Keeps F σ (State.stepDown s port apply) := by
  unfold State.stepDown
  repeat' (first | with_reducible (first
    | assumption
    | refine happly _ _ ?_
    | refine State.writeThrough_keeps _ _ _ _ (fun _ _ hk => ?_) (mask_trans rfl hF) ?_))

theorem State.takeStep_keeps {σ : State} {F : Nat} (s : State) (port : Nat) (minW : Nat) (hF : 13957071230 ||| F = F) (hk : Keeps F σ s) :
    Keeps F σ (State.takeStep s port minW) := by
  unfold State.takeStep
  repeat' (first | with_reducible (first
    | assumption
    | refine State.modPort_keeps _ _ _ (mask_trans rfl hF) ?_
    | refine State.reshape_keeps _ _ _ (mask_trans rfl hF) ?_
    | refine State.assignPort_keeps _ _ _ (mask_trans rfl hF) ?_
    | refine State.evPort_keeps _ _ _ (mask_trans rfl hF) ?_
    | refine State.retrain_keeps _ _ _ (mask_trans rfl hF) ?_
    | refine keeps_ite (fun _ => ?_) (fun _ => ?_)) | split | (dsimp only; split))

theorem State.speedDown_keeps {σ : State} {F : Nat} (s : State) (port : Nat) (hF : 805306700 ||| F = F) (hk : Keeps F σ s) :
    Keeps F σ (State.speedDown s port) := by
  unfold State.speedDown
  repeat' (first | with_reducible (first
    | assumption
    | refine State.modPort_keeps _ _ _ (mask_trans rfl hF) ?_
    | refine State.retrain_keeps _ _ _ (mask_trans rfl hF) ?_
    | refine State.evPort_keeps _ _ _ (mask_trans rfl hF) ?_
    | refine keeps_ite (fun _ => ?_) (fun _ => ?_)))

theorem State.moveLane_keeps {σ : State} {F : Nat} (s : State) (port : Nat) (rx : Bool) (lane : Nat) (fromRing : Nat) (toRing : Nat) (line : Nat) (hF : 939524428 ||| F = F) (hk : Keeps F σ s) :
    Keeps F σ (State.moveLane s port rx lane fromRing toRing line) := by
  unfold State.moveLane
  repeat' (first | with_reducible (first
    | assumption
    | refine State.modRing_keeps _ _ _ (mask_trans rfl hF) ?_
    | refine State.retrain_keeps _ _ _ (mask_trans rfl hF) ?_
    | refine State.evPort_keeps _ _ _ (mask_trans rfl hF) ?_
    | refine keeps_ite (fun _ => ?_) (fun _ => ?_)))

theorem State.sweepNext_keeps {σ : State} {F : Nat} (s : State) (port : Nat) (rx : Bool) (hF : 134217728 ||| F = F) (hk : Keeps F σ s) :
    Keeps F σ (State.sweepNext s port rx) := by
  unfold State.sweepNext
  repeat' (first | with_reducible (first
    | assumption
    | refine State.modRing_keeps _ _ _ (mask_trans rfl hF) ?_
    | refine keeps_ite (fun _ => ?_) (fun _ => ?_)) | split)

theorem State.sendLane_keeps {σ : State} {F : Nat} (s : State) (port : Nat) (rx : Bool) (lane : Nat) (fromRing : Nat) (line : Nat) (apply : State → WtItem → State) (happly : ∀ (t : State) (x1 : WtItem), Keeps F σ t → Keeps F σ (apply t x1)) (hF : 201326592 ||| F = F) (hk : Keeps F σ s) :
    Keeps F σ (State.sendLane s port rx lane fromRing line apply) := by
  unfold State.sendLane
  repeat' (first | with_reducible (first
    | assumption
    | refine happly _ _ ?_
    | refine State.writeThrough_keeps _ _ _ _ (fun _ _ hk => ?_) (mask_trans rfl hF) ?_
    | refine State.sweepNext_keeps _ _ _ (mask_trans rfl hF) ?_
    | refine State.modRing_keeps _ _ _ (mask_trans rfl hF) ?_
    | refine State.stepDown_keeps _ _ _ (fun _ _ hk => ?_) (mask_trans rfl hF) ?_) | split | (dsimp only; split))

theorem State.leaveLine_keeps {σ : State} {F : Nat} (s : State) (port : Nat) (rx : Bool) (lane : Nat) (apply : State → WtItem → State) (happly : ∀ (t : State) (x1 : WtItem), Keeps F σ t → Keeps F σ (apply t x1)) (hF : 201326592 ||| F = F) (hk : Keeps F σ s) :
    Keeps F σ (State.leaveLine s port rx lane apply) := by
  unfold State.leaveLine
  repeat' (first | with_reducible (first
    | assumption
    | refine happly _ _ ?_
    | refine State.writeThrough_keeps _ _ _ _ (fun _ _ hk => ?_) (mask_trans rfl hF) ?_
    | refine State.sendLane_keeps _ _ _ _ _ _ _ (fun _ _ hk => ?_) (mask_trans rfl hF) ?_
    | refine State.stepDown_keeps _ _ _ (fun _ _ hk => ?_) (mask_trans rfl hF) ?_
    | refine keeps_ite (fun _ => ?_) (fun _ => ?_)) | split | (dsimp only; split))

theorem State.acquired_keeps {σ : State} {F : Nat} (s : State) (port : Nat) (hF : 13957071230 ||| F = F) (hk : Keeps F σ s) :
    Keeps F σ (State.acquired s port) := by
  unfold State.acquired
  repeat' (first | with_reducible (first
    | assumption
    | refine State.modPort_keeps _ _ _ (mask_trans rfl hF) ?_
    | refine State.refit_keeps _ _ (mask_trans rfl hF) ?_
    | refine State.noteTraining_keeps _ _ (mask_trans rfl hF) ?_
    | refine keeps_ite (fun _ => ?_) (fun _ => ?_)))

theorem State.keepItem_keeps {σ : State} {F : Nat} (s : State) (k : Nat) (it : WtItem) (hF : 67108864 ||| F = F) (hk : Keeps F σ s) :
    Keeps F σ (State.keepItem s k it) := by
  unfold State.keepItem
  repeat' (first | with_reducible (first
    | assumption
    | refine State.modSite_keeps _ _ _ (mask_trans rfl hF) ?_) | split)

theorem State.noteItem_keeps {σ : State} {F : Nat} (s : State) (k : Nat) (it : WtItem) (hF : 67108864 ||| F = F) (hk : Keeps F σ s) :
    Keeps F σ (State.noteItem s k it) := by
  unfold State.noteItem
  repeat' (first | with_reducible (first
    | assumption
    | refine State.writeThrough_keeps _ _ _ _ (fun _ _ hk => ?_) (mask_trans rfl hF) ?_
    | refine State.keepItem_keeps _ _ _ (mask_trans rfl hF) ?_))

theorem State.applyItemN_keeps {σ : State} {F : Nat} (k n : Nat) (s : State) (it : WtItem) (hF : 13957071230 ||| F = F) (hk : Keeps F σ s) :
    Keeps F σ (State.applyItemN k n s it) := by
  induction n generalizing s it with
  | zero => exact hk
  | succ n ih =>
    unfold State.applyItemN
    repeat' (first | with_reducible (first
      | assumption
      | refine State.modRing_keeps _ _ _ (mask_trans rfl hF) ?_
      | refine State.modPort_keeps _ _ _ (mask_trans rfl hF) ?_
      | refine State.evPort_keeps _ _ _ (mask_trans rfl hF) ?_
      | refine State.sendLane_keeps _ _ _ _ _ _ _ (fun _ _ hk => ?_) (mask_trans rfl hF) ?_
      | refine State.leaveLine_keeps _ _ _ _ _ (fun _ _ hk => ?_) (mask_trans rfl hF) ?_
      | refine State.moveLane_keeps _ _ _ _ _ _ _ (mask_trans rfl hF) ?_
      | refine State.sweepNext_keeps _ _ _ (mask_trans rfl hF) ?_
      | refine State.acquired_keeps _ _ (mask_trans rfl hF) ?_
      | refine State.takeStep_keeps _ _ _ (mask_trans rfl hF) ?_
      | refine State.keepItem_keeps _ _ _ (mask_trans rfl hF) ?_
      | refine ih _ _ ?_
      | refine keeps_ite (fun _ => ?_) (fun _ => ?_)) | split | (dsimp only; split))

theorem State.applyItem_keeps {σ : State} {F : Nat} (s : State) (k : Nat) (it : WtItem) (hF : 13957071230 ||| F = F) (hk : Keeps F σ s) :
    Keeps F σ (State.applyItem s k it) := by
  unfold State.applyItem
  repeat' (first | with_reducible (first
    | assumption
    | refine State.applyItemN_keeps _ _ _ _ (mask_trans rfl hF) ?_))

theorem State.slowItem_keeps {σ : State} {F : Nat} (s : State) (k : Nat) (it : WtItem) (hF : 13957071230 ||| F = F) (hk : Keeps F σ s) :
    Keeps F σ (State.slowItem s k it) := by
  unfold State.slowItem
  repeat' (first | with_reducible (first
    | assumption
    | refine State.writeThrough_keeps _ _ _ _ (fun _ _ hk => ?_) (mask_trans rfl hF) ?_
    | refine State.applyItem_keeps _ _ _ (mask_trans rfl hF) ?_))

theorem State.failRing_keeps {σ : State} {F : Nat} (s : State) (g : Nat) (hF : 13957071230 ||| F = F) (hk : Keeps F σ s) :
    Keeps F σ (State.failRing s g) := by
  unfold State.failRing
  repeat' (first | with_reducible (first
    | assumption
    | refine State.slowItem_keeps _ _ _ (mask_trans rfl hF) ?_
    | refine keeps_ite (fun _ => ?_) (fun _ => ?_)))

theorem State.failLine_keeps {σ : State} {F : Nat} (s : State) (port : Nat) (rx : Bool) (line : Nat) (hF : 13957071230 ||| F = F) (hk : Keeps F σ s) :
    Keeps F σ (State.failLine s port rx line) := by
  unfold State.failLine
  repeat' (first | with_reducible (first
    | assumption
    | refine State.slowItem_keeps _ _ _ (mask_trans rfl hF) ?_
    | refine keeps_ite (fun _ => ?_) (fun _ => ?_)))

theorem State.acquirePort_keeps {σ : State} {F : Nat} (s : State) (port : Nat) (all : Bool) (hF : 402653184 ||| F = F) (hk : Keeps F σ s) :
    Keeps F σ (State.acquirePort s port all) := by
  unfold State.acquirePort
  repeat' (first | with_reducible (first
    | assumption
    | refine State.modRing_keeps _ _ _ (mask_trans rfl hF) ?_
    | refine State.modPort_keeps _ _ _ (mask_trans rfl hF) ?_
    | refine State.sweepNext_keeps _ _ _ (mask_trans rfl hF) ?_
    | refine keeps_ite (fun _ => ?_) (fun _ => ?_)
    | refine keeps_foldl (fun _ _ hk => ?_) ?_))

theorem State.acquireFails_keeps {σ : State} {F : Nat} (s : State) (g : Nat) (hF : 13957071230 ||| F = F) (hk : Keeps F σ s) :
    Keeps F σ (State.acquireFails s g) := by
  unfold State.acquireFails
  repeat' (first | with_reducible (first
    | assumption
    | refine State.failRing_keeps _ _ (mask_trans rfl hF) ?_
    | refine State.evPort_keeps _ _ _ (mask_trans rfl hF) ?_))

theorem State.ringLocks_keeps {σ : State} {F : Nat} (s : State) (g : Nat) (code : Nat) (hF : 13957071230 ||| F = F) (hk : Keeps F σ s) :
    Keeps F σ (State.ringLocks s g code) := by
  unfold State.ringLocks
  repeat' (first | with_reducible (first
    | assumption
    | refine State.acquireFails_keeps _ _ (mask_trans rfl hF) ?_
    | refine State.modRing_keeps _ _ _ (mask_trans rfl hF) ?_
    | refine State.sweepNext_keeps _ _ _ (mask_trans rfl hF) ?_
    | refine State.acquired_keeps _ _ (mask_trans rfl hF) ?_
    | refine State.slowItem_keeps _ _ _ (mask_trans rfl hF) ?_
    | refine keeps_ite (fun _ => ?_) (fun _ => ?_)) | split)

theorem State.ringStuck_keeps {σ : State} {F : Nat} (s : State) (g : Nat) (hF : 13957071230 ||| F = F) (hk : Keeps F σ s) :
    Keeps F σ (State.ringStuck s g) := by
  unfold State.ringStuck
  repeat' (first | with_reducible (first
    | assumption
    | refine State.acquireFails_keeps _ _ (mask_trans rfl hF) ?_
    | refine keeps_ite (fun _ => ?_) (fun _ => ?_)))

theorem State.trackRing_keeps {σ : State} {F : Nat} (s : State) (k : Nat) (rd : RingRead) (hF : 13957071230 ||| F = F) (hk : Keeps F σ s) :
    Keeps F σ (State.trackRing s k rd) := by
  unfold State.trackRing
  repeat' (first | with_reducible (first
    | assumption
    | refine State.failRing_keeps _ _ (mask_trans rfl hF) ?_
    | refine State.modRing_keeps _ _ _ (mask_trans rfl hF) ?_
    | refine State.tick_keeps _ (mask_trans rfl hF) ?_
    | refine State.bump_keeps _ _ _ (mask_trans rfl hF) ?_
    | refine State.noteItem_keeps _ _ _ (mask_trans rfl hF) ?_
    | refine keeps_ite (fun _ => ?_) (fun _ => ?_)) | split)

theorem State.failLanes_keeps {σ : State} {F : Nat} (s : State) (port : Nat) (rx : Bool) (lanes : List Nat) (hF : 13957071230 ||| F = F) (hk : Keeps F σ s) :
    Keeps F σ (State.failLanes s port rx lanes) := by
  unfold State.failLanes
  repeat' (first | with_reducible (first
    | assumption
    | refine State.failLine_keeps _ _ _ _ (mask_trans rfl hF) ?_
    | refine keeps_foldl (fun _ _ hk => ?_) ?_) | split)

theorem State.unmark_keeps {σ : State} {F : Nat} (s : State) (port : Nat) (lines : List Nat) (hF : 335544320 ||| F = F) (hk : Keeps F σ s) :
    Keeps F σ (State.unmark s port lines) := by
  unfold State.unmark
  repeat' (first | with_reducible (first
    | assumption
    | refine State.modSite_keeps _ _ _ (mask_trans rfl hF) ?_
    | refine State.modPort_keeps _ _ _ (mask_trans rfl hF) ?_))

theorem State.marginFail_keeps {σ : State} {F : Nat} (s : State) (port : Nat) (lanes : List Nat) (hF : 13957071230 ||| F = F) (hk : Keeps F σ s) :
    Keeps F σ (State.marginFail s port lanes) := by
  unfold State.marginFail
  repeat' (first | with_reducible (first
    | assumption
    | refine State.modPort_keeps _ _ _ (mask_trans rfl hF) ?_
    | refine State.speedDown_keeps _ _ (mask_trans rfl hF) ?_
    | refine State.unmark_keeps _ _ _ (mask_trans rfl hF) ?_
    | refine State.failLanes_keeps _ _ _ _ (mask_trans rfl hF) ?_
    | refine keeps_ite (fun _ => ?_) (fun _ => ?_)))

theorem State.laneFails_keeps {σ : State} {F : Nat} (s : State) (port : Nat) (rx : Bool) (lanes : List Nat) (hF : 268435456 ||| F = F) (hk : Keeps F σ s) :
    Keeps F σ (State.laneFails s port rx lanes) := by
  unfold State.laneFails
  repeat' (first | with_reducible (first
    | assumption
    | refine State.modPort_keeps _ _ _ (mask_trans rfl hF) ?_))

theorem State.takeMoves_keeps {σ : State} {F : Nat} (s : State) (port : Nat) (hF : 13957071230 ||| F = F) (hk : Keeps F σ s) :
    Keeps F σ (State.takeMoves s port) := by
  unfold State.takeMoves
  repeat' (first | with_reducible (first
    | assumption
    | refine State.modPort_keeps _ _ _ (mask_trans rfl hF) ?_
    | refine State.failLanes_keeps _ _ _ _ (mask_trans rfl hF) ?_
    | refine State.marginFail_keeps _ _ _ (mask_trans rfl hF) ?_
    | refine keeps_ite (fun _ => ?_) (fun _ => ?_)))

theorem State.reportReady_keeps {σ : State} {F : Nat} (s : State) (k : Nat) (hF : 67109196 ||| F = F) (hk : Keeps F σ s) :
    Keeps F σ (State.reportReady s k) := by
  unfold State.reportReady
  repeat' (first | with_reducible (first
    | assumption
    | refine State.evSite_keeps _ _ _ (mask_trans rfl hF) ?_
    | refine State.modSite_keeps _ _ _ (mask_trans rfl hF) ?_
    | refine keeps_ite (fun _ => ?_) (fun _ => ?_)))

theorem State.sendFrame_keeps {σ : State} {F : Nat} (s : State) (k : Nat) (before : List Nat) (hF : 67108870 ||| F = F) (hk : Keeps F σ s) :
    Keeps F σ (State.sendFrame s k before) := by
  unfold State.sendFrame
  repeat' (first | with_reducible (first
    | assumption
    | refine State.emit_keeps _ _ (mask_trans rfl hF) ?_
    | refine State.tick_keeps _ (mask_trans rfl hF) ?_
    | refine State.modSite_keeps _ _ _ (mask_trans rfl hF) ?_))

theorem State.resync_keeps {σ : State} {F : Nat} (s : State) (k : Nat) (hF : 67109196 ||| F = F) (hk : Keeps F σ s) :
    Keeps F σ (State.resync s k) := by
  unfold State.resync
  repeat' (first | with_reducible (first
    | assumption
    | refine State.evSite_keeps _ _ _ (mask_trans rfl hF) ?_
    | refine State.bump_keeps _ _ _ (mask_trans rfl hF) ?_
    | refine State.modSite_keeps _ _ _ (mask_trans rfl hF) ?_))

theorem State.flushSlow_keeps {σ : State} {F : Nat} (s : State) (k : Nat) (hF : 13957071230 ||| F = F) (hk : Keeps F σ s) :
    Keeps F σ (State.flushSlow s k) := by
  unfold State.flushSlow
  repeat' (first | with_reducible (first
    | assumption
    | refine State.applyItem_keeps _ _ _ (mask_trans rfl hF) ?_
    | refine State.modSite_keeps _ _ _ (mask_trans rfl hF) ?_
    | refine keeps_foldl (fun _ _ hk => ?_) ?_))

theorem State.attemptFails_keeps {σ : State} {F : Nat} (s : State) (k : Nat) (hF : 13957071230 ||| F = F) (hk : Keeps F σ s) :
    Keeps F σ (State.attemptFails s k) := by
  unfold State.attemptFails
  repeat' (first | with_reducible (first
    | assumption
    | refine State.modSite_keeps _ _ _ (mask_trans rfl hF) ?_
    | refine State.flushSlow_keeps _ _ (mask_trans rfl hF) ?_
    | refine State.evSite_keeps _ _ _ (mask_trans rfl hF) ?_
    | refine keeps_ite (fun _ => ?_) (fun _ => ?_)))

theorem State.shadow_keeps {σ : State} {F : Nat} (s : State) (k : Nat) (mismatch : Bool) (hF : 13957071230 ||| F = F) (hk : Keeps F σ s) :
    Keeps F σ (State.shadow s k mismatch) := by
  unfold State.shadow
  repeat' (first | with_reducible (first
    | assumption
    | refine State.bump_keeps _ _ _ (mask_trans rfl hF) ?_
    | refine State.modSite_keeps _ _ _ (mask_trans rfl hF) ?_
    | refine State.attemptFails_keeps _ _ (mask_trans rfl hF) ?_
    | refine keeps_ite (fun _ => ?_) (fun _ => ?_)))

theorem State.takeFrame_keeps {σ : State} {F : Nat} (s : State) (k : Nat) (f : List Byte) (wrong : Bool) (hF : 13957071230 ||| F = F) (hk : Keeps F σ s) :
    Keeps F σ (State.takeFrame s k f wrong) := by
  unfold State.takeFrame
  repeat' (first | with_reducible (first
    | assumption
    | refine State.modSite_keeps _ _ _ (mask_trans rfl hF) ?_
    | refine State.reportReady_keeps _ _ (mask_trans rfl hF) ?_
    | refine State.resync_keeps _ _ (mask_trans rfl hF) ?_
    | refine State.emit_keeps _ _ (mask_trans rfl hF) ?_
    | refine State.shadow_keeps _ _ _ (mask_trans rfl hF) ?_
    | refine keeps_ite (fun _ => ?_) (fun _ => ?_)))

theorem State.switchOver_keeps {σ : State} {F : Nat} (s : State) (k : Nat) (hF : 1006633294 ||| F = F) (hk : Keeps F σ s) :
    Keeps F σ (State.switchOver s k) := by
  unfold State.switchOver
  repeat' (first | with_reducible (first
    | assumption
    | refine State.modSite_keeps _ _ _ (mask_trans rfl hF) ?_
    | refine State.evSite_keeps _ _ _ (mask_trans rfl hF) ?_
    | refine State.tick_keeps _ (mask_trans rfl hF) ?_
    | refine State.modRing_keeps _ _ _ (mask_trans rfl hF) ?_
    | refine State.modPort_keeps _ _ _ (mask_trans rfl hF) ?_
    | refine State.modLink_keeps _ _ _ (mask_trans rfl hF) ?_
    | refine State.reportReady_keeps _ _ (mask_trans rfl hF) ?_
    | refine State.bump_keeps _ _ _ (mask_trans rfl hF) ?_
    | refine keeps_ite (fun _ => ?_) (fun _ => ?_)
    | refine keeps_foldl (fun _ _ hk => ?_) ?_))

theorem State.ramPass_keeps {σ : State} {F : Nat} (s : State) (k : Nat) (ctl : Nat) (ok : Bool) (hF : 13957071230 ||| F = F) (hk : Keeps F σ s) :
    Keeps F σ (State.ramPass s k ctl ok) := by
  unfold State.ramPass
  repeat' (first | with_reducible (first
    | assumption
    | refine State.modSite_keeps _ _ _ (mask_trans rfl hF) ?_
    | refine State.attemptFails_keeps _ _ (mask_trans rfl hF) ?_
    | refine State.reportReady_keeps _ _ (mask_trans rfl hF) ?_
    | refine keeps_ite (fun _ => ?_) (fun _ => ?_)))

theorem State.revert_keeps {σ : State} {F : Nat} (s : State) (k : Nat) (hF : 67109196 ||| F = F) (hk : Keeps F σ s) :
    Keeps F σ (State.revert s k) := by
  unfold State.revert
  repeat' (first | with_reducible (first
    | assumption
    | refine State.modSite_keeps _ _ _ (mask_trans rfl hF) ?_
    | refine State.reportReady_keeps _ _ (mask_trans rfl hF) ?_
    | refine State.evSite_keeps _ _ _ (mask_trans rfl hF) ?_
    | refine keeps_ite (fun _ => ?_) (fun _ => ?_)))

theorem State.clearFailed_keeps {σ : State} {F : Nat} (s : State) (k : Nat) (hF : 67108864 ||| F = F) (hk : Keeps F σ s) :
    Keeps F σ (State.clearFailed s k) := by
  unfold State.clearFailed
  repeat' (first | with_reducible (first
    | assumption
    | refine State.modSite_keeps _ _ _ (mask_trans rfl hF) ?_
    | refine keeps_ite (fun _ => ?_) (fun _ => ?_)))

theorem State.reverseFrame_keeps {σ : State} {F : Nat} (s : State) (k : Nat) (ack : Bool) (kind1 : Bool) (hF : 13957071230 ||| F = F) (hk : Keeps F σ s) :
    Keeps F σ (State.reverseFrame s k ack kind1) := by
  unfold State.reverseFrame
  repeat' (first | with_reducible (first
    | assumption
    | refine State.modSite_keeps _ _ _ (mask_trans rfl hF) ?_
    | refine State.applyItem_keeps _ _ _ (mask_trans rfl hF) ?_
    | refine keeps_ite (fun _ => ?_) (fun _ => ?_)) | split | (dsimp only; split))

theorem State.startIm_keeps {σ : State} {F : Nat} (s : State) (port : Nat) (len : Nat) (forced : Bool) (hF : 805306380 ||| F = F) (hk : Keeps F σ s) :
    Keeps F σ (State.startIm s port len forced) := by
  unfold State.startIm
  repeat' (first | with_reducible (first
    | assumption
    | refine State.modPort_keeps _ _ _ (mask_trans rfl hF) ?_
    | refine State.pausePort_keeps _ _ _ _ (mask_trans rfl hF) ?_))

theorem State.startForced_keeps {σ : State} {F : Nat} (s : State) (port : Nat) (hF : 872415564 ||| F = F) (hk : Keeps F σ s) :
    Keeps F σ (State.startForced s port) := by
  unfold State.startForced
  repeat' (first | with_reducible (first
    | assumption
    | refine State.evPort_keeps _ _ _ (mask_trans rfl hF) ?_
    | refine State.modSite_keeps _ _ _ (mask_trans rfl hF) ?_
    | refine State.startIm_keeps _ _ _ _ (mask_trans rfl hF) ?_))

theorem State.requestIm_keeps {σ : State} {F : Nat} (s : State) (port : Nat) (len : Nat) (hF : 805306380 ||| F = F) (hk : Keeps F σ s) :
    Keeps F σ (State.requestIm s port len) := by
  unfold State.requestIm
  repeat' (first | with_reducible (first
    | assumption
    | refine State.startIm_keeps _ _ _ _ (mask_trans rfl hF) ?_
    | refine State.modPort_keeps _ _ _ (mask_trans rfl hF) ?_
    | refine keeps_ite (fun _ => ?_) (fun _ => ?_)))

theorem State.imWrite_keeps {σ : State} {F : Nat} (s : State) (k : Nat) (v : W32) (hF : 805306380 ||| F = F) (hk : Keeps F σ s) :
    Keeps F σ (State.imWrite s k v) := by
  unfold State.imWrite
  repeat' (first | with_reducible (first
    | assumption
    | refine State.requestIm_keeps _ _ _ (mask_trans rfl hF) ?_
    | refine keeps_ite (fun _ => ?_) (fun _ => ?_)
    | refine keeps_foldl (fun _ _ hk => ?_) ?_))

theorem State.laserLost_keeps {σ : State} {F : Nat} (s : State) (k : Nat) (b : Bool) (hF : 67109196 ||| F = F) (hk : Keeps F σ s) :
    Keeps F σ (State.laserLost s k b) := by
  unfold State.laserLost
  repeat' (first | with_reducible (first
    | assumption
    | refine State.evSite_keeps _ _ _ (mask_trans rfl hF) ?_
    | refine State.modSite_keeps _ _ _ (mask_trans rfl hF) ?_
    | refine keeps_ite (fun _ => ?_) (fun _ => ?_)))

theorem State.saveShape_keeps {σ : State} {F : Nat} (s : State) (port : Nat) (hF : 268435456 ||| F = F) (hk : Keeps F σ s) :
    Keeps F σ (State.saveShape s port) := by
  unfold State.saveShape
  repeat' (first | with_reducible (first
    | assumption
    | refine State.modPort_keeps _ _ _ (mask_trans rfl hF) ?_))

theorem State.rampShape_keeps {σ : State} {F : Nat} (s : State) (port : Nat) (hF : 1006633292 ||| F = F) (hk : Keeps F σ s) :
    Keeps F σ (State.rampShape s port) := by
  unfold State.rampShape
  repeat' (first | with_reducible (first
    | assumption
    | refine State.saveShape_keeps _ _ (mask_trans rfl hF) ?_
    | refine State.modPort_keeps _ _ _ (mask_trans rfl hF) ?_
    | refine State.modSite_keeps _ _ _ (mask_trans rfl hF) ?_
    | refine State.assignBank_keeps _ _ _ _ _ (mask_trans rfl hF) ?_
    | refine State.evPort_keeps _ _ _ (mask_trans rfl hF) ?_
    | refine State.retrain_keeps _ _ _ (mask_trans rfl hF) ?_
    | refine keeps_ite (fun _ => ?_) (fun _ => ?_)))

theorem State.restoreShape_keeps {σ : State} {F : Nat} (s : State) (port : Nat) (hF : 1006632972 ||| F = F) (hk : Keeps F σ s) :
    Keeps F σ (State.restoreShape s port) := by
  unfold State.restoreShape
  repeat' (first | with_reducible (first
    | assumption
    | refine State.retrain_keeps _ _ _ (mask_trans rfl hF) ?_
    | refine State.modPort_keeps _ _ _ (mask_trans rfl hF) ?_
    | refine State.modRing_keeps _ _ _ (mask_trans rfl hF) ?_
    | refine State.assignMap_keeps _ _ _ (mask_trans rfl hF) ?_
    | refine keeps_ite (fun _ => ?_) (fun _ => ?_)
    | refine keeps_foldl (fun _ _ hk => ?_) ?_) | split)

theorem State.allDark_keeps {σ : State} {F : Nat} (s : State) (k : Nat) (hF : 13822853502 ||| F = F) (hk : Keeps F σ s) :
    Keeps F σ (State.allDark s k) := by
  unfold State.allDark
  repeat' (first | with_reducible (first
    | assumption
    | refine State.siteDown_keeps _ _ _ (mask_trans rfl hF) ?_
    | refine State.modSite_keeps _ _ _ (mask_trans rfl hF) ?_))

theorem State.laserAct_keeps {σ : State} {F : Nat} (s : State) (k : Nat) (hF : 13957071230 ||| F = F) (hk : Keeps F σ s) :
    Keeps F σ (State.laserAct s k) := by
  unfold State.laserAct
  repeat' (first | with_reducible (first
    | assumption
    | refine State.modSite_keeps _ _ _ (mask_trans rfl hF) ?_
    | refine State.allDark_keeps _ _ (mask_trans rfl hF) ?_
    | refine State.rampShape_keeps _ _ (mask_trans rfl hF) ?_
    | refine keeps_ite (fun _ => ?_) (fun _ => ?_)
    | refine keeps_foldl (fun _ _ hk => ?_) ?_))

theorem State.crossDone_keeps {σ : State} {F : Nat} (s : State) (k : Nat) (hF : 67109196 ||| F = F) (hk : Keeps F σ s) :
    Keeps F σ (State.crossDone s k) := by
  unfold State.crossDone
  repeat' (first | with_reducible (first
    | assumption
    | refine State.evSite_keeps _ _ _ (mask_trans rfl hF) ?_
    | refine State.modSite_keeps _ _ _ (mask_trans rfl hF) ?_
    | refine keeps_ite (fun _ => ?_) (fun _ => ?_)))

theorem State.rampDone_keeps {σ : State} {F : Nat} (s : State) (k : Nat) (hF : 1006633292 ||| F = F) (hk : Keeps F σ s) :
    Keeps F σ (State.rampDone s k) := by
  unfold State.rampDone
  repeat' (first | with_reducible (first
    | assumption
    | refine State.modSite_keeps _ _ _ (mask_trans rfl hF) ?_
    | refine State.evSite_keeps _ _ _ (mask_trans rfl hF) ?_
    | refine State.restoreShape_keeps _ _ (mask_trans rfl hF) ?_
    | refine keeps_ite (fun _ => ?_) (fun _ => ?_)
    | refine keeps_foldl (fun _ _ hk => ?_) ?_))

theorem State.rampFailed_keeps {σ : State} {F : Nat} (s : State) (k : Nat) (hF : 67109196 ||| F = F) (hk : Keeps F σ s) :
    Keeps F σ (State.rampFailed s k) := by
  unfold State.rampFailed
  repeat' (first | with_reducible (first
    | assumption
    | refine State.evSite_keeps _ _ _ (mask_trans rfl hF) ?_
    | refine State.modSite_keeps _ _ _ (mask_trans rfl hF) ?_
    | refine keeps_ite (fun _ => ?_) (fun _ => ?_)))

theorem State.laserBack_keeps {σ : State} {F : Nat} (s : State) (k : Nat) (b : Bool) (hF : 67109196 ||| F = F) (hk : Keeps F σ s) :
    Keeps F σ (State.laserBack s k b) := by
  unfold State.laserBack
  repeat' (first | with_reducible (first
    | assumption
    | refine State.evSite_keeps _ _ _ (mask_trans rfl hF) ?_
    | refine State.modSite_keeps _ _ _ (mask_trans rfl hF) ?_
    | refine keeps_ite (fun _ => ?_) (fun _ => ?_)))

theorem State.uncrossNow_keeps {σ : State} {F : Nat} (s : State) (k : Nat) (hF : 1006632972 ||| F = F) (hk : Keeps F σ s) :
    Keeps F σ (State.uncrossNow s k) := by
  unfold State.uncrossNow
  repeat' (first | with_reducible (first
    | assumption
    | refine State.modSite_keeps _ _ _ (mask_trans rfl hF) ?_
    | refine State.restoreShape_keeps _ _ (mask_trans rfl hF) ?_
    | refine keeps_foldl (fun _ _ hk => ?_) ?_))

theorem State.uncross_keeps {σ : State} {F : Nat} (s : State) (k : Nat) (hF : 1006632972 ||| F = F) (hk : Keeps F σ s) :
    Keeps F σ (State.uncross s k) := by
  unfold State.uncross
  repeat' (first | with_reducible (first
    | assumption
    | refine State.uncrossNow_keeps _ _ (mask_trans rfl hF) ?_
    | refine State.modSite_keeps _ _ _ (mask_trans rfl hF) ?_
    | refine keeps_ite (fun _ => ?_) (fun _ => ?_)))

theorem State.beginTraining_keeps {σ : State} {F : Nat} (s : State) (port : Nat) (all : Bool) (hF : 402653184 ||| F = F) (hk : Keeps F σ s) :
    Keeps F σ (State.beginTraining s port all) := by
  unfold State.beginTraining
  repeat' (first | with_reducible (first
    | assumption
    | refine State.modPort_keeps _ _ _ (mask_trans rfl hF) ?_
    | refine State.acquirePort_keeps _ _ _ (mask_trans rfl hF) ?_))

theorem State.linksToPhy_keeps {σ : State} {F : Nat} (s : State) (port : Nat) (hF : 536870912 ||| F = F) (hk : Keeps F σ s) :
    Keeps F σ (State.linksToPhy s port) := by
  unfold State.linksToPhy
  repeat' (first | with_reducible (first
    | assumption
    | refine State.modLink_keeps _ _ _ (mask_trans rfl hF) ?_
    | refine keeps_ite (fun _ => ?_) (fun _ => ?_)
    | refine keeps_foldl (fun _ _ hk => ?_) ?_))

theorem State.enablePort_keeps {σ : State} {F : Nat} (s : State) (port : Nat) (hF : 939524104 ||| F = F) (hk : Keeps F σ s) :
    Keeps F σ (State.enablePort s port) := by
  unfold State.enablePort
  repeat' (first | with_reducible (first
    | assumption
    | refine State.setFld_keeps _ _ _ _ _ (mask_trans rfl hF) ?_
    | refine State.modPort_keeps _ _ _ (mask_trans rfl hF) ?_
    | refine State.linksToPhy_keeps _ _ (mask_trans rfl hF) ?_
    | refine State.beginTraining_keeps _ _ _ (mask_trans rfl hF) ?_
    | refine keeps_ite (fun _ => ?_) (fun _ => ?_)))

theorem State.disablePort_keeps {σ : State} {F : Nat} (s : State) (port : Nat) (hF : 13957071230 ||| F = F) (hk : Keeps F σ s) :
    Keeps F σ (State.disablePort s port) := by
  unfold State.disablePort
  repeat' (first | with_reducible (first
    | assumption
    | refine State.portDown_keeps _ _ _ (mask_trans rfl hF) ?_
    | refine State.setFld_keeps _ _ _ _ _ (mask_trans rfl hF) ?_
    | refine State.modRing_keeps _ _ _ (mask_trans rfl hF) ?_
    | refine State.modPort_keeps _ _ _ (mask_trans rfl hF) ?_
    | refine keeps_ite (fun _ => ?_) (fun _ => ?_)
    | refine keeps_foldl (fun _ _ hk => ?_) ?_))

theorem State.writeCaps_keeps {σ : State} {F : Nat} (s : State) (port : Nat) (v : W32) (hF : 13957071230 ||| F = F) (hk : Keeps F σ s) :
    Keeps F σ (State.writeCaps s port v) := by
  unfold State.writeCaps
  repeat' (first | with_reducible (first
    | assumption
    | refine State.setReg_keeps _ _ _ (mask_trans rfl hF) ?_
    | refine State.modPort_keeps _ _ _ (mask_trans rfl hF) ?_
    | refine State.reshape_keeps _ _ _ (mask_trans rfl hF) ?_
    | refine keeps_ite (fun _ => ?_) (fun _ => ?_)))

theorem State.requalNow_keeps {σ : State} {F : Nat} (s : State) (port : Nat) (hF : 939524108 ||| F = F) (hk : Keeps F σ s) :
    Keeps F σ (State.requalNow s port) := by
  unfold State.requalNow
  repeat' (first | with_reducible (first
    | assumption
    | refine State.modPort_keeps _ _ _ (mask_trans rfl hF) ?_
    | refine State.retrain_keeps _ _ _ (mask_trans rfl hF) ?_
    | refine State.linksToPhy_keeps _ _ (mask_trans rfl hF) ?_
    | refine State.beginTraining_keeps _ _ _ (mask_trans rfl hF) ?_
    | refine State.modRing_keeps _ _ _ (mask_trans rfl hF) ?_
    | refine keeps_ite (fun _ => ?_) (fun _ => ?_)
    | refine keeps_foldl (fun _ _ hk => ?_) ?_))

theorem State.requal_keeps {σ : State} {F : Nat} (s : State) (port : Nat) (hF : 939524108 ||| F = F) (hk : Keeps F σ s) :
    Keeps F σ (State.requal s port) := by
  unfold State.requal
  repeat' (first | with_reducible (first
    | assumption
    | refine State.requalNow_keeps _ _ (mask_trans rfl hF) ?_
    | refine State.modPort_keeps _ _ _ (mask_trans rfl hF) ?_
    | refine keeps_ite (fun _ => ?_) (fun _ => ?_)))

theorem State.lossOfSignal_keeps {σ : State} {F : Nat} (s : State) (port : Nat) (dark : List Nat) (hF : 805306700 ||| F = F) (hk : Keeps F σ s) :
    Keeps F σ (State.lossOfSignal s port dark) := by
  unfold State.lossOfSignal
  repeat' (first | with_reducible (first
    | assumption
    | refine State.modPort_keeps _ _ _ (mask_trans rfl hF) ?_
    | refine State.evPort_keeps _ _ _ (mask_trans rfl hF) ?_
    | refine State.pausePort_keeps _ _ _ _ (mask_trans rfl hF) ?_
    | refine keeps_ite (fun _ => ?_) (fun _ => ?_)))

theorem State.losLapse_keeps {σ : State} {F : Nat} (s : State) (port : Nat) (hF : 13822853502 ||| F = F) (hk : Keeps F σ s) :
    Keeps F σ (State.losLapse s port) := by
  unfold State.losLapse
  repeat' (first | with_reducible (first
    | assumption
    | refine State.portDown_keeps _ _ _ (mask_trans rfl hF) ?_
    | refine keeps_ite (fun _ => ?_) (fun _ => ?_)))

theorem State.signalBack_keeps {σ : State} {F : Nat} (s : State) (port : Nat) (hF : 268435456 ||| F = F) (hk : Keeps F σ s) :
    Keeps F σ (State.signalBack s port) := by
  unfold State.signalBack
  repeat' (first | with_reducible (first
    | assumption
    | refine State.modPort_keeps _ _ _ (mask_trans rfl hF) ?_
    | refine keeps_ite (fun _ => ?_) (fun _ => ?_)))

theorem State.measureEye_keeps {σ : State} {F : Nat} (s : State) (port : Nat) (ms : List (Nat × Nat)) (hF : 268435456 ||| F = F) (hk : Keeps F σ s) :
    Keeps F σ (State.measureEye s port ms) := by
  unfold State.measureEye
  repeat' (first | with_reducible (first
    | assumption
    | refine State.modPort_keeps _ _ _ (mask_trans rfl hF) ?_
    | refine State.laneFails_keeps _ _ _ _ (mask_trans rfl hF) ?_) | split)

theorem State.cdrLoss_keeps {σ : State} {F : Nat} (s : State) (port : Nat) (lane : Nat) (hF : 268435464 ||| F = F) (hk : Keeps F σ s) :
    Keeps F σ (State.cdrLoss s port lane) := by
  unfold State.cdrLoss
  repeat' (first | with_reducible (first
    | assumption
    | refine State.bump_keeps _ _ _ (mask_trans rfl hF) ?_
    | refine State.modPort_keeps _ _ _ (mask_trans rfl hF) ?_
    | refine State.laneFails_keeps _ _ _ _ (mask_trans rfl hF) ?_
    | refine keeps_ite (fun _ => ?_) (fun _ => ?_)))

theorem State.lineWeak_keeps {σ : State} {F : Nat} (s : State) (g : Nat) (hF : 402653184 ||| F = F) (hk : Keeps F σ s) :
    Keeps F σ (State.lineWeak s g) := by
  unfold State.lineWeak
  repeat' (first | with_reducible (first
    | assumption
    | refine State.laneFails_keeps _ _ _ _ (mask_trans rfl hF) ?_
    | refine State.modRing_keeps _ _ _ (mask_trans rfl hF) ?_
    | refine keeps_ite (fun _ => ?_) (fun _ => ?_)))

theorem State.applyTrims_keeps {σ : State} {F : Nat} (s : State) (port : Nat) (hF : 402653516 ||| F = F) (hk : Keeps F σ s) :
    Keeps F σ (State.applyTrims s port) := by
  unfold State.applyTrims
  repeat' (first | with_reducible (first
    | assumption
    | refine State.modRing_keeps _ _ _ (mask_trans rfl hF) ?_
    | refine State.modPort_keeps _ _ _ (mask_trans rfl hF) ?_
    | refine State.evPort_keeps _ _ _ (mask_trans rfl hF) ?_
    | refine keeps_ite (fun _ => ?_) (fun _ => ?_)
    | refine keeps_foldl (fun _ _ hk => ?_) ?_))

theorem State.standbyCheck_keeps {σ : State} {F : Nat} (s : State) (port : Nat) (reads : List RingRead) (hF : 13957071230 ||| F = F) (hk : Keeps F σ s) :
    Keeps F σ (State.standbyCheck s port reads) := by
  unfold State.standbyCheck
  repeat' (first | with_reducible (first
    | assumption
    | refine State.trackRing_keeps _ _ _ (mask_trans rfl hF) ?_
    | refine keeps_foldl (fun _ _ hk => ?_) ?_))

theorem State.nextForced_keeps {σ : State} {F : Nat} (s : State) (k : Nat) (hF : 872415564 ||| F = F) (hk : Keeps F σ s) :
    Keeps F σ (State.nextForced s k) := by
  unfold State.nextForced
  repeat' (first | with_reducible (first
    | assumption
    | refine State.startForced_keeps _ _ (mask_trans rfl hF) ?_
    | refine keeps_ite (fun _ => ?_) (fun _ => ?_)) | split)

theorem State.endIm_keeps {σ : State} {F : Nat} (s : State) (port : Nat) (cal : CalRes) (hF : 13957071230 ||| F = F) (hk : Keeps F σ s) :
    Keeps F σ (State.endIm s port cal) := by
  unfold State.endIm
  repeat' (first | with_reducible (first
    | assumption
    | refine State.modPort_keeps _ _ _ (mask_trans rfl hF) ?_
    | refine State.noteItem_keeps _ _ _ (mask_trans rfl hF) ?_
    | refine State.modSite_keeps _ _ _ (mask_trans rfl hF) ?_
    | refine State.applyTrims_keeps _ _ (mask_trans rfl hF) ?_
    | refine State.standbyCheck_keeps _ _ _ (mask_trans rfl hF) ?_
    | refine State.evPort_keeps _ _ _ (mask_trans rfl hF) ?_
    | refine State.measureEye_keeps _ _ _ (mask_trans rfl hF) ?_
    | refine State.nextForced_keeps _ _ (mask_trans rfl hF) ?_
    | refine State.requalNow_keeps _ _ (mask_trans rfl hF) ?_
    | refine State.retrainComplete_keeps _ _ (mask_trans rfl hF) ?_
    | refine keeps_ite (fun _ => ?_) (fun _ => ?_)) | split)

theorem State.forceIm_keeps {σ : State} {F : Nat} (s : State) (port : Nat) (hF : 872415564 ||| F = F) (hk : Keeps F σ s) :
    Keeps F σ (State.forceIm s port) := by
  unfold State.forceIm
  repeat' (first | with_reducible (first
    | assumption
    | refine State.nextForced_keeps _ _ (mask_trans rfl hF) ?_
    | refine State.modSite_keeps _ _ _ (mask_trans rfl hF) ?_
    | refine keeps_ite (fun _ => ?_) (fun _ => ?_)))

theorem State.adcSample_keeps {σ : State} {F : Nat} (s : State) (k : Nat) (raw : Int) (hF : 67109196 ||| F = F) (hk : Keeps F σ s) :
    Keeps F σ (State.adcSample s k raw) := by
  unfold State.adcSample
  repeat' (first | with_reducible (first
    | assumption
    | refine State.modSite_keeps _ _ _ (mask_trans rfl hF) ?_
    | refine State.evSite_keeps _ _ _ (mask_trans rfl hF) ?_
    | refine State.bump_keeps _ _ _ (mask_trans rfl hF) ?_
    | refine keeps_ite (fun _ => ?_) (fun _ => ?_)))

theorem State.adcBoundary_keeps {σ : State} {F : Nat} (s : State) (k : Nat) (ok : Bool) (hF : 67109196 ||| F = F) (hk : Keeps F σ s) :
    Keeps F σ (State.adcBoundary s k ok) := by
  unfold State.adcBoundary
  repeat' (first | with_reducible (first
    | assumption
    | refine State.modSite_keeps _ _ _ (mask_trans rfl hF) ?_
    | refine State.evSite_keeps _ _ _ (mask_trans rfl hF) ?_
    | refine State.bump_keeps _ _ _ (mask_trans rfl hF) ?_
    | refine keeps_ite (fun _ => ?_) (fun _ => ?_)))

theorem State.controlCycle_keeps {σ : State} {F : Nat} (s : State) (k : Nat) (reads : List RingRead) (hF : 13957071230 ||| F = F) (hk : Keeps F σ s) :
    Keeps F σ (State.controlCycle s k reads) := by
  unfold State.controlCycle
  repeat' (first | with_reducible (first
    | assumption
    | refine State.modSite_keeps _ _ _ (mask_trans rfl hF) ?_
    | refine State.collect_keeps _ _ (mask_trans rfl hF) ?_
    | refine State.laserAct_keeps _ _ (mask_trans rfl hF) ?_
    | refine State.uncrossNow_keeps _ _ (mask_trans rfl hF) ?_
    | refine State.trackRing_keeps _ _ _ (mask_trans rfl hF) ?_
    | refine State.takeMoves_keeps _ _ (mask_trans rfl hF) ?_
    | refine State.combine_keeps _ _ (mask_trans rfl hF) ?_
    | refine State.requalNow_keeps _ _ (mask_trans rfl hF) ?_
    | refine State.startIm_keeps _ _ _ _ (mask_trans rfl hF) ?_
    | refine State.sendFrame_keeps _ _ _ (mask_trans rfl hF) ?_
    | refine State.crossDone_keeps _ _ (mask_trans rfl hF) ?_
    | refine State.nextForced_keeps _ _ (mask_trans rfl hF) ?_
    | refine State.switchOver_keeps _ _ (mask_trans rfl hF) ?_
    | refine keeps_ite (fun _ => ?_) (fun _ => ?_)
    | refine keeps_foldl (fun _ _ hk => ?_) ?_) | split)

theorem State.modHs_keeps {σ : State} {F : Nat} (s : State) (port : Nat) (f : HsSt → HsSt) (hF : 268435456 ||| F = F) (hk : Keeps F σ s) :
    Keeps F σ (State.modHs s port f) := by
  unfold State.modHs
  repeat' (first | with_reducible (first
    | assumption
    | refine State.modPort_keeps _ _ _ (mask_trans rfl hF) ?_))

theorem State.startRanging_keeps {σ : State} {F : Nat} (s : State) (port : Nat) (hF : 268435456 ||| F = F) (hk : Keeps F σ s) :
    Keeps F σ (State.startRanging s port) := by
  unfold State.startRanging
  repeat' (first | with_reducible (first
    | assumption
    | refine State.modHs_keeps _ _ _ (mask_trans rfl hF) ?_))

theorem State.startSchedule_keeps {σ : State} {F : Nat} (s : State) (port : Nat) (target : Nat) (hF : 268435456 ||| F = F) (hk : Keeps F σ s) :
    Keeps F σ (State.startSchedule s port target) := by
  unfold State.startSchedule
  repeat' (first | with_reducible (first
    | assumption
    | refine State.modHs_keeps _ _ _ (mask_trans rfl hF) ?_
    | refine State.startRanging_keeps _ _ (mask_trans rfl hF) ?_
    | refine keeps_ite (fun _ => ?_) (fun _ => ?_)))

theorem State.fillBurst_keeps {σ : State} {F : Nat} (s : State) (l : Nat) (tenant : Nat) (n : Nat) (hF : 536870916 ||| F = F) (hk : Keeps F σ s) :
    Keeps F σ (State.fillBurst s l tenant n) := by
  unfold State.fillBurst
  repeat' (first | with_reducible (first
    | assumption
    | refine State.sendData_keeps _ _ _ _ (mask_trans rfl hF) ?_
    | refine keeps_ite (fun _ => ?_) (fun _ => ?_)
    | refine keeps_forN (fun _ _ hk => ?_) ?_) | split)

theorem State.stampDeparture_keeps {σ : State} {F : Nat} (s : State) (port : Nat) (q : OutFlit) (hF : 131072 ||| F = F) (hk : Keeps F σ s) :
    Keeps F σ (State.stampDeparture s port q) := by
  unfold State.stampDeparture
  repeat' (first | with_reducible (first
    | assumption
    | refine State.modTsu_keeps _ _ (mask_trans rfl hF) ?_
    | refine keeps_ite (fun _ => ?_) (fun _ => ?_)
    | refine keeps_foldl (fun _ _ hk => ?_) ?_))

theorem State.launchBurst_keeps {σ : State} {F : Nat} (s : State) (port : Nat) (l : Nat) (out : Nat) (slot : Nat) (n : Nat) (qs : List OutFlit) (gts : Nat) (hF : 805437444 ||| F = F) (hk : Keeps F σ s) :
    Keeps F σ (State.launchBurst s port l out slot n qs gts) := by
  unfold State.launchBurst
  repeat' (first | with_reducible (first
    | assumption
    | refine State.stampDeparture_keeps _ _ _ (mask_trans rfl hF) ?_
    | refine State.steerTo_keeps _ _ _ (mask_trans rfl hF) ?_
    | refine State.setLink_keeps _ _ _ (mask_trans rfl hF) ?_
    | refine State.emit_keeps _ _ (mask_trans rfl hF) ?_
    | refine keeps_foldl (fun _ _ hk => ?_) ?_))

theorem State.sendBurst_keeps {σ : State} {F : Nat} (s : State) (port : Nat) (l : Nat) (out : Nat) (slot : Nat) (n : Nat) (tenant : Nat) (gts : Nat) (hF : 805437444 ||| F = F) (hk : Keeps F σ s) :
    Keeps F σ (State.sendBurst s port l out slot n tenant gts) := by
  unfold State.sendBurst
  repeat' (first | with_reducible (first
    | assumption
    | refine State.fillBurst_keeps _ _ _ _ (mask_trans rfl hF) ?_
    | refine State.launchBurst_keeps _ _ _ _ _ _ _ _ (mask_trans rfl hF) ?_))

theorem State.dataSlot_keeps {σ : State} {F : Nat} (s : State) (port : Nat) (slot : Nat) (hF : 805437452 ||| F = F) (hk : Keeps F σ s) :
    Keeps F σ (State.dataSlot s port slot) := by
  unfold State.dataSlot
  repeat' (first | with_reducible (first
    | assumption
    | refine State.modPort_keeps _ _ _ (mask_trans rfl hF) ?_
    | refine State.bump_keeps _ _ _ (mask_trans rfl hF) ?_
    | refine State.sendBurst_keeps _ _ _ _ _ _ _ _ (mask_trans rfl hF) ?_
    | refine State.modHs_keeps _ _ _ (mask_trans rfl hF) ?_
    | refine keeps_ite (fun _ => ?_) (fun _ => ?_)) | split | (dsimp only; split))

theorem State.sendRange_keeps {σ : State} {F : Nat} (s : State) (port : Nat) (hF : 268435470 ||| F = F) (hk : Keeps F σ s) :
    Keeps F σ (State.sendRange s port) := by
  unfold State.sendRange
  repeat' (first | with_reducible (first
    | assumption
    | refine State.tick_keeps _ (mask_trans rfl hF) ?_
    | refine State.bump_keeps _ _ _ (mask_trans rfl hF) ?_
    | refine State.modHs_keeps _ _ _ (mask_trans rfl hF) ?_
    | refine State.steerTo_keeps _ _ _ (mask_trans rfl hF) ?_
    | refine State.emit_keeps _ _ (mask_trans rfl hF) ?_
    | refine keeps_ite (fun _ => ?_) (fun _ => ?_)))

theorem State.drawCycles_keeps {σ : State} {F : Nat} (s : State) (port : Nat) (hF : 268435458 ||| F = F) (hk : Keeps F σ s) :
    Keeps F σ (State.drawCycles s port) := by
  unfold State.drawCycles
  repeat' (first | with_reducible (first
    | assumption
    | refine State.modHs_keeps _ _ _ (mask_trans rfl hF) ?_
    | refine State.tick_keeps _ (mask_trans rfl hF) ?_
    | refine keeps_foldl (fun _ _ hk => ?_) ?_))

theorem State.mgmtSlot_keeps {σ : State} {F : Nat} (s : State) (port : Nat) (hF : 805437454 ||| F = F) (hk : Keeps F σ s) :
    Keeps F σ (State.mgmtSlot s port) := by
  unfold State.mgmtSlot
  repeat' (first | with_reducible (first
    | assumption
    | refine State.sendRange_keeps _ _ (mask_trans rfl hF) ?_
    | refine State.drawCycles_keeps _ _ (mask_trans rfl hF) ?_
    | refine State.modHs_keeps _ _ _ (mask_trans rfl hF) ?_
    | refine State.tick_keeps _ (mask_trans rfl hF) ?_
    | refine State.bump_keeps _ _ _ (mask_trans rfl hF) ?_
    | refine State.sendData_keeps _ _ _ _ (mask_trans rfl hF) ?_
    | refine State.launchBurst_keeps _ _ _ _ _ _ _ _ (mask_trans rfl hF) ?_
    | refine keeps_ite (fun _ => ?_) (fun _ => ?_)) | split | (dsimp only; split))

theorem State.slotForced_keeps {σ : State} {F : Nat} (s : State) (port : Nat) (hF : 872415564 ||| F = F) (hk : Keeps F σ s) :
    Keeps F σ (State.slotForced s port) := by
  unfold State.slotForced
  repeat' (first | with_reducible (first
    | assumption
    | refine State.startForced_keeps _ _ (mask_trans rfl hF) ?_
    | refine keeps_ite (fun _ => ?_) (fun _ => ?_)))

theorem State.houseSlot_keeps {σ : State} {F : Nat} (s : State) (port : Nat) (slot : Nat) (hF : 872546638 ||| F = F) (hk : Keeps F σ s) :
    Keeps F σ (State.houseSlot s port slot) := by
  unfold State.houseSlot
  repeat' (first | with_reducible (first
    | assumption
    | refine State.slotForced_keeps _ _ (mask_trans rfl hF) ?_
    | refine State.modHs_keeps _ _ _ (mask_trans rfl hF) ?_
    | refine State.mgmtSlot_keeps _ _ (mask_trans rfl hF) ?_
    | refine State.dataSlot_keeps _ _ _ (mask_trans rfl hF) ?_
    | refine keeps_ite (fun _ => ?_) (fun _ => ?_)))

theorem State.rangeHeard_keeps {σ : State} {F : Nat} (s : State) (port : Nat) (m : Msg) (t : Nat) (hF : 268435456 ||| F = F) (hk : Keeps F σ s) :
    Keeps F σ (State.rangeHeard s port m t) := by
  unfold State.rangeHeard
  repeat' (first | with_reducible (first
    | assumption
    | refine State.modHs_keeps _ _ _ (mask_trans rfl hF) ?_
    | refine keeps_ite (fun _ => ?_) (fun _ => ?_)
    | refine keeps_foldl (fun _ _ hk => ?_) ?_))

theorem State.rangeFails_keeps {σ : State} {F : Nat} (s : State) (port : Nat) (hF : 268435788 ||| F = F) (hk : Keeps F σ s) :
    Keeps F σ (State.rangeFails s port) := by
  unfold State.rangeFails
  repeat' (first | with_reducible (first
    | assumption
    | refine State.evFab_keeps _ _ (mask_trans rfl hF) ?_
    | refine State.modHs_keeps _ _ _ (mask_trans rfl hF) ?_
    | refine keeps_ite (fun _ => ?_) (fun _ => ?_)
    | refine keeps_foldl (fun _ _ hk => ?_) ?_))

theorem State.burstIn_keeps {σ : State} {F : Nat} (s : State) (port : Nat) (d : List Byte) (t : Nat) (hF : 268435466 ||| F = F) (hk : Keeps F σ s) :
    Keeps F σ (State.burstIn s port d t) := by
  unfold State.burstIn
  repeat' (first | with_reducible (first
    | assumption
    | refine State.bump_keeps _ _ _ (mask_trans rfl hF) ?_
    | refine State.modPort_keeps _ _ _ (mask_trans rfl hF) ?_
    | refine State.modHs_keeps _ _ _ (mask_trans rfl hF) ?_
    | refine State.tick_keeps _ (mask_trans rfl hF) ?_
    | refine keeps_ite (fun _ => ?_) (fun _ => ?_)))

theorem State.intrusion_keeps {σ : State} {F : Nat} (s : State) (port : Nat) (hF : 268435788 ||| F = F) (hk : Keeps F σ s) :
    Keeps F σ (State.intrusion s port) := by
  unfold State.intrusion
  repeat' (first | with_reducible (first
    | assumption
    | refine State.modPort_keeps _ _ _ (mask_trans rfl hF) ?_
    | refine State.evPort_keeps _ _ _ (mask_trans rfl hF) ?_
    | refine State.bump_keeps _ _ _ (mask_trans rfl hF) ?_
    | refine keeps_ite (fun _ => ?_) (fun _ => ?_)) | split)

theorem State.delimLapse_keeps {σ : State} {F : Nat} (s : State) (port : Nat) (hF : 268435456 ||| F = F) (hk : Keeps F σ s) :
    Keeps F σ (State.delimLapse s port) := by
  unfold State.delimLapse
  repeat' (first | with_reducible (first
    | assumption
    | refine State.modPort_keeps _ _ _ (mask_trans rfl hF) ?_
    | refine keeps_ite (fun _ => ?_) (fun _ => ?_)))

theorem State.hsSwap_keeps {σ : State} {F : Nat} (s : State) (port : Nat) (hF : 268435456 ||| F = F) (hk : Keeps F σ s) :
    Keeps F σ (State.hsSwap s port) := by
  unfold State.hsSwap
  repeat' (first | with_reducible (first
    | assumption
    | refine State.modHs_keeps _ _ _ (mask_trans rfl hF) ?_))

theorem State.hsStop_keeps {σ : State} {F : Nat} (s : State) (port : Nat) (hF : 268435456 ||| F = F) (hk : Keeps F σ s) :
    Keeps F σ (State.hsStop s port) := by
  unfold State.hsStop
  repeat' (first | with_reducible (first
    | assumption
    | refine State.modHs_keeps _ _ _ (mask_trans rfl hF) ?_
    | refine keeps_ite (fun _ => ?_) (fun _ => ?_)))

theorem State.sendCurtain_keeps {σ : State} {F : Nat} (s : State) (l : Nat) (kind : Nat) (tenant : Nat) (tcMask : Nat) (partMask : Nat) (origin : Nat) (hF : 603979780 ||| F = F) (hk : Keeps F σ s) :
    Keeps F σ (State.sendCurtain s l kind tenant tcMask partMask origin) := by
  unfold State.sendCurtain
  repeat' (first | with_reducible (first
    | assumption
    | refine State.noteItem_keeps _ _ _ (mask_trans rfl hF) ?_
    | refine State.modLink_keeps _ _ _ (mask_trans rfl hF) ?_
    | refine State.placeSet_keeps _ _ _ (mask_trans rfl hF) ?_
    | refine keeps_ite (fun _ => ?_) (fun _ => ?_)))

theorem State.recvCurtain_keeps {σ : State} {F : Nat} (s : State) (l : Nat) (c : List Byte) (kind : Nat) (f : State → State) (hf : ∀ (t : State), Keeps F σ t → Keeps F σ (f t)) (hF : 536871244 ||| F = F) (hk : Keeps F σ s) :
    Keeps F σ (State.recvCurtain s l c kind f) := by
  unfold State.recvCurtain
  repeat' (first | with_reducible (first
    | assumption
    | refine hf _ ?_
    | refine State.bump_keeps _ _ _ (mask_trans rfl hF) ?_
    | refine State.evLink_keeps _ _ _ _ (mask_trans rfl hF) ?_
    | refine State.modLink_keeps _ _ _ (mask_trans rfl hF) ?_
    | refine keeps_ite (fun _ => ?_) (fun _ => ?_)))

theorem State.curtHold_keeps {σ : State} {F : Nat} (s : State) (l : Nat) (c : List Byte) (hF : 536870912 ||| F = F) (hk : Keeps F σ s) :
    Keeps F σ (State.curtHold s l c) := by
  unfold State.curtHold
  repeat' (first | with_reducible (first
    | assumption
    | refine State.modLink_keeps _ _ _ (mask_trans rfl hF) ?_))

theorem State.curtRelease_keeps {σ : State} {F : Nat} (s : State) (l : Nat) (c : List Byte) (hF : 536870912 ||| F = F) (hk : Keeps F σ s) :
    Keeps F σ (State.curtRelease s l c) := by
  unfold State.curtRelease
  repeat' (first | with_reducible (first
    | assumption
    | refine State.modLink_keeps _ _ _ (mask_trans rfl hF) ?_))

theorem State.curtFence_keeps {σ : State} {F : Nat} (s : State) (l : Nat) (c : List Byte) (hF : 536870912 ||| F = F) (hk : Keeps F σ s) :
    Keeps F σ (State.curtFence s l c) := by
  unfold State.curtFence
  repeat' (first | with_reducible (first
    | assumption
    | refine State.modLink_keeps _ _ _ (mask_trans rfl hF) ?_))

theorem State.fencePoint_keeps {σ : State} {F : Nat} (s : State) (l : Nat) (hF : 603979780 ||| F = F) (hk : Keeps F σ s) :
    Keeps F σ (State.fencePoint s l) := by
  unfold State.fencePoint
  repeat' (first | with_reducible (first
    | assumption
    | refine State.modLink_keeps _ _ _ (mask_trans rfl hF) ?_
    | refine State.sendCurtain_keeps _ _ _ _ _ _ _ (mask_trans rfl hF) ?_
    | refine keeps_ite (fun _ => ?_) (fun _ => ?_)) | split | (dsimp only; split))

theorem State.curtLapse_keeps {σ : State} {F : Nat} (s : State) (l : Nat) (x : Scope) (hF : 536871244 ||| F = F) (hk : Keeps F σ s) :
    Keeps F σ (State.curtLapse s l x) := by
  unfold State.curtLapse
  repeat' (first | with_reducible (first
    | assumption
    | refine State.modLink_keeps _ _ _ (mask_trans rfl hF) ?_
    | refine State.evLink_keeps _ _ _ _ (mask_trans rfl hF) ?_
    | refine State.bump_keeps _ _ _ (mask_trans rfl hF) ?_
    | refine keeps_ite (fun _ => ?_) (fun _ => ?_)))

end Sys2Proof.Machine
end

