-- ==== Sys2Proof/Laws/KeepsFabric.lean ====
section
/-! SUPPORT. `Keeps` for the operations of start-up, collectives, cues, core resets and contexts. -/

namespace Sys2Proof.Machine

open Sys2Proof

theorem State.modFab_keeps {σ : State} {F : Nat} (s : State) (f : FabSt → FabSt) (hF : 32768 ||| F = F) (hk : Keeps F σ s) :
    Keeps F σ (State.modFab s f) := by
  unfold State.modFab
  repeat' (first | with_reducible (first
    | assumption) | with_reducible refine keeps_fab (mask_trans rfl hF) ?_)

theorem State.sendFabric_keeps {σ : State} {F : Nat} (s : State) (l : Nat) (body : List Byte) (hF : 536870912 ||| F = F) (hk : Keeps F σ s) :
    Keeps F σ (State.sendFabric s l body) := by
  unfold State.sendFabric
  repeat' (first | with_reducible (first
    | assumption
    | refine State.enqueue_keeps _ _ _ (mask_trans rfl hF) ?_
    | refine keeps_ite (fun _ => ?_) (fun _ => ?_)))

theorem State.sendAll_keeps {σ : State} {F : Nat} (s : State) (ls : List Nat) (body : List Byte) (hF : 536870912 ||| F = F) (hk : Keeps F σ s) :
    Keeps F σ (State.sendAll s ls body) := by
  unfold State.sendAll
  repeat' (first | with_reducible (first
    | assumption
    | refine State.sendFabric_keeps _ _ _ (mask_trans rfl hF) ?_
    | refine keeps_foldl (fun _ _ hk => ?_) ?_))

theorem State.holdOut_keeps {σ : State} {F : Nat} (s : State) (cause : Nat) (hF : 332 ||| F = F) (hk : Keeps F σ s) :
    Keeps F σ (State.holdOut s cause) := by
  unfold State.holdOut
  repeat' (first | with_reducible (first
    | assumption
    | refine State.raiseAll_keeps _ _ _ _ _ (mask_trans rfl hF) ?_
    | refine State.setReg_keeps _ _ _ (mask_trans rfl hF) ?_
    | refine keeps_ite (fun _ => ?_) (fun _ => ?_)))

theorem State.markHeld_keeps {σ : State} {F : Nat} (s : State) (stage : Nat) (seat : Nat) (hF : 32768 ||| F = F) (hk : Keeps F σ s) :
    Keeps F σ (State.markHeld s stage seat) := by
  unfold State.markHeld
  repeat' (first | with_reducible (first
    | assumption
    | refine State.modFab_keeps _ _ (mask_trans rfl hF) ?_))

theorem State.degradeTime_keeps {σ : State} {F : Nat} (s : State) (hF : 332 ||| F = F) (hk : Keeps F σ s) :
    Keeps F σ (State.degradeTime s) := by
  unfold State.degradeTime
  repeat' (first | with_reducible (first
    | assumption
    | refine State.evFab_keeps _ _ (mask_trans rfl hF) ?_
    | refine State.setFld_keeps _ _ _ _ _ (mask_trans rfl hF) ?_
    | refine keeps_ite (fun _ => ?_) (fun _ => ?_)))

theorem State.configTime_keeps {σ : State} {F : Nat} (s : State) (root : Bool) (parent : Option Nat) (alt : Option Nat) (hF : 131404 ||| F = F) (hk : Keeps F σ s) :
    Keeps F σ (State.configTime s root parent alt) := by
  unfold State.configTime
  repeat' (first | with_reducible (first
    | assumption
    | refine State.writeTsuCfg_keeps _ _ (mask_trans rfl hF) ?_))

theorem State.followLeader_keeps {σ : State} {F : Nat} (s : State) (seat : Nat) (hF : 164172 ||| F = F) (hk : Keeps F σ s) :
    Keeps F σ (State.followLeader s seat) := by
  unfold State.followLeader
  repeat' (first | with_reducible (first
    | assumption
    | refine State.modFab_keeps _ _ (mask_trans rfl hF) ?_
    | refine State.setFld_keeps _ _ _ _ _ (mask_trans rfl hF) ?_
    | refine State.configTime_keeps _ _ _ _ (mask_trans rfl hF) ?_))

theorem State.becomeLeader_keeps {σ : State} {F : Nat} (s : State) (hF : 537035084 ||| F = F) (hk : Keeps F σ s) :
    Keeps F σ (State.becomeLeader s) := by
  unfold State.becomeLeader
  repeat' (first | with_reducible (first
    | assumption
    | refine State.setFld_keeps _ _ _ _ _ (mask_trans rfl hF) ?_
    | refine State.modFab_keeps _ _ (mask_trans rfl hF) ?_
    | refine State.configTime_keeps _ _ _ _ (mask_trans rfl hF) ?_
    | refine State.sendAll_keeps _ _ _ (mask_trans rfl hF) ?_
    | refine keeps_ite (fun _ => ?_) (fun _ => ?_)))

theorem State.assignNumber_keeps {σ : State} {F : Nat} (s : State) (house : Nat) (hF : 8 ||| F = F) (hk : Keeps F σ s) :
    Keeps F σ (State.assignNumber s house) := by
  unfold State.assignNumber
  repeat' (first | with_reducible (first
    | assumption
    | refine State.setReg_keeps _ _ _ (mask_trans rfl hF) ?_
    | refine keeps_ite (fun _ => ?_) (fun _ => ?_)))

theorem State.startHouse_keeps {σ : State} {F : Nat} (s : State) (gts : Nat) (hF : 268435456 ||| F = F) (hk : Keeps F σ s) :
    Keeps F σ (State.startHouse s gts) := by
  unfold State.startHouse
  repeat' (first | with_reducible (first
    | assumption
    | refine State.startSchedule_keeps _ _ _ (mask_trans rfl hF) ?_
    | refine keeps_ite (fun _ => ?_) (fun _ => ?_)
    | refine keeps_foldl (fun _ _ hk => ?_) ?_))

theorem State.learnRoot_keeps {σ : State} {F : Nat} (s : State) (house : Nat) (root : Nat) (start : Nat) (hF : 805470540 ||| F = F) (hk : Keeps F σ s) :
    Keeps F σ (State.learnRoot s house root start) := by
  unfold State.learnRoot
  repeat' (first | with_reducible (first
    | assumption
    | refine State.setFld_keeps _ _ _ _ _ (mask_trans rfl hF) ?_
    | refine State.modFab_keeps _ _ (mask_trans rfl hF) ?_
    | refine State.startHouse_keeps _ _ (mask_trans rfl hF) ?_
    | refine State.assignNumber_keeps _ _ (mask_trans rfl hF) ?_
    | refine State.sendAll_keeps _ _ _ (mask_trans rfl hF) ?_
    | refine State.configTime_keeps _ _ _ _ (mask_trans rfl hF) ?_
    | refine State.degradeTime_keeps _ (mask_trans rfl hF) ?_
    | refine keeps_ite (fun _ => ?_) (fun _ => ?_)))

theorem State.becomeRoot_keeps {σ : State} {F : Nat} (s : State) (hF : 805470542 ||| F = F) (hk : Keeps F σ s) :
    Keeps F σ (State.becomeRoot s) := by
  unfold State.becomeRoot
  repeat' (first | with_reducible (first
    | assumption
    | refine State.setFld_keeps _ _ _ _ _ (mask_trans rfl hF) ?_
    | refine State.assignNumber_keeps _ _ (mask_trans rfl hF) ?_
    | refine State.startHouse_keeps _ _ (mask_trans rfl hF) ?_
    | refine State.modFab_keeps _ _ (mask_trans rfl hF) ?_
    | refine State.tick_keeps _ (mask_trans rfl hF) ?_
    | refine State.configTime_keeps _ _ _ _ (mask_trans rfl hF) ?_
    | refine State.sendAll_keeps _ _ _ (mask_trans rfl hF) ?_
    | refine keeps_ite (fun _ => ?_) (fun _ => ?_)))

theorem State.joinSystem_keeps {σ : State} {F : Nat} (s : State) (hF : 131404 ||| F = F) (hk : Keeps F σ s) :
    Keeps F σ (State.joinSystem s) := by
  unfold State.joinSystem
  repeat' (first | with_reducible (first
    | assumption
    | refine State.configTime_keeps _ _ _ _ (mask_trans rfl hF) ?_
    | refine State.setFld_keeps _ _ _ _ _ (mask_trans rfl hF) ?_
    | refine State.degradeTime_keeps _ (mask_trans rfl hF) ?_
    | refine keeps_ite (fun _ => ?_) (fun _ => ?_)) | split)

theorem State.becomeReady_keeps {σ : State} {F : Nat} (s : State) (hF : 332 ||| F = F) (hk : Keeps F σ s) :
    Keeps F σ (State.becomeReady s) := by
  unfold State.becomeReady
  repeat' (first | with_reducible (first
    | assumption
    | refine State.raiseAll_keeps _ _ _ _ _ (mask_trans rfl hF) ?_
    | refine State.setFld_keeps _ _ _ _ _ (mask_trans rfl hF) ?_))

theorem State.report_keeps {σ : State} {F : Nat} (s : State) (hF : 13421773132 ||| F = F) (hk : Keeps F σ s) :
    Keeps F σ (State.report s) := by
  unfold State.report
  repeat' (first | with_reducible (first
    | assumption
    | refine State.becomeReady_keeps _ (mask_trans rfl hF) ?_
    | refine State.forward_keeps _ _ _ _ (mask_trans rfl hF) ?_
    | refine keeps_ite (fun _ => ?_) (fun _ => ?_)))

theorem State.startCheck_keeps {σ : State} {F : Nat} (s : State) (hF : 13421773132 ||| F = F) (hk : Keeps F σ s) :
    Keeps F σ (State.startCheck s) := by
  unfold State.startCheck
  repeat' (first | with_reducible (first
    | assumption
    | refine State.setFld_keeps _ _ _ _ _ (mask_trans rfl hF) ?_
    | refine State.holdOut_keeps _ _ (mask_trans rfl hF) ?_
    | refine State.report_keeps _ (mask_trans rfl hF) ?_
    | refine keeps_ite (fun _ => ?_) (fun _ => ?_)))

theorem State.noteSystemRoot_keeps {σ : State} {F : Nat} (s : State) (house : Nat) (root : Nat) (start : Nat) (hF : 13421936972 ||| F = F) (hk : Keeps F σ s) :
    Keeps F σ (State.noteSystemRoot s house root start) := by
  unfold State.noteSystemRoot
  repeat' (first | with_reducible (first
    | assumption
    | refine State.modFab_keeps _ _ (mask_trans rfl hF) ?_
    | refine State.sendAll_keeps _ _ _ (mask_trans rfl hF) ?_
    | refine State.joinSystem_keeps _ (mask_trans rfl hF) ?_
    | refine State.report_keeps _ (mask_trans rfl hF) ?_
    | refine keeps_ite (fun _ => ?_) (fun _ => ?_)))

theorem State.tellCircuits_keeps {σ : State} {F : Nat} (s : State) (hF : 536870912 ||| F = F) (hk : Keeps F σ s) :
    Keeps F σ (State.tellCircuits s) := by
  unfold State.tellCircuits
  repeat' (first | with_reducible (first
    | assumption
    | refine State.sendAll_keeps _ _ _ (mask_trans rfl hF) ?_))

theorem State.nextPhase_keeps {σ : State} {F : Nat} (s : State) (next : Nat) (hF : 13421773132 ||| F = F) (hk : Keeps F σ s) :
    Keeps F σ (State.nextPhase s next) := by
  unfold State.nextPhase
  repeat' (first | with_reducible (first
    | assumption
    | refine State.evFab_keeps _ _ (mask_trans rfl hF) ?_
    | refine State.startCheck_keeps _ (mask_trans rfl hF) ?_
    | refine State.setFld_keeps _ _ _ _ _ (mask_trans rfl hF) ?_
    | refine State.tellCircuits_keeps _ (mask_trans rfl hF) ?_
    | refine keeps_ite (fun _ => ?_) (fun _ => ?_)))

theorem State.phaseStep_keeps {σ : State} {F : Nat} (force : Bool) (s : State) (hF : 13690372430 ||| F = F) (hk : Keeps F σ s) :
    Keeps F σ (State.phaseStep force s) := by
  unfold State.phaseStep
  repeat' (first | with_reducible (first
    | assumption
    | refine State.becomeLeader_keeps _ (mask_trans rfl hF) ?_
    | refine State.followLeader_keeps _ _ (mask_trans rfl hF) ?_
    | refine State.nextPhase_keeps _ _ (mask_trans rfl hF) ?_
    | refine State.assignNumber_keeps _ _ (mask_trans rfl hF) ?_
    | refine State.becomeRoot_keeps _ (mask_trans rfl hF) ?_
    | refine State.tellCircuits_keeps _ (mask_trans rfl hF) ?_
    | refine State.joinSystem_keeps _ (mask_trans rfl hF) ?_
    | refine keeps_ite (fun _ => ?_) (fun _ => ?_)) | split)

theorem State.progress_keeps {σ : State} {F : Nat} (s : State) (force : Bool) (hF : 13690372430 ||| F = F) (hk : Keeps F σ s) :
    Keeps F σ (State.progress s force) := by
  unfold State.progress
  repeat' (first | with_reducible (first
    | assumption
    | refine State.phaseStep_keeps _ _ (mask_trans rfl hF) ?_
    | refine keeps_forN (fun _ _ hk => ?_) ?_))

theorem State.enterStage_keeps {σ : State} {F : Nat} (s : State) (hF : 8 ||| F = F) (hk : Keeps F σ s) :
    Keeps F σ (State.enterStage s) := by
  unfold State.enterStage
  repeat' (first | with_reducible (first
    | assumption
    | refine State.setFld_keeps _ _ _ _ _ (mask_trans rfl hF) ?_))

theorem State.answerHello_keeps {σ : State} {F : Nat} (s : State) (port : Nat) (x : Member) (hF : 536870912 ||| F = F) (hk : Keeps F σ s) :
    Keeps F σ (State.answerHello s port x) := by
  unfold State.answerHello
  repeat' (first | with_reducible (first
    | assumption
    | refine State.sendFabric_keeps _ _ _ (mask_trans rfl hF) ?_
    | refine keeps_ite (fun _ => ?_) (fun _ => ?_)
    | refine keeps_foldl (fun _ _ hk => ?_) ?_) | split)

theorem State.helloIn_keeps {σ : State} {F : Nat} (s : State) (port : Nat) (m : Msg) (hF : 13690372430 ||| F = F) (hk : Keeps F σ s) :
    Keeps F σ (State.helloIn s port m) := by
  unfold State.helloIn
  repeat' (first | with_reducible (first
    | assumption
    | refine State.takeMsg_keeps _ _ _ (mask_trans rfl hF) ?_
    | refine State.modFab_keeps _ _ (mask_trans rfl hF) ?_
    | refine State.holdOut_keeps _ _ (mask_trans rfl hF) ?_
    | refine State.sendFabric_keeps _ _ _ (mask_trans rfl hF) ?_
    | refine State.sendAll_keeps _ _ _ (mask_trans rfl hF) ?_
    | refine State.markHeld_keeps _ _ _ (mask_trans rfl hF) ?_
    | refine State.evFab_keeps _ _ (mask_trans rfl hF) ?_
    | refine State.progress_keeps _ _ (mask_trans rfl hF) ?_
    | refine State.answerHello_keeps _ _ _ (mask_trans rfl hF) ?_
    | refine keeps_ite (fun _ => ?_) (fun _ => ?_)) | split)

theorem State.leaderIn_keeps {σ : State} {F : Nat} (s : State) (port : Nat) (m : Msg) (hF : 13690372430 ||| F = F) (hk : Keeps F σ s) :
    Keeps F σ (State.leaderIn s port m) := by
  unfold State.leaderIn
  repeat' (first | with_reducible (first
    | assumption
    | refine State.takeMsg_keeps _ _ _ (mask_trans rfl hF) ?_
    | refine State.progress_keeps _ _ (mask_trans rfl hF) ?_
    | refine State.followLeader_keeps _ _ (mask_trans rfl hF) ?_
    | refine keeps_ite (fun _ => ?_) (fun _ => ?_)))

theorem State.rootIn_keeps {σ : State} {F : Nat} (s : State) (port : Nat) (m : Msg) (hF : 13690372430 ||| F = F) (hk : Keeps F σ s) :
    Keeps F σ (State.rootIn s port m) := by
  unfold State.rootIn
  repeat' (first | with_reducible (first
    | assumption
    | refine State.takeMsg_keeps _ _ _ (mask_trans rfl hF) ?_
    | refine State.learnRoot_keeps _ _ _ _ (mask_trans rfl hF) ?_
    | refine State.holdOut_keeps _ _ (mask_trans rfl hF) ?_
    | refine State.sendAll_keeps _ _ _ (mask_trans rfl hF) ?_
    | refine State.noteSystemRoot_keeps _ _ _ _ (mask_trans rfl hF) ?_
    | refine State.progress_keeps _ _ (mask_trans rfl hF) ?_
    | refine keeps_ite (fun _ => ?_) (fun _ => ?_)) | split)

theorem State.holdoutIn_keeps {σ : State} {F : Nat} (s : State) (port : Nat) (m : Msg) (hF : 4831838540 ||| F = F) (hk : Keeps F σ s) :
    Keeps F σ (State.holdoutIn s port m) := by
  unfold State.holdoutIn
  repeat' (first | with_reducible (first
    | assumption
    | refine State.takeMsg_keeps _ _ _ (mask_trans rfl hF) ?_
    | refine State.sendAll_keeps _ _ _ (mask_trans rfl hF) ?_
    | refine State.holdOut_keeps _ _ (mask_trans rfl hF) ?_
    | refine keeps_ite (fun _ => ?_) (fun _ => ?_)))

theorem State.digestIn_keeps {σ : State} {F : Nat} (s : State) (m : Msg) (hF : 13421773132 ||| F = F) (hk : Keeps F σ s) :
    Keeps F σ (State.digestIn s m) := by
  unfold State.digestIn
  repeat' (first | with_reducible (first
    | assumption
    | refine State.takeMsg_keeps _ _ _ (mask_trans rfl hF) ?_
    | refine State.reply_keeps _ _ _ _ _ _ (mask_trans rfl hF) ?_
    | refine keeps_ite (fun _ => ?_) (fun _ => ?_)))

theorem State.digestAnswer_keeps {σ : State} {F : Nat} (s : State) (m : Msg) (hF : 4831838540 ||| F = F) (hk : Keeps F σ s) :
    Keeps F σ (State.digestAnswer s m) := by
  unfold State.digestAnswer
  repeat' (first | with_reducible (first
    | assumption
    | refine State.takeMsg_keeps _ _ _ (mask_trans rfl hF) ?_
    | refine State.becomeReady_keeps _ (mask_trans rfl hF) ?_
    | refine State.holdOut_keeps _ _ (mask_trans rfl hF) ?_
    | refine keeps_ite (fun _ => ?_) (fun _ => ?_)) | split)

theorem State.countAttempt_keeps {σ : State} {F : Nat} (s : State) (l : Nat) (hF : 32768 ||| F = F) (hk : Keeps F σ s) :
    Keeps F σ (State.countAttempt s l) := by
  unfold State.countAttempt
  repeat' (first | with_reducible (first
    | assumption
    | refine State.modFab_keeps _ _ (mask_trans rfl hF) ?_
    | refine keeps_ite (fun _ => ?_) (fun _ => ?_)) | split)

theorem State.helloAgain_keeps {σ : State} {F : Nat} (s : State) (port : Nat) (hF : 13690372430 ||| F = F) (hk : Keeps F σ s) :
    Keeps F σ (State.helloAgain s port) := by
  unfold State.helloAgain
  repeat' (first | with_reducible (first
    | assumption
    | refine State.sendFabric_keeps _ _ _ (mask_trans rfl hF) ?_
    | refine State.countAttempt_keeps _ _ (mask_trans rfl hF) ?_
    | refine State.progress_keeps _ _ (mask_trans rfl hF) ?_
    | refine keeps_ite (fun _ => ?_) (fun _ => ?_)
    | refine keeps_foldl (fun _ _ hk => ?_) ?_))

theorem State.peerGone_keeps {σ : State} {F : Nat} (s : State) (peer : Nat) (hF : 13690372430 ||| F = F) (hk : Keeps F σ s) :
    Keeps F σ (State.peerGone s peer) := by
  unfold State.peerGone
  repeat' (first | with_reducible (first
    | assumption
    | refine State.progress_keeps _ _ (mask_trans rfl hF) ?_
    | refine State.modFab_keeps _ _ (mask_trans rfl hF) ?_
    | refine keeps_ite (fun _ => ?_) (fun _ => ?_)))

theorem State.phaseLapse_keeps {σ : State} {F : Nat} (s : State) (hF : 13690372430 ||| F = F) (hk : Keeps F σ s) :
    Keeps F σ (State.phaseLapse s) := by
  unfold State.phaseLapse
  repeat' (first | with_reducible (first
    | assumption
    | refine State.report_keeps _ (mask_trans rfl hF) ?_
    | refine State.progress_keeps _ _ (mask_trans rfl hF) ?_
    | refine State.modFab_keeps _ _ (mask_trans rfl hF) ?_
    | refine keeps_ite (fun _ => ?_) (fun _ => ?_)))

theorem State.collError_keeps {σ : State} {F : Nat} (s : State) (p : Nat) (m : Msg) (status : Nat) (hF : 13421773132 ||| F = F) (hk : Keeps F σ s) :
    Keeps F σ (State.collError s p m status) := by
  unfold State.collError
  repeat' (first | with_reducible (first
    | assumption
    | refine State.reply_keeps _ _ _ _ _ _ (mask_trans rfl hF) ?_
    | refine State.bump_keeps _ _ _ (mask_trans rfl hF) ?_))

theorem State.collRead_keeps {σ : State} {F : Nat} (s : State) (p : Nat) (h : Nat) (off : Nat) (n : Nat) (hF : 10486142 ||| F = F) (hk : Keeps F σ s) :
    Keeps F σ (State.collRead s p h off n).1 := by
  unfold State.collRead
  repeat' (first | with_reducible (first
    | assumption
    | refine State.readHandle_keeps _ _ _ _ _ _ (mask_trans rfl hF) ?_
    | refine keeps_ite_fst (fun _ => ?_) (fun _ => ?_)))

theorem State.collWrite_keeps {σ : State} {F : Nat} (s : State) (p : Nat) (h : Nat) (off : Nat) (bs : List Byte) (hF : 10486142 ||| F = F) (hk : Keeps F σ s) :
    Keeps F σ (State.collWrite s p h off bs) := by
  unfold State.collWrite
  repeat' (first | with_reducible (first
    | assumption
    | refine State.writeHandle_keeps _ _ _ _ _ _ (mask_trans rfl hF) ?_))

theorem State.maxOne_keeps {σ : State} {F : Nat} (s : State) (p : Nat) (h : Nat) (i : Nat) (v : Nat) (hF : 10486142 ||| F = F) (hk : Keeps F σ s) :
    Keeps F σ (State.maxOne s p h i v).1 := by
  unfold State.maxOne
  repeat' (first | with_reducible (first
    | assumption
    | refine State.collRead_keeps _ _ _ _ _ (mask_trans rfl hF) ?_
    | refine State.collWrite_keeps _ _ _ _ _ (mask_trans rfl hF) ?_) | split | (dsimp only; split))

theorem State.addOneFrag_keeps {σ : State} {F : Nat} (s : State) (p : Nat) (h : Nat) (i : Nat) (f : Xa) (hF : 10486142 ||| F = F) (hk : Keeps F σ s) :
    Keeps F σ (State.addOneFrag s p h i f).1 := by
  unfold State.addOneFrag
  repeat' (first | with_reducible (first
    | assumption
    | refine State.collRead_keeps _ _ _ _ _ (mask_trans rfl hF) ?_
    | refine State.bump_keeps _ _ _ (mask_trans rfl hF) ?_
    | refine State.collWrite_keeps _ _ _ _ _ (mask_trans rfl hF) ?_
    | refine keeps_ite (fun _ => ?_) (fun _ => ?_)) | split | (dsimp only; split))

theorem State.maxRun_keeps {σ : State} {F : Nat} (p h n : Nat) (s : State) (i : Nat) (bs : List Byte) (hF : 10486142 ||| F = F) (hk : Keeps F σ s) :
    Keeps F σ (State.maxRun p h n s i bs).1 := by
  induction n generalizing s i bs with
  | zero => exact hk
  | succ n ih =>
    unfold State.maxRun
    repeat' (first | with_reducible (first
      | assumption
      | refine State.maxOne_keeps _ _ _ _ _ (mask_trans rfl hF) ?_
      | refine ih _ _ _ ?_
      | refine keeps_ite_fst (fun _ => ?_) (fun _ => ?_)))

theorem State.addRun_keeps {σ : State} {F : Nat} (p h n : Nat) (s : State) (i : Nat) (bs : List Byte) (hF : 10486142 ||| F = F) (hk : Keeps F σ s) :
    Keeps F σ (State.addRun p h n s i bs).1 := by
  induction n generalizing s i bs with
  | zero => exact hk
  | succ n ih =>
    unfold State.addRun
    repeat' (first | with_reducible (first
      | assumption
      | refine State.addOneFrag_keeps _ _ _ _ _ (mask_trans rfl hF) ?_
      | refine ih _ _ _ ?_
      | refine keeps_ite_fst (fun _ => ?_) (fun _ => ?_)))

theorem State.collective_keeps {σ : State} {F : Nat} (s : State) (p : Nat) (m : Msg) (op : Nat) (mode : Nat) (run : Nat → State → Nat → List Byte → State × Nat) (hrun : ∀ (x0 : Nat) (t : State) (x2 : Nat) (x3 : List Byte), Keeps F σ t → Keeps F σ (run x0 t x2 x3).1) (hF : 13421773132 ||| F = F) (hk : Keeps F σ s) :
    Keeps F σ (State.collective s p m op mode run) := by
  unfold State.collective
  repeat' (first | with_reducible (first
    | assumption
    | refine hrun _ _ _ _ ?_
    | refine State.takeMsg_keeps _ _ _ (mask_trans rfl hF) ?_
    | refine State.collError_keeps _ _ _ _ (mask_trans rfl hF) ?_
    | refine State.reply_keeps _ _ _ _ _ _ (mask_trans rfl hF) ?_
    | refine keeps_ite (fun _ => ?_) (fun _ => ?_)))

theorem State.writePeer_keeps {σ : State} {F : Nat} (s : State) (b : Bool) (v : W32) (hF : 1077936128 ||| F = F) (hk : Keeps F σ s) :
    Keeps F σ (State.writePeer s b v) := by
  unfold State.writePeer
  repeat' (first | with_reducible (first
    | assumption
    | refine State.modPeerSeq_keeps _ _ _ _ (mask_trans rfl hF) ?_
    | refine keeps_ite (fun _ => ?_) (fun _ => ?_)
    | refine keeps_foldl (fun _ _ hk => ?_) ?_) | with_reducible refine keeps_peers (mask_trans rfl hF) ?_)

theorem State.modCue_keeps {σ : State} {F : Nat} (s : State) (i : Nat) (f : CueSt → CueSt) (hF : 131072 ||| F = F) (hk : Keeps F σ s) :
    Keeps F σ (State.modCue s i f) := by
  unfold State.modCue
  repeat' (first | with_reducible (first
    | assumption
    | refine State.modTsu_keeps _ _ (mask_trans rfl hF) ?_))

theorem State.writeCue_keeps {σ : State} {F : Nat} (s : State) (v : W32) (hF : 131072 ||| F = F) (hk : Keeps F σ s) :
    Keeps F σ (State.writeCue s v) := by
  unfold State.writeCue
  repeat' (first | with_reducible (first
    | assumption
    | refine State.modCue_keeps _ _ _ (mask_trans rfl hF) ?_
    | refine keeps_ite (fun _ => ?_) (fun _ => ?_)))

theorem State.cueAction_keeps {σ : State} {F : Nat} (s : State) (c : CueSt) (hF : 868221310 ||| F = F) (hk : Keeps F σ s) :
    Keeps F σ (State.cueAction s c) := by
  unfold State.cueAction
  repeat' (first | with_reducible (first
    | assumption
    | refine State.chanEvent_keeps _ _ (mask_trans rfl hF) ?_
    | refine State.startSchedule_keeps _ _ _ (mask_trans rfl hF) ?_
    | refine State.requestIm_keeps _ _ _ (mask_trans rfl hF) ?_
    | refine State.sendMsix_keeps _ _ (mask_trans rfl hF) ?_
    | refine State.objOp_keeps _ _ _ _ _ (mask_trans rfl hF) ?_
    | refine keeps_ite (fun _ => ?_) (fun _ => ?_)) | split)

theorem State.fireCue_keeps {σ : State} {F : Nat} (s : State) (i : Nat) (hF : 868352382 ||| F = F) (hk : Keeps F σ s) :
    Keeps F σ (State.fireCue s i) := by
  unfold State.fireCue
  repeat' (first | with_reducible (first
    | assumption
    | refine State.cueAction_keeps _ _ (mask_trans rfl hF) ?_
    | refine State.emit_keeps _ _ (mask_trans rfl hF) ?_
    | refine State.modCue_keeps _ _ _ (mask_trans rfl hF) ?_
    | refine State.bump_keeps _ _ _ (mask_trans rfl hF) ?_
    | refine State.raiseAll_keeps _ _ _ _ _ (mask_trans rfl hF) ?_
    | refine keeps_ite (fun _ => ?_) (fun _ => ?_)))

theorem State.lockPage_keeps {σ : State} {F : Nat} (s : State) (page : Nat) (hF : 8 ||| F = F) (hk : Keeps F σ s) :
    Keeps F σ (State.lockPage s page) := by
  unfold State.lockPage
  repeat' (first | with_reducible (first
    | assumption
    | refine State.setFld_keeps _ _ _ _ _ (mask_trans rfl hF) ?_))

theorem State.undoWord_keeps {σ : State} {F : Nat} (s : State) (u : UndoWord) (hF : 48 ||| F = F) (hk : Keeps F σ s) :
    Keeps F σ (State.undoWord s u) := by
  unfold State.undoWord
  repeat' (first | with_reducible (first
    | assumption
    | refine State.putBytes_keeps _ _ _ (mask_trans rfl hF) ?_
    | refine State.setHealth_keeps _ _ _ (mask_trans rfl hF) ?_
    | refine keeps_ite (fun _ => ?_) (fun _ => ?_)
    | refine keeps_foldl (fun _ _ hk => ?_) ?_))

theorem State.stopRecords_keeps {σ : State} {F : Nat} (s : State) (i : Nat) (hF : 50 ||| F = F) (hk : Keeps F σ s) :
    Keeps F σ (State.stopRecords s i) := by
  unfold State.stopRecords
  repeat' (first | with_reducible (first
    | assumption
    | refine State.undoWord_keeps _ _ (mask_trans rfl hF) ?_
    | refine State.tick_keeps _ (mask_trans rfl hF) ?_
    | refine keeps_ite (fun _ => ?_) (fun _ => ?_)
    | refine keeps_foldl (fun _ _ hk => ?_) ?_))

theorem State.resetCoreNow_keeps {σ : State} {F : Nat} (s : State) (i : Nat) (hF : 21495866 ||| F = F) (hk : Keeps F σ s) :
    Keeps F σ (State.resetCoreNow s i) := by
  unfold State.resetCoreNow
  repeat' (first | with_reducible (first
    | assumption
    | refine State.dropWaiter_keeps _ _ _ (mask_trans rfl hF) ?_
    | refine State.stopRecords_keeps _ _ (mask_trans rfl hF) ?_
    | refine State.boxReturn_keeps _ _ _ (mask_trans rfl hF) ?_
    | refine State.boxCancel_keeps _ _ _ (mask_trans rfl hF) ?_
    | refine State.setCore_keeps _ _ _ (mask_trans rfl hF) ?_
    | refine State.lockPage_keeps _ _ (mask_trans rfl hF) ?_
    | refine State.resetPages_keeps _ _ _ _ (mask_trans rfl hF) ?_))

theorem State.resetChanNow_keeps {σ : State} {F : Nat} (s : State) (ch : Nat) (hF : 48234878 ||| F = F) (hk : Keeps F σ s) :
    Keeps F σ (State.resetChanNow s ch) := by
  unfold State.resetChanNow
  repeat' (first | with_reducible (first
    | assumption
    | refine State.dropWaiter_keeps _ _ _ (mask_trans rfl hF) ?_
    | refine State.abort_keeps _ _ (mask_trans rfl hF) ?_
    | refine State.modChan_keeps _ _ _ (mask_trans rfl hF) ?_))

theorem State.abandonMove_keeps {σ : State} {F : Nat} (s : State) (p : Nat) (hid : Nat) (k : Nat) (ctx : Nat) (hF : 2097486 ||| F = F) (hk : Keeps F σ s) :
    Keeps F σ (State.abandonMove s p hid k ctx) := by
  unfold State.abandonMove
  repeat' (first | with_reducible (first
    | assumption
    | refine State.evUsh_keeps _ _ _ _ _ (mask_trans rfl hF) ?_
    | refine State.logPlace_keeps _ _ _ _ _ _ _ _ (mask_trans rfl hF) ?_
    | refine State.modShard_keeps _ _ _ _ _ (mask_trans rfl hF) ?_))

theorem State.abandonMoves_keeps {σ : State} {F : Nat} (s : State) (p : Nat) (c : Nat) (hF : 31457662 ||| F = F) (hk : Keeps F σ s) :
    Keeps F σ (State.abandonMoves s p c) := by
  unfold State.abandonMoves
  repeat' (first | with_reducible (first
    | assumption
    | refine State.abandonMove_keeps _ _ _ _ _ (mask_trans rfl hF) ?_
    | refine State.pinned_keeps _ _ _ _ (mask_trans rfl hF) ?_
    | refine keeps_ite (fun _ => ?_) (fun _ => ?_)
    | refine keeps_foldl (fun _ _ hk => ?_) ?_) | split | (dsimp only; split))

theorem State.resetClusterNow_keeps {σ : State} {F : Nat} (s : State) (c : Nat) (hF : 65536382 ||| F = F) (hk : Keeps F σ s) :
    Keeps F σ (State.resetClusterNow s c) := by
  unfold State.resetClusterNow
  repeat' (first | with_reducible (first
    | assumption
    | refine State.resetCoreNow_keeps _ _ (mask_trans rfl hF) ?_
    | refine State.resetChanNow_keeps _ _ (mask_trans rfl hF) ?_
    | refine State.abandonMoves_keeps _ _ _ (mask_trans rfl hF) ?_
    | refine State.resetPages_keeps _ _ _ _ (mask_trans rfl hF) ?_
    | refine State.modClu_keeps _ _ _ (mask_trans rfl hF) ?_
    | refine keeps_foldl (fun _ _ hk => ?_) ?_))

theorem State.localResetDone_keeps {σ : State} {F : Nat} (s : State) (p : Nat) (hF : 332 ||| F = F) (hk : Keeps F σ s) :
    Keeps F σ (State.localResetDone s p) := by
  unfold State.localResetDone
  repeat' (first | with_reducible (first
    | assumption
    | refine State.evPart_keeps _ _ _ (mask_trans rfl hF) ?_))

theorem State.localReset_keeps {σ : State} {F : Nat} (s : State) (p : Nat) (x : Bool × Nat) (hF : 65536382 ||| F = F) (hk : Keeps F σ s) :
    Keeps F σ (State.localReset s p x) := by
  unfold State.localReset
  repeat' (first | with_reducible (first
    | assumption
    | refine State.localResetDone_keeps _ _ (mask_trans rfl hF) ?_
    | refine State.resetClusterNow_keeps _ _ (mask_trans rfl hF) ?_
    | refine State.resetCoreNow_keeps _ _ (mask_trans rfl hF) ?_
    | refine keeps_ite (fun _ => ?_) (fun _ => ?_)))

theorem State.askReset_keeps {σ : State} {F : Nat} (s : State) (p : Nat) (x : Bool × Nat) (hF : 65536382 ||| F = F) (hk : Keeps F σ s) :
    Keeps F σ (State.askReset s p x) := by
  unfold State.askReset
  repeat' (first | with_reducible (first
    | assumption
    | refine State.modUsher_keeps _ _ _ (mask_trans rfl hF) ?_
    | refine State.localReset_keeps _ _ _ (mask_trans rfl hF) ?_
    | refine keeps_ite (fun _ => ?_) (fun _ => ?_)))

theorem State.writeResetCtl_keeps {σ : State} {F : Nat} (s : State) (p : Nat) (v : W32) (hF : 65536382 ||| F = F) (hk : Keeps F σ s) :
    Keeps F σ (State.writeResetCtl s p v) := by
  unfold State.writeResetCtl
  repeat' (first | with_reducible (first
    | assumption
    | refine State.askReset_keeps _ _ _ (mask_trans rfl hF) ?_
    | refine keeps_ite (fun _ => ?_) (fun _ => ?_)))

theorem State.runWaiting_keeps {σ : State} {F : Nat} (s : State) (p : Nat) (hF : 65536382 ||| F = F) (hk : Keeps F σ s) :
    Keeps F σ (State.runWaiting s p) := by
  unfold State.runWaiting
  repeat' (first | with_reducible (first
    | assumption
    | refine State.localReset_keeps _ _ _ (mask_trans rfl hF) ?_
    | refine State.modUsher_keeps _ _ _ (mask_trans rfl hF) ?_
    | refine keeps_foldl (fun _ _ hk => ?_) ?_))

theorem State.modCtx_keeps {σ : State} {F : Nat} (s : State) (p : Nat) (x : Nat) (f : CtxSt → CtxSt) (hF : 2097152 ||| F = F) (hk : Keeps F σ s) :
    Keeps F σ (State.modCtx s p x f) := by
  unfold State.modCtx
  repeat' (first | with_reducible (first
    | assumption
    | refine State.modUsher_keeps _ _ _ (mask_trans rfl hF) ?_))

theorem State.putSeqRegs_keeps {σ : State} {F : Nat} (s : State) (i : Nat) (vs : List W32) (hF : 8 ||| F = F) (hk : Keeps F σ s) :
    Keeps F σ (State.putSeqRegs s i vs) := by
  unfold State.putSeqRegs
  repeat' (first | with_reducible (first
    | assumption
    | refine State.setReg_keeps _ _ _ (mask_trans rfl hF) ?_
    | refine keeps_foldl (fun _ _ hk => ?_) ?_))

theorem State.queueStarts_keeps {σ : State} {F : Nat} (s : State) (p : Nat) (x : Nat) (qbase : Nat) (qlog2 : Nat) (obj : Nat) (hF : 23068728 ||| F = F) (hk : Keeps F σ s) :
    Keeps F σ (State.queueStarts s p x qbase qlog2 obj) := by
  unfold State.queueStarts
  repeat' (first | with_reducible (first
    | assumption
    | refine State.putSeqRegs_keeps _ _ _ (mask_trans rfl hF) ?_
    | refine State.setCore_keeps _ _ _ (mask_trans rfl hF) ?_
    | refine State.dropWaiter_keeps _ _ _ (mask_trans rfl hF) ?_
    | refine State.zeroMem_keeps _ _ _ (mask_trans rfl hF) ?_
    | refine State.modCtx_keeps _ _ _ _ (mask_trans rfl hF) ?_
    | refine keeps_ite (fun _ => ?_) (fun _ => ?_)
    | refine keeps_foldl (fun _ _ hk => ?_) ?_))

theorem State.fetchAll_keeps {σ : State} {F : Nat} (s : State) (p : Nat) (x : Nat) (hF : 25166206 ||| F = F) (hk : Keeps F σ s) :
    Keeps F σ (State.fetchAll s p x) := by
  unfold State.fetchAll
  repeat' (first | with_reducible (first
    | assumption
    | refine State.fetch_keeps _ _ (mask_trans rfl hF) ?_
    | refine keeps_ite (fun _ => ?_) (fun _ => ?_)
    | refine keeps_foldl (fun _ _ hk => ?_) ?_))

theorem State.ctxInit_keeps {σ : State} {F : Nat} (s : State) (p : Nat) (hF : 31457662 ||| F = F)
    (hk : Keeps F σ s) : Keeps F σ (State.ctxInit s p) := by
  unfold State.ctxInit
  refine State.request_keeps _ _ _ _ _ _ (fun _ _ hk => ?_) (mask_trans rfl hF) hk
  refine keeps_ite (fun _ => State.reqDone_keeps _ _ _ _ _ (mask_trans rfl hF) hk) (fun _ => ?_)
  extract_lets u
  split
  · exact State.reqDone_keeps _ _ _ _ _ (mask_trans rfl hF) hk
  · refine State.reqDone_keeps _ _ _ _ _ (mask_trans rfl hF) (State.fetchAll_keeps _ _ _ (mask_trans rfl hF) (State.queueStarts_keeps _ _ _ _ _ _ (mask_trans rfl hF) ?_))
    exact State.modCtx_keeps _ _ _ _ (mask_trans rfl hF) (State.setUsher_keeps _ _ _ (mask_trans rfl hF) hk)

theorem State.drainRecords_keeps {σ : State} {F : Nat} (s : State) (i : Nat) (hF : 13451657598 ||| F = F) (hk : Keeps F σ s) :
    Keeps F σ (State.drainRecords s i) := by
  unfold State.drainRecords
  repeat' (first | with_reducible (first
    | assumption
    | refine State.settle_keeps _ _ (mask_trans rfl hF) ?_
    | refine State.finish_keeps _ _ _ (mask_trans rfl hF) ?_
    | refine keeps_ite (fun _ => ?_) (fun _ => ?_)
    | refine keeps_foldl (fun _ _ hk => ?_) ?_) | split)

theorem State.stopCore_keeps {σ : State} {F : Nat} (s : State) (i : Nat) (hF : 13451657598 ||| F = F) (hk : Keeps F σ s) :
    Keeps F σ (State.stopCore s i) := by
  unfold State.stopCore
  repeat' (first | with_reducible (first
    | assumption
    | refine State.abortWaits_keeps _ _ (mask_trans rfl hF) ?_
    | refine State.drainRecords_keeps _ _ (mask_trans rfl hF) ?_
    | refine State.coreHalt_keeps _ _ (mask_trans rfl hF) ?_
    | refine State.modCore_keeps _ _ _ (mask_trans rfl hF) ?_
    | refine keeps_ite (fun _ => ?_) (fun _ => ?_)))

theorem State.saveCore_keeps {σ : State} {F : Nat} (s : State) (p : Nat) (x : Nat) (i : Nat) (hF : 19398656 ||| F = F) (hk : Keeps F σ s) :
    Keeps F σ (State.saveCore s p x i) := by
  unfold State.saveCore
  repeat' (first | with_reducible (first
    | assumption
    | refine State.modCtx_keeps _ _ _ _ (mask_trans rfl hF) ?_
    | refine State.boxReturn_keeps _ _ _ (mask_trans rfl hF) ?_
    | refine State.boxCancel_keeps _ _ _ (mask_trans rfl hF) ?_
    | refine State.setCore_keeps _ _ _ (mask_trans rfl hF) ?_))

theorem State.pauseChan_keeps {σ : State} {F : Nat} (s : State) (ch : Nat) (hF : 65012094 ||| F = F) (hk : Keeps F σ s) :
    Keeps F σ (State.pauseChan s ch) := by
  unfold State.pauseChan
  repeat' (first | with_reducible (first
    | assumption
    | refine State.modChan_keeps _ _ _ (mask_trans rfl hF) ?_
    | refine State.dropWaiter_keeps _ _ _ (mask_trans rfl hF) ?_
    | refine State.descComplete_keeps _ _ (mask_trans rfl hF) ?_
    | refine keeps_ite (fun _ => ?_) (fun _ => ?_)))

theorem State.switchSave_keeps {σ : State} {F : Nat} (s : State) (p : Nat) (y : Nat) (hF : 19398656 ||| F = F) (hk : Keeps F σ s) :
    Keeps F σ (State.switchSave s p y) := by
  unfold State.switchSave
  repeat' (first | with_reducible (first
    | assumption
    | refine State.modUsher_keeps _ _ _ (mask_trans rfl hF) ?_
    | refine State.modCtx_keeps _ _ _ _ (mask_trans rfl hF) ?_
    | refine State.saveCore_keeps _ _ _ _ (mask_trans rfl hF) ?_
    | refine keeps_ite (fun _ => ?_) (fun _ => ?_)
    | refine keeps_foldl (fun _ _ hk => ?_) ?_))

theorem State.contextSwitch_keeps {σ : State} {F : Nat} (s : State) (p : Nat) (hF : 13487309182 ||| F = F) (hk : Keeps F σ s) :
    Keeps F σ (State.contextSwitch s p) := by
  unfold State.contextSwitch
  repeat' (first | with_reducible (first
    | assumption
    | refine State.switchSave_keeps _ _ _ (mask_trans rfl hF) ?_
    | refine State.pauseChan_keeps _ _ (mask_trans rfl hF) ?_
    | refine State.modUsher_keeps _ _ _ (mask_trans rfl hF) ?_
    | refine State.stopCore_keeps _ _ (mask_trans rfl hF) ?_
    | refine keeps_ite (fun _ => ?_) (fun _ => ?_)
    | refine keeps_foldl (fun _ _ hk => ?_) ?_) | split)

theorem tblWf_foldl_tblSet {α β : Type} [DecidableEq α] (d : α) (l : List β) (k : β → Nat) (v : β → α) (t : Tbl α)
    (h : tblWf (fun _ => d) t = true) :
    tblWf (fun _ => d) (l.foldl (fun (m : Tbl α) (e : β) => tblSet d m (k e) (v e)) t) = true := by
  induction l generalizing t with
  | nil => exact h
  | cons e r ih => exact ih _ (tblWf_tblSet (fun _ => d) t (k e) (v e) h)

theorem State.putSaved_keeps {σ : State} {F : Nat} (s : State) (a : Nat) (v : SavedCore) (hF : 48 ||| F = F)
    (hk : Keeps F σ s) : Keeps F σ (s.putSaved a v) :=
  keeps_mem_ecc hF hk (tblWf_foldl_tblSet 0 _ _ _ _) (tblWf_foldl_tblSet Health.ok _ _ _ _)

theorem State.loadCore_keeps {σ : State} {F : Nat} (s : State) (p : Nat) (x : Nat) (i : Nat) (hF : 17301560 ||| F = F) (hk : Keeps F σ s) :
    Keeps F σ (State.loadCore s p x i) := by
  unfold State.loadCore
  repeat' (first | with_reducible (first
    | assumption
    | refine State.zeroMem_keeps _ _ _ (mask_trans rfl hF) ?_
    | refine State.putSaved_keeps _ _ _ (mask_trans rfl hF) ?_
    | refine State.setCore_keeps _ _ _ (mask_trans rfl hF) ?_
    | refine State.putSeqRegs_keeps _ _ _ (mask_trans rfl hF) ?_
    | refine State.boxRequest_keeps _ _ _ (mask_trans rfl hF) ?_
    | refine State.modCore_keeps _ _ _ (mask_trans rfl hF) ?_
    | refine keeps_ite (fun _ => ?_) (fun _ => ?_)))

theorem State.contextResume_keeps {σ : State} {F : Nat} (s : State) (p : Nat) (hF : 13487309182 ||| F = F) (hk : Keeps F σ s) :
    Keeps F σ (State.contextResume s p) := by
  unfold State.contextResume
  repeat' (first | with_reducible (first
    | assumption
    | refine State.modUsher_keeps _ _ _ (mask_trans rfl hF) ?_
    | refine State.loadCore_keeps _ _ _ _ (mask_trans rfl hF) ?_
    | refine State.modCtx_keeps _ _ _ _ (mask_trans rfl hF) ?_
    | refine State.tick_keeps _ (mask_trans rfl hF) ?_
    | refine State.setReg_keeps _ _ _ (mask_trans rfl hF) ?_
    | refine State.fetch_keeps _ _ (mask_trans rfl hF) ?_
    | refine State.settle_keeps _ _ (mask_trans rfl hF) ?_
    | refine State.chanGo_keeps _ _ (mask_trans rfl hF) ?_
    | refine State.modChan_keeps _ _ _ (mask_trans rfl hF) ?_
    | refine State.runWaiting_keeps _ _ (mask_trans rfl hF) ?_
    | refine keeps_ite (fun _ => ?_) (fun _ => ?_)
    | refine keeps_foldl (fun _ _ hk => ?_) ?_) | split)

theorem State.waiterEnds_keeps {σ : State} {F : Nat} (s : State) (p : Nat) (src : Nat) (hF : 13487309182 ||| F = F) (hk : Keeps F σ s) :
    Keeps F σ (State.waiterEnds s p src) := by
  unfold State.waiterEnds
  repeat' (first | with_reducible (first
    | assumption
    | refine State.complete_keeps _ _ _ (mask_trans rfl hF) ?_
    | refine State.modFlight_keeps _ _ _ _ (mask_trans rfl hF) ?_
    | refine State.chanTimeout_keeps _ _ (mask_trans rfl hF) ?_
    | refine State.reqDone_keeps _ _ _ _ _ (mask_trans rfl hF) ?_
    | refine keeps_ite (fun _ => ?_) (fun _ => ?_)) | split)

theorem State.waitTimeout_keeps {σ : State} {F : Nat} (s : State) (p : Nat) (src : Nat) (hF : 13487309182 ||| F = F) (hk : Keeps F σ s) :
    Keeps F σ (State.waitTimeout s p src) := by
  unfold State.waitTimeout
  repeat' (first | with_reducible (first
    | assumption
    | refine State.expireWait_keeps _ _ _ (mask_trans rfl hF) ?_
    | refine State.waiterEnds_keeps _ _ _ (mask_trans rfl hF) ?_
    | refine State.dropWaiter_keeps _ _ _ (mask_trans rfl hF) ?_
    | refine keeps_ite (fun _ => ?_) (fun _ => ?_)) | split)

end Sys2Proof.Machine
end

