-- ==== Sys2Proof/Laws/KeepsPrompter.lean ====
section
/-! SUPPORT. `Keeps` for the operations of register accesses, resets, the mailbox and bring-up. -/

namespace Sys2Proof.Machine

open Sys2Proof

theorem State.modMb_keeps {σ : State} {F : Nat} (s : State) (board : Bool) (f : MbSt → MbSt) (hF : 12288 ||| F = F) (hk : Keeps F σ s) :
    Keeps F σ (State.modMb s board f) := by
  unfold State.modMb
  repeat' (first | with_reducible (first
    | assumption
    | refine keeps_ite (fun _ => ?_) (fun _ => ?_)) | with_reducible refine keeps_mbBoard (mask_trans rfl hF) ?_ | with_reducible refine keeps_mbHost (mask_trans rfl hF) ?_)

theorem State.mbEvent_keeps {σ : State} {F : Nat} (s : State) (board : Bool) (b : Nat) (arg : Nat) (hF : 12620 ||| F = F) (hk : Keeps F σ s) :
    Keeps F σ (State.mbEvent s board b arg) := by
  unfold State.mbEvent
  repeat' (first | with_reducible (first
    | assumption
    | refine State.modMb_keeps _ _ _ (mask_trans rfl hF) ?_
    | refine State.evMb_keeps _ _ _ (mask_trans rfl hF) ?_
    | refine keeps_ite (fun _ => ?_) (fun _ => ?_)))

theorem State.mbEnd_keeps {σ : State} {F : Nat} (s : State) (board : Bool) (code : Nat) (hF : 29004 ||| F = F) (hk : Keeps F σ s) :
    Keeps F σ (State.mbEnd s board code) := by
  unfold State.mbEnd
  repeat' (first | with_reducible (first
    | assumption
    | refine State.modMb_keeps _ _ _ (mask_trans rfl hF) ?_
    | refine State.mbEvent_keeps _ _ _ _ (mask_trans rfl hF) ?_) | with_reducible refine keeps_mbOrder (mask_trans rfl hF) ?_)

theorem State.mbSkip_keeps {σ : State} {F : Nat} (s : State) (hF : 29004 ||| F = F) (hk : Keeps F σ s) :
    Keeps F σ (State.mbSkip s) := by
  unfold State.mbSkip
  repeat' (first | with_reducible (first
    | assumption
    | refine State.mbEnd_keeps _ _ _ (mask_trans rfl hF) ?_
    | refine keeps_ite (fun _ => ?_) (fun _ => ?_)) | split)

theorem State.mbDone_keeps {σ : State} {F : Nat} (s : State) (board : Bool) (code : Nat) (hF : 29004 ||| F = F) (hk : Keeps F σ s) :
    Keeps F σ (State.mbDone s board code) := by
  unfold State.mbDone
  repeat' (first | with_reducible (first
    | assumption
    | refine State.mbSkip_keeps _ (mask_trans rfl hF) ?_
    | refine State.mbEnd_keeps _ _ _ (mask_trans rfl hF) ?_))

theorem State.doorbell_keeps {σ : State} {F : Nat} (s : State) (board : Bool) (hF : 29004 ||| F = F) (hk : Keeps F σ s) :
    Keeps F σ (State.doorbell s board) := by
  unfold State.doorbell
  repeat' (first | with_reducible (first
    | assumption
    | refine State.modMb_keeps _ _ _ (mask_trans rfl hF) ?_
    | refine State.mbSkip_keeps _ (mask_trans rfl hF) ?_
    | refine keeps_ite (fun _ => ?_) (fun _ => ?_)) | with_reducible refine keeps_mbOrder (mask_trans rfl hF) ?_)

theorem State.writeCmdBuf_keeps {σ : State} {F : Nat} (s : State) (board : Bool) (i : Nat) (v : W32) (hF : 12288 ||| F = F) (hk : Keeps F σ s) :
    Keeps F σ (State.writeCmdBuf s board i v) := by
  unfold State.writeCmdBuf
  repeat' (first | with_reducible (first
    | assumption
    | refine State.modMb_keeps _ _ _ (mask_trans rfl hF) ?_))

theorem State.plainWrite_keeps {σ : State} {F : Nat} (s : State) (k : PageKind) (i : Nat) (off : Nat) (v : W32) (hF : 8 ||| F = F) (hk : Keeps F σ s) :
    Keeps F σ (State.plainWrite s k i off v) := by
  unfold State.plainWrite
  repeat' (first | with_reducible (first
    | assumption
    | refine State.setReg_keeps _ _ _ (mask_trans rfl hF) ?_))

theorem State.enableWrite_keeps {σ : State} {F : Nat} (s : State) (page : Nat) (f : State → State) (hf : ∀ (t : State), Keeps F σ t → Keeps F σ (f t)) (hF : 260 ||| F = F) (hk : Keeps F σ s) :
    Keeps F σ (State.enableWrite s page f) := by
  unfold State.enableWrite
  repeat' (first | with_reducible (first
    | assumption
    | refine hf _ ?_
    | refine State.pageMsix_keeps _ _ (mask_trans rfl hF) ?_
    | refine keeps_ite (fun _ => ?_) (fun _ => ?_)))

theorem State.writePageCtl_keeps {σ : State} {F : Nat} (s : State) (k : PageKind) (i : Nat) (v : W32) (hF : 268 ||| F = F) (hk : Keeps F σ s) :
    Keeps F σ (State.writePageCtl s k i v) := by
  unfold State.writePageCtl
  repeat' (first | with_reducible (first
    | assumption
    | refine State.enableWrite_keeps _ _ _ (fun _ hk => ?_) (mask_trans rfl hF) ?_
    | refine State.setReg_keeps _ _ _ (mask_trans rfl hF) ?_))

theorem State.forceEvents_keeps {σ : State} {F : Nat} (s : State) (k : PageKind) (i : Nat) (v : W32) (hF : 332 ||| F = F) (hk : Keeps F σ s) :
    Keeps F σ (State.forceEvents s k i v) := by
  unfold State.forceEvents
  repeat' (first | with_reducible (first
    | assumption
    | refine State.raiseAll_keeps _ _ _ _ _ (mask_trans rfl hF) ?_
    | refine keeps_ite (fun _ => ?_) (fun _ => ?_)))

theorem State.clearErrCount_keeps {σ : State} {F : Nat} (s : State) (k : PageKind) (i : Nat) (v : W32) (hF : 8 ||| F = F) (hk : Keeps F σ s) :
    Keeps F σ (State.clearErrCount s k i v) := by
  unfold State.clearErrCount
  repeat' (first | with_reducible (first
    | assumption
    | refine State.setReg_keeps _ _ _ (mask_trans rfl hF) ?_
    | refine keeps_ite (fun _ => ?_) (fun _ => ?_)))

theorem State.writeHeader_keeps {σ : State} {F : Nat} (s : State) (k : PageKind) (i : Nat) (off : Nat) (v : W32) (hF : 332 ||| F = F) (hk : Keeps F σ s) :
    Keeps F σ (State.writeHeader s k i off v) := by
  unfold State.writeHeader
  repeat' (first | with_reducible (first
    | assumption
    | refine State.writePageCtl_keeps _ _ _ _ (mask_trans rfl hF) ?_
    | refine State.enableWrite_keeps _ _ _ (fun _ hk => ?_) (mask_trans rfl hF) ?_
    | refine State.plainWrite_keeps _ _ _ _ _ (mask_trans rfl hF) ?_
    | refine State.forceEvents_keeps _ _ _ _ (mask_trans rfl hF) ?_
    | refine State.clearErrCount_keeps _ _ _ _ (mask_trans rfl hF) ?_
    | refine keeps_ite (fun _ => ?_) (fun _ => ?_)))

theorem State.writeDev_keeps {σ : State} {F : Nat} (s : State) (off : Nat) (v : W32) (hF : 3225420044 ||| F = F) (hk : Keeps F σ s) :
    Keeps F σ (State.writeDev s off v) := by
  unfold State.writeDev
  repeat' (first | with_reducible (first
    | assumption
    | refine State.writePeer_keeps _ _ _ (mask_trans rfl hF) ?_
    | refine State.enableWrite_keeps _ _ _ (fun _ hk => ?_) (mask_trans rfl hF) ?_
    | refine State.plainWrite_keeps _ _ _ _ _ (mask_trans rfl hF) ?_
    | refine keeps_ite (fun _ => ?_) (fun _ => ?_)) | with_reducible refine keeps_croutes (mask_trans rfl hF) ?_)

theorem State.writeTsu_keeps {σ : State} {F : Nat} (s : State) (off : Nat) (v : W32) (hF : 131404 ||| F = F) (hk : Keeps F σ s) :
    Keeps F σ (State.writeTsu s off v) := by
  unfold State.writeTsu
  repeat' (first | with_reducible (first
    | assumption
    | refine State.writeTsuCfg_keeps _ _ (mask_trans rfl hF) ?_
    | refine State.captureSet_keeps _ (mask_trans rfl hF) ?_
    | refine State.writeRate_keeps _ _ (mask_trans rfl hF) ?_
    | refine State.modTsu_keeps _ _ (mask_trans rfl hF) ?_
    | refine State.writeCue_keeps _ _ (mask_trans rfl hF) ?_
    | refine State.plainWrite_keeps _ _ _ _ _ (mask_trans rfl hF) ?_
    | refine keeps_ite (fun _ => ?_) (fun _ => ?_)))

theorem State.writeBoardCap_keeps {σ : State} {F : Nat} (s : State) (v : W32) (hF : 1573196 ||| F = F) (hk : Keeps F σ s) :
    Keeps F σ (State.writeBoardCap s v) := by
  unfold State.writeBoardCap
  repeat' (first | with_reducible (first
    | assumption
    | refine State.setFld_keeps _ _ _ _ _ (mask_trans rfl hF) ?_
    | refine State.applyBoardCap_keeps _ (mask_trans rfl hF) ?_
    | refine keeps_ite (fun _ => ?_) (fun _ => ?_)))

theorem State.writeThm_keeps {σ : State} {F : Nat} (s : State) (off : Nat) (v : W32) (hF : 1573196 ||| F = F) (hk : Keeps F σ s) :
    Keeps F σ (State.writeThm s off v) := by
  unfold State.writeThm
  repeat' (first | with_reducible (first
    | assumption
    | refine State.writeBoardCap_keeps _ _ (mask_trans rfl hF) ?_
    | refine State.plainWrite_keeps _ _ _ _ _ (mask_trans rfl hF) ?_
    | refine State.applyBoardCap_keeps _ (mask_trans rfl hF) ?_
    | refine keeps_ite (fun _ => ?_) (fun _ => ?_)))

theorem State.writeMailbox_keeps {σ : State} {F : Nat} (s : State) (board : Bool) (off : Nat) (v : W32) (hF : 29004 ||| F = F) (hk : Keeps F σ s) :
    Keeps F σ (State.writeMailbox s board off v) := by
  unfold State.writeMailbox
  repeat' (first | with_reducible (first
    | assumption
    | refine State.doorbell_keeps _ _ (mask_trans rfl hF) ?_
    | refine State.writeCmdBuf_keeps _ _ _ _ (mask_trans rfl hF) ?_
    | refine keeps_ite (fun _ => ?_) (fun _ => ?_)))

theorem State.writeHsEntry_keeps {σ : State} {F : Nat} (s : State) (k : Nat) (b : Bool) (v : W32) (hF : 268435456 ||| F = F) (hk : Keeps F σ s) :
    Keeps F σ (State.writeHsEntry s k b v) := by
  unfold State.writeHsEntry
  repeat' (first | with_reducible (first
    | assumption
    | refine State.modHs_keeps _ _ _ (mask_trans rfl hF) ?_
    | refine keeps_ite (fun _ => ?_) (fun _ => ?_)))

theorem State.writeHsCtl_keeps {σ : State} {F : Nat} (s : State) (port : Nat) (v : W32) (hF : 268435456 ||| F = F) (hk : Keeps F σ s) :
    Keeps F σ (State.writeHsCtl s port v) := by
  unfold State.writeHsCtl
  repeat' (first | with_reducible (first
    | assumption
    | refine State.hsSwap_keeps _ _ (mask_trans rfl hF) ?_
    | refine State.hsStop_keeps _ _ (mask_trans rfl hF) ?_
    | refine State.startRanging_keeps _ _ (mask_trans rfl hF) ?_
    | refine keeps_ite (fun _ => ?_) (fun _ => ?_)))

theorem State.writeSite_keeps {σ : State} {F : Nat} (s : State) (k : Nat) (off : Nat) (v : W32) (hF : 1006632972 ||| F = F) (hk : Keeps F σ s) :
    Keeps F σ (State.writeSite s k off v) := by
  unfold State.writeSite
  repeat' (first | with_reducible (first
    | assumption
    | refine State.uncross_keeps _ _ (mask_trans rfl hF) ?_
    | refine State.imWrite_keeps _ _ _ (mask_trans rfl hF) ?_
    | refine State.modSite_keeps _ _ _ (mask_trans rfl hF) ?_
    | refine State.clearFailed_keeps _ _ (mask_trans rfl hF) ?_
    | refine State.writeHsEntry_keeps _ _ _ _ (mask_trans rfl hF) ?_
    | refine State.modHs_keeps _ _ _ (mask_trans rfl hF) ?_
    | refine State.writeHsCtl_keeps _ _ _ (mask_trans rfl hF) ?_
    | refine State.plainWrite_keeps _ _ _ _ _ (mask_trans rfl hF) ?_
    | refine keeps_ite (fun _ => ?_) (fun _ => ?_)))

theorem State.writePortCtl_keeps {σ : State} {F : Nat} (s : State) (port : Nat) (v : W32) (hF : 13957071230 ||| F = F) (hk : Keeps F σ s) :
    Keeps F σ (State.writePortCtl s port v) := by
  unfold State.writePortCtl
  repeat' (first | with_reducible (first
    | assumption
    | refine State.disablePort_keeps _ _ (mask_trans rfl hF) ?_
    | refine State.writeCaps_keeps _ _ _ (mask_trans rfl hF) ?_
    | refine State.enablePort_keeps _ _ (mask_trans rfl hF) ?_
    | refine keeps_ite (fun _ => ?_) (fun _ => ?_)))

theorem State.writePort_keeps {σ : State} {F : Nat} (s : State) (port : Nat) (off : Nat) (v : W32) (hF : 13957071230 ||| F = F) (hk : Keeps F σ s) :
    Keeps F σ (State.writePort s port off v) := by
  unfold State.writePort
  repeat' (first | with_reducible (first
    | assumption
    | refine State.steerHome_keeps _ _ (mask_trans rfl hF) ?_
    | refine State.writePortCtl_keeps _ _ _ (mask_trans rfl hF) ?_
    | refine State.plainWrite_keeps _ _ _ _ _ (mask_trans rfl hF) ?_
    | refine State.requal_keeps _ _ (mask_trans rfl hF) ?_
    | refine keeps_ite (fun _ => ?_) (fun _ => ?_)))

theorem State.writeLink_keeps {σ : State} {F : Nat} (s : State) (port : Nat) (off : Nat) (v : W32) (hF : 268435724 ||| F = F) (hk : Keeps F σ s) :
    Keeps F σ (State.writeLink s port off v) := by
  unfold State.writeLink
  repeat' (first | with_reducible (first
    | assumption
    | refine State.setFld_keeps _ _ _ _ _ (mask_trans rfl hF) ?_
    | refine State.plainWrite_keeps _ _ _ _ _ (mask_trans rfl hF) ?_
    | refine State.modPort_keeps _ _ _ (mask_trans rfl hF) ?_
    | refine State.enableWrite_keeps _ _ _ (fun _ hk => ?_) (mask_trans rfl hF) ?_
    | refine keeps_ite (fun _ => ?_) (fun _ => ?_)))

theorem State.writeUsher_keeps {σ : State} {F : Nat} (s : State) (p : Nat) (off : Nat) (v : W32) (hF : 31457662 ||| F = F) (hk : Keeps F σ s) :
    Keeps F σ (State.writeUsher s p off v) := by
  unfold State.writeUsher
  repeat' (first | with_reducible (first
    | assumption
    | refine State.writeReqTail_keeps _ _ _ (mask_trans rfl hF) ?_
    | refine State.writeExport_keeps _ _ _ (mask_trans rfl hF) ?_
    | refine State.plainWrite_keeps _ _ _ _ _ (mask_trans rfl hF) ?_
    | refine keeps_ite (fun _ => ?_) (fun _ => ?_)))

theorem State.writeSync_keeps {σ : State} {F : Nat} (s : State) (p : Nat) (off : Nat) (v : W32) (hF : 13451133310 ||| F = F) (hk : Keeps F σ s) :
    Keeps F σ (State.writeSync s p off v) := by
  unfold State.writeSync
  repeat' (first | with_reducible (first
    | assumption
    | refine State.objOp_keeps _ _ _ _ _ (mask_trans rfl hF) ?_
    | refine State.resend_keeps _ _ (mask_trans rfl hF) ?_
    | refine State.discard_keeps _ _ (mask_trans rfl hF) ?_
    | refine State.plainWrite_keeps _ _ _ _ _ (mask_trans rfl hF) ?_
    | refine keeps_ite (fun _ => ?_) (fun _ => ?_)))

theorem State.writeChan_keeps {σ : State} {F : Nat} (s : State) (ch : Nat) (off : Nat) (v : W32) (hF : 65012094 ||| F = F) (hk : Keeps F σ s) :
    Keeps F σ (State.writeChan s ch off v) := by
  unfold State.writeChan
  repeat' (first | with_reducible (first
    | assumption
    | refine State.writeRingTail_keeps _ _ _ (mask_trans rfl hF) ?_
    | refine State.enableChan_keeps _ _ _ (mask_trans rfl hF) ?_
    | refine State.disableChan_keeps _ _ _ (mask_trans rfl hF) ?_
    | refine State.abort_keeps _ _ (mask_trans rfl hF) ?_
    | refine State.resumeChan_keeps _ _ (mask_trans rfl hF) ?_
    | refine State.plainWrite_keeps _ _ _ _ _ (mask_trans rfl hF) ?_
    | refine keeps_ite (fun _ => ?_) (fun _ => ?_)))

theorem State.writeSeqCmd_keeps {σ : State} {F : Nat} (s : State) (i : Nat) (v : W32) (hF : 13451657598 ||| F = F) (hk : Keeps F σ s) :
    Keeps F σ (State.writeSeqCmd s i v) := by
  unfold State.writeSeqCmd
  repeat' (first | with_reducible (first
    | assumption
    | refine State.returnAll_keeps _ _ (mask_trans rfl hF) ?_
    | refine State.stop_keeps _ _ (mask_trans rfl hF) ?_
    | refine State.start_keeps _ _ (mask_trans rfl hF) ?_
    | refine keeps_ite (fun _ => ?_) (fun _ => ?_)))

theorem State.writeCore_keeps {σ : State} {F : Nat} (s : State) (i : Nat) (off : Nat) (v : W32) (hF : 13451657598 ||| F = F) (hk : Keeps F σ s) :
    Keeps F σ (State.writeCore s i off v) := by
  unfold State.writeCore
  repeat' (first | with_reducible (first
    | assumption
    | refine State.writeSeqCmd_keeps _ _ _ (mask_trans rfl hF) ?_
    | refine State.writeQhead_keeps _ _ _ (mask_trans rfl hF) ?_
    | refine State.writeQtail_keeps _ _ _ (mask_trans rfl hF) ?_
    | refine State.plainWrite_keeps _ _ _ _ _ (mask_trans rfl hF) ?_
    | refine State.fetch_keeps _ _ (mask_trans rfl hF) ?_
    | refine keeps_ite (fun _ => ?_) (fun _ => ?_)))

theorem State.writePage_keeps {σ : State} {F : Nat} (s : State) (k : PageKind) (i : Nat) (off : Nat) (v : W32) (hF : 17179505022 ||| F = F) (hk : Keeps F σ s) :
    Keeps F σ (State.writePage s k i off v) := by
  unfold State.writePage
  repeat' (first | with_reducible (first
    | assumption
    | refine State.writeHeader_keeps _ _ _ _ _ (mask_trans rfl hF) ?_
    | refine State.writeDev_keeps _ _ _ (mask_trans rfl hF) ?_
    | refine State.writeTsu_keeps _ _ _ (mask_trans rfl hF) ?_
    | refine State.writeThm_keeps _ _ _ (mask_trans rfl hF) ?_
    | refine State.writeMailbox_keeps _ _ _ _ (mask_trans rfl hF) ?_
    | refine State.writePort_keeps _ _ _ _ (mask_trans rfl hF) ?_
    | refine State.writeLink_keeps _ _ _ _ (mask_trans rfl hF) ?_
    | refine State.writeSite_keeps _ _ _ _ (mask_trans rfl hF) ?_
    | refine State.writeResetCtl_keeps _ _ _ (mask_trans rfl hF) ?_
    | refine State.plainWrite_keeps _ _ _ _ _ (mask_trans rfl hF) ?_
    | refine State.writeUsher_keeps _ _ _ _ (mask_trans rfl hF) ?_
    | refine State.commit_keeps _ _ (mask_trans rfl hF) ?_
    | refine State.writeSync_keeps _ _ _ _ (mask_trans rfl hF) ?_
    | refine State.writeChan_keeps _ _ _ _ (mask_trans rfl hF) ?_
    | refine State.writeCore_keeps _ _ _ _ (mask_trans rfl hF) ?_
    | refine keeps_ite (fun _ => ?_) (fun _ => ?_)) | split)

theorem State.unmask_keeps {σ : State} {F : Nat} (s : State) (v : Nat) (hF : 268 ||| F = F) (hk : Keeps F σ s) :
    Keeps F σ (State.unmask s v) := by
  unfold State.unmask
  repeat' (first | with_reducible (first
    | assumption
    | refine State.setFld_keeps _ _ _ _ _ (mask_trans rfl hF) ?_
    | refine State.emit_keeps _ _ (mask_trans rfl hF) ?_
    | refine keeps_ite (fun _ => ?_) (fun _ => ?_)) | with_reducible refine keeps_pba (mask_trans rfl hF) ?_)

theorem State.writeMsix_keeps {σ : State} {F : Nat} (s : State) (w : Nat) (v : W32) (hF : 268 ||| F = F) (hk : Keeps F σ s) :
    Keeps F σ (State.writeMsix s w v) := by
  unfold State.writeMsix
  repeat' (first | with_reducible (first
    | assumption
    | refine State.setFld_keeps _ _ _ _ _ (mask_trans rfl hF) ?_
    | refine State.unmask_keeps _ _ (mask_trans rfl hF) ?_
    | refine State.setReg_keeps _ _ _ (mask_trans rfl hF) ?_
    | refine keeps_ite (fun _ => ?_) (fun _ => ?_)))

theorem State.writeAt_keeps {σ : State} {F : Nat} (s : State) (a : Nat) (v : W32) (hF : 17179505022 ||| F = F) (hk : Keeps F σ s) :
    Keeps F σ (State.writeAt s a v) := by
  unfold State.writeAt
  repeat' (first | with_reducible (first
    | assumption
    | refine State.writePage_keeps _ _ _ _ _ (mask_trans rfl hF) ?_
    | refine State.modSync_keeps _ _ _ (mask_trans rfl hF) ?_
    | refine State.objOp_keeps _ _ _ _ _ (mask_trans rfl hF) ?_
    | refine State.writeMsix_keeps _ _ _ (mask_trans rfl hF) ?_
    | refine keeps_ite (fun _ => ?_) (fun _ => ?_)) | split)

theorem State.badAccess_keeps {σ : State} {F : Nat} (s : State) (hF : 332 ||| F = F) (hk : Keeps F σ s) :
    Keeps F σ (State.badAccess s) := by
  unfold State.badAccess
  repeat' (first | with_reducible (first
    | assumption
    | refine State.onPage_keeps _ _ _ _ (fun _ hk => ?_) (mask_trans rfl hF) ?_
    | refine State.evPrompt_keeps _ _ (mask_trans rfl hF) ?_
    | refine State.bump_keeps _ _ _ (mask_trans rfl hF) ?_))

theorem State.hostWriteReg_keeps {σ : State} {F : Nat} (s : State) (a : Nat) (d : List Byte) (hF : 17179505022 ||| F = F) (hk : Keeps F σ s) :
    Keeps F σ (State.hostWriteReg s a d) := by
  unfold State.hostWriteReg
  repeat' (first | with_reducible (first
    | assumption
    | refine State.writeAt_keeps _ _ _ (mask_trans rfl hF) ?_
    | refine State.badAccess_keeps _ (mask_trans rfl hF) ?_
    | refine keeps_ite (fun _ => ?_) (fun _ => ?_)))

theorem State.readEffect_keeps {σ : State} {F : Nat} (s : State) (a : Nat) (hF : 268566536 ||| F = F) (hk : Keeps F σ s) :
    Keeps F σ (State.readEffect s a) := by
  unfold State.readEffect
  repeat' (first | with_reducible (first
    | assumption
    | refine State.modTsu_keeps _ _ (mask_trans rfl hF) ?_
    | refine State.modHs_keeps _ _ _ (mask_trans rfl hF) ?_
    | refine State.setReg_keeps _ _ _ (mask_trans rfl hF) ?_
    | refine keeps_ite (fun _ => ?_) (fun _ => ?_)) | split)

theorem State.readWord_keeps {σ : State} {F : Nat} (s : State) (a : Nat) (hF : 268566536 ||| F = F) (hk : Keeps F σ s) :
    Keeps F σ (State.readWord s a).1 := by
  unfold State.readWord
  repeat' (first | with_reducible (first
    | assumption
    | refine State.readEffect_keeps _ _ (mask_trans rfl hF) ?_))

theorem State.hostReadReg_keeps {σ : State} {F : Nat} (s : State) (a : Nat) (n : Nat) (hF : 268566860 ||| F = F) (hk : Keeps F σ s) :
    Keeps F σ (State.hostReadReg s a n) := by
  unfold State.hostReadReg
  repeat' (first | with_reducible (first
    | assumption
    | refine State.readWord_keeps _ _ (mask_trans rfl hF) ?_
    | refine State.emit_keeps _ _ (mask_trans rfl hF) ?_
    | refine State.badAccess_keeps _ (mask_trans rfl hF) ?_
    | refine keeps_ite (fun _ => ?_) (fun _ => ?_)))

theorem State.boardHeaderWrite_keeps {σ : State} {F : Nat} (s : State) (off : Nat) (v : W32) (hF : 12288 ||| F = F) (hk : Keeps F σ s) :
    Keeps F σ (State.boardHeaderWrite s off v) := by
  unfold State.boardHeaderWrite
  repeat' (first | with_reducible (first
    | assumption
    | refine State.modMb_keeps _ _ _ (mask_trans rfl hF) ?_))

theorem State.boardWrite_keeps {σ : State} {F : Nat} (s : State) (a : Nat) (v : W32) (hF : 17179505022 ||| F = F) (hk : Keeps F σ s) :
    Keeps F σ (State.boardWrite s a v) := by
  unfold State.boardWrite
  repeat' (first | with_reducible (first
    | assumption
    | refine State.boardHeaderWrite_keeps _ _ _ (mask_trans rfl hF) ?_
    | refine State.writeMailbox_keeps _ _ _ _ (mask_trans rfl hF) ?_
    | refine State.writeAt_keeps _ _ _ (mask_trans rfl hF) ?_
    | refine keeps_ite (fun _ => ?_) (fun _ => ?_)) | split)

theorem State.boardReadEffect_keeps {σ : State} {F : Nat} (s : State) (a : Nat) (hF : 268578824 ||| F = F) (hk : Keeps F σ s) :
    Keeps F σ (State.boardReadEffect s a) := by
  unfold State.boardReadEffect
  repeat' (first | with_reducible (first
    | assumption
    | refine State.modMb_keeps _ _ _ (mask_trans rfl hF) ?_
    | refine State.readEffect_keeps _ _ (mask_trans rfl hF) ?_
    | refine keeps_ite (fun _ => ?_) (fun _ => ?_)) | split)

theorem State.setPwr_keeps {σ : State} {F : Nat} (s : State) (x : PwrSt) (hF : 512 ||| F = F) (hk : Keeps F σ s) :
    Keeps F σ (State.setPwr s x) := by
  unfold State.setPwr
  repeat' (first | with_reducible (first
    | assumption) | with_reducible refine keeps_pwr (mask_trans rfl hF) ?_)

theorem State.refuseRequest_keeps {σ : State} {F : Nat} (s : State) (p : Nat) (m : Msg) (hF : 13421773132 ||| F = F) (hk : Keeps F σ s) :
    Keeps F σ (State.refuseRequest s p m) := by
  unfold State.refuseRequest
  repeat' (first | with_reducible (first
    | assumption
    | refine State.takeMsg_keeps _ _ _ (mask_trans rfl hF) ?_
    | refine State.reply_keeps _ _ _ _ _ _ (mask_trans rfl hF) ?_
    | refine State.natError_keeps _ _ _ _ (mask_trans rfl hF) ?_
    | refine keeps_ite (fun _ => ?_) (fun _ => ?_)))

theorem State.refuseAll_keeps {σ : State} {F : Nat} (s : State) (p : Nat) (hF : 13421773132 ||| F = F) (hk : Keeps F σ s) :
    Keeps F σ (State.refuseAll s p) := by
  unfold State.refuseAll
  repeat' (first | with_reducible (first
    | assumption
    | refine State.refuseRequest_keeps _ _ _ (mask_trans rfl hF) ?_
    | refine keeps_foldl (fun _ _ hk => ?_) ?_))

theorem State.discardRequests_keeps {σ : State} {F : Nat} (s : State) (p : Nat) (hF : 4831838212 ||| F = F) (hk : Keeps F σ s) :
    Keeps F σ (State.discardRequests s p) := by
  unfold State.discardRequests
  repeat' (first | with_reducible (first
    | assumption
    | refine State.takeMsg_keeps _ _ _ (mask_trans rfl hF) ?_
    | refine keeps_ite (fun _ => ?_) (fun _ => ?_)
    | refine keeps_foldl (fun _ _ hk => ?_) ?_))

theorem State.dropRelay_keeps {σ : State} {F : Nat} (s : State) (p : Nat) (hF : 13421773132 ||| F = F) (hk : Keeps F σ s) :
    Keeps F σ (State.dropRelay s p) := by
  unfold State.dropRelay
  repeat' (first | with_reducible (first
    | assumption
    | refine State.takeMsg_keeps _ _ _ (mask_trans rfl hF) ?_
    | refine State.setRelay_keeps _ _ _ (mask_trans rfl hF) ?_
    | refine State.freeCredits_keeps _ _ _ (mask_trans rfl hF) ?_
    | refine State.dropMsg_keeps _ _ _ _ _ (mask_trans rfl hF) ?_
    | refine keeps_ite (fun _ => ?_) (fun _ => ?_)
    | refine keeps_foldl (fun _ _ hk => ?_) ?_))

theorem State.disarmCues_keeps {σ : State} {F : Nat} (s : State) (p : Nat) (hF : 131072 ||| F = F) (hk : Keeps F σ s) :
    Keeps F σ (State.disarmCues s p) := by
  unfold State.disarmCues
  repeat' (first | with_reducible (first
    | assumption
    | refine State.modCue_keeps _ _ _ (mask_trans rfl hF) ?_
    | refine keeps_ite (fun _ => ?_) (fun _ => ?_)
    | refine keeps_foldl (fun _ _ hk => ?_) ?_))

theorem State.clearTenant_keeps {σ : State} {F : Nat} (s : State) (p : Nat) (hF : 67371008 ||| F = F) (hk : Keeps F σ s) :
    Keeps F σ (State.clearTenant s p) := by
  unfold State.clearTenant
  repeat' (first | with_reducible (first
    | assumption
    | refine State.modPart_keeps _ _ _ (mask_trans rfl hF) ?_
    | refine State.modSite_keeps _ _ _ (mask_trans rfl hF) ?_
    | refine keeps_ite (fun _ => ?_) (fun _ => ?_)
    | refine keeps_foldl (fun _ _ hk => ?_) ?_))

theorem State.zeroPartition_keeps {σ : State} {F : Nat} (s : State) (p : Nat) (hF : 48 ||| F = F) (hk : Keeps F σ s) :
    Keeps F σ (State.zeroPartition s p) := by
  unfold State.zeroPartition
  repeat' (first | with_reducible (first
    | assumption
    | refine State.zeroMem_keeps _ _ _ (mask_trans rfl hF) ?_))

theorem State.resetSite_keeps {σ : State} {F : Nat} (s : State) (k : Nat) (hF : 1006632968 ||| F = F) (hk : Keeps F σ s) :
    Keeps F σ (s.resetSite k) := by
  unfold State.resetSite
  refine State.resetPages_keeps _ _ _ _ (mask_trans rfl hF) (keeps_foldl (fun _ _ hk => State.modPort_keeps _ _ _ (mask_trans rfl hF) hk) ?_)
  with_reducible exact keeps_rings_ports_links (mask_trans rfl hF) (State.modSite_keeps _ _ _ (mask_trans rfl hF) hk)

theorem State.usherStart_keeps {σ : State} {F : Nat} (s : State) (p : Nat) (meta_ : W32) (carve : Bool) (hF : 2097152 ||| F = F) (hk : Keeps F σ s) :
    Keeps F σ (State.usherStart s p meta_ carve) := by
  unfold State.usherStart
  repeat' (first | with_reducible (first
    | assumption
    | refine State.setUsher_keeps _ _ _ (mask_trans rfl hF) ?_))

theorem State.partClear_keeps {σ : State} {F : Nat} (s : State) (p : Nat) (hF : 13958513022 ||| F = F) (hk : Keeps F σ s) :
    Keeps F σ (State.partClear s p) := by
  unfold State.partClear
  repeat' (first | with_reducible (first
    | assumption
    | refine State.disarmCues_keeps _ _ (mask_trans rfl hF) ?_
    | refine State.modPart_keeps _ _ _ (mask_trans rfl hF) ?_
    | refine State.discardRequests_keeps _ _ (mask_trans rfl hF) ?_
    | refine State.refuseAll_keeps _ _ (mask_trans rfl hF) ?_
    | refine State.dropRelay_keeps _ _ (mask_trans rfl hF) ?_
    | refine State.siteDown_keeps _ _ _ (mask_trans rfl hF) ?_
    | refine State.resetClusterNow_keeps _ _ (mask_trans rfl hF) ?_
    | refine State.setUsher_keeps _ _ _ (mask_trans rfl hF) ?_
    | refine State.setSync_keeps _ _ _ (mask_trans rfl hF) ?_
    | refine State.zeroPartition_keeps _ _ (mask_trans rfl hF) ?_
    | refine State.clearTenant_keeps _ _ (mask_trans rfl hF) ?_
    | refine State.endLoans_keeps _ _ (mask_trans rfl hF) ?_
    | refine State.resetSite_keeps _ _ (mask_trans rfl hF) ?_
    | refine State.resetPages_keeps _ _ _ _ (mask_trans rfl hF) ?_
    | refine keeps_foldl (fun _ _ hk => ?_) ?_))

theorem State.applySettings_keeps {σ : State} {F : Nat} (s : State) (f : Nat → Bool) (hF : 17179505022 ||| F = F) (hk : Keeps F σ s) :
    Keeps F σ (State.applySettings s f) := by
  unfold State.applySettings
  repeat' (first | with_reducible (first
    | assumption
    | refine State.writeAt_keeps _ _ _ (mask_trans rfl hF) ?_
    | refine keeps_foldl (fun _ _ hk => ?_) ?_))

theorem State.lockPartition_keeps {σ : State} {F : Nat} (s : State) (p : Nat) (hF : 8 ||| F = F) (hk : Keeps F σ s) :
    Keeps F σ (State.lockPartition s p) := by
  unfold State.lockPartition
  repeat' (first | with_reducible (first
    | assumption
    | refine State.lockPage_keeps _ _ (mask_trans rfl hF) ?_
    | refine keeps_foldl (fun _ _ hk => ?_) ?_))

theorem State.startPort_keeps {σ : State} {F : Nat} (s : State) (port : Nat) (hF : 939524096 ||| F = F) (hk : Keeps F σ s) :
    Keeps F σ (State.startPort s port) := by
  unfold State.startPort
  repeat' (first | with_reducible (first
    | assumption
    | refine State.linksToPhy_keeps _ _ (mask_trans rfl hF) ?_
    | refine State.beginTraining_keeps _ _ _ (mask_trans rfl hF) ?_
    | refine keeps_ite (fun _ => ?_) (fun _ => ?_)))

theorem State.fuseRings_keeps {σ : State} {F : Nat} (s : State) (k : Nat) (hF : 134217728 ||| F = F) (hk : Keeps F σ s) :
    Keeps F σ (State.fuseRings s k) := by
  unfold State.fuseRings
  repeat' (first | with_reducible (first
    | assumption
    | refine State.modRing_keeps _ _ _ (mask_trans rfl hF) ?_
    | refine keeps_foldl (fun _ _ hk => ?_) ?_))

theorem State.startSite_keeps {σ : State} {F : Nat} (s : State) (k : Nat) (hF : 939524096 ||| F = F) (hk : Keeps F σ s) :
    Keeps F σ (State.startSite s k) := by
  unfold State.startSite
  repeat' (first | with_reducible (first
    | assumption
    | refine State.startPort_keeps _ _ (mask_trans rfl hF) ?_
    | refine State.fuseRings_keeps _ _ (mask_trans rfl hF) ?_
    | refine keeps_foldl (fun _ _ hk => ?_) ?_))

theorem State.setRole_keeps {σ : State} {F : Nat} (s : State) (port : Nat) (hF : 8 ||| F = F) (hk : Keeps F σ s) :
    Keeps F σ (State.setRole s port) := by
  unfold State.setRole
  repeat' (first | with_reducible (first
    | assumption
    | refine State.setFld_keeps _ _ _ _ _ (mask_trans rfl hF) ?_
    | refine keeps_ite (fun _ => ?_) (fun _ => ?_)))

theorem State.configure_keeps {σ : State} {F : Nat} (s : State) (f : Nat → Bool) (hF : 17179505022 ||| F = F) (hk : Keeps F σ s) :
    Keeps F σ (State.configure s f) := by
  unfold State.configure
  repeat' (first | with_reducible (first
    | assumption
    | refine State.applySettings_keeps _ _ (mask_trans rfl hF) ?_
    | refine State.setRole_keeps _ _ (mask_trans rfl hF) ?_
    | refine State.setFld_keeps _ _ _ _ _ (mask_trans rfl hF) ?_
    | refine keeps_foldl (fun _ _ hk => ?_) ?_))

theorem State.restartHouse_keeps {σ : State} {F : Nat} (s : State) (hF : 268435456 ||| F = F) (hk : Keeps F σ s) :
    Keeps F σ (State.restartHouse s) := by
  unfold State.restartHouse
  repeat' (first | with_reducible (first
    | assumption
    | refine State.startHouse_keeps _ _ (mask_trans rfl hF) ?_
    | refine keeps_ite (fun _ => ?_) (fun _ => ?_)))

theorem State.partReset_keeps {σ : State} {F : Nat} (s : State) (p : Nat) (hF : 17179767166 ||| F = F) (hk : Keeps F σ s) :
    Keeps F σ (State.partReset s p) := by
  unfold State.partReset
  repeat' (first | with_reducible (first
    | assumption
    | refine State.boxStart_keeps _ _ _ (mask_trans rfl hF) ?_
    | refine State.partClear_keeps _ _ (mask_trans rfl hF) ?_
    | refine State.modPart_keeps _ _ _ (mask_trans rfl hF) ?_
    | refine State.usherStart_keeps _ _ _ _ (mask_trans rfl hF) ?_
    | refine State.lockPartition_keeps _ _ (mask_trans rfl hF) ?_
    | refine State.configure_keeps _ _ (mask_trans rfl hF) ?_
    | refine State.restartHouse_keeps _ (mask_trans rfl hF) ?_
    | refine State.startSite_keeps _ _ (mask_trans rfl hF) ?_
    | refine State.evPart_keeps _ _ _ (mask_trans rfl hF) ?_))

theorem State.holdPartition_keeps {σ : State} {F : Nat} (s : State) (p : Nat) (hF : 13958513534 ||| F = F) (hk : Keeps F σ s) :
    Keeps F σ (State.holdPartition s p) := by
  unfold State.holdPartition
  repeat' (first | with_reducible (first
    | assumption
    | refine State.partClear_keeps _ _ (mask_trans rfl hF) ?_
    | refine State.setPwr_keeps _ _ (mask_trans rfl hF) ?_
    | refine keeps_ite (fun _ => ?_) (fun _ => ?_)))

theorem State.allDown_keeps {σ : State} {F : Nat} (s : State) (cause : Nat) (hF : 13822853502 ||| F = F) (hk : Keeps F σ s) :
    Keeps F σ (State.allDown s cause) := by
  unfold State.allDown
  repeat' (first | with_reducible (first
    | assumption
    | refine State.siteDown_keeps _ _ _ (mask_trans rfl hF) ?_
    | refine keeps_foldl (fun _ _ hk => ?_) ?_))

theorem tblWf_nil {α : Type} [DecidableEq α] (d : Nat → α) : tblWf d [] = true := rfl

theorem State.toReset_keeps {σ : State} {F : Nat} (s : State) (cause : Nat) (hF : 17179867961 ||| F = F) (hk : Keeps F σ s) :
    Keeps F σ (s.toReset cause) := by
  refine hk.trans (Keeps.mono (F := 17179867961) ?_ hF)
  refine ⟨fun f hf => ?_, rfl, Nat.le_refl _, List.prefix_refl _, FuseSt.grows_refl _, fun h => ?_⟩
  · revert hf
    cases f <;> first
      | exact fun _ => rfl
      | exact fun h => absurd h (by decide)
  · simp only [Memory.wf, Bool.and_eq_true] at h
    simp only [Memory.wf, State.toReset, Bool.and_eq_true]
    exact ⟨⟨⟨⟨rfl, rfl⟩, h.1.1.2⟩, h.1.2⟩, rfl⟩

theorem State.devReset_keeps {σ : State} {F : Nat} (s : State) (cause : Nat) (hF : 17179868031 ||| F = F) (hk : Keeps F σ s) :
    Keeps F σ (State.devReset s cause) := by
  unfold State.devReset
  repeat' (first | with_reducible (first
    | assumption
    | refine State.toReset_keeps _ _ (mask_trans rfl hF) ?_
    | refine State.allDown_keeps _ _ (mask_trans rfl hF) ?_))

theorem State.releaseFrom_keeps {σ : State} {F : Nat} (n p j : Nat) (s : State) (hF : 13487309182 ||| F = F) (hk : Keeps F σ s) :
    Keeps F σ (State.releaseFrom n p j s) := by
  induction n generalizing j s with
  | zero => exact hk
  | succ n ih =>
    unfold State.releaseFrom
    exact ih _ _ (State.relayForward_keeps _ _ _ (mask_trans rfl hF) hk)

theorem State.releaseHeld_keeps {σ : State} {F : Nat} (s : State) (hF : 13487309182 ||| F = F) (hk : Keeps F σ s) :
    Keeps F σ (State.releaseHeld s) := by
  unfold State.releaseHeld
  repeat' (first | with_reducible (first
    | assumption
    | refine State.releaseFrom_keeps _ _ _ _ (mask_trans rfl hF) ?_
    | refine State.chanGo_keeps _ _ (mask_trans rfl hF) ?_
    | refine keeps_foldl (fun _ _ hk => ?_) ?_))

theorem State.program_keeps {σ : State} {F : Nat} (s : State) (a : Nat) (bs : List Byte) (hF : 130 ||| F = F) (hk : Keeps F σ s) :
    Keeps F σ (State.program s a bs).1 := by
  unfold State.program
  repeat' (first | with_reducible (first
    | assumption
    | refine State.flashWrite_keeps _ _ _ (mask_trans rfl hF) ?_
    | refine State.tick_keeps _ (mask_trans rfl hF) ?_))

theorem State.programPart_keeps {σ : State} {F : Nat} (s : State) (a : Nat) (i : Nat) (bs : List Byte) (hF : 130 ||| F = F) (hk : Keeps F σ s) :
    Keeps F σ (State.programPart s a i bs) := by
  unfold State.programPart
  repeat' (first | with_reducible (first
    | assumption
    | refine State.flashWrite_keeps _ _ _ (mask_trans rfl hF) ?_
    | refine State.tick_keeps _ (mask_trans rfl hF) ?_))

theorem State.modSec_keeps {σ : State} {F : Nat} (s : State) (f : SecSt → SecSt) (hF : 2048 ||| F = F) (hk : Keeps F σ s) :
    Keeps F σ (State.modSec s f) := by
  unfold State.modSec
  repeat' (first | with_reducible (first
    | assumption) | with_reducible refine keeps_sec (mask_trans rfl hF) ?_)

theorem State.writeRecord_keeps {σ : State} {F : Nat} (s : State) (r : List Byte) (hF : 2178 ||| F = F) (hk : Keeps F σ s) :
    Keeps F σ (State.writeRecord s r).1 := by
  unfold State.writeRecord
  repeat' (first | with_reducible (first
    | assumption
    | refine State.program_keeps _ _ _ (mask_trans rfl hF) ?_
    | refine State.modSec_keeps _ _ (mask_trans rfl hF) ?_
    | refine keeps_ite_fst (fun _ => ?_) (fun _ => ?_)))

theorem State.updateRecord_keeps {σ : State} {F : Nat} (s : State) (f : List Byte → List Byte) (hF : 2178 ||| F = F) (hk : Keeps F σ s) :
    Keeps F σ (State.updateRecord s f) := by
  unfold State.updateRecord
  repeat' (first | with_reducible (first
    | assumption
    | refine State.writeRecord_keeps _ _ (mask_trans rfl hF) ?_
    | refine State.modSec_keeps _ _ (mask_trans rfl hF) ?_
    | refine keeps_ite (fun _ => ?_) (fun _ => ?_)))

theorem State.tagFailed_keeps {σ : State} {F : Nat} (s : State) (board : Bool) (hF : 14668 ||| F = F) (hk : Keeps F σ s) :
    Keeps F σ (State.tagFailed s board) := by
  unfold State.tagFailed
  repeat' (first | with_reducible (first
    | assumption
    | refine State.modMb_keeps _ _ _ (mask_trans rfl hF) ?_
    | refine State.bump_keeps _ _ _ (mask_trans rfl hF) ?_
    | refine State.mbEvent_keeps _ _ _ _ (mask_trans rfl hF) ?_
    | refine State.modSec_keeps _ _ (mask_trans rfl hF) ?_
    | refine keeps_ite (fun _ => ?_) (fun _ => ?_)))

theorem State.takeCounter_keeps {σ : State} {F : Nat} (s : State) (n : Nat) (hF : 2178 ||| F = F) (hk : Keeps F σ s) :
    Keeps F σ (State.takeCounter s n) := by
  unfold State.takeCounter
  repeat' (first | with_reducible (first
    | assumption
    | refine State.modSec_keeps _ _ (mask_trans rfl hF) ?_
    | refine State.updateRecord_keeps _ _ (mask_trans rfl hF) ?_
    | refine keeps_ite (fun _ => ?_) (fun _ => ?_)))

theorem State.checks_keeps {σ : State} {F : Nat} (s : State) (board : Bool) (hF : 14798 ||| F = F) (hk : Keeps F σ s) :
    Keeps F σ (State.checks s board).1 := by
  unfold State.checks
  repeat' (first | with_reducible (first
    | assumption
    | refine State.tagFailed_keeps _ _ (mask_trans rfl hF) ?_
    | refine State.modSec_keeps _ _ (mask_trans rfl hF) ?_
    | refine State.windowRefused_keeps _ (mask_trans rfl hF) ?_
    | refine State.takeCounter_keeps _ _ (mask_trans rfl hF) ?_
    | refine keeps_ite_fst (fun _ => ?_) (fun _ => ?_)))

theorem State.command_keeps {σ : State} {F : Nat} (s : State) (path : Path) (sel : List Byte → Bool) (run : State → List Byte → State × Nat) (hrun : ∀ (t : State) (x1 : List Byte), Keeps F σ t → Keeps F σ (run t x1).1) (hF : 31182 ||| F = F) (hk : Keeps F σ s) :
    Keeps F σ (State.command s path sel run) := by
  unfold State.command
  repeat' (first | with_reducible (first
    | assumption
    | refine hrun _ _ ?_
    | refine State.checks_keeps _ _ (mask_trans rfl hF) ?_
    | refine State.mbDone_keeps _ _ _ (mask_trans rfl hF) ?_
    | refine keeps_ite (fun _ => ?_) (fun _ => ?_)))

theorem State.inWindowOr_keeps {σ : State} {F : Nat} (s : State) (ok : Bool) (f : State → State × Nat) (hf : ∀ (t : State), Keeps F σ t → Keeps F σ (f t).1) (hF : 332 ||| F = F) (hk : Keeps F σ s) :
    Keeps F σ (State.inWindowOr s ok f).1 := by
  unfold State.inWindowOr
  repeat' (first | with_reducible (first
    | assumption
    | refine hf _ ?_
    | refine State.windowRefused_keeps _ (mask_trans rfl hF) ?_
    | refine keeps_ite_fst (fun _ => ?_) (fun _ => ?_)))

theorem State.cmdResetPartition_keeps {σ : State} {F : Nat} (s : State) (r : List Byte) (hF : 17179767166 ||| F = F) (hk : Keeps F σ s) :
    Keeps F σ (State.cmdResetPartition s r).1 := by
  unfold State.cmdResetPartition
  repeat' (first | with_reducible (first
    | assumption
    | refine State.partReset_keeps _ _ (mask_trans rfl hF) ?_
    | refine keeps_ite_fst (fun _ => ?_) (fun _ => ?_)
    | refine keeps_foldl (fun _ _ hk => ?_) ?_))

theorem State.schedule_keeps {σ : State} {F : Nat} (s : State) (cause : Nat) (hF : 512 ||| F = F) (hk : Keeps F σ s) :
    Keeps F σ (State.schedule s cause) := by
  unfold State.schedule
  repeat' (first | with_reducible (first
    | assumption
    | refine State.setPwr_keeps _ _ (mask_trans rfl hF) ?_))

theorem State.blowSvn_keeps {σ : State} {F : Nat} (s : State) (v : Nat) (hF : 1024 ||| F = F) (hk : Keeps F σ s) : Keeps F σ (s.blowSvn v) := by
  refine keeps_fuses hF hk ?_
  have := FuseSt.grows_refl s.fuses
  exact ⟨this.1, bitsIn_or _ _, this.2.2⟩

theorem State.raiseSvn_keeps {σ : State} {F : Nat} (s : State) (svn : Nat) (hF : 1358 ||| F = F) (hk : Keeps F σ s) :
    Keeps F σ (State.raiseSvn s svn).1 := by
  unfold State.raiseSvn
  repeat' (first | with_reducible (first
    | assumption
    | refine State.windowRefused_keeps _ (mask_trans rfl hF) ?_
    | refine State.tick_keeps _ (mask_trans rfl hF) ?_
    | refine State.evSec_keeps _ _ (mask_trans rfl hF) ?_
    | refine State.blowSvn_keeps _ _ (mask_trans rfl hF) ?_
    | refine keeps_ite_fst (fun _ => ?_) (fun _ => ?_)))

theorem State.markBad_keeps {σ : State} {F : Nat} (s : State) (byte : Nat) (slot : Nat) (hF : 2510 ||| F = F) (hk : Keeps F σ s) :
    Keeps F σ (State.markBad s byte slot) := by
  unfold State.markBad
  repeat' (first | with_reducible (first
    | assumption
    | refine State.evDev_keeps _ _ (mask_trans rfl hF) ?_
    | refine State.updateRecord_keeps _ _ (mask_trans rfl hF) ?_))

theorem State.cmdFwActivate_keeps {σ : State} {F : Nat} (s : State) (board : Bool) (r : List Byte) (hF : 16334 ||| F = F) (hk : Keeps F σ s) :
    Keeps F σ (State.cmdFwActivate s board r).1 := by
  unfold State.cmdFwActivate
  repeat' (first | with_reducible (first
    | assumption
    | refine State.inWindowOr_keeps _ _ _ (fun _ hk => ?_) (mask_trans rfl hF) ?_
    | refine State.markBad_keeps _ _ _ (mask_trans rfl hF) ?_
    | refine State.writeRecord_keeps _ _ (mask_trans rfl hF) ?_
    | refine State.raiseSvn_keeps _ _ (mask_trans rfl hF) ?_
    | refine State.modMb_keeps _ _ _ (mask_trans rfl hF) ?_
    | refine State.schedule_keeps _ _ (mask_trans rfl hF) ?_
    | refine keeps_ite_fst (fun _ => ?_) (fun _ => ?_)))

theorem State.cmdKeyRollover_keeps {σ : State} {F : Nat} (s : State) (r : List Byte) (hF : 2510 ||| F = F) (hk : Keeps F σ s) :
    Keeps F σ (State.cmdKeyRollover s r).1 := by
  unfold State.cmdKeyRollover
  repeat' (first | with_reducible (first
    | assumption
    | refine State.inWindowOr_keeps _ _ _ (fun _ hk => ?_) (mask_trans rfl hF) ?_
    | refine State.writeRecord_keeps _ _ (mask_trans rfl hF) ?_
    | refine State.evSec_keeps _ _ (mask_trans rfl hF) ?_
    | refine State.modSec_keeps _ _ (mask_trans rfl hF) ?_
    | refine keeps_ite_fst (fun _ => ?_) (fun _ => ?_)))

theorem State.setFuse_keeps {σ : State} {F : Nat} (s : State) (die region row v : Nat) (hF : 1024 ||| F = F) (hk : Keeps F σ s) :
    Keeps F σ (s.setFuse die region row v) := by
  have r := FuseSt.grows_refl s.fuses
  unfold State.setFuse
  refine keeps_ite (fun _ => keeps_fuses hF hk ⟨r.1, r.2.1, r.2.2.1, fun k => ?_, r.2.2.2.2⟩)
    (fun _ => keeps_ite (fun _ => keeps_fuses hF hk ⟨bitsIn_or _ _, r.2⟩) (fun _ => keeps_fuses hF hk ⟨r.1, bitsIn_or _ _, r.2.2⟩))
  by_cases h : 65536 * die + row = k
  · subst h
    simp [bitsIn_or]
  · simp [tblGet_tblSet, h, bitsIn_refl]

theorem State.cmdFuseWrite_keeps {σ : State} {F : Nat} (s : State) (good : Bool) (r : List Byte) (hF : 1358 ||| F = F) (hk : Keeps F σ s) :
    Keeps F σ (State.cmdFuseWrite s good r).1 := by
  unfold State.cmdFuseWrite
  repeat' (first | with_reducible (first
    | assumption
    | refine State.inWindowOr_keeps _ _ _ (fun _ hk => ?_) (mask_trans rfl hF) ?_
    | refine State.evSec_keeps _ _ (mask_trans rfl hF) ?_
    | refine State.setFuse_keeps _ _ _ _ _ (mask_trans rfl hF) ?_
    | refine State.tick_keeps _ (mask_trans rfl hF) ?_
    | refine keeps_ite_fst (fun _ => ?_) (fun _ => ?_)) | split | (dsimp only; split))

theorem State.cmdCurtain_keeps {σ : State} {F : Nat} (s : State) (r : List Byte) (hF : 603979780 ||| F = F) (hk : Keeps F σ s) :
    Keeps F σ (State.cmdCurtain s r).1 := by
  unfold State.cmdCurtain
  repeat' (first | with_reducible (first
    | assumption
    | refine State.sendCurtain_keeps _ _ _ _ _ _ _ (mask_trans rfl hF) ?_
    | refine keeps_ite_fst (fun _ => ?_) (fun _ => ?_)
    | refine keeps_foldl (fun _ _ hk => ?_) ?_))

theorem State.fencePorts_keeps {σ : State} {F : Nat} (s : State) (ps : List Nat) (hF : 13957073278 ||| F = F) (hk : Keeps F σ s) :
    Keeps F σ (State.fencePorts s ps) := by
  unfold State.fencePorts
  repeat' (first | with_reducible (first
    | assumption
    | refine State.modSec_keeps _ _ (mask_trans rfl hF) ?_
    | refine State.disablePort_keeps _ _ (mask_trans rfl hF) ?_
    | refine keeps_foldl (fun _ _ hk => ?_) ?_))

theorem State.unfencePorts_keeps {σ : State} {F : Nat} (s : State) (ps : List Nat) (hF : 2048 ||| F = F) (hk : Keeps F σ s) :
    Keeps F σ (State.unfencePorts s ps) := by
  unfold State.unfencePorts
  repeat' (first | with_reducible (first
    | assumption
    | refine State.modSec_keeps _ _ (mask_trans rfl hF) ?_))

theorem State.wipeMem_keeps {σ : State} {F : Nat} (s : State) (hF : 48 ||| F = F) (hk : Keeps F σ s) :
    Keeps F σ s.wipeMem := keeps_mem_ecc hF hk (fun _ => rfl) (fun _ => rfl)

theorem State.wipe_keeps {σ : State} {F : Nat} (s : State) (hF : 1006635064 ||| F = F) (hk : Keeps F σ s) :
    Keeps F σ (State.wipe s) := by
  unfold State.wipe
  repeat' (first | with_reducible (first
    | assumption
    | refine State.modSite_keeps _ _ _ (mask_trans rfl hF) ?_
    | refine State.resetSite_keeps _ _ (mask_trans rfl hF) ?_
    | refine State.setFld_keeps _ _ _ _ _ (mask_trans rfl hF) ?_
    | refine State.modSec_keeps _ _ (mask_trans rfl hF) ?_
    | refine State.wipeMem_keeps _ (mask_trans rfl hF) ?_
    | refine keeps_foldl (fun _ _ hk => ?_) ?_))

theorem State.cmdTestUnlock_keeps {σ : State} {F : Nat} (s : State) (r : List Byte) (hF : 17179769214 ||| F = F) (hk : Keeps F σ s) :
    Keeps F σ (State.cmdTestUnlock s r).1 := by
  unfold State.cmdTestUnlock
  repeat' (first | with_reducible (first
    | assumption
    | refine State.modSec_keeps _ _ (mask_trans rfl hF) ?_
    | refine State.partReset_keeps _ _ (mask_trans rfl hF) ?_
    | refine State.evSec_keeps _ _ (mask_trans rfl hF) ?_
    | refine State.wipe_keeps _ (mask_trans rfl hF) ?_
    | refine State.allDown_keeps _ _ (mask_trans rfl hF) ?_
    | refine keeps_ite (fun _ => ?_) (fun _ => ?_)
    | refine keeps_ite_fst (fun _ => ?_) (fun _ => ?_)
    | refine keeps_foldl (fun _ _ hk => ?_) ?_))

theorem State.cmdGetChallenge_keeps {σ : State} {F : Nat} (s : State) (board : Bool) (hF : 14338 ||| F = F) (hk : Keeps F σ s) :
    Keeps F σ (State.cmdGetChallenge s board).1 := by
  unfold State.cmdGetChallenge
  repeat' (first | with_reducible (first
    | assumption
    | refine State.modMb_keeps _ _ _ (mask_trans rfl hF) ?_
    | refine State.modSec_keeps _ _ (mask_trans rfl hF) ?_
    | refine State.tick_keeps _ (mask_trans rfl hF) ?_))

theorem State.endAssign_keeps {σ : State} {F : Nat} (s : State) (p : Nat) (t : Nat) (hF : 264192 ||| F = F) (hk : Keeps F σ s) :
    Keeps F σ (State.endAssign s p t).1 := by
  unfold State.endAssign
  repeat' (first | with_reducible (first
    | assumption
    | refine State.setPart_keeps _ _ _ (mask_trans rfl hF) ?_
    | refine State.modSec_keeps _ _ (mask_trans rfl hF) ?_
    | refine keeps_ite_fst (fun _ => ?_) (fun _ => ?_)))

theorem State.cmdTenantAssign_keeps {σ : State} {F : Nat} (s : State) (r : List Byte) (hF : 67373056 ||| F = F) (hk : Keeps F σ s) :
    Keeps F σ (State.cmdTenantAssign s r).1 := by
  unfold State.cmdTenantAssign
  repeat' (first | with_reducible (first
    | assumption
    | refine State.endAssign_keeps _ _ _ (mask_trans rfl hF) ?_
    | refine State.noteItem_keeps _ _ _ (mask_trans rfl hF) ?_
    | refine keeps_ite_fst (fun _ => ?_) (fun _ => ?_)
    | refine keeps_foldl (fun _ _ hk => ?_) ?_))

theorem State.assignAgain_keeps {σ : State} {F : Nat} (s : State) (path : Path) (p : Nat) (t : Nat) (hF : 293196 ||| F = F) (hk : Keeps F σ s) :
    Keeps F σ (State.assignAgain s path p t) := by
  unfold State.assignAgain
  repeat' (first | with_reducible (first
    | assumption
    | refine State.endAssign_keeps _ _ _ (mask_trans rfl hF) ?_
    | refine State.mbDone_keeps _ _ _ (mask_trans rfl hF) ?_
    | refine keeps_ite (fun _ => ?_) (fun _ => ?_)))

theorem State.cmdSettingsCommit_keeps {σ : State} {F : Nat} (s : State) (r : List Byte) (hF : 2510 ||| F = F) (hk : Keeps F σ s) :
    Keeps F σ (State.cmdSettingsCommit s r).1 := by
  unfold State.cmdSettingsCommit
  repeat' (first | with_reducible (first
    | assumption
    | refine State.inWindowOr_keeps _ _ _ (fun _ hk => ?_) (mask_trans rfl hF) ?_
    | refine State.writeRecord_keeps _ _ (mask_trans rfl hF) ?_
    | refine keeps_ite_fst (fun _ => ?_) (fun _ => ?_)))

theorem State.cmdFlashWrite_keeps {σ : State} {F : Nat} (s : State) (r : List Byte) (hF : 2510 ||| F = F) (hk : Keeps F σ s) :
    Keeps F σ (State.cmdFlashWrite s r).1 := by
  unfold State.cmdFlashWrite
  repeat' (first | with_reducible (first
    | assumption
    | refine State.inWindowOr_keeps _ _ _ (fun _ hk => ?_) (mask_trans rfl hF) ?_
    | refine State.windowRefused_keeps _ (mask_trans rfl hF) ?_
    | refine State.programPart_keeps _ _ _ _ (mask_trans rfl hF) ?_
    | refine State.program_keeps _ _ _ (mask_trans rfl hF) ?_
    | refine State.writeRecord_keeps _ _ (mask_trans rfl hF) ?_
    | refine keeps_ite_fst (fun _ => ?_) (fun _ => ?_)) | split | (dsimp only; split))

theorem State.writeBoth_keeps {σ : State} {F : Nat} (s : State) (r : List Byte) (hF : 2178 ||| F = F) (hk : Keeps F σ s) :
    Keeps F σ (State.writeBoth s r).1 := by
  unfold State.writeBoth
  repeat' (first | with_reducible (first
    | assumption
    | refine State.modSec_keeps _ _ (mask_trans rfl hF) ?_
    | refine State.writeRecord_keeps _ _ (mask_trans rfl hF) ?_
    | refine keeps_ite_fst (fun _ => ?_) (fun _ => ?_)))

theorem State.blowOwner_keeps {σ : State} {F : Nat} (s : State) (took : List Byte) (ok : Bool) (hF : 1024 ||| F = F) (hk : Keeps F σ s) :
    Keeps F σ (s.blowOwner took ok) := by
  have r := FuseSt.grows_refl s.fuses
  refine keeps_fuses hF hk ⟨r.1, r.2.1, fun h => by simp [h], r.2.2.2.1, fun i => ?_, r.2.2.2.2.2⟩
  by_cases hi : i < s.fuses.ownerHash.length
  · simp only [List.getD_eq_getElem?_getD, List.getElem?_map, List.getElem?_zipIdx, List.getElem?_eq_getElem hi, Option.map_some,
      Option.getD_some]
    ext j hj
    simp
    grind
  · simp [List.getD_eq_getElem?_getD, List.getElem?_eq_none (Nat.le_of_not_lt hi)]

theorem State.cmdProvision_keeps {σ : State} {F : Nat} (s : State) (r : List Byte) (hF : 3534 ||| F = F) (hk : Keeps F σ s) :
    Keeps F σ (State.cmdProvision s r).1 := by
  unfold State.cmdProvision
  repeat' (first | with_reducible (first
    | assumption
    | refine State.inWindowOr_keeps _ _ _ (fun _ hk => ?_) (mask_trans rfl hF) ?_
    | refine State.evSec_keeps _ _ (mask_trans rfl hF) ?_
    | refine State.blowOwner_keeps _ _ _ (mask_trans rfl hF) ?_
    | refine State.tick_keeps _ (mask_trans rfl hF) ?_
    | refine State.writeBoth_keeps _ _ (mask_trans rfl hF) ?_
    | refine State.modSec_keeps _ _ (mask_trans rfl hF) ?_
    | refine keeps_ite_fst (fun _ => ?_) (fun _ => ?_)))

theorem State.setBoot_keeps {σ : State} {F : Nat} (s : State) (hi : Nat) (lo : Nat) (v : Nat) (hF : 8 ||| F = F) (hk : Keeps F σ s) :
    Keeps F σ (State.setBoot s hi lo v) := by
  unfold State.setBoot
  repeat' (first | with_reducible (first
    | assumption
    | refine State.setFld_keeps _ _ _ _ _ (mask_trans rfl hF) ?_))

theorem State.endStep_keeps {σ : State} {F : Nat} (s : State) (n : Nat) (hF : 520 ||| F = F) (hk : Keeps F σ s) :
    Keeps F σ (State.endStep s n) := by
  unfold State.endStep
  repeat' (first | with_reducible (first
    | assumption
    | refine State.setBoot_keeps _ _ _ _ (mask_trans rfl hF) ?_
    | refine State.setPwr_keeps _ _ (mask_trans rfl hF) ?_))

theorem State.noteFail_keeps {σ : State} {F : Nat} (s : State) (step : Nat) (code : Nat) (hF : 8 ||| F = F) (hk : Keeps F σ s) :
    Keeps F σ (State.noteFail s step code) := by
  unfold State.noteFail
  repeat' (first | with_reducible (first
    | assumption
    | refine State.setBoot_keeps _ _ _ _ (mask_trans rfl hF) ?_))

theorem State.stopBoot_keeps {σ : State} {F : Nat} (s : State) (mode : Nat) (hF : 13958513022 ||| F = F) (hk : Keeps F σ s) :
    Keeps F σ (State.stopBoot s mode) := by
  unfold State.stopBoot
  repeat' (first | with_reducible (first
    | assumption
    | refine State.partClear_keeps _ _ (mask_trans rfl hF) ?_
    | refine State.evDev_keeps _ _ (mask_trans rfl hF) ?_
    | refine State.setBoot_keeps _ _ _ _ (mask_trans rfl hF) ?_
    | refine keeps_foldl (fun _ _ hk => ?_) ?_))

theorem State.failPart_keeps {σ : State} {F : Nat} (s : State) (p : Nat) (step : Nat) (code : Nat) (hF : 13958513022 ||| F = F) (hk : Keeps F σ s) :
    Keeps F σ (State.failPart s p step code) := by
  unfold State.failPart
  repeat' (first | with_reducible (first
    | assumption
    | refine State.noteFail_keeps _ _ _ (mask_trans rfl hF) ?_
    | refine State.evDev_keeps _ _ (mask_trans rfl hF) ?_
    | refine State.setPart_keeps _ _ _ (mask_trans rfl hF) ?_
    | refine State.partClear_keeps _ _ (mask_trans rfl hF) ?_
    | refine keeps_ite (fun _ => ?_) (fun _ => ?_)))

theorem State.failSite_keeps {σ : State} {F : Nat} (s : State) (k : Nat) (hF : 13822853502 ||| F = F) (hk : Keeps F σ s) :
    Keeps F σ (State.failSite s k) := by
  unfold State.failSite
  repeat' (first | with_reducible (first
    | assumption
    | refine State.siteDown_keeps _ _ _ (mask_trans rfl hF) ?_
    | refine State.modSite_keeps _ _ _ (mask_trans rfl hF) ?_))

theorem State.loadRecord_keeps {σ : State} {F : Nat} (s : State) (hF : 2048 ||| F = F) (hk : Keeps F σ s) :
    Keeps F σ (State.loadRecord s) := by
  unfold State.loadRecord
  repeat' (first | with_reducible (first
    | assumption
    | refine State.modSec_keeps _ _ (mask_trans rfl hF) ?_) | split)

theorem State.trySlot_keeps {σ : State} {F : Nat} (s : State) (slot : Nat) (hF : 2510 ||| F = F) (hk : Keeps F σ s) :
    Keeps F σ (State.trySlot s slot) := by
  unfold State.trySlot
  repeat' (first | with_reducible (first
    | assumption
    | refine State.modSec_keeps _ _ (mask_trans rfl hF) ?_
    | refine State.evDev_keeps _ _ (mask_trans rfl hF) ?_
    | refine State.markBad_keeps _ _ _ (mask_trans rfl hF) ?_
    | refine keeps_ite (fun _ => ?_) (fun _ => ?_)))

theorem State.useBlob_keeps {σ : State} {F : Nat} (s : State) (slot : Nat) (env : BootEnv) (hF : 2380 ||| F = F) (hk : Keeps F σ s) :
    Keeps F σ (State.useBlob s slot env) := by
  unfold State.useBlob
  repeat' (first | with_reducible (first
    | assumption
    | refine State.modSec_keeps _ _ (mask_trans rfl hF) ?_
    | refine State.evDev_keeps _ _ (mask_trans rfl hF) ?_
    | refine keeps_ite (fun _ => ?_) (fun _ => ?_)))

theorem State.pickBlob_keeps {σ : State} {F : Nat} (s : State) (env : BootEnv) (hF : 2510 ||| F = F) (hk : Keeps F σ s) :
    Keeps F σ (State.pickBlob s env) := by
  unfold State.pickBlob
  repeat' (first | with_reducible (first
    | assumption
    | refine State.useBlob_keeps _ _ _ (mask_trans rfl hF) ?_
    | refine State.markBad_keeps _ _ _ (mask_trans rfl hF) ?_
    | refine State.evDev_keeps _ _ (mask_trans rfl hF) ?_
    | refine keeps_ite (fun _ => ?_) (fun _ => ?_)))

theorem State.identFail_keeps {σ : State} {F : Nat} (s : State) (dies : List (Nat × Nat)) (hF : 13958513022 ||| F = F) (hk : Keeps F σ s) :
    Keeps F σ (State.identFail s dies) := by
  unfold State.identFail
  repeat' (first | with_reducible (first
    | assumption
    | refine State.stopBoot_keeps _ _ (mask_trans rfl hF) ?_
    | refine State.noteFail_keeps _ _ _ (mask_trans rfl hF) ?_
    | refine State.emit_keeps _ _ (mask_trans rfl hF) ?_
    | refine keeps_foldl (fun _ _ hk => ?_) ?_))

theorem State.badRow_keeps {σ : State} {F : Nat} (s : State) (c : Nat) (row : Nat) (hF : 13958513022 ||| F = F) (hk : Keeps F σ s) :
    Keeps F σ (State.badRow s c row) := by
  unfold State.badRow
  repeat' (first | with_reducible (first
    | assumption
    | refine State.modClu_keeps _ _ _ (mask_trans rfl hF) ?_
    | refine State.failPart_keeps _ _ _ _ (mask_trans rfl hF) ?_
    | refine keeps_ite (fun _ => ?_) (fun _ => ?_)))

theorem State.failParts_keeps {σ : State} {F : Nat} (s : State) (ps : List Nat) (step : Nat) (code : Nat) (hF : 13958513022 ||| F = F) (hk : Keeps F σ s) :
    Keeps F σ (State.failParts s ps step code) := by
  unfold State.failParts
  repeat' (first | with_reducible (first
    | assumption
    | refine State.failPart_keeps _ _ _ _ (mask_trans rfl hF) ?_
    | refine keeps_foldl (fun _ _ hk => ?_) ?_))

theorem State.readyPart_keeps {σ : State} {F : Nat} (s : State) (p : Nat) (hF : 2621440 ||| F = F) (hk : Keeps F σ s) :
    Keeps F σ (State.readyPart s p) := by
  unfold State.readyPart
  repeat' (first | with_reducible (first
    | assumption
    | refine State.boxStart_keeps _ _ _ (mask_trans rfl hF) ?_
    | refine State.usherStart_keeps _ _ _ _ (mask_trans rfl hF) ?_
    | refine keeps_ite (fun _ => ?_) (fun _ => ?_)))

theorem State.lightSite_keeps {σ : State} {F : Nat} (s : State) (k : Nat) (hF : 8 ||| F = F) (hk : Keeps F σ s) :
    Keeps F σ (State.lightSite s k) := by
  unfold State.lightSite
  repeat' (first | with_reducible (first
    | assumption
    | refine State.setFld_keeps _ _ _ _ _ (mask_trans rfl hF) ?_
    | refine keeps_ite (fun _ => ?_) (fun _ => ?_)))

theorem State.failRoles_keeps {σ : State} {F : Nat} (s : State) (k : Nat) (hF : 268435456 ||| F = F) (hk : Keeps F σ s) :
    Keeps F σ (State.failRoles s k) := by
  unfold State.failRoles
  repeat' (first | with_reducible (first
    | assumption
    | refine State.modPort_keeps _ _ _ (mask_trans rfl hF) ?_
    | refine keeps_ite (fun _ => ?_) (fun _ => ?_)
    | refine keeps_foldl (fun _ _ hk => ?_) ?_))

theorem State.finishBoot_keeps {σ : State} {F : Nat} (s : State) (hF : 17179505534 ||| F = F) (hk : Keeps F σ s) :
    Keeps F σ (State.finishBoot s) := by
  unfold State.finishBoot
  repeat' (first | with_reducible (first
    | assumption
    | refine State.applySettings_keeps _ _ (mask_trans rfl hF) ?_
    | refine State.configure_keeps _ _ (mask_trans rfl hF) ?_
    | refine State.lockPage_keeps _ _ (mask_trans rfl hF) ?_
    | refine State.lockPartition_keeps _ _ (mask_trans rfl hF) ?_
    | refine State.enterStage_keeps _ (mask_trans rfl hF) ?_
    | refine State.endStep_keeps _ _ (mask_trans rfl hF) ?_
    | refine State.setBoot_keeps _ _ _ _ (mask_trans rfl hF) ?_
    | refine State.tick_keeps _ (mask_trans rfl hF) ?_
    | refine State.setReg_keeps _ _ _ (mask_trans rfl hF) ?_
    | refine State.startSite_keeps _ _ (mask_trans rfl hF) ?_
    | refine State.failRoles_keeps _ _ (mask_trans rfl hF) ?_
    | refine State.evDev_keeps _ _ (mask_trans rfl hF) ?_
    | refine keeps_ite (fun _ => ?_) (fun _ => ?_)
    | refine keeps_foldl (fun _ _ hk => ?_) ?_))

theorem State.closeBoot_keeps {σ : State} {F : Nat} (s : State) (hF : 512 ||| F = F) (hk : Keeps F σ s) :
    Keeps F σ (State.closeBoot s) := by
  unfold State.closeBoot
  repeat' (first | with_reducible (first
    | assumption
    | refine State.setPwr_keeps _ _ (mask_trans rfl hF) ?_))

theorem State.bootRom_keeps {σ : State} {F : Nat} (s : State) (env : BootEnv) (hF : 13958515582 ||| F = F) (hk : Keeps F σ s) :
    Keeps F σ (State.bootRom s env) := by
  unfold State.bootRom
  repeat' (first | with_reducible (first
    | assumption
    | refine State.endStep_keeps _ _ (mask_trans rfl hF) ?_
    | refine State.closeBoot_keeps _ (mask_trans rfl hF) ?_
    | refine State.stopBoot_keeps _ _ (mask_trans rfl hF) ?_
    | refine State.noteFail_keeps _ _ _ (mask_trans rfl hF) ?_
    | refine State.loadRecord_keeps _ (mask_trans rfl hF) ?_
    | refine keeps_ite (fun _ => ?_) (fun _ => ?_)))

theorem State.bootImages_keeps {σ : State} {F : Nat} (s : State) (env : BootEnv) (hF : 13958515710 ||| F = F) (hk : Keeps F σ s) :
    Keeps F σ (State.bootImages s env) := by
  unfold State.bootImages
  repeat' (first | with_reducible (first
    | assumption
    | refine State.endStep_keeps _ _ (mask_trans rfl hF) ?_
    | refine State.trySlot_keeps _ _ (mask_trans rfl hF) ?_
    | refine State.closeBoot_keeps _ (mask_trans rfl hF) ?_
    | refine State.stopBoot_keeps _ _ (mask_trans rfl hF) ?_
    | refine State.noteFail_keeps _ _ _ (mask_trans rfl hF) ?_
    | refine State.pickBlob_keeps _ _ (mask_trans rfl hF) ?_
    | refine keeps_ite (fun _ => ?_) (fun _ => ?_)
    | refine keeps_foldl (fun _ _ hk => ?_) ?_))

theorem State.bootDies_keeps {σ : State} {F : Nat} (s : State) (env : BootEnv) (hF : 13958513534 ||| F = F) (hk : Keeps F σ s) :
    Keeps F σ (State.bootDies s env) := by
  unfold State.bootDies
  repeat' (first | with_reducible (first
    | assumption
    | refine State.failParts_keeps _ _ _ _ (mask_trans rfl hF) ?_
    | refine State.noteFail_keeps _ _ _ (mask_trans rfl hF) ?_
    | refine State.failSite_keeps _ _ (mask_trans rfl hF) ?_
    | refine State.setPwr_keeps _ _ (mask_trans rfl hF) ?_
    | refine State.closeBoot_keeps _ (mask_trans rfl hF) ?_
    | refine State.identFail_keeps _ _ (mask_trans rfl hF) ?_
    | refine keeps_foldl (fun _ _ hk => ?_) ?_) | split)

theorem State.bootMemory_keeps {σ : State} {F : Nat} (s : State) (env : BootEnv) (hF : 13958513534 ||| F = F) (hk : Keeps F σ s) :
    Keeps F σ (State.bootMemory s env) := by
  unfold State.bootMemory
  repeat' (first | with_reducible (first
    | assumption
    | refine State.badRow_keeps _ _ _ (mask_trans rfl hF) ?_
    | refine State.failParts_keeps _ _ _ _ (mask_trans rfl hF) ?_
    | refine State.endStep_keeps _ _ (mask_trans rfl hF) ?_
    | refine keeps_foldl (fun _ _ hk => ?_) ?_))

theorem State.bootCores_keeps {σ : State} {F : Nat} (s : State) (env : BootEnv) (hF : 13958515582 ||| F = F) (hk : Keeps F σ s) :
    Keeps F σ (State.bootCores s env) := by
  unfold State.bootCores
  repeat' (first | with_reducible (first
    | assumption
    | refine State.endStep_keeps _ _ (mask_trans rfl hF) ?_
    | refine State.modSec_keeps _ _ (mask_trans rfl hF) ?_
    | refine State.failParts_keeps _ _ _ _ (mask_trans rfl hF) ?_))

theorem State.bootUnits_keeps {σ : State} {F : Nat} (s : State) (hF : 3670860 ||| F = F) (hk : Keeps F σ s) :
    Keeps F σ (State.bootUnits s) := by
  unfold State.bootUnits
  repeat' (first | with_reducible (first
    | assumption
    | refine State.applyBoardCap_keeps _ (mask_trans rfl hF) ?_
    | refine State.readyPart_keeps _ _ (mask_trans rfl hF) ?_
    | refine State.endStep_keeps _ _ (mask_trans rfl hF) ?_
    | refine State.lightSite_keeps _ _ (mask_trans rfl hF) ?_
    | refine keeps_foldl (fun _ _ hk => ?_) ?_))

theorem State.bootStep_keeps {σ : State} {F : Nat} (s : State) (env : BootEnv) (opened : Bool) (hF : 17179769854 ||| F = F) (hk : Keeps F σ s) :
    Keeps F σ (State.bootStep s env opened) := by
  unfold State.bootStep
  repeat' (first | with_reducible (first
    | assumption
    | refine State.bootRom_keeps _ _ (mask_trans rfl hF) ?_
    | refine State.bootImages_keeps _ _ (mask_trans rfl hF) ?_
    | refine State.endStep_keeps _ _ (mask_trans rfl hF) ?_
    | refine State.bootDies_keeps _ _ (mask_trans rfl hF) ?_
    | refine State.bootMemory_keeps _ _ (mask_trans rfl hF) ?_
    | refine State.failParts_keeps _ _ _ _ (mask_trans rfl hF) ?_
    | refine State.bootCores_keeps _ _ (mask_trans rfl hF) ?_
    | refine State.bootUnits_keeps _ (mask_trans rfl hF) ?_
    | refine State.closeBoot_keeps _ (mask_trans rfl hF) ?_
    | refine State.finishBoot_keeps _ (mask_trans rfl hF) ?_
    | refine keeps_ite (fun _ => ?_) (fun _ => ?_)) | split)

theorem State.bootOn_keeps {σ : State} {F : Nat} (s : State) (hF : 17179769854 ||| F = F) (hk : Keeps F σ s) :
    Keeps F σ (State.bootOn s) := by
  unfold State.bootOn
  repeat' (first | with_reducible (first
    | assumption
    | refine State.bootStep_keeps _ _ _ (mask_trans rfl hF) ?_
    | refine keeps_ite (fun _ => ?_) (fun _ => ?_)
    | refine keeps_forN (fun _ _ hk => ?_) ?_) | split)

theorem State.boot_keeps {σ : State} {F : Nat} (s : State) (env : BootEnv) (hF : 17179769854 ||| F = F) (hk : Keeps F σ s) :
    Keeps F σ (State.boot s env) := by
  unfold State.boot
  repeat' (first | with_reducible (first
    | assumption
    | refine State.setPwr_keeps _ _ (mask_trans rfl hF) ?_
    | refine State.bootOn_keeps _ (mask_trans rfl hF) ?_
    | refine State.setReg_keeps _ _ _ (mask_trans rfl hF) ?_
    | refine keeps_ite (fun _ => ?_) (fun _ => ?_)))

theorem State.overrun_keeps {σ : State} {F : Nat} (s : State) (env : BootEnv) (opened : Bool) (step : Nat) (parts : List Nat) (sites : List Nat) (hF : 17179769854 ||| F = F) (hk : Keeps F σ s) :
    Keeps F σ (State.overrun s env opened step parts sites) := by
  unfold State.overrun
  repeat' (first | with_reducible (first
    | assumption
    | refine State.noteFail_keeps _ _ _ (mask_trans rfl hF) ?_
    | refine State.closeBoot_keeps _ (mask_trans rfl hF) ?_
    | refine State.stopBoot_keeps _ _ (mask_trans rfl hF) ?_
    | refine State.failParts_keeps _ _ _ _ (mask_trans rfl hF) ?_
    | refine State.failSite_keeps _ _ (mask_trans rfl hF) ?_
    | refine State.bootOn_keeps _ (mask_trans rfl hF) ?_
    | refine State.setPwr_keeps _ _ (mask_trans rfl hF) ?_
    | refine keeps_ite (fun _ => ?_) (fun _ => ?_)
    | refine keeps_foldl (fun _ _ hk => ?_) ?_))

theorem State.descriptor_keeps {σ : State} {F : Nat} (s : State) (k : Nat) (d : List Byte) (licence : List Byte) (hF : 17179769854 ||| F = F) (hk : Keeps F σ s) :
    Keeps F σ (State.descriptor s k d licence) := by
  unfold State.descriptor
  repeat' (first | with_reducible (first
    | assumption
    | refine State.modSite_keeps _ _ _ (mask_trans rfl hF) ?_
    | refine State.bootOn_keeps _ (mask_trans rfl hF) ?_
    | refine State.failSite_keeps _ _ (mask_trans rfl hF) ?_
    | refine State.closeBoot_keeps _ (mask_trans rfl hF) ?_
    | refine State.identFail_keeps _ _ (mask_trans rfl hF) ?_
    | refine State.noteFail_keeps _ _ _ (mask_trans rfl hF) ?_
    | refine State.emit_keeps _ _ (mask_trans rfl hF) ?_
    | refine keeps_ite (fun _ => ?_) (fun _ => ?_)))

theorem State.selectEcho_keeps {σ : State} {F : Nat} (s : State) (k : Nat) (r : List Byte) (hF : 17179769854 ||| F = F) (hk : Keeps F σ s) :
    Keeps F σ (State.selectEcho s k r) := by
  unfold State.selectEcho
  repeat' (first | with_reducible (first
    | assumption
    | refine State.bootOn_keeps _ (mask_trans rfl hF) ?_
    | refine State.failSite_keeps _ _ (mask_trans rfl hF) ?_
    | refine State.modSite_keeps _ _ _ (mask_trans rfl hF) ?_
    | refine keeps_ite (fun _ => ?_) (fun _ => ?_)))

theorem State.spdmAt_keeps {σ : State} {F : Nat} (s : State) (n : Nat) (f : State → State) (hf : ∀ (t : State), Keeps F σ t → Keeps F σ (f t)) (hF : 4 ||| F = F) (hk : Keeps F σ s) :
    Keeps F σ (State.spdmAt s n f) := by
  unfold State.spdmAt
  repeat' (first | with_reducible (first
    | assumption
    | refine hf _ ?_
    | refine State.emit_keeps _ _ (mask_trans rfl hF) ?_
    | refine keeps_ite (fun _ => ?_) (fun _ => ?_)))

theorem State.spdmTo_keeps {σ : State} {F : Nat} (s : State) (n : Nat) (r : SpdmRsp) (hF : 2052 ||| F = F) (hk : Keeps F σ s) :
    Keeps F σ (State.spdmTo s n r) := by
  unfold State.spdmTo
  repeat' (first | with_reducible (first
    | assumption
    | refine State.emit_keeps _ _ (mask_trans rfl hF) ?_
    | refine State.modSec_keeps _ _ (mask_trans rfl hF) ?_))

theorem State.tapIn_keeps {σ : State} {F : Nat} (s : State) (die : Nat) (inst : Tap) (hF : 2054 ||| F = F) (hk : Keeps F σ s) :
    Keeps F σ (State.tapIn s die inst) := by
  unfold State.tapIn
  repeat' (first | with_reducible (first
    | assumption
    | refine State.emit_keeps _ _ (mask_trans rfl hF) ?_
    | refine State.modSec_keeps _ _ (mask_trans rfl hF) ?_
    | refine State.tick_keeps _ (mask_trans rfl hF) ?_) | split | (dsimp only; split))

end Sys2Proof.Machine
end

