-- ==== Sys2Proof/Laws/State.lean ====
section
/-! SUPPORT. One lemma for each field and each update of the state: an update leaves every other field, and what is read
through it, as it was; and what the updated field reads as. -/

namespace Sys2Proof.Machine

open Sys2Proof

variable (s : State)

@[simp] theorem State.setPart_ctrlClk (i : Nat) (x : PartSt) : (s.setPart i x).ctrlClk = s.ctrlClk := rfl
@[simp] theorem State.setPart_freeCtr (i : Nat) (x : PartSt) : (s.setPart i x).freeCtr = s.freeCtr := rfl
@[simp] theorem State.setPart_wire (i : Nat) (x : PartSt) : (s.setPart i x).wire = s.wire := rfl
@[simp] theorem State.setPart_regs (i : Nat) (x : PartSt) : (s.setPart i x).regs = s.regs := rfl
@[simp] theorem State.setPart_mem (i : Nat) (x : PartSt) : (s.setPart i x).mem = s.mem := rfl
@[simp] theorem State.setPart_ecc (i : Nat) (x : PartSt) : (s.setPart i x).ecc = s.ecc := rfl
@[simp] theorem State.setPart_host (i : Nat) (x : PartSt) : (s.setPart i x).host = s.host := rfl
@[simp] theorem State.setPart_flash (i : Nat) (x : PartSt) : (s.setPart i x).flash = s.flash := rfl
@[simp] theorem State.setPart_pba (i : Nat) (x : PartSt) : (s.setPart i x).pba = s.pba := rfl
@[simp] theorem State.setPart_pwr (i : Nat) (x : PartSt) : (s.setPart i x).pwr = s.pwr := rfl
@[simp] theorem State.setPart_fuses (i : Nat) (x : PartSt) : (s.setPart i x).fuses = s.fuses := rfl
@[simp] theorem State.setPart_sec (i : Nat) (x : PartSt) : (s.setPart i x).sec = s.sec := rfl
@[simp] theorem State.setPart_mbHost (i : Nat) (x : PartSt) : (s.setPart i x).mbHost = s.mbHost := rfl
@[simp] theorem State.setPart_mbBoard (i : Nat) (x : PartSt) : (s.setPart i x).mbBoard = s.mbBoard := rfl
@[simp] theorem State.setPart_mbOrder (i : Nat) (x : PartSt) : (s.setPart i x).mbOrder = s.mbOrder := rfl
@[simp] theorem State.setPart_fab (i : Nat) (x : PartSt) : (s.setPart i x).fab = s.fab := rfl
@[simp] theorem State.setPart_thm (i : Nat) (x : PartSt) : (s.setPart i x).thm = s.thm := rfl
@[simp] theorem State.setPart_tsu (i : Nat) (x : PartSt) : (s.setPart i x).tsu = s.tsu := rfl
@[simp] theorem State.setPart_boxes (i : Nat) (x : PartSt) : (s.setPart i x).boxes = s.boxes := rfl
@[simp] theorem State.setPart_loans (i : Nat) (x : PartSt) : (s.setPart i x).loans = s.loans := rfl
@[simp] theorem State.setPart_ushers (i : Nat) (x : PartSt) : (s.setPart i x).ushers = s.ushers := rfl
@[simp] theorem State.setPart_syncs (i : Nat) (x : PartSt) : (s.setPart i x).syncs = s.syncs := rfl
@[simp] theorem State.setPart_clus (i : Nat) (x : PartSt) : (s.setPart i x).clus = s.clus := rfl
@[simp] theorem State.setPart_cores (i : Nat) (x : PartSt) : (s.setPart i x).cores = s.cores := rfl
@[simp] theorem State.setPart_chans (i : Nat) (x : PartSt) : (s.setPart i x).chans = s.chans := rfl
@[simp] theorem State.setPart_sites (i : Nat) (x : PartSt) : (s.setPart i x).sites = s.sites := rfl
@[simp] theorem State.setPart_rings (i : Nat) (x : PartSt) : (s.setPart i x).rings = s.rings := rfl
@[simp] theorem State.setPart_ports (i : Nat) (x : PartSt) : (s.setPart i x).ports = s.ports := rfl
@[simp] theorem State.setPart_links (i : Nat) (x : PartSt) : (s.setPart i x).links = s.links := rfl
@[simp] theorem State.setPart_peers (i : Nat) (x : PartSt) : (s.setPart i x).peers = s.peers := rfl
@[simp] theorem State.setPart_croutes (i : Nat) (x : PartSt) : (s.setPart i x).croutes = s.croutes := rfl
@[simp] theorem State.setPart_inbox (i : Nat) (x : PartSt) : (s.setPart i x).inbox = s.inbox := rfl
@[simp] theorem State.setPart_relay (i : Nat) (x : PartSt) : (s.setPart i x).relay = s.relay := rfl
@[simp] theorem State.setPart_hostBad (i : Nat) (x : PartSt) : (s.setPart i x).hostBad = s.hostBad := rfl
@[simp] theorem State.setPart_pending (i : Nat) (x : PartSt) : (s.setPart i x).pending = s.pending := rfl
@[simp] theorem State.setPart_box (i : Nat) (x : PartSt) (j : Nat) : (s.setPart i x).box j = s.box j := rfl
@[simp] theorem State.setPart_usher (i : Nat) (x : PartSt) (j : Nat) : (s.setPart i x).usher j = s.usher j := rfl
@[simp] theorem State.setPart_sync (i : Nat) (x : PartSt) (j : Nat) : (s.setPart i x).sync j = s.sync j := rfl
@[simp] theorem State.setPart_clu (i : Nat) (x : PartSt) (j : Nat) : (s.setPart i x).clu j = s.clu j := rfl
@[simp] theorem State.setPart_core (i : Nat) (x : PartSt) (j : Nat) : (s.setPart i x).core j = s.core j := rfl
@[simp] theorem State.setPart_chan (i : Nat) (x : PartSt) (j : Nat) : (s.setPart i x).chan j = s.chan j := rfl
@[simp] theorem State.setPart_site (i : Nat) (x : PartSt) (j : Nat) : (s.setPart i x).site j = s.site j := rfl
@[simp] theorem State.setPart_ring (i : Nat) (x : PartSt) (j : Nat) : (s.setPart i x).ring j = s.ring j := rfl
@[simp] theorem State.setPart_port (i : Nat) (x : PartSt) (j : Nat) : (s.setPart i x).port j = s.port j := rfl
@[simp] theorem State.setPart_link (i : Nat) (x : PartSt) (j : Nat) : (s.setPart i x).link j = s.link j := rfl
@[simp] theorem State.setPart_inboxOf (i : Nat) (x : PartSt) (j : Nat) : (s.setPart i x).inboxOf j = s.inboxOf j := rfl
@[simp] theorem State.setPart_relayOf (i : Nat) (x : PartSt) (j : Nat) : (s.setPart i x).relayOf j = s.relayOf j := rfl
@[simp] theorem State.setPart_reg (i : Nat) (x : PartSt) (j : Nat) : (s.setPart i x).reg j = s.reg j := rfl

@[simp] theorem State.modPart_ctrlClk (i : Nat) (f : PartSt → PartSt) : (s.modPart i f).ctrlClk = s.ctrlClk := rfl
@[simp] theorem State.modPart_freeCtr (i : Nat) (f : PartSt → PartSt) : (s.modPart i f).freeCtr = s.freeCtr := rfl
@[simp] theorem State.modPart_wire (i : Nat) (f : PartSt → PartSt) : (s.modPart i f).wire = s.wire := rfl
@[simp] theorem State.modPart_regs (i : Nat) (f : PartSt → PartSt) : (s.modPart i f).regs = s.regs := rfl
@[simp] theorem State.modPart_mem (i : Nat) (f : PartSt → PartSt) : (s.modPart i f).mem = s.mem := rfl
@[simp] theorem State.modPart_ecc (i : Nat) (f : PartSt → PartSt) : (s.modPart i f).ecc = s.ecc := rfl
@[simp] theorem State.modPart_host (i : Nat) (f : PartSt → PartSt) : (s.modPart i f).host = s.host := rfl
@[simp] theorem State.modPart_flash (i : Nat) (f : PartSt → PartSt) : (s.modPart i f).flash = s.flash := rfl
@[simp] theorem State.modPart_pba (i : Nat) (f : PartSt → PartSt) : (s.modPart i f).pba = s.pba := rfl
@[simp] theorem State.modPart_pwr (i : Nat) (f : PartSt → PartSt) : (s.modPart i f).pwr = s.pwr := rfl
@[simp] theorem State.modPart_fuses (i : Nat) (f : PartSt → PartSt) : (s.modPart i f).fuses = s.fuses := rfl
@[simp] theorem State.modPart_sec (i : Nat) (f : PartSt → PartSt) : (s.modPart i f).sec = s.sec := rfl
@[simp] theorem State.modPart_mbHost (i : Nat) (f : PartSt → PartSt) : (s.modPart i f).mbHost = s.mbHost := rfl
@[simp] theorem State.modPart_mbBoard (i : Nat) (f : PartSt → PartSt) : (s.modPart i f).mbBoard = s.mbBoard := rfl
@[simp] theorem State.modPart_mbOrder (i : Nat) (f : PartSt → PartSt) : (s.modPart i f).mbOrder = s.mbOrder := rfl
@[simp] theorem State.modPart_fab (i : Nat) (f : PartSt → PartSt) : (s.modPart i f).fab = s.fab := rfl
@[simp] theorem State.modPart_thm (i : Nat) (f : PartSt → PartSt) : (s.modPart i f).thm = s.thm := rfl
@[simp] theorem State.modPart_tsu (i : Nat) (f : PartSt → PartSt) : (s.modPart i f).tsu = s.tsu := rfl
@[simp] theorem State.modPart_boxes (i : Nat) (f : PartSt → PartSt) : (s.modPart i f).boxes = s.boxes := rfl
@[simp] theorem State.modPart_loans (i : Nat) (f : PartSt → PartSt) : (s.modPart i f).loans = s.loans := rfl
@[simp] theorem State.modPart_ushers (i : Nat) (f : PartSt → PartSt) : (s.modPart i f).ushers = s.ushers := rfl
@[simp] theorem State.modPart_syncs (i : Nat) (f : PartSt → PartSt) : (s.modPart i f).syncs = s.syncs := rfl
@[simp] theorem State.modPart_clus (i : Nat) (f : PartSt → PartSt) : (s.modPart i f).clus = s.clus := rfl
@[simp] theorem State.modPart_cores (i : Nat) (f : PartSt → PartSt) : (s.modPart i f).cores = s.cores := rfl
@[simp] theorem State.modPart_chans (i : Nat) (f : PartSt → PartSt) : (s.modPart i f).chans = s.chans := rfl
@[simp] theorem State.modPart_sites (i : Nat) (f : PartSt → PartSt) : (s.modPart i f).sites = s.sites := rfl
@[simp] theorem State.modPart_rings (i : Nat) (f : PartSt → PartSt) : (s.modPart i f).rings = s.rings := rfl
@[simp] theorem State.modPart_ports (i : Nat) (f : PartSt → PartSt) : (s.modPart i f).ports = s.ports := rfl
@[simp] theorem State.modPart_links (i : Nat) (f : PartSt → PartSt) : (s.modPart i f).links = s.links := rfl
@[simp] theorem State.modPart_peers (i : Nat) (f : PartSt → PartSt) : (s.modPart i f).peers = s.peers := rfl
@[simp] theorem State.modPart_croutes (i : Nat) (f : PartSt → PartSt) : (s.modPart i f).croutes = s.croutes := rfl
@[simp] theorem State.modPart_inbox (i : Nat) (f : PartSt → PartSt) : (s.modPart i f).inbox = s.inbox := rfl
@[simp] theorem State.modPart_relay (i : Nat) (f : PartSt → PartSt) : (s.modPart i f).relay = s.relay := rfl
@[simp] theorem State.modPart_hostBad (i : Nat) (f : PartSt → PartSt) : (s.modPart i f).hostBad = s.hostBad := rfl
@[simp] theorem State.modPart_pending (i : Nat) (f : PartSt → PartSt) : (s.modPart i f).pending = s.pending := rfl
@[simp] theorem State.modPart_box (i : Nat) (f : PartSt → PartSt) (j : Nat) : (s.modPart i f).box j = s.box j := rfl
@[simp] theorem State.modPart_usher (i : Nat) (f : PartSt → PartSt) (j : Nat) : (s.modPart i f).usher j = s.usher j := rfl
@[simp] theorem State.modPart_sync (i : Nat) (f : PartSt → PartSt) (j : Nat) : (s.modPart i f).sync j = s.sync j := rfl
@[simp] theorem State.modPart_clu (i : Nat) (f : PartSt → PartSt) (j : Nat) : (s.modPart i f).clu j = s.clu j := rfl
@[simp] theorem State.modPart_core (i : Nat) (f : PartSt → PartSt) (j : Nat) : (s.modPart i f).core j = s.core j := rfl
@[simp] theorem State.modPart_chan (i : Nat) (f : PartSt → PartSt) (j : Nat) : (s.modPart i f).chan j = s.chan j := rfl
@[simp] theorem State.modPart_site (i : Nat) (f : PartSt → PartSt) (j : Nat) : (s.modPart i f).site j = s.site j := rfl
@[simp] theorem State.modPart_ring (i : Nat) (f : PartSt → PartSt) (j : Nat) : (s.modPart i f).ring j = s.ring j := rfl
@[simp] theorem State.modPart_port (i : Nat) (f : PartSt → PartSt) (j : Nat) : (s.modPart i f).port j = s.port j := rfl
@[simp] theorem State.modPart_link (i : Nat) (f : PartSt → PartSt) (j : Nat) : (s.modPart i f).link j = s.link j := rfl
@[simp] theorem State.modPart_inboxOf (i : Nat) (f : PartSt → PartSt) (j : Nat) : (s.modPart i f).inboxOf j = s.inboxOf j := rfl
@[simp] theorem State.modPart_relayOf (i : Nat) (f : PartSt → PartSt) (j : Nat) : (s.modPart i f).relayOf j = s.relayOf j := rfl
@[simp] theorem State.modPart_reg (i : Nat) (f : PartSt → PartSt) (j : Nat) : (s.modPart i f).reg j = s.reg j := rfl

@[simp] theorem State.setBox_ctrlClk (i : Nat) (x : BoxSt) : (s.setBox i x).ctrlClk = s.ctrlClk := rfl
@[simp] theorem State.setBox_freeCtr (i : Nat) (x : BoxSt) : (s.setBox i x).freeCtr = s.freeCtr := rfl
@[simp] theorem State.setBox_wire (i : Nat) (x : BoxSt) : (s.setBox i x).wire = s.wire := rfl
@[simp] theorem State.setBox_regs (i : Nat) (x : BoxSt) : (s.setBox i x).regs = s.regs := rfl
@[simp] theorem State.setBox_mem (i : Nat) (x : BoxSt) : (s.setBox i x).mem = s.mem := rfl
@[simp] theorem State.setBox_ecc (i : Nat) (x : BoxSt) : (s.setBox i x).ecc = s.ecc := rfl
@[simp] theorem State.setBox_host (i : Nat) (x : BoxSt) : (s.setBox i x).host = s.host := rfl
@[simp] theorem State.setBox_flash (i : Nat) (x : BoxSt) : (s.setBox i x).flash = s.flash := rfl
@[simp] theorem State.setBox_pba (i : Nat) (x : BoxSt) : (s.setBox i x).pba = s.pba := rfl
@[simp] theorem State.setBox_pwr (i : Nat) (x : BoxSt) : (s.setBox i x).pwr = s.pwr := rfl
@[simp] theorem State.setBox_fuses (i : Nat) (x : BoxSt) : (s.setBox i x).fuses = s.fuses := rfl
@[simp] theorem State.setBox_sec (i : Nat) (x : BoxSt) : (s.setBox i x).sec = s.sec := rfl
@[simp] theorem State.setBox_mbHost (i : Nat) (x : BoxSt) : (s.setBox i x).mbHost = s.mbHost := rfl
@[simp] theorem State.setBox_mbBoard (i : Nat) (x : BoxSt) : (s.setBox i x).mbBoard = s.mbBoard := rfl
@[simp] theorem State.setBox_mbOrder (i : Nat) (x : BoxSt) : (s.setBox i x).mbOrder = s.mbOrder := rfl
@[simp] theorem State.setBox_fab (i : Nat) (x : BoxSt) : (s.setBox i x).fab = s.fab := rfl
@[simp] theorem State.setBox_thm (i : Nat) (x : BoxSt) : (s.setBox i x).thm = s.thm := rfl
@[simp] theorem State.setBox_tsu (i : Nat) (x : BoxSt) : (s.setBox i x).tsu = s.tsu := rfl
@[simp] theorem State.setBox_parts (i : Nat) (x : BoxSt) : (s.setBox i x).parts = s.parts := rfl
@[simp] theorem State.setBox_loans (i : Nat) (x : BoxSt) : (s.setBox i x).loans = s.loans := rfl
@[simp] theorem State.setBox_ushers (i : Nat) (x : BoxSt) : (s.setBox i x).ushers = s.ushers := rfl
@[simp] theorem State.setBox_syncs (i : Nat) (x : BoxSt) : (s.setBox i x).syncs = s.syncs := rfl
@[simp] theorem State.setBox_clus (i : Nat) (x : BoxSt) : (s.setBox i x).clus = s.clus := rfl
@[simp] theorem State.setBox_cores (i : Nat) (x : BoxSt) : (s.setBox i x).cores = s.cores := rfl
@[simp] theorem State.setBox_chans (i : Nat) (x : BoxSt) : (s.setBox i x).chans = s.chans := rfl
@[simp] theorem State.setBox_sites (i : Nat) (x : BoxSt) : (s.setBox i x).sites = s.sites := rfl
@[simp] theorem State.setBox_rings (i : Nat) (x : BoxSt) : (s.setBox i x).rings = s.rings := rfl
@[simp] theorem State.setBox_ports (i : Nat) (x : BoxSt) : (s.setBox i x).ports = s.ports := rfl
@[simp] theorem State.setBox_links (i : Nat) (x : BoxSt) : (s.setBox i x).links = s.links := rfl
@[simp] theorem State.setBox_peers (i : Nat) (x : BoxSt) : (s.setBox i x).peers = s.peers := rfl
@[simp] theorem State.setBox_croutes (i : Nat) (x : BoxSt) : (s.setBox i x).croutes = s.croutes := rfl
@[simp] theorem State.setBox_inbox (i : Nat) (x : BoxSt) : (s.setBox i x).inbox = s.inbox := rfl
@[simp] theorem State.setBox_relay (i : Nat) (x : BoxSt) : (s.setBox i x).relay = s.relay := rfl
@[simp] theorem State.setBox_hostBad (i : Nat) (x : BoxSt) : (s.setBox i x).hostBad = s.hostBad := rfl
@[simp] theorem State.setBox_pending (i : Nat) (x : BoxSt) : (s.setBox i x).pending = s.pending := rfl
@[simp] theorem State.setBox_part (i : Nat) (x : BoxSt) (j : Nat) : (s.setBox i x).part j = s.part j := rfl
@[simp] theorem State.setBox_usher (i : Nat) (x : BoxSt) (j : Nat) : (s.setBox i x).usher j = s.usher j := rfl
@[simp] theorem State.setBox_sync (i : Nat) (x : BoxSt) (j : Nat) : (s.setBox i x).sync j = s.sync j := rfl
@[simp] theorem State.setBox_clu (i : Nat) (x : BoxSt) (j : Nat) : (s.setBox i x).clu j = s.clu j := rfl
@[simp] theorem State.setBox_core (i : Nat) (x : BoxSt) (j : Nat) : (s.setBox i x).core j = s.core j := rfl
@[simp] theorem State.setBox_chan (i : Nat) (x : BoxSt) (j : Nat) : (s.setBox i x).chan j = s.chan j := rfl
@[simp] theorem State.setBox_site (i : Nat) (x : BoxSt) (j : Nat) : (s.setBox i x).site j = s.site j := rfl
@[simp] theorem State.setBox_ring (i : Nat) (x : BoxSt) (j : Nat) : (s.setBox i x).ring j = s.ring j := rfl
@[simp] theorem State.setBox_port (i : Nat) (x : BoxSt) (j : Nat) : (s.setBox i x).port j = s.port j := rfl
@[simp] theorem State.setBox_link (i : Nat) (x : BoxSt) (j : Nat) : (s.setBox i x).link j = s.link j := rfl
@[simp] theorem State.setBox_inboxOf (i : Nat) (x : BoxSt) (j : Nat) : (s.setBox i x).inboxOf j = s.inboxOf j := rfl
@[simp] theorem State.setBox_relayOf (i : Nat) (x : BoxSt) (j : Nat) : (s.setBox i x).relayOf j = s.relayOf j := rfl
@[simp] theorem State.setBox_reg (i : Nat) (x : BoxSt) (j : Nat) : (s.setBox i x).reg j = s.reg j := rfl

@[simp] theorem State.modBox_ctrlClk (i : Nat) (f : BoxSt → BoxSt) : (s.modBox i f).ctrlClk = s.ctrlClk := rfl
@[simp] theorem State.modBox_freeCtr (i : Nat) (f : BoxSt → BoxSt) : (s.modBox i f).freeCtr = s.freeCtr := rfl
@[simp] theorem State.modBox_wire (i : Nat) (f : BoxSt → BoxSt) : (s.modBox i f).wire = s.wire := rfl
@[simp] theorem State.modBox_regs (i : Nat) (f : BoxSt → BoxSt) : (s.modBox i f).regs = s.regs := rfl
@[simp] theorem State.modBox_mem (i : Nat) (f : BoxSt → BoxSt) : (s.modBox i f).mem = s.mem := rfl
@[simp] theorem State.modBox_ecc (i : Nat) (f : BoxSt → BoxSt) : (s.modBox i f).ecc = s.ecc := rfl
@[simp] theorem State.modBox_host (i : Nat) (f : BoxSt → BoxSt) : (s.modBox i f).host = s.host := rfl
@[simp] theorem State.modBox_flash (i : Nat) (f : BoxSt → BoxSt) : (s.modBox i f).flash = s.flash := rfl
@[simp] theorem State.modBox_pba (i : Nat) (f : BoxSt → BoxSt) : (s.modBox i f).pba = s.pba := rfl
@[simp] theorem State.modBox_pwr (i : Nat) (f : BoxSt → BoxSt) : (s.modBox i f).pwr = s.pwr := rfl
@[simp] theorem State.modBox_fuses (i : Nat) (f : BoxSt → BoxSt) : (s.modBox i f).fuses = s.fuses := rfl
@[simp] theorem State.modBox_sec (i : Nat) (f : BoxSt → BoxSt) : (s.modBox i f).sec = s.sec := rfl
@[simp] theorem State.modBox_mbHost (i : Nat) (f : BoxSt → BoxSt) : (s.modBox i f).mbHost = s.mbHost := rfl
@[simp] theorem State.modBox_mbBoard (i : Nat) (f : BoxSt → BoxSt) : (s.modBox i f).mbBoard = s.mbBoard := rfl
@[simp] theorem State.modBox_mbOrder (i : Nat) (f : BoxSt → BoxSt) : (s.modBox i f).mbOrder = s.mbOrder := rfl
@[simp] theorem State.modBox_fab (i : Nat) (f : BoxSt → BoxSt) : (s.modBox i f).fab = s.fab := rfl
@[simp] theorem State.modBox_thm (i : Nat) (f : BoxSt → BoxSt) : (s.modBox i f).thm = s.thm := rfl
@[simp] theorem State.modBox_tsu (i : Nat) (f : BoxSt → BoxSt) : (s.modBox i f).tsu = s.tsu := rfl
@[simp] theorem State.modBox_parts (i : Nat) (f : BoxSt → BoxSt) : (s.modBox i f).parts = s.parts := rfl
@[simp] theorem State.modBox_loans (i : Nat) (f : BoxSt → BoxSt) : (s.modBox i f).loans = s.loans := rfl
@[simp] theorem State.modBox_ushers (i : Nat) (f : BoxSt → BoxSt) : (s.modBox i f).ushers = s.ushers := rfl
@[simp] theorem State.modBox_syncs (i : Nat) (f : BoxSt → BoxSt) : (s.modBox i f).syncs = s.syncs := rfl
@[simp] theorem State.modBox_clus (i : Nat) (f : BoxSt → BoxSt) : (s.modBox i f).clus = s.clus := rfl
@[simp] theorem State.modBox_cores (i : Nat) (f : BoxSt → BoxSt) : (s.modBox i f).cores = s.cores := rfl
@[simp] theorem State.modBox_chans (i : Nat) (f : BoxSt → BoxSt) : (s.modBox i f).chans = s.chans := rfl
@[simp] theorem State.modBox_sites (i : Nat) (f : BoxSt → BoxSt) : (s.modBox i f).sites = s.sites := rfl
@[simp] theorem State.modBox_rings (i : Nat) (f : BoxSt → BoxSt) : (s.modBox i f).rings = s.rings := rfl
@[simp] theorem State.modBox_ports (i : Nat) (f : BoxSt → BoxSt) : (s.modBox i f).ports = s.ports := rfl
@[simp] theorem State.modBox_links (i : Nat) (f : BoxSt → BoxSt) : (s.modBox i f).links = s.links := rfl
@[simp] theorem State.modBox_peers (i : Nat) (f : BoxSt → BoxSt) : (s.modBox i f).peers = s.peers := rfl
@[simp] theorem State.modBox_croutes (i : Nat) (f : BoxSt → BoxSt) : (s.modBox i f).croutes = s.croutes := rfl
@[simp] theorem State.modBox_inbox (i : Nat) (f : BoxSt → BoxSt) : (s.modBox i f).inbox = s.inbox := rfl
@[simp] theorem State.modBox_relay (i : Nat) (f : BoxSt → BoxSt) : (s.modBox i f).relay = s.relay := rfl
@[simp] theorem State.modBox_hostBad (i : Nat) (f : BoxSt → BoxSt) : (s.modBox i f).hostBad = s.hostBad := rfl
@[simp] theorem State.modBox_pending (i : Nat) (f : BoxSt → BoxSt) : (s.modBox i f).pending = s.pending := rfl
@[simp] theorem State.modBox_part (i : Nat) (f : BoxSt → BoxSt) (j : Nat) : (s.modBox i f).part j = s.part j := rfl
@[simp] theorem State.modBox_usher (i : Nat) (f : BoxSt → BoxSt) (j : Nat) : (s.modBox i f).usher j = s.usher j := rfl
@[simp] theorem State.modBox_sync (i : Nat) (f : BoxSt → BoxSt) (j : Nat) : (s.modBox i f).sync j = s.sync j := rfl
@[simp] theorem State.modBox_clu (i : Nat) (f : BoxSt → BoxSt) (j : Nat) : (s.modBox i f).clu j = s.clu j := rfl
@[simp] theorem State.modBox_core (i : Nat) (f : BoxSt → BoxSt) (j : Nat) : (s.modBox i f).core j = s.core j := rfl
@[simp] theorem State.modBox_chan (i : Nat) (f : BoxSt → BoxSt) (j : Nat) : (s.modBox i f).chan j = s.chan j := rfl
@[simp] theorem State.modBox_site (i : Nat) (f : BoxSt → BoxSt) (j : Nat) : (s.modBox i f).site j = s.site j := rfl
@[simp] theorem State.modBox_ring (i : Nat) (f : BoxSt → BoxSt) (j : Nat) : (s.modBox i f).ring j = s.ring j := rfl
@[simp] theorem State.modBox_port (i : Nat) (f : BoxSt → BoxSt) (j : Nat) : (s.modBox i f).port j = s.port j := rfl
@[simp] theorem State.modBox_link (i : Nat) (f : BoxSt → BoxSt) (j : Nat) : (s.modBox i f).link j = s.link j := rfl
@[simp] theorem State.modBox_inboxOf (i : Nat) (f : BoxSt → BoxSt) (j : Nat) : (s.modBox i f).inboxOf j = s.inboxOf j := rfl
@[simp] theorem State.modBox_relayOf (i : Nat) (f : BoxSt → BoxSt) (j : Nat) : (s.modBox i f).relayOf j = s.relayOf j := rfl
@[simp] theorem State.modBox_reg (i : Nat) (f : BoxSt → BoxSt) (j : Nat) : (s.modBox i f).reg j = s.reg j := rfl

@[simp] theorem State.setUsher_ctrlClk (i : Nat) (x : UshSt) : (s.setUsher i x).ctrlClk = s.ctrlClk := rfl
@[simp] theorem State.setUsher_freeCtr (i : Nat) (x : UshSt) : (s.setUsher i x).freeCtr = s.freeCtr := rfl
@[simp] theorem State.setUsher_wire (i : Nat) (x : UshSt) : (s.setUsher i x).wire = s.wire := rfl
@[simp] theorem State.setUsher_regs (i : Nat) (x : UshSt) : (s.setUsher i x).regs = s.regs := rfl
@[simp] theorem State.setUsher_mem (i : Nat) (x : UshSt) : (s.setUsher i x).mem = s.mem := rfl
@[simp] theorem State.setUsher_ecc (i : Nat) (x : UshSt) : (s.setUsher i x).ecc = s.ecc := rfl
@[simp] theorem State.setUsher_host (i : Nat) (x : UshSt) : (s.setUsher i x).host = s.host := rfl
@[simp] theorem State.setUsher_flash (i : Nat) (x : UshSt) : (s.setUsher i x).flash = s.flash := rfl
@[simp] theorem State.setUsher_pba (i : Nat) (x : UshSt) : (s.setUsher i x).pba = s.pba := rfl
@[simp] theorem State.setUsher_pwr (i : Nat) (x : UshSt) : (s.setUsher i x).pwr = s.pwr := rfl
@[simp] theorem State.setUsher_fuses (i : Nat) (x : UshSt) : (s.setUsher i x).fuses = s.fuses := rfl
@[simp] theorem State.setUsher_sec (i : Nat) (x : UshSt) : (s.setUsher i x).sec = s.sec := rfl
@[simp] theorem State.setUsher_mbHost (i : Nat) (x : UshSt) : (s.setUsher i x).mbHost = s.mbHost := rfl
@[simp] theorem State.setUsher_mbBoard (i : Nat) (x : UshSt) : (s.setUsher i x).mbBoard = s.mbBoard := rfl
@[simp] theorem State.setUsher_mbOrder (i : Nat) (x : UshSt) : (s.setUsher i x).mbOrder = s.mbOrder := rfl
@[simp] theorem State.setUsher_fab (i : Nat) (x : UshSt) : (s.setUsher i x).fab = s.fab := rfl
@[simp] theorem State.setUsher_thm (i : Nat) (x : UshSt) : (s.setUsher i x).thm = s.thm := rfl
@[simp] theorem State.setUsher_tsu (i : Nat) (x : UshSt) : (s.setUsher i x).tsu = s.tsu := rfl
@[simp] theorem State.setUsher_parts (i : Nat) (x : UshSt) : (s.setUsher i x).parts = s.parts := rfl
@[simp] theorem State.setUsher_boxes (i : Nat) (x : UshSt) : (s.setUsher i x).boxes = s.boxes := rfl
@[simp] theorem State.setUsher_loans (i : Nat) (x : UshSt) : (s.setUsher i x).loans = s.loans := rfl
@[simp] theorem State.setUsher_syncs (i : Nat) (x : UshSt) : (s.setUsher i x).syncs = s.syncs := rfl
@[simp] theorem State.setUsher_clus (i : Nat) (x : UshSt) : (s.setUsher i x).clus = s.clus := rfl
@[simp] theorem State.setUsher_cores (i : Nat) (x : UshSt) : (s.setUsher i x).cores = s.cores := rfl
@[simp] theorem State.setUsher_chans (i : Nat) (x : UshSt) : (s.setUsher i x).chans = s.chans := rfl
@[simp] theorem State.setUsher_sites (i : Nat) (x : UshSt) : (s.setUsher i x).sites = s.sites := rfl
@[simp] theorem State.setUsher_rings (i : Nat) (x : UshSt) : (s.setUsher i x).rings = s.rings := rfl
@[simp] theorem State.setUsher_ports (i : Nat) (x : UshSt) : (s.setUsher i x).ports = s.ports := rfl
@[simp] theorem State.setUsher_links (i : Nat) (x : UshSt) : (s.setUsher i x).links = s.links := rfl
@[simp] theorem State.setUsher_peers (i : Nat) (x : UshSt) : (s.setUsher i x).peers = s.peers := rfl
@[simp] theorem State.setUsher_croutes (i : Nat) (x : UshSt) : (s.setUsher i x).croutes = s.croutes := rfl
@[simp] theorem State.setUsher_inbox (i : Nat) (x : UshSt) : (s.setUsher i x).inbox = s.inbox := rfl
@[simp] theorem State.setUsher_relay (i : Nat) (x : UshSt) : (s.setUsher i x).relay = s.relay := rfl
@[simp] theorem State.setUsher_hostBad (i : Nat) (x : UshSt) : (s.setUsher i x).hostBad = s.hostBad := rfl
@[simp] theorem State.setUsher_pending (i : Nat) (x : UshSt) : (s.setUsher i x).pending = s.pending := rfl
@[simp] theorem State.setUsher_part (i : Nat) (x : UshSt) (j : Nat) : (s.setUsher i x).part j = s.part j := rfl
@[simp] theorem State.setUsher_box (i : Nat) (x : UshSt) (j : Nat) : (s.setUsher i x).box j = s.box j := rfl
@[simp] theorem State.setUsher_sync (i : Nat) (x : UshSt) (j : Nat) : (s.setUsher i x).sync j = s.sync j := rfl
@[simp] theorem State.setUsher_clu (i : Nat) (x : UshSt) (j : Nat) : (s.setUsher i x).clu j = s.clu j := rfl
@[simp] theorem State.setUsher_core (i : Nat) (x : UshSt) (j : Nat) : (s.setUsher i x).core j = s.core j := rfl
@[simp] theorem State.setUsher_chan (i : Nat) (x : UshSt) (j : Nat) : (s.setUsher i x).chan j = s.chan j := rfl
@[simp] theorem State.setUsher_site (i : Nat) (x : UshSt) (j : Nat) : (s.setUsher i x).site j = s.site j := rfl
@[simp] theorem State.setUsher_ring (i : Nat) (x : UshSt) (j : Nat) : (s.setUsher i x).ring j = s.ring j := rfl
@[simp] theorem State.setUsher_port (i : Nat) (x : UshSt) (j : Nat) : (s.setUsher i x).port j = s.port j := rfl
@[simp] theorem State.setUsher_link (i : Nat) (x : UshSt) (j : Nat) : (s.setUsher i x).link j = s.link j := rfl
@[simp] theorem State.setUsher_inboxOf (i : Nat) (x : UshSt) (j : Nat) : (s.setUsher i x).inboxOf j = s.inboxOf j := rfl
@[simp] theorem State.setUsher_relayOf (i : Nat) (x : UshSt) (j : Nat) : (s.setUsher i x).relayOf j = s.relayOf j := rfl
@[simp] theorem State.setUsher_reg (i : Nat) (x : UshSt) (j : Nat) : (s.setUsher i x).reg j = s.reg j := rfl

@[simp] theorem State.modUsher_ctrlClk (i : Nat) (f : UshSt → UshSt) : (s.modUsher i f).ctrlClk = s.ctrlClk := rfl
@[simp] theorem State.modUsher_freeCtr (i : Nat) (f : UshSt → UshSt) : (s.modUsher i f).freeCtr = s.freeCtr := rfl
@[simp] theorem State.modUsher_wire (i : Nat) (f : UshSt → UshSt) : (s.modUsher i f).wire = s.wire := rfl
@[simp] theorem State.modUsher_regs (i : Nat) (f : UshSt → UshSt) : (s.modUsher i f).regs = s.regs := rfl
@[simp] theorem State.modUsher_mem (i : Nat) (f : UshSt → UshSt) : (s.modUsher i f).mem = s.mem := rfl
@[simp] theorem State.modUsher_ecc (i : Nat) (f : UshSt → UshSt) : (s.modUsher i f).ecc = s.ecc := rfl
@[simp] theorem State.modUsher_host (i : Nat) (f : UshSt → UshSt) : (s.modUsher i f).host = s.host := rfl
@[simp] theorem State.modUsher_flash (i : Nat) (f : UshSt → UshSt) : (s.modUsher i f).flash = s.flash := rfl
@[simp] theorem State.modUsher_pba (i : Nat) (f : UshSt → UshSt) : (s.modUsher i f).pba = s.pba := rfl
@[simp] theorem State.modUsher_pwr (i : Nat) (f : UshSt → UshSt) : (s.modUsher i f).pwr = s.pwr := rfl
@[simp] theorem State.modUsher_fuses (i : Nat) (f : UshSt → UshSt) : (s.modUsher i f).fuses = s.fuses := rfl
@[simp] theorem State.modUsher_sec (i : Nat) (f : UshSt → UshSt) : (s.modUsher i f).sec = s.sec := rfl
@[simp] theorem State.modUsher_mbHost (i : Nat) (f : UshSt → UshSt) : (s.modUsher i f).mbHost = s.mbHost := rfl
@[simp] theorem State.modUsher_mbBoard (i : Nat) (f : UshSt → UshSt) : (s.modUsher i f).mbBoard = s.mbBoard := rfl
@[simp] theorem State.modUsher_mbOrder (i : Nat) (f : UshSt → UshSt) : (s.modUsher i f).mbOrder = s.mbOrder := rfl
@[simp] theorem State.modUsher_fab (i : Nat) (f : UshSt → UshSt) : (s.modUsher i f).fab = s.fab := rfl
@[simp] theorem State.modUsher_thm (i : Nat) (f : UshSt → UshSt) : (s.modUsher i f).thm = s.thm := rfl
@[simp] theorem State.modUsher_tsu (i : Nat) (f : UshSt → UshSt) : (s.modUsher i f).tsu = s.tsu := rfl
@[simp] theorem State.modUsher_parts (i : Nat) (f : UshSt → UshSt) : (s.modUsher i f).parts = s.parts := rfl
@[simp] theorem State.modUsher_boxes (i : Nat) (f : UshSt → UshSt) : (s.modUsher i f).boxes = s.boxes := rfl
@[simp] theorem State.modUsher_loans (i : Nat) (f : UshSt → UshSt) : (s.modUsher i f).loans = s.loans := rfl
@[simp] theorem State.modUsher_syncs (i : Nat) (f : UshSt → UshSt) : (s.modUsher i f).syncs = s.syncs := rfl
@[simp] theorem State.modUsher_clus (i : Nat) (f : UshSt → UshSt) : (s.modUsher i f).clus = s.clus := rfl
@[simp] theorem State.modUsher_cores (i : Nat) (f : UshSt → UshSt) : (s.modUsher i f).cores = s.cores := rfl
@[simp] theorem State.modUsher_chans (i : Nat) (f : UshSt → UshSt) : (s.modUsher i f).chans = s.chans := rfl
@[simp] theorem State.modUsher_sites (i : Nat) (f : UshSt → UshSt) : (s.modUsher i f).sites = s.sites := rfl
@[simp] theorem State.modUsher_rings (i : Nat) (f : UshSt → UshSt) : (s.modUsher i f).rings = s.rings := rfl
@[simp] theorem State.modUsher_ports (i : Nat) (f : UshSt → UshSt) : (s.modUsher i f).ports = s.ports := rfl
@[simp] theorem State.modUsher_links (i : Nat) (f : UshSt → UshSt) : (s.modUsher i f).links = s.links := rfl
@[simp] theorem State.modUsher_peers (i : Nat) (f : UshSt → UshSt) : (s.modUsher i f).peers = s.peers := rfl
@[simp] theorem State.modUsher_croutes (i : Nat) (f : UshSt → UshSt) : (s.modUsher i f).croutes = s.croutes := rfl
@[simp] theorem State.modUsher_inbox (i : Nat) (f : UshSt → UshSt) : (s.modUsher i f).inbox = s.inbox := rfl
@[simp] theorem State.modUsher_relay (i : Nat) (f : UshSt → UshSt) : (s.modUsher i f).relay = s.relay := rfl
@[simp] theorem State.modUsher_hostBad (i : Nat) (f : UshSt → UshSt) : (s.modUsher i f).hostBad = s.hostBad := rfl
@[simp] theorem State.modUsher_pending (i : Nat) (f : UshSt → UshSt) : (s.modUsher i f).pending = s.pending := rfl
@[simp] theorem State.modUsher_part (i : Nat) (f : UshSt → UshSt) (j : Nat) : (s.modUsher i f).part j = s.part j := rfl
@[simp] theorem State.modUsher_box (i : Nat) (f : UshSt → UshSt) (j : Nat) : (s.modUsher i f).box j = s.box j := rfl
@[simp] theorem State.modUsher_sync (i : Nat) (f : UshSt → UshSt) (j : Nat) : (s.modUsher i f).sync j = s.sync j := rfl
@[simp] theorem State.modUsher_clu (i : Nat) (f : UshSt → UshSt) (j : Nat) : (s.modUsher i f).clu j = s.clu j := rfl
@[simp] theorem State.modUsher_core (i : Nat) (f : UshSt → UshSt) (j : Nat) : (s.modUsher i f).core j = s.core j := rfl
@[simp] theorem State.modUsher_chan (i : Nat) (f : UshSt → UshSt) (j : Nat) : (s.modUsher i f).chan j = s.chan j := rfl
@[simp] theorem State.modUsher_site (i : Nat) (f : UshSt → UshSt) (j : Nat) : (s.modUsher i f).site j = s.site j := rfl
@[simp] theorem State.modUsher_ring (i : Nat) (f : UshSt → UshSt) (j : Nat) : (s.modUsher i f).ring j = s.ring j := rfl
@[simp] theorem State.modUsher_port (i : Nat) (f : UshSt → UshSt) (j : Nat) : (s.modUsher i f).port j = s.port j := rfl
@[simp] theorem State.modUsher_link (i : Nat) (f : UshSt → UshSt) (j : Nat) : (s.modUsher i f).link j = s.link j := rfl
@[simp] theorem State.modUsher_inboxOf (i : Nat) (f : UshSt → UshSt) (j : Nat) : (s.modUsher i f).inboxOf j = s.inboxOf j := rfl
@[simp] theorem State.modUsher_relayOf (i : Nat) (f : UshSt → UshSt) (j : Nat) : (s.modUsher i f).relayOf j = s.relayOf j := rfl
@[simp] theorem State.modUsher_reg (i : Nat) (f : UshSt → UshSt) (j : Nat) : (s.modUsher i f).reg j = s.reg j := rfl

@[simp] theorem State.setSync_ctrlClk (i : Nat) (x : SynSt) : (s.setSync i x).ctrlClk = s.ctrlClk := rfl
@[simp] theorem State.setSync_freeCtr (i : Nat) (x : SynSt) : (s.setSync i x).freeCtr = s.freeCtr := rfl
@[simp] theorem State.setSync_wire (i : Nat) (x : SynSt) : (s.setSync i x).wire = s.wire := rfl
@[simp] theorem State.setSync_regs (i : Nat) (x : SynSt) : (s.setSync i x).regs = s.regs := rfl
@[simp] theorem State.setSync_mem (i : Nat) (x : SynSt) : (s.setSync i x).mem = s.mem := rfl
@[simp] theorem State.setSync_ecc (i : Nat) (x : SynSt) : (s.setSync i x).ecc = s.ecc := rfl
@[simp] theorem State.setSync_host (i : Nat) (x : SynSt) : (s.setSync i x).host = s.host := rfl
@[simp] theorem State.setSync_flash (i : Nat) (x : SynSt) : (s.setSync i x).flash = s.flash := rfl
@[simp] theorem State.setSync_pba (i : Nat) (x : SynSt) : (s.setSync i x).pba = s.pba := rfl
@[simp] theorem State.setSync_pwr (i : Nat) (x : SynSt) : (s.setSync i x).pwr = s.pwr := rfl
@[simp] theorem State.setSync_fuses (i : Nat) (x : SynSt) : (s.setSync i x).fuses = s.fuses := rfl
@[simp] theorem State.setSync_sec (i : Nat) (x : SynSt) : (s.setSync i x).sec = s.sec := rfl
@[simp] theorem State.setSync_mbHost (i : Nat) (x : SynSt) : (s.setSync i x).mbHost = s.mbHost := rfl
@[simp] theorem State.setSync_mbBoard (i : Nat) (x : SynSt) : (s.setSync i x).mbBoard = s.mbBoard := rfl
@[simp] theorem State.setSync_mbOrder (i : Nat) (x : SynSt) : (s.setSync i x).mbOrder = s.mbOrder := rfl
@[simp] theorem State.setSync_fab (i : Nat) (x : SynSt) : (s.setSync i x).fab = s.fab := rfl
@[simp] theorem State.setSync_thm (i : Nat) (x : SynSt) : (s.setSync i x).thm = s.thm := rfl
@[simp] theorem State.setSync_tsu (i : Nat) (x : SynSt) : (s.setSync i x).tsu = s.tsu := rfl
@[simp] theorem State.setSync_parts (i : Nat) (x : SynSt) : (s.setSync i x).parts = s.parts := rfl
@[simp] theorem State.setSync_boxes (i : Nat) (x : SynSt) : (s.setSync i x).boxes = s.boxes := rfl
@[simp] theorem State.setSync_loans (i : Nat) (x : SynSt) : (s.setSync i x).loans = s.loans := rfl
@[simp] theorem State.setSync_ushers (i : Nat) (x : SynSt) : (s.setSync i x).ushers = s.ushers := rfl
@[simp] theorem State.setSync_clus (i : Nat) (x : SynSt) : (s.setSync i x).clus = s.clus := rfl
@[simp] theorem State.setSync_cores (i : Nat) (x : SynSt) : (s.setSync i x).cores = s.cores := rfl
@[simp] theorem State.setSync_chans (i : Nat) (x : SynSt) : (s.setSync i x).chans = s.chans := rfl
@[simp] theorem State.setSync_sites (i : Nat) (x : SynSt) : (s.setSync i x).sites = s.sites := rfl
@[simp] theorem State.setSync_rings (i : Nat) (x : SynSt) : (s.setSync i x).rings = s.rings := rfl
@[simp] theorem State.setSync_ports (i : Nat) (x : SynSt) : (s.setSync i x).ports = s.ports := rfl
@[simp] theorem State.setSync_links (i : Nat) (x : SynSt) : (s.setSync i x).links = s.links := rfl
@[simp] theorem State.setSync_peers (i : Nat) (x : SynSt) : (s.setSync i x).peers = s.peers := rfl
@[simp] theorem State.setSync_croutes (i : Nat) (x : SynSt) : (s.setSync i x).croutes = s.croutes := rfl
@[simp] theorem State.setSync_inbox (i : Nat) (x : SynSt) : (s.setSync i x).inbox = s.inbox := rfl
@[simp] theorem State.setSync_relay (i : Nat) (x : SynSt) : (s.setSync i x).relay = s.relay := rfl
@[simp] theorem State.setSync_hostBad (i : Nat) (x : SynSt) : (s.setSync i x).hostBad = s.hostBad := rfl
@[simp] theorem State.setSync_pending (i : Nat) (x : SynSt) : (s.setSync i x).pending = s.pending := rfl
@[simp] theorem State.setSync_part (i : Nat) (x : SynSt) (j : Nat) : (s.setSync i x).part j = s.part j := rfl
@[simp] theorem State.setSync_box (i : Nat) (x : SynSt) (j : Nat) : (s.setSync i x).box j = s.box j := rfl
@[simp] theorem State.setSync_usher (i : Nat) (x : SynSt) (j : Nat) : (s.setSync i x).usher j = s.usher j := rfl
@[simp] theorem State.setSync_clu (i : Nat) (x : SynSt) (j : Nat) : (s.setSync i x).clu j = s.clu j := rfl
@[simp] theorem State.setSync_core (i : Nat) (x : SynSt) (j : Nat) : (s.setSync i x).core j = s.core j := rfl
@[simp] theorem State.setSync_chan (i : Nat) (x : SynSt) (j : Nat) : (s.setSync i x).chan j = s.chan j := rfl
@[simp] theorem State.setSync_site (i : Nat) (x : SynSt) (j : Nat) : (s.setSync i x).site j = s.site j := rfl
@[simp] theorem State.setSync_ring (i : Nat) (x : SynSt) (j : Nat) : (s.setSync i x).ring j = s.ring j := rfl
@[simp] theorem State.setSync_port (i : Nat) (x : SynSt) (j : Nat) : (s.setSync i x).port j = s.port j := rfl
@[simp] theorem State.setSync_link (i : Nat) (x : SynSt) (j : Nat) : (s.setSync i x).link j = s.link j := rfl
@[simp] theorem State.setSync_inboxOf (i : Nat) (x : SynSt) (j : Nat) : (s.setSync i x).inboxOf j = s.inboxOf j := rfl
@[simp] theorem State.setSync_relayOf (i : Nat) (x : SynSt) (j : Nat) : (s.setSync i x).relayOf j = s.relayOf j := rfl
@[simp] theorem State.setSync_reg (i : Nat) (x : SynSt) (j : Nat) : (s.setSync i x).reg j = s.reg j := rfl

@[simp] theorem State.modSync_ctrlClk (i : Nat) (f : SynSt → SynSt) : (s.modSync i f).ctrlClk = s.ctrlClk := rfl
@[simp] theorem State.modSync_freeCtr (i : Nat) (f : SynSt → SynSt) : (s.modSync i f).freeCtr = s.freeCtr := rfl
@[simp] theorem State.modSync_wire (i : Nat) (f : SynSt → SynSt) : (s.modSync i f).wire = s.wire := rfl
@[simp] theorem State.modSync_regs (i : Nat) (f : SynSt → SynSt) : (s.modSync i f).regs = s.regs := rfl
@[simp] theorem State.modSync_mem (i : Nat) (f : SynSt → SynSt) : (s.modSync i f).mem = s.mem := rfl
@[simp] theorem State.modSync_ecc (i : Nat) (f : SynSt → SynSt) : (s.modSync i f).ecc = s.ecc := rfl
@[simp] theorem State.modSync_host (i : Nat) (f : SynSt → SynSt) : (s.modSync i f).host = s.host := rfl
@[simp] theorem State.modSync_flash (i : Nat) (f : SynSt → SynSt) : (s.modSync i f).flash = s.flash := rfl
@[simp] theorem State.modSync_pba (i : Nat) (f : SynSt → SynSt) : (s.modSync i f).pba = s.pba := rfl
@[simp] theorem State.modSync_pwr (i : Nat) (f : SynSt → SynSt) : (s.modSync i f).pwr = s.pwr := rfl
@[simp] theorem State.modSync_fuses (i : Nat) (f : SynSt → SynSt) : (s.modSync i f).fuses = s.fuses := rfl
@[simp] theorem State.modSync_sec (i : Nat) (f : SynSt → SynSt) : (s.modSync i f).sec = s.sec := rfl
@[simp] theorem State.modSync_mbHost (i : Nat) (f : SynSt → SynSt) : (s.modSync i f).mbHost = s.mbHost := rfl
@[simp] theorem State.modSync_mbBoard (i : Nat) (f : SynSt → SynSt) : (s.modSync i f).mbBoard = s.mbBoard := rfl
@[simp] theorem State.modSync_mbOrder (i : Nat) (f : SynSt → SynSt) : (s.modSync i f).mbOrder = s.mbOrder := rfl
@[simp] theorem State.modSync_fab (i : Nat) (f : SynSt → SynSt) : (s.modSync i f).fab = s.fab := rfl
@[simp] theorem State.modSync_thm (i : Nat) (f : SynSt → SynSt) : (s.modSync i f).thm = s.thm := rfl
@[simp] theorem State.modSync_tsu (i : Nat) (f : SynSt → SynSt) : (s.modSync i f).tsu = s.tsu := rfl
@[simp] theorem State.modSync_parts (i : Nat) (f : SynSt → SynSt) : (s.modSync i f).parts = s.parts := rfl
@[simp] theorem State.modSync_boxes (i : Nat) (f : SynSt → SynSt) : (s.modSync i f).boxes = s.boxes := rfl
@[simp] theorem State.modSync_loans (i : Nat) (f : SynSt → SynSt) : (s.modSync i f).loans = s.loans := rfl
@[simp] theorem State.modSync_ushers (i : Nat) (f : SynSt → SynSt) : (s.modSync i f).ushers = s.ushers := rfl
@[simp] theorem State.modSync_clus (i : Nat) (f : SynSt → SynSt) : (s.modSync i f).clus = s.clus := rfl
@[simp] theorem State.modSync_cores (i : Nat) (f : SynSt → SynSt) : (s.modSync i f).cores = s.cores := rfl
@[simp] theorem State.modSync_chans (i : Nat) (f : SynSt → SynSt) : (s.modSync i f).chans = s.chans := rfl
@[simp] theorem State.modSync_sites (i : Nat) (f : SynSt → SynSt) : (s.modSync i f).sites = s.sites := rfl
@[simp] theorem State.modSync_rings (i : Nat) (f : SynSt → SynSt) : (s.modSync i f).rings = s.rings := rfl
@[simp] theorem State.modSync_ports (i : Nat) (f : SynSt → SynSt) : (s.modSync i f).ports = s.ports := rfl
@[simp] theorem State.modSync_links (i : Nat) (f : SynSt → SynSt) : (s.modSync i f).links = s.links := rfl
@[simp] theorem State.modSync_peers (i : Nat) (f : SynSt → SynSt) : (s.modSync i f).peers = s.peers := rfl
@[simp] theorem State.modSync_croutes (i : Nat) (f : SynSt → SynSt) : (s.modSync i f).croutes = s.croutes := rfl
@[simp] theorem State.modSync_inbox (i : Nat) (f : SynSt → SynSt) : (s.modSync i f).inbox = s.inbox := rfl
@[simp] theorem State.modSync_relay (i : Nat) (f : SynSt → SynSt) : (s.modSync i f).relay = s.relay := rfl
@[simp] theorem State.modSync_hostBad (i : Nat) (f : SynSt → SynSt) : (s.modSync i f).hostBad = s.hostBad := rfl
@[simp] theorem State.modSync_pending (i : Nat) (f : SynSt → SynSt) : (s.modSync i f).pending = s.pending := rfl
@[simp] theorem State.modSync_part (i : Nat) (f : SynSt → SynSt) (j : Nat) : (s.modSync i f).part j = s.part j := rfl
@[simp] theorem State.modSync_box (i : Nat) (f : SynSt → SynSt) (j : Nat) : (s.modSync i f).box j = s.box j := rfl
@[simp] theorem State.modSync_usher (i : Nat) (f : SynSt → SynSt) (j : Nat) : (s.modSync i f).usher j = s.usher j := rfl
@[simp] theorem State.modSync_clu (i : Nat) (f : SynSt → SynSt) (j : Nat) : (s.modSync i f).clu j = s.clu j := rfl
@[simp] theorem State.modSync_core (i : Nat) (f : SynSt → SynSt) (j : Nat) : (s.modSync i f).core j = s.core j := rfl
@[simp] theorem State.modSync_chan (i : Nat) (f : SynSt → SynSt) (j : Nat) : (s.modSync i f).chan j = s.chan j := rfl
@[simp] theorem State.modSync_site (i : Nat) (f : SynSt → SynSt) (j : Nat) : (s.modSync i f).site j = s.site j := rfl
@[simp] theorem State.modSync_ring (i : Nat) (f : SynSt → SynSt) (j : Nat) : (s.modSync i f).ring j = s.ring j := rfl
@[simp] theorem State.modSync_port (i : Nat) (f : SynSt → SynSt) (j : Nat) : (s.modSync i f).port j = s.port j := rfl
@[simp] theorem State.modSync_link (i : Nat) (f : SynSt → SynSt) (j : Nat) : (s.modSync i f).link j = s.link j := rfl
@[simp] theorem State.modSync_inboxOf (i : Nat) (f : SynSt → SynSt) (j : Nat) : (s.modSync i f).inboxOf j = s.inboxOf j := rfl
@[simp] theorem State.modSync_relayOf (i : Nat) (f : SynSt → SynSt) (j : Nat) : (s.modSync i f).relayOf j = s.relayOf j := rfl
@[simp] theorem State.modSync_reg (i : Nat) (f : SynSt → SynSt) (j : Nat) : (s.modSync i f).reg j = s.reg j := rfl

@[simp] theorem State.setClu_ctrlClk (i : Nat) (x : CluSt) : (s.setClu i x).ctrlClk = s.ctrlClk := rfl
@[simp] theorem State.setClu_freeCtr (i : Nat) (x : CluSt) : (s.setClu i x).freeCtr = s.freeCtr := rfl
@[simp] theorem State.setClu_wire (i : Nat) (x : CluSt) : (s.setClu i x).wire = s.wire := rfl
@[simp] theorem State.setClu_regs (i : Nat) (x : CluSt) : (s.setClu i x).regs = s.regs := rfl
@[simp] theorem State.setClu_mem (i : Nat) (x : CluSt) : (s.setClu i x).mem = s.mem := rfl
@[simp] theorem State.setClu_ecc (i : Nat) (x : CluSt) : (s.setClu i x).ecc = s.ecc := rfl
@[simp] theorem State.setClu_host (i : Nat) (x : CluSt) : (s.setClu i x).host = s.host := rfl
@[simp] theorem State.setClu_flash (i : Nat) (x : CluSt) : (s.setClu i x).flash = s.flash := rfl
@[simp] theorem State.setClu_pba (i : Nat) (x : CluSt) : (s.setClu i x).pba = s.pba := rfl
@[simp] theorem State.setClu_pwr (i : Nat) (x : CluSt) : (s.setClu i x).pwr = s.pwr := rfl
@[simp] theorem State.setClu_fuses (i : Nat) (x : CluSt) : (s.setClu i x).fuses = s.fuses := rfl
@[simp] theorem State.setClu_sec (i : Nat) (x : CluSt) : (s.setClu i x).sec = s.sec := rfl
@[simp] theorem State.setClu_mbHost (i : Nat) (x : CluSt) : (s.setClu i x).mbHost = s.mbHost := rfl
@[simp] theorem State.setClu_mbBoard (i : Nat) (x : CluSt) : (s.setClu i x).mbBoard = s.mbBoard := rfl
@[simp] theorem State.setClu_mbOrder (i : Nat) (x : CluSt) : (s.setClu i x).mbOrder = s.mbOrder := rfl
@[simp] theorem State.setClu_fab (i : Nat) (x : CluSt) : (s.setClu i x).fab = s.fab := rfl
@[simp] theorem State.setClu_thm (i : Nat) (x : CluSt) : (s.setClu i x).thm = s.thm := rfl
@[simp] theorem State.setClu_tsu (i : Nat) (x : CluSt) : (s.setClu i x).tsu = s.tsu := rfl
@[simp] theorem State.setClu_parts (i : Nat) (x : CluSt) : (s.setClu i x).parts = s.parts := rfl
@[simp] theorem State.setClu_boxes (i : Nat) (x : CluSt) : (s.setClu i x).boxes = s.boxes := rfl
@[simp] theorem State.setClu_loans (i : Nat) (x : CluSt) : (s.setClu i x).loans = s.loans := rfl
@[simp] theorem State.setClu_ushers (i : Nat) (x : CluSt) : (s.setClu i x).ushers = s.ushers := rfl
@[simp] theorem State.setClu_syncs (i : Nat) (x : CluSt) : (s.setClu i x).syncs = s.syncs := rfl
@[simp] theorem State.setClu_cores (i : Nat) (x : CluSt) : (s.setClu i x).cores = s.cores := rfl
@[simp] theorem State.setClu_chans (i : Nat) (x : CluSt) : (s.setClu i x).chans = s.chans := rfl
@[simp] theorem State.setClu_sites (i : Nat) (x : CluSt) : (s.setClu i x).sites = s.sites := rfl
@[simp] theorem State.setClu_rings (i : Nat) (x : CluSt) : (s.setClu i x).rings = s.rings := rfl
@[simp] theorem State.setClu_ports (i : Nat) (x : CluSt) : (s.setClu i x).ports = s.ports := rfl
@[simp] theorem State.setClu_links (i : Nat) (x : CluSt) : (s.setClu i x).links = s.links := rfl
@[simp] theorem State.setClu_peers (i : Nat) (x : CluSt) : (s.setClu i x).peers = s.peers := rfl
@[simp] theorem State.setClu_croutes (i : Nat) (x : CluSt) : (s.setClu i x).croutes = s.croutes := rfl
@[simp] theorem State.setClu_inbox (i : Nat) (x : CluSt) : (s.setClu i x).inbox = s.inbox := rfl
@[simp] theorem State.setClu_relay (i : Nat) (x : CluSt) : (s.setClu i x).relay = s.relay := rfl
@[simp] theorem State.setClu_hostBad (i : Nat) (x : CluSt) : (s.setClu i x).hostBad = s.hostBad := rfl
@[simp] theorem State.setClu_pending (i : Nat) (x : CluSt) : (s.setClu i x).pending = s.pending := rfl
@[simp] theorem State.setClu_part (i : Nat) (x : CluSt) (j : Nat) : (s.setClu i x).part j = s.part j := rfl
@[simp] theorem State.setClu_box (i : Nat) (x : CluSt) (j : Nat) : (s.setClu i x).box j = s.box j := rfl
@[simp] theorem State.setClu_usher (i : Nat) (x : CluSt) (j : Nat) : (s.setClu i x).usher j = s.usher j := rfl
@[simp] theorem State.setClu_sync (i : Nat) (x : CluSt) (j : Nat) : (s.setClu i x).sync j = s.sync j := rfl
@[simp] theorem State.setClu_core (i : Nat) (x : CluSt) (j : Nat) : (s.setClu i x).core j = s.core j := rfl
@[simp] theorem State.setClu_chan (i : Nat) (x : CluSt) (j : Nat) : (s.setClu i x).chan j = s.chan j := rfl
@[simp] theorem State.setClu_site (i : Nat) (x : CluSt) (j : Nat) : (s.setClu i x).site j = s.site j := rfl
@[simp] theorem State.setClu_ring (i : Nat) (x : CluSt) (j : Nat) : (s.setClu i x).ring j = s.ring j := rfl
@[simp] theorem State.setClu_port (i : Nat) (x : CluSt) (j : Nat) : (s.setClu i x).port j = s.port j := rfl
@[simp] theorem State.setClu_link (i : Nat) (x : CluSt) (j : Nat) : (s.setClu i x).link j = s.link j := rfl
@[simp] theorem State.setClu_inboxOf (i : Nat) (x : CluSt) (j : Nat) : (s.setClu i x).inboxOf j = s.inboxOf j := rfl
@[simp] theorem State.setClu_relayOf (i : Nat) (x : CluSt) (j : Nat) : (s.setClu i x).relayOf j = s.relayOf j := rfl
@[simp] theorem State.setClu_reg (i : Nat) (x : CluSt) (j : Nat) : (s.setClu i x).reg j = s.reg j := rfl

@[simp] theorem State.modClu_ctrlClk (i : Nat) (f : CluSt → CluSt) : (s.modClu i f).ctrlClk = s.ctrlClk := rfl
@[simp] theorem State.modClu_freeCtr (i : Nat) (f : CluSt → CluSt) : (s.modClu i f).freeCtr = s.freeCtr := rfl
@[simp] theorem State.modClu_wire (i : Nat) (f : CluSt → CluSt) : (s.modClu i f).wire = s.wire := rfl
@[simp] theorem State.modClu_regs (i : Nat) (f : CluSt → CluSt) : (s.modClu i f).regs = s.regs := rfl
@[simp] theorem State.modClu_mem (i : Nat) (f : CluSt → CluSt) : (s.modClu i f).mem = s.mem := rfl
@[simp] theorem State.modClu_ecc (i : Nat) (f : CluSt → CluSt) : (s.modClu i f).ecc = s.ecc := rfl
@[simp] theorem State.modClu_host (i : Nat) (f : CluSt → CluSt) : (s.modClu i f).host = s.host := rfl
@[simp] theorem State.modClu_flash (i : Nat) (f : CluSt → CluSt) : (s.modClu i f).flash = s.flash := rfl
@[simp] theorem State.modClu_pba (i : Nat) (f : CluSt → CluSt) : (s.modClu i f).pba = s.pba := rfl
@[simp] theorem State.modClu_pwr (i : Nat) (f : CluSt → CluSt) : (s.modClu i f).pwr = s.pwr := rfl
@[simp] theorem State.modClu_fuses (i : Nat) (f : CluSt → CluSt) : (s.modClu i f).fuses = s.fuses := rfl
@[simp] theorem State.modClu_sec (i : Nat) (f : CluSt → CluSt) : (s.modClu i f).sec = s.sec := rfl
@[simp] theorem State.modClu_mbHost (i : Nat) (f : CluSt → CluSt) : (s.modClu i f).mbHost = s.mbHost := rfl
@[simp] theorem State.modClu_mbBoard (i : Nat) (f : CluSt → CluSt) : (s.modClu i f).mbBoard = s.mbBoard := rfl
@[simp] theorem State.modClu_mbOrder (i : Nat) (f : CluSt → CluSt) : (s.modClu i f).mbOrder = s.mbOrder := rfl
@[simp] theorem State.modClu_fab (i : Nat) (f : CluSt → CluSt) : (s.modClu i f).fab = s.fab := rfl
@[simp] theorem State.modClu_thm (i : Nat) (f : CluSt → CluSt) : (s.modClu i f).thm = s.thm := rfl
@[simp] theorem State.modClu_tsu (i : Nat) (f : CluSt → CluSt) : (s.modClu i f).tsu = s.tsu := rfl
@[simp] theorem State.modClu_parts (i : Nat) (f : CluSt → CluSt) : (s.modClu i f).parts = s.parts := rfl
@[simp] theorem State.modClu_boxes (i : Nat) (f : CluSt → CluSt) : (s.modClu i f).boxes = s.boxes := rfl
@[simp] theorem State.modClu_loans (i : Nat) (f : CluSt → CluSt) : (s.modClu i f).loans = s.loans := rfl
@[simp] theorem State.modClu_ushers (i : Nat) (f : CluSt → CluSt) : (s.modClu i f).ushers = s.ushers := rfl
@[simp] theorem State.modClu_syncs (i : Nat) (f : CluSt → CluSt) : (s.modClu i f).syncs = s.syncs := rfl
@[simp] theorem State.modClu_cores (i : Nat) (f : CluSt → CluSt) : (s.modClu i f).cores = s.cores := rfl
@[simp] theorem State.modClu_chans (i : Nat) (f : CluSt → CluSt) : (s.modClu i f).chans = s.chans := rfl
@[simp] theorem State.modClu_sites (i : Nat) (f : CluSt → CluSt) : (s.modClu i f).sites = s.sites := rfl
@[simp] theorem State.modClu_rings (i : Nat) (f : CluSt → CluSt) : (s.modClu i f).rings = s.rings := rfl
@[simp] theorem State.modClu_ports (i : Nat) (f : CluSt → CluSt) : (s.modClu i f).ports = s.ports := rfl
@[simp] theorem State.modClu_links (i : Nat) (f : CluSt → CluSt) : (s.modClu i f).links = s.links := rfl
@[simp] theorem State.modClu_peers (i : Nat) (f : CluSt → CluSt) : (s.modClu i f).peers = s.peers := rfl
@[simp] theorem State.modClu_croutes (i : Nat) (f : CluSt → CluSt) : (s.modClu i f).croutes = s.croutes := rfl
@[simp] theorem State.modClu_inbox (i : Nat) (f : CluSt → CluSt) : (s.modClu i f).inbox = s.inbox := rfl
@[simp] theorem State.modClu_relay (i : Nat) (f : CluSt → CluSt) : (s.modClu i f).relay = s.relay := rfl
@[simp] theorem State.modClu_hostBad (i : Nat) (f : CluSt → CluSt) : (s.modClu i f).hostBad = s.hostBad := rfl
@[simp] theorem State.modClu_pending (i : Nat) (f : CluSt → CluSt) : (s.modClu i f).pending = s.pending := rfl
@[simp] theorem State.modClu_part (i : Nat) (f : CluSt → CluSt) (j : Nat) : (s.modClu i f).part j = s.part j := rfl
@[simp] theorem State.modClu_box (i : Nat) (f : CluSt → CluSt) (j : Nat) : (s.modClu i f).box j = s.box j := rfl
@[simp] theorem State.modClu_usher (i : Nat) (f : CluSt → CluSt) (j : Nat) : (s.modClu i f).usher j = s.usher j := rfl
@[simp] theorem State.modClu_sync (i : Nat) (f : CluSt → CluSt) (j : Nat) : (s.modClu i f).sync j = s.sync j := rfl
@[simp] theorem State.modClu_core (i : Nat) (f : CluSt → CluSt) (j : Nat) : (s.modClu i f).core j = s.core j := rfl
@[simp] theorem State.modClu_chan (i : Nat) (f : CluSt → CluSt) (j : Nat) : (s.modClu i f).chan j = s.chan j := rfl
@[simp] theorem State.modClu_site (i : Nat) (f : CluSt → CluSt) (j : Nat) : (s.modClu i f).site j = s.site j := rfl
@[simp] theorem State.modClu_ring (i : Nat) (f : CluSt → CluSt) (j : Nat) : (s.modClu i f).ring j = s.ring j := rfl
@[simp] theorem State.modClu_port (i : Nat) (f : CluSt → CluSt) (j : Nat) : (s.modClu i f).port j = s.port j := rfl
@[simp] theorem State.modClu_link (i : Nat) (f : CluSt → CluSt) (j : Nat) : (s.modClu i f).link j = s.link j := rfl
@[simp] theorem State.modClu_inboxOf (i : Nat) (f : CluSt → CluSt) (j : Nat) : (s.modClu i f).inboxOf j = s.inboxOf j := rfl
@[simp] theorem State.modClu_relayOf (i : Nat) (f : CluSt → CluSt) (j : Nat) : (s.modClu i f).relayOf j = s.relayOf j := rfl
@[simp] theorem State.modClu_reg (i : Nat) (f : CluSt → CluSt) (j : Nat) : (s.modClu i f).reg j = s.reg j := rfl

@[simp] theorem State.setCore_ctrlClk (i : Nat) (x : CoreSt) : (s.setCore i x).ctrlClk = s.ctrlClk := rfl
@[simp] theorem State.setCore_freeCtr (i : Nat) (x : CoreSt) : (s.setCore i x).freeCtr = s.freeCtr := rfl
@[simp] theorem State.setCore_wire (i : Nat) (x : CoreSt) : (s.setCore i x).wire = s.wire := rfl
@[simp] theorem State.setCore_regs (i : Nat) (x : CoreSt) : (s.setCore i x).regs = s.regs := rfl
@[simp] theorem State.setCore_mem (i : Nat) (x : CoreSt) : (s.setCore i x).mem = s.mem := rfl
@[simp] theorem State.setCore_ecc (i : Nat) (x : CoreSt) : (s.setCore i x).ecc = s.ecc := rfl
@[simp] theorem State.setCore_host (i : Nat) (x : CoreSt) : (s.setCore i x).host = s.host := rfl
@[simp] theorem State.setCore_flash (i : Nat) (x : CoreSt) : (s.setCore i x).flash = s.flash := rfl
@[simp] theorem State.setCore_pba (i : Nat) (x : CoreSt) : (s.setCore i x).pba = s.pba := rfl
@[simp] theorem State.setCore_pwr (i : Nat) (x : CoreSt) : (s.setCore i x).pwr = s.pwr := rfl
@[simp] theorem State.setCore_fuses (i : Nat) (x : CoreSt) : (s.setCore i x).fuses = s.fuses := rfl
@[simp] theorem State.setCore_sec (i : Nat) (x : CoreSt) : (s.setCore i x).sec = s.sec := rfl
@[simp] theorem State.setCore_mbHost (i : Nat) (x : CoreSt) : (s.setCore i x).mbHost = s.mbHost := rfl
@[simp] theorem State.setCore_mbBoard (i : Nat) (x : CoreSt) : (s.setCore i x).mbBoard = s.mbBoard := rfl
@[simp] theorem State.setCore_mbOrder (i : Nat) (x : CoreSt) : (s.setCore i x).mbOrder = s.mbOrder := rfl
@[simp] theorem State.setCore_fab (i : Nat) (x : CoreSt) : (s.setCore i x).fab = s.fab := rfl
@[simp] theorem State.setCore_thm (i : Nat) (x : CoreSt) : (s.setCore i x).thm = s.thm := rfl
@[simp] theorem State.setCore_tsu (i : Nat) (x : CoreSt) : (s.setCore i x).tsu = s.tsu := rfl
@[simp] theorem State.setCore_parts (i : Nat) (x : CoreSt) : (s.setCore i x).parts = s.parts := rfl
@[simp] theorem State.setCore_boxes (i : Nat) (x : CoreSt) : (s.setCore i x).boxes = s.boxes := rfl
@[simp] theorem State.setCore_loans (i : Nat) (x : CoreSt) : (s.setCore i x).loans = s.loans := rfl
@[simp] theorem State.setCore_ushers (i : Nat) (x : CoreSt) : (s.setCore i x).ushers = s.ushers := rfl
@[simp] theorem State.setCore_syncs (i : Nat) (x : CoreSt) : (s.setCore i x).syncs = s.syncs := rfl
@[simp] theorem State.setCore_clus (i : Nat) (x : CoreSt) : (s.setCore i x).clus = s.clus := rfl
@[simp] theorem State.setCore_chans (i : Nat) (x : CoreSt) : (s.setCore i x).chans = s.chans := rfl
@[simp] theorem State.setCore_sites (i : Nat) (x : CoreSt) : (s.setCore i x).sites = s.sites := rfl
@[simp] theorem State.setCore_rings (i : Nat) (x : CoreSt) : (s.setCore i x).rings = s.rings := rfl
@[simp] theorem State.setCore_ports (i : Nat) (x : CoreSt) : (s.setCore i x).ports = s.ports := rfl
@[simp] theorem State.setCore_links (i : Nat) (x : CoreSt) : (s.setCore i x).links = s.links := rfl
@[simp] theorem State.setCore_peers (i : Nat) (x : CoreSt) : (s.setCore i x).peers = s.peers := rfl
@[simp] theorem State.setCore_croutes (i : Nat) (x : CoreSt) : (s.setCore i x).croutes = s.croutes := rfl
@[simp] theorem State.setCore_inbox (i : Nat) (x : CoreSt) : (s.setCore i x).inbox = s.inbox := rfl
@[simp] theorem State.setCore_relay (i : Nat) (x : CoreSt) : (s.setCore i x).relay = s.relay := rfl
@[simp] theorem State.setCore_hostBad (i : Nat) (x : CoreSt) : (s.setCore i x).hostBad = s.hostBad := rfl
@[simp] theorem State.setCore_pending (i : Nat) (x : CoreSt) : (s.setCore i x).pending = s.pending := rfl
@[simp] theorem State.setCore_part (i : Nat) (x : CoreSt) (j : Nat) : (s.setCore i x).part j = s.part j := rfl
@[simp] theorem State.setCore_box (i : Nat) (x : CoreSt) (j : Nat) : (s.setCore i x).box j = s.box j := rfl
@[simp] theorem State.setCore_usher (i : Nat) (x : CoreSt) (j : Nat) : (s.setCore i x).usher j = s.usher j := rfl
@[simp] theorem State.setCore_sync (i : Nat) (x : CoreSt) (j : Nat) : (s.setCore i x).sync j = s.sync j := rfl
@[simp] theorem State.setCore_clu (i : Nat) (x : CoreSt) (j : Nat) : (s.setCore i x).clu j = s.clu j := rfl
@[simp] theorem State.setCore_chan (i : Nat) (x : CoreSt) (j : Nat) : (s.setCore i x).chan j = s.chan j := rfl
@[simp] theorem State.setCore_site (i : Nat) (x : CoreSt) (j : Nat) : (s.setCore i x).site j = s.site j := rfl
@[simp] theorem State.setCore_ring (i : Nat) (x : CoreSt) (j : Nat) : (s.setCore i x).ring j = s.ring j := rfl
@[simp] theorem State.setCore_port (i : Nat) (x : CoreSt) (j : Nat) : (s.setCore i x).port j = s.port j := rfl
@[simp] theorem State.setCore_link (i : Nat) (x : CoreSt) (j : Nat) : (s.setCore i x).link j = s.link j := rfl
@[simp] theorem State.setCore_inboxOf (i : Nat) (x : CoreSt) (j : Nat) : (s.setCore i x).inboxOf j = s.inboxOf j := rfl
@[simp] theorem State.setCore_relayOf (i : Nat) (x : CoreSt) (j : Nat) : (s.setCore i x).relayOf j = s.relayOf j := rfl
@[simp] theorem State.setCore_reg (i : Nat) (x : CoreSt) (j : Nat) : (s.setCore i x).reg j = s.reg j := rfl

@[simp] theorem State.modCore_ctrlClk (i : Nat) (f : CoreSt → CoreSt) : (s.modCore i f).ctrlClk = s.ctrlClk := rfl
@[simp] theorem State.modCore_freeCtr (i : Nat) (f : CoreSt → CoreSt) : (s.modCore i f).freeCtr = s.freeCtr := rfl
@[simp] theorem State.modCore_wire (i : Nat) (f : CoreSt → CoreSt) : (s.modCore i f).wire = s.wire := rfl
@[simp] theorem State.modCore_regs (i : Nat) (f : CoreSt → CoreSt) : (s.modCore i f).regs = s.regs := rfl
@[simp] theorem State.modCore_mem (i : Nat) (f : CoreSt → CoreSt) : (s.modCore i f).mem = s.mem := rfl
@[simp] theorem State.modCore_ecc (i : Nat) (f : CoreSt → CoreSt) : (s.modCore i f).ecc = s.ecc := rfl
@[simp] theorem State.modCore_host (i : Nat) (f : CoreSt → CoreSt) : (s.modCore i f).host = s.host := rfl
@[simp] theorem State.modCore_flash (i : Nat) (f : CoreSt → CoreSt) : (s.modCore i f).flash = s.flash := rfl
@[simp] theorem State.modCore_pba (i : Nat) (f : CoreSt → CoreSt) : (s.modCore i f).pba = s.pba := rfl
@[simp] theorem State.modCore_pwr (i : Nat) (f : CoreSt → CoreSt) : (s.modCore i f).pwr = s.pwr := rfl
@[simp] theorem State.modCore_fuses (i : Nat) (f : CoreSt → CoreSt) : (s.modCore i f).fuses = s.fuses := rfl
@[simp] theorem State.modCore_sec (i : Nat) (f : CoreSt → CoreSt) : (s.modCore i f).sec = s.sec := rfl
@[simp] theorem State.modCore_mbHost (i : Nat) (f : CoreSt → CoreSt) : (s.modCore i f).mbHost = s.mbHost := rfl
@[simp] theorem State.modCore_mbBoard (i : Nat) (f : CoreSt → CoreSt) : (s.modCore i f).mbBoard = s.mbBoard := rfl
@[simp] theorem State.modCore_mbOrder (i : Nat) (f : CoreSt → CoreSt) : (s.modCore i f).mbOrder = s.mbOrder := rfl
@[simp] theorem State.modCore_fab (i : Nat) (f : CoreSt → CoreSt) : (s.modCore i f).fab = s.fab := rfl
@[simp] theorem State.modCore_thm (i : Nat) (f : CoreSt → CoreSt) : (s.modCore i f).thm = s.thm := rfl
@[simp] theorem State.modCore_tsu (i : Nat) (f : CoreSt → CoreSt) : (s.modCore i f).tsu = s.tsu := rfl
@[simp] theorem State.modCore_parts (i : Nat) (f : CoreSt → CoreSt) : (s.modCore i f).parts = s.parts := rfl
@[simp] theorem State.modCore_boxes (i : Nat) (f : CoreSt → CoreSt) : (s.modCore i f).boxes = s.boxes := rfl
@[simp] theorem State.modCore_loans (i : Nat) (f : CoreSt → CoreSt) : (s.modCore i f).loans = s.loans := rfl
@[simp] theorem State.modCore_ushers (i : Nat) (f : CoreSt → CoreSt) : (s.modCore i f).ushers = s.ushers := rfl
@[simp] theorem State.modCore_syncs (i : Nat) (f : CoreSt → CoreSt) : (s.modCore i f).syncs = s.syncs := rfl
@[simp] theorem State.modCore_clus (i : Nat) (f : CoreSt → CoreSt) : (s.modCore i f).clus = s.clus := rfl
@[simp] theorem State.modCore_chans (i : Nat) (f : CoreSt → CoreSt) : (s.modCore i f).chans = s.chans := rfl
@[simp] theorem State.modCore_sites (i : Nat) (f : CoreSt → CoreSt) : (s.modCore i f).sites = s.sites := rfl
@[simp] theorem State.modCore_rings (i : Nat) (f : CoreSt → CoreSt) : (s.modCore i f).rings = s.rings := rfl
@[simp] theorem State.modCore_ports (i : Nat) (f : CoreSt → CoreSt) : (s.modCore i f).ports = s.ports := rfl
@[simp] theorem State.modCore_links (i : Nat) (f : CoreSt → CoreSt) : (s.modCore i f).links = s.links := rfl
@[simp] theorem State.modCore_peers (i : Nat) (f : CoreSt → CoreSt) : (s.modCore i f).peers = s.peers := rfl
@[simp] theorem State.modCore_croutes (i : Nat) (f : CoreSt → CoreSt) : (s.modCore i f).croutes = s.croutes := rfl
@[simp] theorem State.modCore_inbox (i : Nat) (f : CoreSt → CoreSt) : (s.modCore i f).inbox = s.inbox := rfl
@[simp] theorem State.modCore_relay (i : Nat) (f : CoreSt → CoreSt) : (s.modCore i f).relay = s.relay := rfl
@[simp] theorem State.modCore_hostBad (i : Nat) (f : CoreSt → CoreSt) : (s.modCore i f).hostBad = s.hostBad := rfl
@[simp] theorem State.modCore_pending (i : Nat) (f : CoreSt → CoreSt) : (s.modCore i f).pending = s.pending := rfl
@[simp] theorem State.modCore_part (i : Nat) (f : CoreSt → CoreSt) (j : Nat) : (s.modCore i f).part j = s.part j := rfl
@[simp] theorem State.modCore_box (i : Nat) (f : CoreSt → CoreSt) (j : Nat) : (s.modCore i f).box j = s.box j := rfl
@[simp] theorem State.modCore_usher (i : Nat) (f : CoreSt → CoreSt) (j : Nat) : (s.modCore i f).usher j = s.usher j := rfl
@[simp] theorem State.modCore_sync (i : Nat) (f : CoreSt → CoreSt) (j : Nat) : (s.modCore i f).sync j = s.sync j := rfl
@[simp] theorem State.modCore_clu (i : Nat) (f : CoreSt → CoreSt) (j : Nat) : (s.modCore i f).clu j = s.clu j := rfl
@[simp] theorem State.modCore_chan (i : Nat) (f : CoreSt → CoreSt) (j : Nat) : (s.modCore i f).chan j = s.chan j := rfl
@[simp] theorem State.modCore_site (i : Nat) (f : CoreSt → CoreSt) (j : Nat) : (s.modCore i f).site j = s.site j := rfl
@[simp] theorem State.modCore_ring (i : Nat) (f : CoreSt → CoreSt) (j : Nat) : (s.modCore i f).ring j = s.ring j := rfl
@[simp] theorem State.modCore_port (i : Nat) (f : CoreSt → CoreSt) (j : Nat) : (s.modCore i f).port j = s.port j := rfl
@[simp] theorem State.modCore_link (i : Nat) (f : CoreSt → CoreSt) (j : Nat) : (s.modCore i f).link j = s.link j := rfl
@[simp] theorem State.modCore_inboxOf (i : Nat) (f : CoreSt → CoreSt) (j : Nat) : (s.modCore i f).inboxOf j = s.inboxOf j := rfl
@[simp] theorem State.modCore_relayOf (i : Nat) (f : CoreSt → CoreSt) (j : Nat) : (s.modCore i f).relayOf j = s.relayOf j := rfl
@[simp] theorem State.modCore_reg (i : Nat) (f : CoreSt → CoreSt) (j : Nat) : (s.modCore i f).reg j = s.reg j := rfl

@[simp] theorem State.setChan_ctrlClk (i : Nat) (x : ChanSt) : (s.setChan i x).ctrlClk = s.ctrlClk := rfl
@[simp] theorem State.setChan_freeCtr (i : Nat) (x : ChanSt) : (s.setChan i x).freeCtr = s.freeCtr := rfl
@[simp] theorem State.setChan_wire (i : Nat) (x : ChanSt) : (s.setChan i x).wire = s.wire := rfl
@[simp] theorem State.setChan_regs (i : Nat) (x : ChanSt) : (s.setChan i x).regs = s.regs := rfl
@[simp] theorem State.setChan_mem (i : Nat) (x : ChanSt) : (s.setChan i x).mem = s.mem := rfl
@[simp] theorem State.setChan_ecc (i : Nat) (x : ChanSt) : (s.setChan i x).ecc = s.ecc := rfl
@[simp] theorem State.setChan_host (i : Nat) (x : ChanSt) : (s.setChan i x).host = s.host := rfl
@[simp] theorem State.setChan_flash (i : Nat) (x : ChanSt) : (s.setChan i x).flash = s.flash := rfl
@[simp] theorem State.setChan_pba (i : Nat) (x : ChanSt) : (s.setChan i x).pba = s.pba := rfl
@[simp] theorem State.setChan_pwr (i : Nat) (x : ChanSt) : (s.setChan i x).pwr = s.pwr := rfl
@[simp] theorem State.setChan_fuses (i : Nat) (x : ChanSt) : (s.setChan i x).fuses = s.fuses := rfl
@[simp] theorem State.setChan_sec (i : Nat) (x : ChanSt) : (s.setChan i x).sec = s.sec := rfl
@[simp] theorem State.setChan_mbHost (i : Nat) (x : ChanSt) : (s.setChan i x).mbHost = s.mbHost := rfl
@[simp] theorem State.setChan_mbBoard (i : Nat) (x : ChanSt) : (s.setChan i x).mbBoard = s.mbBoard := rfl
@[simp] theorem State.setChan_mbOrder (i : Nat) (x : ChanSt) : (s.setChan i x).mbOrder = s.mbOrder := rfl
@[simp] theorem State.setChan_fab (i : Nat) (x : ChanSt) : (s.setChan i x).fab = s.fab := rfl
@[simp] theorem State.setChan_thm (i : Nat) (x : ChanSt) : (s.setChan i x).thm = s.thm := rfl
@[simp] theorem State.setChan_tsu (i : Nat) (x : ChanSt) : (s.setChan i x).tsu = s.tsu := rfl
@[simp] theorem State.setChan_parts (i : Nat) (x : ChanSt) : (s.setChan i x).parts = s.parts := rfl
@[simp] theorem State.setChan_boxes (i : Nat) (x : ChanSt) : (s.setChan i x).boxes = s.boxes := rfl
@[simp] theorem State.setChan_loans (i : Nat) (x : ChanSt) : (s.setChan i x).loans = s.loans := rfl
@[simp] theorem State.setChan_ushers (i : Nat) (x : ChanSt) : (s.setChan i x).ushers = s.ushers := rfl
@[simp] theorem State.setChan_syncs (i : Nat) (x : ChanSt) : (s.setChan i x).syncs = s.syncs := rfl
@[simp] theorem State.setChan_clus (i : Nat) (x : ChanSt) : (s.setChan i x).clus = s.clus := rfl
@[simp] theorem State.setChan_cores (i : Nat) (x : ChanSt) : (s.setChan i x).cores = s.cores := rfl
@[simp] theorem State.setChan_sites (i : Nat) (x : ChanSt) : (s.setChan i x).sites = s.sites := rfl
@[simp] theorem State.setChan_rings (i : Nat) (x : ChanSt) : (s.setChan i x).rings = s.rings := rfl
@[simp] theorem State.setChan_ports (i : Nat) (x : ChanSt) : (s.setChan i x).ports = s.ports := rfl
@[simp] theorem State.setChan_links (i : Nat) (x : ChanSt) : (s.setChan i x).links = s.links := rfl
@[simp] theorem State.setChan_peers (i : Nat) (x : ChanSt) : (s.setChan i x).peers = s.peers := rfl
@[simp] theorem State.setChan_croutes (i : Nat) (x : ChanSt) : (s.setChan i x).croutes = s.croutes := rfl
@[simp] theorem State.setChan_inbox (i : Nat) (x : ChanSt) : (s.setChan i x).inbox = s.inbox := rfl
@[simp] theorem State.setChan_relay (i : Nat) (x : ChanSt) : (s.setChan i x).relay = s.relay := rfl
@[simp] theorem State.setChan_hostBad (i : Nat) (x : ChanSt) : (s.setChan i x).hostBad = s.hostBad := rfl
@[simp] theorem State.setChan_pending (i : Nat) (x : ChanSt) : (s.setChan i x).pending = s.pending := rfl
@[simp] theorem State.setChan_part (i : Nat) (x : ChanSt) (j : Nat) : (s.setChan i x).part j = s.part j := rfl
@[simp] theorem State.setChan_box (i : Nat) (x : ChanSt) (j : Nat) : (s.setChan i x).box j = s.box j := rfl
@[simp] theorem State.setChan_usher (i : Nat) (x : ChanSt) (j : Nat) : (s.setChan i x).usher j = s.usher j := rfl
@[simp] theorem State.setChan_sync (i : Nat) (x : ChanSt) (j : Nat) : (s.setChan i x).sync j = s.sync j := rfl
@[simp] theorem State.setChan_clu (i : Nat) (x : ChanSt) (j : Nat) : (s.setChan i x).clu j = s.clu j := rfl
@[simp] theorem State.setChan_core (i : Nat) (x : ChanSt) (j : Nat) : (s.setChan i x).core j = s.core j := rfl
@[simp] theorem State.setChan_site (i : Nat) (x : ChanSt) (j : Nat) : (s.setChan i x).site j = s.site j := rfl
@[simp] theorem State.setChan_ring (i : Nat) (x : ChanSt) (j : Nat) : (s.setChan i x).ring j = s.ring j := rfl
@[simp] theorem State.setChan_port (i : Nat) (x : ChanSt) (j : Nat) : (s.setChan i x).port j = s.port j := rfl
@[simp] theorem State.setChan_link (i : Nat) (x : ChanSt) (j : Nat) : (s.setChan i x).link j = s.link j := rfl
@[simp] theorem State.setChan_inboxOf (i : Nat) (x : ChanSt) (j : Nat) : (s.setChan i x).inboxOf j = s.inboxOf j := rfl
@[simp] theorem State.setChan_relayOf (i : Nat) (x : ChanSt) (j : Nat) : (s.setChan i x).relayOf j = s.relayOf j := rfl
@[simp] theorem State.setChan_reg (i : Nat) (x : ChanSt) (j : Nat) : (s.setChan i x).reg j = s.reg j := rfl

@[simp] theorem State.modChan_ctrlClk (i : Nat) (f : ChanSt → ChanSt) : (s.modChan i f).ctrlClk = s.ctrlClk := rfl
@[simp] theorem State.modChan_freeCtr (i : Nat) (f : ChanSt → ChanSt) : (s.modChan i f).freeCtr = s.freeCtr := rfl
@[simp] theorem State.modChan_wire (i : Nat) (f : ChanSt → ChanSt) : (s.modChan i f).wire = s.wire := rfl
@[simp] theorem State.modChan_regs (i : Nat) (f : ChanSt → ChanSt) : (s.modChan i f).regs = s.regs := rfl
@[simp] theorem State.modChan_mem (i : Nat) (f : ChanSt → ChanSt) : (s.modChan i f).mem = s.mem := rfl
@[simp] theorem State.modChan_ecc (i : Nat) (f : ChanSt → ChanSt) : (s.modChan i f).ecc = s.ecc := rfl
@[simp] theorem State.modChan_host (i : Nat) (f : ChanSt → ChanSt) : (s.modChan i f).host = s.host := rfl
@[simp] theorem State.modChan_flash (i : Nat) (f : ChanSt → ChanSt) : (s.modChan i f).flash = s.flash := rfl
@[simp] theorem State.modChan_pba (i : Nat) (f : ChanSt → ChanSt) : (s.modChan i f).pba = s.pba := rfl
@[simp] theorem State.modChan_pwr (i : Nat) (f : ChanSt → ChanSt) : (s.modChan i f).pwr = s.pwr := rfl
@[simp] theorem State.modChan_fuses (i : Nat) (f : ChanSt → ChanSt) : (s.modChan i f).fuses = s.fuses := rfl
@[simp] theorem State.modChan_sec (i : Nat) (f : ChanSt → ChanSt) : (s.modChan i f).sec = s.sec := rfl
@[simp] theorem State.modChan_mbHost (i : Nat) (f : ChanSt → ChanSt) : (s.modChan i f).mbHost = s.mbHost := rfl
@[simp] theorem State.modChan_mbBoard (i : Nat) (f : ChanSt → ChanSt) : (s.modChan i f).mbBoard = s.mbBoard := rfl
@[simp] theorem State.modChan_mbOrder (i : Nat) (f : ChanSt → ChanSt) : (s.modChan i f).mbOrder = s.mbOrder := rfl
@[simp] theorem State.modChan_fab (i : Nat) (f : ChanSt → ChanSt) : (s.modChan i f).fab = s.fab := rfl
@[simp] theorem State.modChan_thm (i : Nat) (f : ChanSt → ChanSt) : (s.modChan i f).thm = s.thm := rfl
@[simp] theorem State.modChan_tsu (i : Nat) (f : ChanSt → ChanSt) : (s.modChan i f).tsu = s.tsu := rfl
@[simp] theorem State.modChan_parts (i : Nat) (f : ChanSt → ChanSt) : (s.modChan i f).parts = s.parts := rfl
@[simp] theorem State.modChan_boxes (i : Nat) (f : ChanSt → ChanSt) : (s.modChan i f).boxes = s.boxes := rfl
@[simp] theorem State.modChan_loans (i : Nat) (f : ChanSt → ChanSt) : (s.modChan i f).loans = s.loans := rfl
@[simp] theorem State.modChan_ushers (i : Nat) (f : ChanSt → ChanSt) : (s.modChan i f).ushers = s.ushers := rfl
@[simp] theorem State.modChan_syncs (i : Nat) (f : ChanSt → ChanSt) : (s.modChan i f).syncs = s.syncs := rfl
@[simp] theorem State.modChan_clus (i : Nat) (f : ChanSt → ChanSt) : (s.modChan i f).clus = s.clus := rfl
@[simp] theorem State.modChan_cores (i : Nat) (f : ChanSt → ChanSt) : (s.modChan i f).cores = s.cores := rfl
@[simp] theorem State.modChan_sites (i : Nat) (f : ChanSt → ChanSt) : (s.modChan i f).sites = s.sites := rfl
@[simp] theorem State.modChan_rings (i : Nat) (f : ChanSt → ChanSt) : (s.modChan i f).rings = s.rings := rfl
@[simp] theorem State.modChan_ports (i : Nat) (f : ChanSt → ChanSt) : (s.modChan i f).ports = s.ports := rfl
@[simp] theorem State.modChan_links (i : Nat) (f : ChanSt → ChanSt) : (s.modChan i f).links = s.links := rfl
@[simp] theorem State.modChan_peers (i : Nat) (f : ChanSt → ChanSt) : (s.modChan i f).peers = s.peers := rfl
@[simp] theorem State.modChan_croutes (i : Nat) (f : ChanSt → ChanSt) : (s.modChan i f).croutes = s.croutes := rfl
@[simp] theorem State.modChan_inbox (i : Nat) (f : ChanSt → ChanSt) : (s.modChan i f).inbox = s.inbox := rfl
@[simp] theorem State.modChan_relay (i : Nat) (f : ChanSt → ChanSt) : (s.modChan i f).relay = s.relay := rfl
@[simp] theorem State.modChan_hostBad (i : Nat) (f : ChanSt → ChanSt) : (s.modChan i f).hostBad = s.hostBad := rfl
@[simp] theorem State.modChan_pending (i : Nat) (f : ChanSt → ChanSt) : (s.modChan i f).pending = s.pending := rfl
@[simp] theorem State.modChan_part (i : Nat) (f : ChanSt → ChanSt) (j : Nat) : (s.modChan i f).part j = s.part j := rfl
@[simp] theorem State.modChan_box (i : Nat) (f : ChanSt → ChanSt) (j : Nat) : (s.modChan i f).box j = s.box j := rfl
@[simp] theorem State.modChan_usher (i : Nat) (f : ChanSt → ChanSt) (j : Nat) : (s.modChan i f).usher j = s.usher j := rfl
@[simp] theorem State.modChan_sync (i : Nat) (f : ChanSt → ChanSt) (j : Nat) : (s.modChan i f).sync j = s.sync j := rfl
@[simp] theorem State.modChan_clu (i : Nat) (f : ChanSt → ChanSt) (j : Nat) : (s.modChan i f).clu j = s.clu j := rfl
@[simp] theorem State.modChan_core (i : Nat) (f : ChanSt → ChanSt) (j : Nat) : (s.modChan i f).core j = s.core j := rfl
@[simp] theorem State.modChan_site (i : Nat) (f : ChanSt → ChanSt) (j : Nat) : (s.modChan i f).site j = s.site j := rfl
@[simp] theorem State.modChan_ring (i : Nat) (f : ChanSt → ChanSt) (j : Nat) : (s.modChan i f).ring j = s.ring j := rfl
@[simp] theorem State.modChan_port (i : Nat) (f : ChanSt → ChanSt) (j : Nat) : (s.modChan i f).port j = s.port j := rfl
@[simp] theorem State.modChan_link (i : Nat) (f : ChanSt → ChanSt) (j : Nat) : (s.modChan i f).link j = s.link j := rfl
@[simp] theorem State.modChan_inboxOf (i : Nat) (f : ChanSt → ChanSt) (j : Nat) : (s.modChan i f).inboxOf j = s.inboxOf j := rfl
@[simp] theorem State.modChan_relayOf (i : Nat) (f : ChanSt → ChanSt) (j : Nat) : (s.modChan i f).relayOf j = s.relayOf j := rfl
@[simp] theorem State.modChan_reg (i : Nat) (f : ChanSt → ChanSt) (j : Nat) : (s.modChan i f).reg j = s.reg j := rfl

@[simp] theorem State.setSite_ctrlClk (i : Nat) (x : SiteSt) : (s.setSite i x).ctrlClk = s.ctrlClk := rfl
@[simp] theorem State.setSite_freeCtr (i : Nat) (x : SiteSt) : (s.setSite i x).freeCtr = s.freeCtr := rfl
@[simp] theorem State.setSite_wire (i : Nat) (x : SiteSt) : (s.setSite i x).wire = s.wire := rfl
@[simp] theorem State.setSite_regs (i : Nat) (x : SiteSt) : (s.setSite i x).regs = s.regs := rfl
@[simp] theorem State.setSite_mem (i : Nat) (x : SiteSt) : (s.setSite i x).mem = s.mem := rfl
@[simp] theorem State.setSite_ecc (i : Nat) (x : SiteSt) : (s.setSite i x).ecc = s.ecc := rfl
@[simp] theorem State.setSite_host (i : Nat) (x : SiteSt) : (s.setSite i x).host = s.host := rfl
@[simp] theorem State.setSite_flash (i : Nat) (x : SiteSt) : (s.setSite i x).flash = s.flash := rfl
@[simp] theorem State.setSite_pba (i : Nat) (x : SiteSt) : (s.setSite i x).pba = s.pba := rfl
@[simp] theorem State.setSite_pwr (i : Nat) (x : SiteSt) : (s.setSite i x).pwr = s.pwr := rfl
@[simp] theorem State.setSite_fuses (i : Nat) (x : SiteSt) : (s.setSite i x).fuses = s.fuses := rfl
@[simp] theorem State.setSite_sec (i : Nat) (x : SiteSt) : (s.setSite i x).sec = s.sec := rfl
@[simp] theorem State.setSite_mbHost (i : Nat) (x : SiteSt) : (s.setSite i x).mbHost = s.mbHost := rfl
@[simp] theorem State.setSite_mbBoard (i : Nat) (x : SiteSt) : (s.setSite i x).mbBoard = s.mbBoard := rfl
@[simp] theorem State.setSite_mbOrder (i : Nat) (x : SiteSt) : (s.setSite i x).mbOrder = s.mbOrder := rfl
@[simp] theorem State.setSite_fab (i : Nat) (x : SiteSt) : (s.setSite i x).fab = s.fab := rfl
@[simp] theorem State.setSite_thm (i : Nat) (x : SiteSt) : (s.setSite i x).thm = s.thm := rfl
@[simp] theorem State.setSite_tsu (i : Nat) (x : SiteSt) : (s.setSite i x).tsu = s.tsu := rfl
@[simp] theorem State.setSite_parts (i : Nat) (x : SiteSt) : (s.setSite i x).parts = s.parts := rfl
@[simp] theorem State.setSite_boxes (i : Nat) (x : SiteSt) : (s.setSite i x).boxes = s.boxes := rfl
@[simp] theorem State.setSite_loans (i : Nat) (x : SiteSt) : (s.setSite i x).loans = s.loans := rfl
@[simp] theorem State.setSite_ushers (i : Nat) (x : SiteSt) : (s.setSite i x).ushers = s.ushers := rfl
@[simp] theorem State.setSite_syncs (i : Nat) (x : SiteSt) : (s.setSite i x).syncs = s.syncs := rfl
@[simp] theorem State.setSite_clus (i : Nat) (x : SiteSt) : (s.setSite i x).clus = s.clus := rfl
@[simp] theorem State.setSite_cores (i : Nat) (x : SiteSt) : (s.setSite i x).cores = s.cores := rfl
@[simp] theorem State.setSite_chans (i : Nat) (x : SiteSt) : (s.setSite i x).chans = s.chans := rfl
@[simp] theorem State.setSite_rings (i : Nat) (x : SiteSt) : (s.setSite i x).rings = s.rings := rfl
@[simp] theorem State.setSite_ports (i : Nat) (x : SiteSt) : (s.setSite i x).ports = s.ports := rfl
@[simp] theorem State.setSite_links (i : Nat) (x : SiteSt) : (s.setSite i x).links = s.links := rfl
@[simp] theorem State.setSite_peers (i : Nat) (x : SiteSt) : (s.setSite i x).peers = s.peers := rfl
@[simp] theorem State.setSite_croutes (i : Nat) (x : SiteSt) : (s.setSite i x).croutes = s.croutes := rfl
@[simp] theorem State.setSite_inbox (i : Nat) (x : SiteSt) : (s.setSite i x).inbox = s.inbox := rfl
@[simp] theorem State.setSite_relay (i : Nat) (x : SiteSt) : (s.setSite i x).relay = s.relay := rfl
@[simp] theorem State.setSite_hostBad (i : Nat) (x : SiteSt) : (s.setSite i x).hostBad = s.hostBad := rfl
@[simp] theorem State.setSite_pending (i : Nat) (x : SiteSt) : (s.setSite i x).pending = s.pending := rfl
@[simp] theorem State.setSite_part (i : Nat) (x : SiteSt) (j : Nat) : (s.setSite i x).part j = s.part j := rfl
@[simp] theorem State.setSite_box (i : Nat) (x : SiteSt) (j : Nat) : (s.setSite i x).box j = s.box j := rfl
@[simp] theorem State.setSite_usher (i : Nat) (x : SiteSt) (j : Nat) : (s.setSite i x).usher j = s.usher j := rfl
@[simp] theorem State.setSite_sync (i : Nat) (x : SiteSt) (j : Nat) : (s.setSite i x).sync j = s.sync j := rfl
@[simp] theorem State.setSite_clu (i : Nat) (x : SiteSt) (j : Nat) : (s.setSite i x).clu j = s.clu j := rfl
@[simp] theorem State.setSite_core (i : Nat) (x : SiteSt) (j : Nat) : (s.setSite i x).core j = s.core j := rfl
@[simp] theorem State.setSite_chan (i : Nat) (x : SiteSt) (j : Nat) : (s.setSite i x).chan j = s.chan j := rfl
@[simp] theorem State.setSite_ring (i : Nat) (x : SiteSt) (j : Nat) : (s.setSite i x).ring j = s.ring j := rfl
@[simp] theorem State.setSite_port (i : Nat) (x : SiteSt) (j : Nat) : (s.setSite i x).port j = s.port j := rfl
@[simp] theorem State.setSite_link (i : Nat) (x : SiteSt) (j : Nat) : (s.setSite i x).link j = s.link j := rfl
@[simp] theorem State.setSite_inboxOf (i : Nat) (x : SiteSt) (j : Nat) : (s.setSite i x).inboxOf j = s.inboxOf j := rfl
@[simp] theorem State.setSite_relayOf (i : Nat) (x : SiteSt) (j : Nat) : (s.setSite i x).relayOf j = s.relayOf j := rfl
@[simp] theorem State.setSite_reg (i : Nat) (x : SiteSt) (j : Nat) : (s.setSite i x).reg j = s.reg j := rfl

@[simp] theorem State.modSite_ctrlClk (i : Nat) (f : SiteSt → SiteSt) : (s.modSite i f).ctrlClk = s.ctrlClk := rfl
@[simp] theorem State.modSite_freeCtr (i : Nat) (f : SiteSt → SiteSt) : (s.modSite i f).freeCtr = s.freeCtr := rfl
@[simp] theorem State.modSite_wire (i : Nat) (f : SiteSt → SiteSt) : (s.modSite i f).wire = s.wire := rfl
@[simp] theorem State.modSite_regs (i : Nat) (f : SiteSt → SiteSt) : (s.modSite i f).regs = s.regs := rfl
@[simp] theorem State.modSite_mem (i : Nat) (f : SiteSt → SiteSt) : (s.modSite i f).mem = s.mem := rfl
@[simp] theorem State.modSite_ecc (i : Nat) (f : SiteSt → SiteSt) : (s.modSite i f).ecc = s.ecc := rfl
@[simp] theorem State.modSite_host (i : Nat) (f : SiteSt → SiteSt) : (s.modSite i f).host = s.host := rfl
@[simp] theorem State.modSite_flash (i : Nat) (f : SiteSt → SiteSt) : (s.modSite i f).flash = s.flash := rfl
@[simp] theorem State.modSite_pba (i : Nat) (f : SiteSt → SiteSt) : (s.modSite i f).pba = s.pba := rfl
@[simp] theorem State.modSite_pwr (i : Nat) (f : SiteSt → SiteSt) : (s.modSite i f).pwr = s.pwr := rfl
@[simp] theorem State.modSite_fuses (i : Nat) (f : SiteSt → SiteSt) : (s.modSite i f).fuses = s.fuses := rfl
@[simp] theorem State.modSite_sec (i : Nat) (f : SiteSt → SiteSt) : (s.modSite i f).sec = s.sec := rfl
@[simp] theorem State.modSite_mbHost (i : Nat) (f : SiteSt → SiteSt) : (s.modSite i f).mbHost = s.mbHost := rfl
@[simp] theorem State.modSite_mbBoard (i : Nat) (f : SiteSt → SiteSt) : (s.modSite i f).mbBoard = s.mbBoard := rfl
@[simp] theorem State.modSite_mbOrder (i : Nat) (f : SiteSt → SiteSt) : (s.modSite i f).mbOrder = s.mbOrder := rfl
@[simp] theorem State.modSite_fab (i : Nat) (f : SiteSt → SiteSt) : (s.modSite i f).fab = s.fab := rfl
@[simp] theorem State.modSite_thm (i : Nat) (f : SiteSt → SiteSt) : (s.modSite i f).thm = s.thm := rfl
@[simp] theorem State.modSite_tsu (i : Nat) (f : SiteSt → SiteSt) : (s.modSite i f).tsu = s.tsu := rfl
@[simp] theorem State.modSite_parts (i : Nat) (f : SiteSt → SiteSt) : (s.modSite i f).parts = s.parts := rfl
@[simp] theorem State.modSite_boxes (i : Nat) (f : SiteSt → SiteSt) : (s.modSite i f).boxes = s.boxes := rfl
@[simp] theorem State.modSite_loans (i : Nat) (f : SiteSt → SiteSt) : (s.modSite i f).loans = s.loans := rfl
@[simp] theorem State.modSite_ushers (i : Nat) (f : SiteSt → SiteSt) : (s.modSite i f).ushers = s.ushers := rfl
@[simp] theorem State.modSite_syncs (i : Nat) (f : SiteSt → SiteSt) : (s.modSite i f).syncs = s.syncs := rfl
@[simp] theorem State.modSite_clus (i : Nat) (f : SiteSt → SiteSt) : (s.modSite i f).clus = s.clus := rfl
@[simp] theorem State.modSite_cores (i : Nat) (f : SiteSt → SiteSt) : (s.modSite i f).cores = s.cores := rfl
@[simp] theorem State.modSite_chans (i : Nat) (f : SiteSt → SiteSt) : (s.modSite i f).chans = s.chans := rfl
@[simp] theorem State.modSite_rings (i : Nat) (f : SiteSt → SiteSt) : (s.modSite i f).rings = s.rings := rfl
@[simp] theorem State.modSite_ports (i : Nat) (f : SiteSt → SiteSt) : (s.modSite i f).ports = s.ports := rfl
@[simp] theorem State.modSite_links (i : Nat) (f : SiteSt → SiteSt) : (s.modSite i f).links = s.links := rfl
@[simp] theorem State.modSite_peers (i : Nat) (f : SiteSt → SiteSt) : (s.modSite i f).peers = s.peers := rfl
@[simp] theorem State.modSite_croutes (i : Nat) (f : SiteSt → SiteSt) : (s.modSite i f).croutes = s.croutes := rfl
@[simp] theorem State.modSite_inbox (i : Nat) (f : SiteSt → SiteSt) : (s.modSite i f).inbox = s.inbox := rfl
@[simp] theorem State.modSite_relay (i : Nat) (f : SiteSt → SiteSt) : (s.modSite i f).relay = s.relay := rfl
@[simp] theorem State.modSite_hostBad (i : Nat) (f : SiteSt → SiteSt) : (s.modSite i f).hostBad = s.hostBad := rfl
@[simp] theorem State.modSite_pending (i : Nat) (f : SiteSt → SiteSt) : (s.modSite i f).pending = s.pending := rfl
@[simp] theorem State.modSite_part (i : Nat) (f : SiteSt → SiteSt) (j : Nat) : (s.modSite i f).part j = s.part j := rfl
@[simp] theorem State.modSite_box (i : Nat) (f : SiteSt → SiteSt) (j : Nat) : (s.modSite i f).box j = s.box j := rfl
@[simp] theorem State.modSite_usher (i : Nat) (f : SiteSt → SiteSt) (j : Nat) : (s.modSite i f).usher j = s.usher j := rfl
@[simp] theorem State.modSite_sync (i : Nat) (f : SiteSt → SiteSt) (j : Nat) : (s.modSite i f).sync j = s.sync j := rfl
@[simp] theorem State.modSite_clu (i : Nat) (f : SiteSt → SiteSt) (j : Nat) : (s.modSite i f).clu j = s.clu j := rfl
@[simp] theorem State.modSite_core (i : Nat) (f : SiteSt → SiteSt) (j : Nat) : (s.modSite i f).core j = s.core j := rfl
@[simp] theorem State.modSite_chan (i : Nat) (f : SiteSt → SiteSt) (j : Nat) : (s.modSite i f).chan j = s.chan j := rfl
@[simp] theorem State.modSite_ring (i : Nat) (f : SiteSt → SiteSt) (j : Nat) : (s.modSite i f).ring j = s.ring j := rfl
@[simp] theorem State.modSite_port (i : Nat) (f : SiteSt → SiteSt) (j : Nat) : (s.modSite i f).port j = s.port j := rfl
@[simp] theorem State.modSite_link (i : Nat) (f : SiteSt → SiteSt) (j : Nat) : (s.modSite i f).link j = s.link j := rfl
@[simp] theorem State.modSite_inboxOf (i : Nat) (f : SiteSt → SiteSt) (j : Nat) : (s.modSite i f).inboxOf j = s.inboxOf j := rfl
@[simp] theorem State.modSite_relayOf (i : Nat) (f : SiteSt → SiteSt) (j : Nat) : (s.modSite i f).relayOf j = s.relayOf j := rfl
@[simp] theorem State.modSite_reg (i : Nat) (f : SiteSt → SiteSt) (j : Nat) : (s.modSite i f).reg j = s.reg j := rfl

@[simp] theorem State.setRing_ctrlClk (i : Nat) (x : RingSt) : (s.setRing i x).ctrlClk = s.ctrlClk := rfl
@[simp] theorem State.setRing_freeCtr (i : Nat) (x : RingSt) : (s.setRing i x).freeCtr = s.freeCtr := rfl
@[simp] theorem State.setRing_wire (i : Nat) (x : RingSt) : (s.setRing i x).wire = s.wire := rfl
@[simp] theorem State.setRing_regs (i : Nat) (x : RingSt) : (s.setRing i x).regs = s.regs := rfl
@[simp] theorem State.setRing_mem (i : Nat) (x : RingSt) : (s.setRing i x).mem = s.mem := rfl
@[simp] theorem State.setRing_ecc (i : Nat) (x : RingSt) : (s.setRing i x).ecc = s.ecc := rfl
@[simp] theorem State.setRing_host (i : Nat) (x : RingSt) : (s.setRing i x).host = s.host := rfl
@[simp] theorem State.setRing_flash (i : Nat) (x : RingSt) : (s.setRing i x).flash = s.flash := rfl
@[simp] theorem State.setRing_pba (i : Nat) (x : RingSt) : (s.setRing i x).pba = s.pba := rfl
@[simp] theorem State.setRing_pwr (i : Nat) (x : RingSt) : (s.setRing i x).pwr = s.pwr := rfl
@[simp] theorem State.setRing_fuses (i : Nat) (x : RingSt) : (s.setRing i x).fuses = s.fuses := rfl
@[simp] theorem State.setRing_sec (i : Nat) (x : RingSt) : (s.setRing i x).sec = s.sec := rfl
@[simp] theorem State.setRing_mbHost (i : Nat) (x : RingSt) : (s.setRing i x).mbHost = s.mbHost := rfl
@[simp] theorem State.setRing_mbBoard (i : Nat) (x : RingSt) : (s.setRing i x).mbBoard = s.mbBoard := rfl
@[simp] theorem State.setRing_mbOrder (i : Nat) (x : RingSt) : (s.setRing i x).mbOrder = s.mbOrder := rfl
@[simp] theorem State.setRing_fab (i : Nat) (x : RingSt) : (s.setRing i x).fab = s.fab := rfl
@[simp] theorem State.setRing_thm (i : Nat) (x : RingSt) : (s.setRing i x).thm = s.thm := rfl
@[simp] theorem State.setRing_tsu (i : Nat) (x : RingSt) : (s.setRing i x).tsu = s.tsu := rfl
@[simp] theorem State.setRing_parts (i : Nat) (x : RingSt) : (s.setRing i x).parts = s.parts := rfl
@[simp] theorem State.setRing_boxes (i : Nat) (x : RingSt) : (s.setRing i x).boxes = s.boxes := rfl
@[simp] theorem State.setRing_loans (i : Nat) (x : RingSt) : (s.setRing i x).loans = s.loans := rfl
@[simp] theorem State.setRing_ushers (i : Nat) (x : RingSt) : (s.setRing i x).ushers = s.ushers := rfl
@[simp] theorem State.setRing_syncs (i : Nat) (x : RingSt) : (s.setRing i x).syncs = s.syncs := rfl
@[simp] theorem State.setRing_clus (i : Nat) (x : RingSt) : (s.setRing i x).clus = s.clus := rfl
@[simp] theorem State.setRing_cores (i : Nat) (x : RingSt) : (s.setRing i x).cores = s.cores := rfl
@[simp] theorem State.setRing_chans (i : Nat) (x : RingSt) : (s.setRing i x).chans = s.chans := rfl
@[simp] theorem State.setRing_sites (i : Nat) (x : RingSt) : (s.setRing i x).sites = s.sites := rfl
@[simp] theorem State.setRing_ports (i : Nat) (x : RingSt) : (s.setRing i x).ports = s.ports := rfl
@[simp] theorem State.setRing_links (i : Nat) (x : RingSt) : (s.setRing i x).links = s.links := rfl
@[simp] theorem State.setRing_peers (i : Nat) (x : RingSt) : (s.setRing i x).peers = s.peers := rfl
@[simp] theorem State.setRing_croutes (i : Nat) (x : RingSt) : (s.setRing i x).croutes = s.croutes := rfl
@[simp] theorem State.setRing_inbox (i : Nat) (x : RingSt) : (s.setRing i x).inbox = s.inbox := rfl
@[simp] theorem State.setRing_relay (i : Nat) (x : RingSt) : (s.setRing i x).relay = s.relay := rfl
@[simp] theorem State.setRing_hostBad (i : Nat) (x : RingSt) : (s.setRing i x).hostBad = s.hostBad := rfl
@[simp] theorem State.setRing_pending (i : Nat) (x : RingSt) : (s.setRing i x).pending = s.pending := rfl
@[simp] theorem State.setRing_part (i : Nat) (x : RingSt) (j : Nat) : (s.setRing i x).part j = s.part j := rfl
@[simp] theorem State.setRing_box (i : Nat) (x : RingSt) (j : Nat) : (s.setRing i x).box j = s.box j := rfl
@[simp] theorem State.setRing_usher (i : Nat) (x : RingSt) (j : Nat) : (s.setRing i x).usher j = s.usher j := rfl
@[simp] theorem State.setRing_sync (i : Nat) (x : RingSt) (j : Nat) : (s.setRing i x).sync j = s.sync j := rfl
@[simp] theorem State.setRing_clu (i : Nat) (x : RingSt) (j : Nat) : (s.setRing i x).clu j = s.clu j := rfl
@[simp] theorem State.setRing_core (i : Nat) (x : RingSt) (j : Nat) : (s.setRing i x).core j = s.core j := rfl
@[simp] theorem State.setRing_chan (i : Nat) (x : RingSt) (j : Nat) : (s.setRing i x).chan j = s.chan j := rfl
@[simp] theorem State.setRing_site (i : Nat) (x : RingSt) (j : Nat) : (s.setRing i x).site j = s.site j := rfl
@[simp] theorem State.setRing_port (i : Nat) (x : RingSt) (j : Nat) : (s.setRing i x).port j = s.port j := rfl
@[simp] theorem State.setRing_link (i : Nat) (x : RingSt) (j : Nat) : (s.setRing i x).link j = s.link j := rfl
@[simp] theorem State.setRing_inboxOf (i : Nat) (x : RingSt) (j : Nat) : (s.setRing i x).inboxOf j = s.inboxOf j := rfl
@[simp] theorem State.setRing_relayOf (i : Nat) (x : RingSt) (j : Nat) : (s.setRing i x).relayOf j = s.relayOf j := rfl
@[simp] theorem State.setRing_reg (i : Nat) (x : RingSt) (j : Nat) : (s.setRing i x).reg j = s.reg j := rfl

@[simp] theorem State.modRing_ctrlClk (i : Nat) (f : RingSt → RingSt) : (s.modRing i f).ctrlClk = s.ctrlClk := rfl
@[simp] theorem State.modRing_freeCtr (i : Nat) (f : RingSt → RingSt) : (s.modRing i f).freeCtr = s.freeCtr := rfl
@[simp] theorem State.modRing_wire (i : Nat) (f : RingSt → RingSt) : (s.modRing i f).wire = s.wire := rfl
@[simp] theorem State.modRing_regs (i : Nat) (f : RingSt → RingSt) : (s.modRing i f).regs = s.regs := rfl
@[simp] theorem State.modRing_mem (i : Nat) (f : RingSt → RingSt) : (s.modRing i f).mem = s.mem := rfl
@[simp] theorem State.modRing_ecc (i : Nat) (f : RingSt → RingSt) : (s.modRing i f).ecc = s.ecc := rfl
@[simp] theorem State.modRing_host (i : Nat) (f : RingSt → RingSt) : (s.modRing i f).host = s.host := rfl
@[simp] theorem State.modRing_flash (i : Nat) (f : RingSt → RingSt) : (s.modRing i f).flash = s.flash := rfl
@[simp] theorem State.modRing_pba (i : Nat) (f : RingSt → RingSt) : (s.modRing i f).pba = s.pba := rfl
@[simp] theorem State.modRing_pwr (i : Nat) (f : RingSt → RingSt) : (s.modRing i f).pwr = s.pwr := rfl
@[simp] theorem State.modRing_fuses (i : Nat) (f : RingSt → RingSt) : (s.modRing i f).fuses = s.fuses := rfl
@[simp] theorem State.modRing_sec (i : Nat) (f : RingSt → RingSt) : (s.modRing i f).sec = s.sec := rfl
@[simp] theorem State.modRing_mbHost (i : Nat) (f : RingSt → RingSt) : (s.modRing i f).mbHost = s.mbHost := rfl
@[simp] theorem State.modRing_mbBoard (i : Nat) (f : RingSt → RingSt) : (s.modRing i f).mbBoard = s.mbBoard := rfl
@[simp] theorem State.modRing_mbOrder (i : Nat) (f : RingSt → RingSt) : (s.modRing i f).mbOrder = s.mbOrder := rfl
@[simp] theorem State.modRing_fab (i : Nat) (f : RingSt → RingSt) : (s.modRing i f).fab = s.fab := rfl
@[simp] theorem State.modRing_thm (i : Nat) (f : RingSt → RingSt) : (s.modRing i f).thm = s.thm := rfl
@[simp] theorem State.modRing_tsu (i : Nat) (f : RingSt → RingSt) : (s.modRing i f).tsu = s.tsu := rfl
@[simp] theorem State.modRing_parts (i : Nat) (f : RingSt → RingSt) : (s.modRing i f).parts = s.parts := rfl
@[simp] theorem State.modRing_boxes (i : Nat) (f : RingSt → RingSt) : (s.modRing i f).boxes = s.boxes := rfl
@[simp] theorem State.modRing_loans (i : Nat) (f : RingSt → RingSt) : (s.modRing i f).loans = s.loans := rfl
@[simp] theorem State.modRing_ushers (i : Nat) (f : RingSt → RingSt) : (s.modRing i f).ushers = s.ushers := rfl
@[simp] theorem State.modRing_syncs (i : Nat) (f : RingSt → RingSt) : (s.modRing i f).syncs = s.syncs := rfl
@[simp] theorem State.modRing_clus (i : Nat) (f : RingSt → RingSt) : (s.modRing i f).clus = s.clus := rfl
@[simp] theorem State.modRing_cores (i : Nat) (f : RingSt → RingSt) : (s.modRing i f).cores = s.cores := rfl
@[simp] theorem State.modRing_chans (i : Nat) (f : RingSt → RingSt) : (s.modRing i f).chans = s.chans := rfl
@[simp] theorem State.modRing_sites (i : Nat) (f : RingSt → RingSt) : (s.modRing i f).sites = s.sites := rfl
@[simp] theorem State.modRing_ports (i : Nat) (f : RingSt → RingSt) : (s.modRing i f).ports = s.ports := rfl
@[simp] theorem State.modRing_links (i : Nat) (f : RingSt → RingSt) : (s.modRing i f).links = s.links := rfl
@[simp] theorem State.modRing_peers (i : Nat) (f : RingSt → RingSt) : (s.modRing i f).peers = s.peers := rfl
@[simp] theorem State.modRing_croutes (i : Nat) (f : RingSt → RingSt) : (s.modRing i f).croutes = s.croutes := rfl
@[simp] theorem State.modRing_inbox (i : Nat) (f : RingSt → RingSt) : (s.modRing i f).inbox = s.inbox := rfl
@[simp] theorem State.modRing_relay (i : Nat) (f : RingSt → RingSt) : (s.modRing i f).relay = s.relay := rfl
@[simp] theorem State.modRing_hostBad (i : Nat) (f : RingSt → RingSt) : (s.modRing i f).hostBad = s.hostBad := rfl
@[simp] theorem State.modRing_pending (i : Nat) (f : RingSt → RingSt) : (s.modRing i f).pending = s.pending := rfl
@[simp] theorem State.modRing_part (i : Nat) (f : RingSt → RingSt) (j : Nat) : (s.modRing i f).part j = s.part j := rfl
@[simp] theorem State.modRing_box (i : Nat) (f : RingSt → RingSt) (j : Nat) : (s.modRing i f).box j = s.box j := rfl
@[simp] theorem State.modRing_usher (i : Nat) (f : RingSt → RingSt) (j : Nat) : (s.modRing i f).usher j = s.usher j := rfl
@[simp] theorem State.modRing_sync (i : Nat) (f : RingSt → RingSt) (j : Nat) : (s.modRing i f).sync j = s.sync j := rfl
@[simp] theorem State.modRing_clu (i : Nat) (f : RingSt → RingSt) (j : Nat) : (s.modRing i f).clu j = s.clu j := rfl
@[simp] theorem State.modRing_core (i : Nat) (f : RingSt → RingSt) (j : Nat) : (s.modRing i f).core j = s.core j := rfl
@[simp] theorem State.modRing_chan (i : Nat) (f : RingSt → RingSt) (j : Nat) : (s.modRing i f).chan j = s.chan j := rfl
@[simp] theorem State.modRing_site (i : Nat) (f : RingSt → RingSt) (j : Nat) : (s.modRing i f).site j = s.site j := rfl
@[simp] theorem State.modRing_port (i : Nat) (f : RingSt → RingSt) (j : Nat) : (s.modRing i f).port j = s.port j := rfl
@[simp] theorem State.modRing_link (i : Nat) (f : RingSt → RingSt) (j : Nat) : (s.modRing i f).link j = s.link j := rfl
@[simp] theorem State.modRing_inboxOf (i : Nat) (f : RingSt → RingSt) (j : Nat) : (s.modRing i f).inboxOf j = s.inboxOf j := rfl
@[simp] theorem State.modRing_relayOf (i : Nat) (f : RingSt → RingSt) (j : Nat) : (s.modRing i f).relayOf j = s.relayOf j := rfl
@[simp] theorem State.modRing_reg (i : Nat) (f : RingSt → RingSt) (j : Nat) : (s.modRing i f).reg j = s.reg j := rfl

@[simp] theorem State.setPort_ctrlClk (i : Nat) (x : PortSt) : (s.setPort i x).ctrlClk = s.ctrlClk := rfl
@[simp] theorem State.setPort_freeCtr (i : Nat) (x : PortSt) : (s.setPort i x).freeCtr = s.freeCtr := rfl
@[simp] theorem State.setPort_wire (i : Nat) (x : PortSt) : (s.setPort i x).wire = s.wire := rfl
@[simp] theorem State.setPort_regs (i : Nat) (x : PortSt) : (s.setPort i x).regs = s.regs := rfl
@[simp] theorem State.setPort_mem (i : Nat) (x : PortSt) : (s.setPort i x).mem = s.mem := rfl
@[simp] theorem State.setPort_ecc (i : Nat) (x : PortSt) : (s.setPort i x).ecc = s.ecc := rfl
@[simp] theorem State.setPort_host (i : Nat) (x : PortSt) : (s.setPort i x).host = s.host := rfl
@[simp] theorem State.setPort_flash (i : Nat) (x : PortSt) : (s.setPort i x).flash = s.flash := rfl
@[simp] theorem State.setPort_pba (i : Nat) (x : PortSt) : (s.setPort i x).pba = s.pba := rfl
@[simp] theorem State.setPort_pwr (i : Nat) (x : PortSt) : (s.setPort i x).pwr = s.pwr := rfl
@[simp] theorem State.setPort_fuses (i : Nat) (x : PortSt) : (s.setPort i x).fuses = s.fuses := rfl
@[simp] theorem State.setPort_sec (i : Nat) (x : PortSt) : (s.setPort i x).sec = s.sec := rfl
@[simp] theorem State.setPort_mbHost (i : Nat) (x : PortSt) : (s.setPort i x).mbHost = s.mbHost := rfl
@[simp] theorem State.setPort_mbBoard (i : Nat) (x : PortSt) : (s.setPort i x).mbBoard = s.mbBoard := rfl
@[simp] theorem State.setPort_mbOrder (i : Nat) (x : PortSt) : (s.setPort i x).mbOrder = s.mbOrder := rfl
@[simp] theorem State.setPort_fab (i : Nat) (x : PortSt) : (s.setPort i x).fab = s.fab := rfl
@[simp] theorem State.setPort_thm (i : Nat) (x : PortSt) : (s.setPort i x).thm = s.thm := rfl
@[simp] theorem State.setPort_tsu (i : Nat) (x : PortSt) : (s.setPort i x).tsu = s.tsu := rfl
@[simp] theorem State.setPort_parts (i : Nat) (x : PortSt) : (s.setPort i x).parts = s.parts := rfl
@[simp] theorem State.setPort_boxes (i : Nat) (x : PortSt) : (s.setPort i x).boxes = s.boxes := rfl
@[simp] theorem State.setPort_loans (i : Nat) (x : PortSt) : (s.setPort i x).loans = s.loans := rfl
@[simp] theorem State.setPort_ushers (i : Nat) (x : PortSt) : (s.setPort i x).ushers = s.ushers := rfl
@[simp] theorem State.setPort_syncs (i : Nat) (x : PortSt) : (s.setPort i x).syncs = s.syncs := rfl
@[simp] theorem State.setPort_clus (i : Nat) (x : PortSt) : (s.setPort i x).clus = s.clus := rfl
@[simp] theorem State.setPort_cores (i : Nat) (x : PortSt) : (s.setPort i x).cores = s.cores := rfl
@[simp] theorem State.setPort_chans (i : Nat) (x : PortSt) : (s.setPort i x).chans = s.chans := rfl
@[simp] theorem State.setPort_sites (i : Nat) (x : PortSt) : (s.setPort i x).sites = s.sites := rfl
@[simp] theorem State.setPort_rings (i : Nat) (x : PortSt) : (s.setPort i x).rings = s.rings := rfl
@[simp] theorem State.setPort_links (i : Nat) (x : PortSt) : (s.setPort i x).links = s.links := rfl
@[simp] theorem State.setPort_peers (i : Nat) (x : PortSt) : (s.setPort i x).peers = s.peers := rfl
@[simp] theorem State.setPort_croutes (i : Nat) (x : PortSt) : (s.setPort i x).croutes = s.croutes := rfl
@[simp] theorem State.setPort_inbox (i : Nat) (x : PortSt) : (s.setPort i x).inbox = s.inbox := rfl
@[simp] theorem State.setPort_relay (i : Nat) (x : PortSt) : (s.setPort i x).relay = s.relay := rfl
@[simp] theorem State.setPort_hostBad (i : Nat) (x : PortSt) : (s.setPort i x).hostBad = s.hostBad := rfl
@[simp] theorem State.setPort_pending (i : Nat) (x : PortSt) : (s.setPort i x).pending = s.pending := rfl
@[simp] theorem State.setPort_part (i : Nat) (x : PortSt) (j : Nat) : (s.setPort i x).part j = s.part j := rfl
@[simp] theorem State.setPort_box (i : Nat) (x : PortSt) (j : Nat) : (s.setPort i x).box j = s.box j := rfl
@[simp] theorem State.setPort_usher (i : Nat) (x : PortSt) (j : Nat) : (s.setPort i x).usher j = s.usher j := rfl
@[simp] theorem State.setPort_sync (i : Nat) (x : PortSt) (j : Nat) : (s.setPort i x).sync j = s.sync j := rfl
@[simp] theorem State.setPort_clu (i : Nat) (x : PortSt) (j : Nat) : (s.setPort i x).clu j = s.clu j := rfl
@[simp] theorem State.setPort_core (i : Nat) (x : PortSt) (j : Nat) : (s.setPort i x).core j = s.core j := rfl
@[simp] theorem State.setPort_chan (i : Nat) (x : PortSt) (j : Nat) : (s.setPort i x).chan j = s.chan j := rfl
@[simp] theorem State.setPort_site (i : Nat) (x : PortSt) (j : Nat) : (s.setPort i x).site j = s.site j := rfl
@[simp] theorem State.setPort_ring (i : Nat) (x : PortSt) (j : Nat) : (s.setPort i x).ring j = s.ring j := rfl
@[simp] theorem State.setPort_link (i : Nat) (x : PortSt) (j : Nat) : (s.setPort i x).link j = s.link j := rfl
@[simp] theorem State.setPort_inboxOf (i : Nat) (x : PortSt) (j : Nat) : (s.setPort i x).inboxOf j = s.inboxOf j := rfl
@[simp] theorem State.setPort_relayOf (i : Nat) (x : PortSt) (j : Nat) : (s.setPort i x).relayOf j = s.relayOf j := rfl
@[simp] theorem State.setPort_reg (i : Nat) (x : PortSt) (j : Nat) : (s.setPort i x).reg j = s.reg j := rfl

@[simp] theorem State.modPort_ctrlClk (i : Nat) (f : PortSt → PortSt) : (s.modPort i f).ctrlClk = s.ctrlClk := rfl
@[simp] theorem State.modPort_freeCtr (i : Nat) (f : PortSt → PortSt) : (s.modPort i f).freeCtr = s.freeCtr := rfl
@[simp] theorem State.modPort_wire (i : Nat) (f : PortSt → PortSt) : (s.modPort i f).wire = s.wire := rfl
@[simp] theorem State.modPort_regs (i : Nat) (f : PortSt → PortSt) : (s.modPort i f).regs = s.regs := rfl
@[simp] theorem State.modPort_mem (i : Nat) (f : PortSt → PortSt) : (s.modPort i f).mem = s.mem := rfl
@[simp] theorem State.modPort_ecc (i : Nat) (f : PortSt → PortSt) : (s.modPort i f).ecc = s.ecc := rfl
@[simp] theorem State.modPort_host (i : Nat) (f : PortSt → PortSt) : (s.modPort i f).host = s.host := rfl
@[simp] theorem State.modPort_flash (i : Nat) (f : PortSt → PortSt) : (s.modPort i f).flash = s.flash := rfl
@[simp] theorem State.modPort_pba (i : Nat) (f : PortSt → PortSt) : (s.modPort i f).pba = s.pba := rfl
@[simp] theorem State.modPort_pwr (i : Nat) (f : PortSt → PortSt) : (s.modPort i f).pwr = s.pwr := rfl
@[simp] theorem State.modPort_fuses (i : Nat) (f : PortSt → PortSt) : (s.modPort i f).fuses = s.fuses := rfl
@[simp] theorem State.modPort_sec (i : Nat) (f : PortSt → PortSt) : (s.modPort i f).sec = s.sec := rfl
@[simp] theorem State.modPort_mbHost (i : Nat) (f : PortSt → PortSt) : (s.modPort i f).mbHost = s.mbHost := rfl
@[simp] theorem State.modPort_mbBoard (i : Nat) (f : PortSt → PortSt) : (s.modPort i f).mbBoard = s.mbBoard := rfl
@[simp] theorem State.modPort_mbOrder (i : Nat) (f : PortSt → PortSt) : (s.modPort i f).mbOrder = s.mbOrder := rfl
@[simp] theorem State.modPort_fab (i : Nat) (f : PortSt → PortSt) : (s.modPort i f).fab = s.fab := rfl
@[simp] theorem State.modPort_thm (i : Nat) (f : PortSt → PortSt) : (s.modPort i f).thm = s.thm := rfl
@[simp] theorem State.modPort_tsu (i : Nat) (f : PortSt → PortSt) : (s.modPort i f).tsu = s.tsu := rfl
@[simp] theorem State.modPort_parts (i : Nat) (f : PortSt → PortSt) : (s.modPort i f).parts = s.parts := rfl
@[simp] theorem State.modPort_boxes (i : Nat) (f : PortSt → PortSt) : (s.modPort i f).boxes = s.boxes := rfl
@[simp] theorem State.modPort_loans (i : Nat) (f : PortSt → PortSt) : (s.modPort i f).loans = s.loans := rfl
@[simp] theorem State.modPort_ushers (i : Nat) (f : PortSt → PortSt) : (s.modPort i f).ushers = s.ushers := rfl
@[simp] theorem State.modPort_syncs (i : Nat) (f : PortSt → PortSt) : (s.modPort i f).syncs = s.syncs := rfl
@[simp] theorem State.modPort_clus (i : Nat) (f : PortSt → PortSt) : (s.modPort i f).clus = s.clus := rfl
@[simp] theorem State.modPort_cores (i : Nat) (f : PortSt → PortSt) : (s.modPort i f).cores = s.cores := rfl
@[simp] theorem State.modPort_chans (i : Nat) (f : PortSt → PortSt) : (s.modPort i f).chans = s.chans := rfl
@[simp] theorem State.modPort_sites (i : Nat) (f : PortSt → PortSt) : (s.modPort i f).sites = s.sites := rfl
@[simp] theorem State.modPort_rings (i : Nat) (f : PortSt → PortSt) : (s.modPort i f).rings = s.rings := rfl
@[simp] theorem State.modPort_links (i : Nat) (f : PortSt → PortSt) : (s.modPort i f).links = s.links := rfl
@[simp] theorem State.modPort_peers (i : Nat) (f : PortSt → PortSt) : (s.modPort i f).peers = s.peers := rfl
@[simp] theorem State.modPort_croutes (i : Nat) (f : PortSt → PortSt) : (s.modPort i f).croutes = s.croutes := rfl
@[simp] theorem State.modPort_inbox (i : Nat) (f : PortSt → PortSt) : (s.modPort i f).inbox = s.inbox := rfl
@[simp] theorem State.modPort_relay (i : Nat) (f : PortSt → PortSt) : (s.modPort i f).relay = s.relay := rfl
@[simp] theorem State.modPort_hostBad (i : Nat) (f : PortSt → PortSt) : (s.modPort i f).hostBad = s.hostBad := rfl
@[simp] theorem State.modPort_pending (i : Nat) (f : PortSt → PortSt) : (s.modPort i f).pending = s.pending := rfl
@[simp] theorem State.modPort_part (i : Nat) (f : PortSt → PortSt) (j : Nat) : (s.modPort i f).part j = s.part j := rfl
@[simp] theorem State.modPort_box (i : Nat) (f : PortSt → PortSt) (j : Nat) : (s.modPort i f).box j = s.box j := rfl
@[simp] theorem State.modPort_usher (i : Nat) (f : PortSt → PortSt) (j : Nat) : (s.modPort i f).usher j = s.usher j := rfl
@[simp] theorem State.modPort_sync (i : Nat) (f : PortSt → PortSt) (j : Nat) : (s.modPort i f).sync j = s.sync j := rfl
@[simp] theorem State.modPort_clu (i : Nat) (f : PortSt → PortSt) (j : Nat) : (s.modPort i f).clu j = s.clu j := rfl
@[simp] theorem State.modPort_core (i : Nat) (f : PortSt → PortSt) (j : Nat) : (s.modPort i f).core j = s.core j := rfl
@[simp] theorem State.modPort_chan (i : Nat) (f : PortSt → PortSt) (j : Nat) : (s.modPort i f).chan j = s.chan j := rfl
@[simp] theorem State.modPort_site (i : Nat) (f : PortSt → PortSt) (j : Nat) : (s.modPort i f).site j = s.site j := rfl
@[simp] theorem State.modPort_ring (i : Nat) (f : PortSt → PortSt) (j : Nat) : (s.modPort i f).ring j = s.ring j := rfl
@[simp] theorem State.modPort_link (i : Nat) (f : PortSt → PortSt) (j : Nat) : (s.modPort i f).link j = s.link j := rfl
@[simp] theorem State.modPort_inboxOf (i : Nat) (f : PortSt → PortSt) (j : Nat) : (s.modPort i f).inboxOf j = s.inboxOf j := rfl
@[simp] theorem State.modPort_relayOf (i : Nat) (f : PortSt → PortSt) (j : Nat) : (s.modPort i f).relayOf j = s.relayOf j := rfl
@[simp] theorem State.modPort_reg (i : Nat) (f : PortSt → PortSt) (j : Nat) : (s.modPort i f).reg j = s.reg j := rfl

@[simp] theorem State.setLink_ctrlClk (i : Nat) (x : LinkSt) : (s.setLink i x).ctrlClk = s.ctrlClk := rfl
@[simp] theorem State.setLink_freeCtr (i : Nat) (x : LinkSt) : (s.setLink i x).freeCtr = s.freeCtr := rfl
@[simp] theorem State.setLink_wire (i : Nat) (x : LinkSt) : (s.setLink i x).wire = s.wire := rfl
@[simp] theorem State.setLink_regs (i : Nat) (x : LinkSt) : (s.setLink i x).regs = s.regs := rfl
@[simp] theorem State.setLink_mem (i : Nat) (x : LinkSt) : (s.setLink i x).mem = s.mem := rfl
@[simp] theorem State.setLink_ecc (i : Nat) (x : LinkSt) : (s.setLink i x).ecc = s.ecc := rfl
@[simp] theorem State.setLink_host (i : Nat) (x : LinkSt) : (s.setLink i x).host = s.host := rfl
@[simp] theorem State.setLink_flash (i : Nat) (x : LinkSt) : (s.setLink i x).flash = s.flash := rfl
@[simp] theorem State.setLink_pba (i : Nat) (x : LinkSt) : (s.setLink i x).pba = s.pba := rfl
@[simp] theorem State.setLink_pwr (i : Nat) (x : LinkSt) : (s.setLink i x).pwr = s.pwr := rfl
@[simp] theorem State.setLink_fuses (i : Nat) (x : LinkSt) : (s.setLink i x).fuses = s.fuses := rfl
@[simp] theorem State.setLink_sec (i : Nat) (x : LinkSt) : (s.setLink i x).sec = s.sec := rfl
@[simp] theorem State.setLink_mbHost (i : Nat) (x : LinkSt) : (s.setLink i x).mbHost = s.mbHost := rfl
@[simp] theorem State.setLink_mbBoard (i : Nat) (x : LinkSt) : (s.setLink i x).mbBoard = s.mbBoard := rfl
@[simp] theorem State.setLink_mbOrder (i : Nat) (x : LinkSt) : (s.setLink i x).mbOrder = s.mbOrder := rfl
@[simp] theorem State.setLink_fab (i : Nat) (x : LinkSt) : (s.setLink i x).fab = s.fab := rfl
@[simp] theorem State.setLink_thm (i : Nat) (x : LinkSt) : (s.setLink i x).thm = s.thm := rfl
@[simp] theorem State.setLink_tsu (i : Nat) (x : LinkSt) : (s.setLink i x).tsu = s.tsu := rfl
@[simp] theorem State.setLink_parts (i : Nat) (x : LinkSt) : (s.setLink i x).parts = s.parts := rfl
@[simp] theorem State.setLink_boxes (i : Nat) (x : LinkSt) : (s.setLink i x).boxes = s.boxes := rfl
@[simp] theorem State.setLink_loans (i : Nat) (x : LinkSt) : (s.setLink i x).loans = s.loans := rfl
@[simp] theorem State.setLink_ushers (i : Nat) (x : LinkSt) : (s.setLink i x).ushers = s.ushers := rfl
@[simp] theorem State.setLink_syncs (i : Nat) (x : LinkSt) : (s.setLink i x).syncs = s.syncs := rfl
@[simp] theorem State.setLink_clus (i : Nat) (x : LinkSt) : (s.setLink i x).clus = s.clus := rfl
@[simp] theorem State.setLink_cores (i : Nat) (x : LinkSt) : (s.setLink i x).cores = s.cores := rfl
@[simp] theorem State.setLink_chans (i : Nat) (x : LinkSt) : (s.setLink i x).chans = s.chans := rfl
@[simp] theorem State.setLink_sites (i : Nat) (x : LinkSt) : (s.setLink i x).sites = s.sites := rfl
@[simp] theorem State.setLink_rings (i : Nat) (x : LinkSt) : (s.setLink i x).rings = s.rings := rfl
@[simp] theorem State.setLink_ports (i : Nat) (x : LinkSt) : (s.setLink i x).ports = s.ports := rfl
@[simp] theorem State.setLink_peers (i : Nat) (x : LinkSt) : (s.setLink i x).peers = s.peers := rfl
@[simp] theorem State.setLink_croutes (i : Nat) (x : LinkSt) : (s.setLink i x).croutes = s.croutes := rfl
@[simp] theorem State.setLink_inbox (i : Nat) (x : LinkSt) : (s.setLink i x).inbox = s.inbox := rfl
@[simp] theorem State.setLink_relay (i : Nat) (x : LinkSt) : (s.setLink i x).relay = s.relay := rfl
@[simp] theorem State.setLink_hostBad (i : Nat) (x : LinkSt) : (s.setLink i x).hostBad = s.hostBad := rfl
@[simp] theorem State.setLink_pending (i : Nat) (x : LinkSt) : (s.setLink i x).pending = s.pending := rfl
@[simp] theorem State.setLink_part (i : Nat) (x : LinkSt) (j : Nat) : (s.setLink i x).part j = s.part j := rfl
@[simp] theorem State.setLink_box (i : Nat) (x : LinkSt) (j : Nat) : (s.setLink i x).box j = s.box j := rfl
@[simp] theorem State.setLink_usher (i : Nat) (x : LinkSt) (j : Nat) : (s.setLink i x).usher j = s.usher j := rfl
@[simp] theorem State.setLink_sync (i : Nat) (x : LinkSt) (j : Nat) : (s.setLink i x).sync j = s.sync j := rfl
@[simp] theorem State.setLink_clu (i : Nat) (x : LinkSt) (j : Nat) : (s.setLink i x).clu j = s.clu j := rfl
@[simp] theorem State.setLink_core (i : Nat) (x : LinkSt) (j : Nat) : (s.setLink i x).core j = s.core j := rfl
@[simp] theorem State.setLink_chan (i : Nat) (x : LinkSt) (j : Nat) : (s.setLink i x).chan j = s.chan j := rfl
@[simp] theorem State.setLink_site (i : Nat) (x : LinkSt) (j : Nat) : (s.setLink i x).site j = s.site j := rfl
@[simp] theorem State.setLink_ring (i : Nat) (x : LinkSt) (j : Nat) : (s.setLink i x).ring j = s.ring j := rfl
@[simp] theorem State.setLink_port (i : Nat) (x : LinkSt) (j : Nat) : (s.setLink i x).port j = s.port j := rfl
@[simp] theorem State.setLink_inboxOf (i : Nat) (x : LinkSt) (j : Nat) : (s.setLink i x).inboxOf j = s.inboxOf j := rfl
@[simp] theorem State.setLink_relayOf (i : Nat) (x : LinkSt) (j : Nat) : (s.setLink i x).relayOf j = s.relayOf j := rfl
@[simp] theorem State.setLink_reg (i : Nat) (x : LinkSt) (j : Nat) : (s.setLink i x).reg j = s.reg j := rfl

@[simp] theorem State.modLink_ctrlClk (i : Nat) (f : LinkSt → LinkSt) : (s.modLink i f).ctrlClk = s.ctrlClk := rfl
@[simp] theorem State.modLink_freeCtr (i : Nat) (f : LinkSt → LinkSt) : (s.modLink i f).freeCtr = s.freeCtr := rfl
@[simp] theorem State.modLink_wire (i : Nat) (f : LinkSt → LinkSt) : (s.modLink i f).wire = s.wire := rfl
@[simp] theorem State.modLink_regs (i : Nat) (f : LinkSt → LinkSt) : (s.modLink i f).regs = s.regs := rfl
@[simp] theorem State.modLink_mem (i : Nat) (f : LinkSt → LinkSt) : (s.modLink i f).mem = s.mem := rfl
@[simp] theorem State.modLink_ecc (i : Nat) (f : LinkSt → LinkSt) : (s.modLink i f).ecc = s.ecc := rfl
@[simp] theorem State.modLink_host (i : Nat) (f : LinkSt → LinkSt) : (s.modLink i f).host = s.host := rfl
@[simp] theorem State.modLink_flash (i : Nat) (f : LinkSt → LinkSt) : (s.modLink i f).flash = s.flash := rfl
@[simp] theorem State.modLink_pba (i : Nat) (f : LinkSt → LinkSt) : (s.modLink i f).pba = s.pba := rfl
@[simp] theorem State.modLink_pwr (i : Nat) (f : LinkSt → LinkSt) : (s.modLink i f).pwr = s.pwr := rfl
@[simp] theorem State.modLink_fuses (i : Nat) (f : LinkSt → LinkSt) : (s.modLink i f).fuses = s.fuses := rfl
@[simp] theorem State.modLink_sec (i : Nat) (f : LinkSt → LinkSt) : (s.modLink i f).sec = s.sec := rfl
@[simp] theorem State.modLink_mbHost (i : Nat) (f : LinkSt → LinkSt) : (s.modLink i f).mbHost = s.mbHost := rfl
@[simp] theorem State.modLink_mbBoard (i : Nat) (f : LinkSt → LinkSt) : (s.modLink i f).mbBoard = s.mbBoard := rfl
@[simp] theorem State.modLink_mbOrder (i : Nat) (f : LinkSt → LinkSt) : (s.modLink i f).mbOrder = s.mbOrder := rfl
@[simp] theorem State.modLink_fab (i : Nat) (f : LinkSt → LinkSt) : (s.modLink i f).fab = s.fab := rfl
@[simp] theorem State.modLink_thm (i : Nat) (f : LinkSt → LinkSt) : (s.modLink i f).thm = s.thm := rfl
@[simp] theorem State.modLink_tsu (i : Nat) (f : LinkSt → LinkSt) : (s.modLink i f).tsu = s.tsu := rfl
@[simp] theorem State.modLink_parts (i : Nat) (f : LinkSt → LinkSt) : (s.modLink i f).parts = s.parts := rfl
@[simp] theorem State.modLink_boxes (i : Nat) (f : LinkSt → LinkSt) : (s.modLink i f).boxes = s.boxes := rfl
@[simp] theorem State.modLink_loans (i : Nat) (f : LinkSt → LinkSt) : (s.modLink i f).loans = s.loans := rfl
@[simp] theorem State.modLink_ushers (i : Nat) (f : LinkSt → LinkSt) : (s.modLink i f).ushers = s.ushers := rfl
@[simp] theorem State.modLink_syncs (i : Nat) (f : LinkSt → LinkSt) : (s.modLink i f).syncs = s.syncs := rfl
@[simp] theorem State.modLink_clus (i : Nat) (f : LinkSt → LinkSt) : (s.modLink i f).clus = s.clus := rfl
@[simp] theorem State.modLink_cores (i : Nat) (f : LinkSt → LinkSt) : (s.modLink i f).cores = s.cores := rfl
@[simp] theorem State.modLink_chans (i : Nat) (f : LinkSt → LinkSt) : (s.modLink i f).chans = s.chans := rfl
@[simp] theorem State.modLink_sites (i : Nat) (f : LinkSt → LinkSt) : (s.modLink i f).sites = s.sites := rfl
@[simp] theorem State.modLink_rings (i : Nat) (f : LinkSt → LinkSt) : (s.modLink i f).rings = s.rings := rfl
@[simp] theorem State.modLink_ports (i : Nat) (f : LinkSt → LinkSt) : (s.modLink i f).ports = s.ports := rfl
@[simp] theorem State.modLink_peers (i : Nat) (f : LinkSt → LinkSt) : (s.modLink i f).peers = s.peers := rfl
@[simp] theorem State.modLink_croutes (i : Nat) (f : LinkSt → LinkSt) : (s.modLink i f).croutes = s.croutes := rfl
@[simp] theorem State.modLink_inbox (i : Nat) (f : LinkSt → LinkSt) : (s.modLink i f).inbox = s.inbox := rfl
@[simp] theorem State.modLink_relay (i : Nat) (f : LinkSt → LinkSt) : (s.modLink i f).relay = s.relay := rfl
@[simp] theorem State.modLink_hostBad (i : Nat) (f : LinkSt → LinkSt) : (s.modLink i f).hostBad = s.hostBad := rfl
@[simp] theorem State.modLink_pending (i : Nat) (f : LinkSt → LinkSt) : (s.modLink i f).pending = s.pending := rfl
@[simp] theorem State.modLink_part (i : Nat) (f : LinkSt → LinkSt) (j : Nat) : (s.modLink i f).part j = s.part j := rfl
@[simp] theorem State.modLink_box (i : Nat) (f : LinkSt → LinkSt) (j : Nat) : (s.modLink i f).box j = s.box j := rfl
@[simp] theorem State.modLink_usher (i : Nat) (f : LinkSt → LinkSt) (j : Nat) : (s.modLink i f).usher j = s.usher j := rfl
@[simp] theorem State.modLink_sync (i : Nat) (f : LinkSt → LinkSt) (j : Nat) : (s.modLink i f).sync j = s.sync j := rfl
@[simp] theorem State.modLink_clu (i : Nat) (f : LinkSt → LinkSt) (j : Nat) : (s.modLink i f).clu j = s.clu j := rfl
@[simp] theorem State.modLink_core (i : Nat) (f : LinkSt → LinkSt) (j : Nat) : (s.modLink i f).core j = s.core j := rfl
@[simp] theorem State.modLink_chan (i : Nat) (f : LinkSt → LinkSt) (j : Nat) : (s.modLink i f).chan j = s.chan j := rfl
@[simp] theorem State.modLink_site (i : Nat) (f : LinkSt → LinkSt) (j : Nat) : (s.modLink i f).site j = s.site j := rfl
@[simp] theorem State.modLink_ring (i : Nat) (f : LinkSt → LinkSt) (j : Nat) : (s.modLink i f).ring j = s.ring j := rfl
@[simp] theorem State.modLink_port (i : Nat) (f : LinkSt → LinkSt) (j : Nat) : (s.modLink i f).port j = s.port j := rfl
@[simp] theorem State.modLink_inboxOf (i : Nat) (f : LinkSt → LinkSt) (j : Nat) : (s.modLink i f).inboxOf j = s.inboxOf j := rfl
@[simp] theorem State.modLink_relayOf (i : Nat) (f : LinkSt → LinkSt) (j : Nat) : (s.modLink i f).relayOf j = s.relayOf j := rfl
@[simp] theorem State.modLink_reg (i : Nat) (f : LinkSt → LinkSt) (j : Nat) : (s.modLink i f).reg j = s.reg j := rfl

@[simp] theorem State.setInbox_ctrlClk (i : Nat) (x : List Arrived) : (s.setInbox i x).ctrlClk = s.ctrlClk := rfl
@[simp] theorem State.setInbox_freeCtr (i : Nat) (x : List Arrived) : (s.setInbox i x).freeCtr = s.freeCtr := rfl
@[simp] theorem State.setInbox_wire (i : Nat) (x : List Arrived) : (s.setInbox i x).wire = s.wire := rfl
@[simp] theorem State.setInbox_regs (i : Nat) (x : List Arrived) : (s.setInbox i x).regs = s.regs := rfl
@[simp] theorem State.setInbox_mem (i : Nat) (x : List Arrived) : (s.setInbox i x).mem = s.mem := rfl
@[simp] theorem State.setInbox_ecc (i : Nat) (x : List Arrived) : (s.setInbox i x).ecc = s.ecc := rfl
@[simp] theorem State.setInbox_host (i : Nat) (x : List Arrived) : (s.setInbox i x).host = s.host := rfl
@[simp] theorem State.setInbox_flash (i : Nat) (x : List Arrived) : (s.setInbox i x).flash = s.flash := rfl
@[simp] theorem State.setInbox_pba (i : Nat) (x : List Arrived) : (s.setInbox i x).pba = s.pba := rfl
@[simp] theorem State.setInbox_pwr (i : Nat) (x : List Arrived) : (s.setInbox i x).pwr = s.pwr := rfl
@[simp] theorem State.setInbox_fuses (i : Nat) (x : List Arrived) : (s.setInbox i x).fuses = s.fuses := rfl
@[simp] theorem State.setInbox_sec (i : Nat) (x : List Arrived) : (s.setInbox i x).sec = s.sec := rfl
@[simp] theorem State.setInbox_mbHost (i : Nat) (x : List Arrived) : (s.setInbox i x).mbHost = s.mbHost := rfl
@[simp] theorem State.setInbox_mbBoard (i : Nat) (x : List Arrived) : (s.setInbox i x).mbBoard = s.mbBoard := rfl
@[simp] theorem State.setInbox_mbOrder (i : Nat) (x : List Arrived) : (s.setInbox i x).mbOrder = s.mbOrder := rfl
@[simp] theorem State.setInbox_fab (i : Nat) (x : List Arrived) : (s.setInbox i x).fab = s.fab := rfl
@[simp] theorem State.setInbox_thm (i : Nat) (x : List Arrived) : (s.setInbox i x).thm = s.thm := rfl
@[simp] theorem State.setInbox_tsu (i : Nat) (x : List Arrived) : (s.setInbox i x).tsu = s.tsu := rfl
@[simp] theorem State.setInbox_parts (i : Nat) (x : List Arrived) : (s.setInbox i x).parts = s.parts := rfl
@[simp] theorem State.setInbox_boxes (i : Nat) (x : List Arrived) : (s.setInbox i x).boxes = s.boxes := rfl
@[simp] theorem State.setInbox_loans (i : Nat) (x : List Arrived) : (s.setInbox i x).loans = s.loans := rfl
@[simp] theorem State.setInbox_ushers (i : Nat) (x : List Arrived) : (s.setInbox i x).ushers = s.ushers := rfl
@[simp] theorem State.setInbox_syncs (i : Nat) (x : List Arrived) : (s.setInbox i x).syncs = s.syncs := rfl
@[simp] theorem State.setInbox_clus (i : Nat) (x : List Arrived) : (s.setInbox i x).clus = s.clus := rfl
@[simp] theorem State.setInbox_cores (i : Nat) (x : List Arrived) : (s.setInbox i x).cores = s.cores := rfl
@[simp] theorem State.setInbox_chans (i : Nat) (x : List Arrived) : (s.setInbox i x).chans = s.chans := rfl
@[simp] theorem State.setInbox_sites (i : Nat) (x : List Arrived) : (s.setInbox i x).sites = s.sites := rfl
@[simp] theorem State.setInbox_rings (i : Nat) (x : List Arrived) : (s.setInbox i x).rings = s.rings := rfl
@[simp] theorem State.setInbox_ports (i : Nat) (x : List Arrived) : (s.setInbox i x).ports = s.ports := rfl
@[simp] theorem State.setInbox_links (i : Nat) (x : List Arrived) : (s.setInbox i x).links = s.links := rfl
@[simp] theorem State.setInbox_peers (i : Nat) (x : List Arrived) : (s.setInbox i x).peers = s.peers := rfl
@[simp] theorem State.setInbox_croutes (i : Nat) (x : List Arrived) : (s.setInbox i x).croutes = s.croutes := rfl
@[simp] theorem State.setInbox_relay (i : Nat) (x : List Arrived) : (s.setInbox i x).relay = s.relay := rfl
@[simp] theorem State.setInbox_hostBad (i : Nat) (x : List Arrived) : (s.setInbox i x).hostBad = s.hostBad := rfl
@[simp] theorem State.setInbox_pending (i : Nat) (x : List Arrived) : (s.setInbox i x).pending = s.pending := rfl
@[simp] theorem State.setInbox_part (i : Nat) (x : List Arrived) (j : Nat) : (s.setInbox i x).part j = s.part j := rfl
@[simp] theorem State.setInbox_box (i : Nat) (x : List Arrived) (j : Nat) : (s.setInbox i x).box j = s.box j := rfl
@[simp] theorem State.setInbox_usher (i : Nat) (x : List Arrived) (j : Nat) : (s.setInbox i x).usher j = s.usher j := rfl
@[simp] theorem State.setInbox_sync (i : Nat) (x : List Arrived) (j : Nat) : (s.setInbox i x).sync j = s.sync j := rfl
@[simp] theorem State.setInbox_clu (i : Nat) (x : List Arrived) (j : Nat) : (s.setInbox i x).clu j = s.clu j := rfl
@[simp] theorem State.setInbox_core (i : Nat) (x : List Arrived) (j : Nat) : (s.setInbox i x).core j = s.core j := rfl
@[simp] theorem State.setInbox_chan (i : Nat) (x : List Arrived) (j : Nat) : (s.setInbox i x).chan j = s.chan j := rfl
@[simp] theorem State.setInbox_site (i : Nat) (x : List Arrived) (j : Nat) : (s.setInbox i x).site j = s.site j := rfl
@[simp] theorem State.setInbox_ring (i : Nat) (x : List Arrived) (j : Nat) : (s.setInbox i x).ring j = s.ring j := rfl
@[simp] theorem State.setInbox_port (i : Nat) (x : List Arrived) (j : Nat) : (s.setInbox i x).port j = s.port j := rfl
@[simp] theorem State.setInbox_link (i : Nat) (x : List Arrived) (j : Nat) : (s.setInbox i x).link j = s.link j := rfl
@[simp] theorem State.setInbox_relayOf (i : Nat) (x : List Arrived) (j : Nat) : (s.setInbox i x).relayOf j = s.relayOf j := rfl
@[simp] theorem State.setInbox_reg (i : Nat) (x : List Arrived) (j : Nat) : (s.setInbox i x).reg j = s.reg j := rfl

@[simp] theorem State.setRelay_ctrlClk (i : Nat) (x : List Arrived) : (s.setRelay i x).ctrlClk = s.ctrlClk := rfl
@[simp] theorem State.setRelay_freeCtr (i : Nat) (x : List Arrived) : (s.setRelay i x).freeCtr = s.freeCtr := rfl
@[simp] theorem State.setRelay_wire (i : Nat) (x : List Arrived) : (s.setRelay i x).wire = s.wire := rfl
@[simp] theorem State.setRelay_regs (i : Nat) (x : List Arrived) : (s.setRelay i x).regs = s.regs := rfl
@[simp] theorem State.setRelay_mem (i : Nat) (x : List Arrived) : (s.setRelay i x).mem = s.mem := rfl
@[simp] theorem State.setRelay_ecc (i : Nat) (x : List Arrived) : (s.setRelay i x).ecc = s.ecc := rfl
@[simp] theorem State.setRelay_host (i : Nat) (x : List Arrived) : (s.setRelay i x).host = s.host := rfl
@[simp] theorem State.setRelay_flash (i : Nat) (x : List Arrived) : (s.setRelay i x).flash = s.flash := rfl
@[simp] theorem State.setRelay_pba (i : Nat) (x : List Arrived) : (s.setRelay i x).pba = s.pba := rfl
@[simp] theorem State.setRelay_pwr (i : Nat) (x : List Arrived) : (s.setRelay i x).pwr = s.pwr := rfl
@[simp] theorem State.setRelay_fuses (i : Nat) (x : List Arrived) : (s.setRelay i x).fuses = s.fuses := rfl
@[simp] theorem State.setRelay_sec (i : Nat) (x : List Arrived) : (s.setRelay i x).sec = s.sec := rfl
@[simp] theorem State.setRelay_mbHost (i : Nat) (x : List Arrived) : (s.setRelay i x).mbHost = s.mbHost := rfl
@[simp] theorem State.setRelay_mbBoard (i : Nat) (x : List Arrived) : (s.setRelay i x).mbBoard = s.mbBoard := rfl
@[simp] theorem State.setRelay_mbOrder (i : Nat) (x : List Arrived) : (s.setRelay i x).mbOrder = s.mbOrder := rfl
@[simp] theorem State.setRelay_fab (i : Nat) (x : List Arrived) : (s.setRelay i x).fab = s.fab := rfl
@[simp] theorem State.setRelay_thm (i : Nat) (x : List Arrived) : (s.setRelay i x).thm = s.thm := rfl
@[simp] theorem State.setRelay_tsu (i : Nat) (x : List Arrived) : (s.setRelay i x).tsu = s.tsu := rfl
@[simp] theorem State.setRelay_parts (i : Nat) (x : List Arrived) : (s.setRelay i x).parts = s.parts := rfl
@[simp] theorem State.setRelay_boxes (i : Nat) (x : List Arrived) : (s.setRelay i x).boxes = s.boxes := rfl
@[simp] theorem State.setRelay_loans (i : Nat) (x : List Arrived) : (s.setRelay i x).loans = s.loans := rfl
@[simp] theorem State.setRelay_ushers (i : Nat) (x : List Arrived) : (s.setRelay i x).ushers = s.ushers := rfl
@[simp] theorem State.setRelay_syncs (i : Nat) (x : List Arrived) : (s.setRelay i x).syncs = s.syncs := rfl
@[simp] theorem State.setRelay_clus (i : Nat) (x : List Arrived) : (s.setRelay i x).clus = s.clus := rfl
@[simp] theorem State.setRelay_cores (i : Nat) (x : List Arrived) : (s.setRelay i x).cores = s.cores := rfl
@[simp] theorem State.setRelay_chans (i : Nat) (x : List Arrived) : (s.setRelay i x).chans = s.chans := rfl
@[simp] theorem State.setRelay_sites (i : Nat) (x : List Arrived) : (s.setRelay i x).sites = s.sites := rfl
@[simp] theorem State.setRelay_rings (i : Nat) (x : List Arrived) : (s.setRelay i x).rings = s.rings := rfl
@[simp] theorem State.setRelay_ports (i : Nat) (x : List Arrived) : (s.setRelay i x).ports = s.ports := rfl
@[simp] theorem State.setRelay_links (i : Nat) (x : List Arrived) : (s.setRelay i x).links = s.links := rfl
@[simp] theorem State.setRelay_peers (i : Nat) (x : List Arrived) : (s.setRelay i x).peers = s.peers := rfl
@[simp] theorem State.setRelay_croutes (i : Nat) (x : List Arrived) : (s.setRelay i x).croutes = s.croutes := rfl
@[simp] theorem State.setRelay_inbox (i : Nat) (x : List Arrived) : (s.setRelay i x).inbox = s.inbox := rfl
@[simp] theorem State.setRelay_hostBad (i : Nat) (x : List Arrived) : (s.setRelay i x).hostBad = s.hostBad := rfl
@[simp] theorem State.setRelay_pending (i : Nat) (x : List Arrived) : (s.setRelay i x).pending = s.pending := rfl
@[simp] theorem State.setRelay_part (i : Nat) (x : List Arrived) (j : Nat) : (s.setRelay i x).part j = s.part j := rfl
@[simp] theorem State.setRelay_box (i : Nat) (x : List Arrived) (j : Nat) : (s.setRelay i x).box j = s.box j := rfl
@[simp] theorem State.setRelay_usher (i : Nat) (x : List Arrived) (j : Nat) : (s.setRelay i x).usher j = s.usher j := rfl
@[simp] theorem State.setRelay_sync (i : Nat) (x : List Arrived) (j : Nat) : (s.setRelay i x).sync j = s.sync j := rfl
@[simp] theorem State.setRelay_clu (i : Nat) (x : List Arrived) (j : Nat) : (s.setRelay i x).clu j = s.clu j := rfl
@[simp] theorem State.setRelay_core (i : Nat) (x : List Arrived) (j : Nat) : (s.setRelay i x).core j = s.core j := rfl
@[simp] theorem State.setRelay_chan (i : Nat) (x : List Arrived) (j : Nat) : (s.setRelay i x).chan j = s.chan j := rfl
@[simp] theorem State.setRelay_site (i : Nat) (x : List Arrived) (j : Nat) : (s.setRelay i x).site j = s.site j := rfl
@[simp] theorem State.setRelay_ring (i : Nat) (x : List Arrived) (j : Nat) : (s.setRelay i x).ring j = s.ring j := rfl
@[simp] theorem State.setRelay_port (i : Nat) (x : List Arrived) (j : Nat) : (s.setRelay i x).port j = s.port j := rfl
@[simp] theorem State.setRelay_link (i : Nat) (x : List Arrived) (j : Nat) : (s.setRelay i x).link j = s.link j := rfl
@[simp] theorem State.setRelay_inboxOf (i : Nat) (x : List Arrived) (j : Nat) : (s.setRelay i x).inboxOf j = s.inboxOf j := rfl
@[simp] theorem State.setRelay_reg (i : Nat) (x : List Arrived) (j : Nat) : (s.setRelay i x).reg j = s.reg j := rfl

@[simp] theorem State.emit_ctrlClk (e : Emission) : (s.emit e).ctrlClk = s.ctrlClk := rfl
@[simp] theorem State.emit_freeCtr (e : Emission) : (s.emit e).freeCtr = s.freeCtr := rfl
@[simp] theorem State.emit_regs (e : Emission) : (s.emit e).regs = s.regs := rfl
@[simp] theorem State.emit_mem (e : Emission) : (s.emit e).mem = s.mem := rfl
@[simp] theorem State.emit_ecc (e : Emission) : (s.emit e).ecc = s.ecc := rfl
@[simp] theorem State.emit_host (e : Emission) : (s.emit e).host = s.host := rfl
@[simp] theorem State.emit_flash (e : Emission) : (s.emit e).flash = s.flash := rfl
@[simp] theorem State.emit_pba (e : Emission) : (s.emit e).pba = s.pba := rfl
@[simp] theorem State.emit_pwr (e : Emission) : (s.emit e).pwr = s.pwr := rfl
@[simp] theorem State.emit_fuses (e : Emission) : (s.emit e).fuses = s.fuses := rfl
@[simp] theorem State.emit_sec (e : Emission) : (s.emit e).sec = s.sec := rfl
@[simp] theorem State.emit_mbHost (e : Emission) : (s.emit e).mbHost = s.mbHost := rfl
@[simp] theorem State.emit_mbBoard (e : Emission) : (s.emit e).mbBoard = s.mbBoard := rfl
@[simp] theorem State.emit_mbOrder (e : Emission) : (s.emit e).mbOrder = s.mbOrder := rfl
@[simp] theorem State.emit_fab (e : Emission) : (s.emit e).fab = s.fab := rfl
@[simp] theorem State.emit_thm (e : Emission) : (s.emit e).thm = s.thm := rfl
@[simp] theorem State.emit_tsu (e : Emission) : (s.emit e).tsu = s.tsu := rfl
@[simp] theorem State.emit_parts (e : Emission) : (s.emit e).parts = s.parts := rfl
@[simp] theorem State.emit_boxes (e : Emission) : (s.emit e).boxes = s.boxes := rfl
@[simp] theorem State.emit_loans (e : Emission) : (s.emit e).loans = s.loans := rfl
@[simp] theorem State.emit_ushers (e : Emission) : (s.emit e).ushers = s.ushers := rfl
@[simp] theorem State.emit_syncs (e : Emission) : (s.emit e).syncs = s.syncs := rfl
@[simp] theorem State.emit_clus (e : Emission) : (s.emit e).clus = s.clus := rfl
@[simp] theorem State.emit_cores (e : Emission) : (s.emit e).cores = s.cores := rfl
@[simp] theorem State.emit_chans (e : Emission) : (s.emit e).chans = s.chans := rfl
@[simp] theorem State.emit_sites (e : Emission) : (s.emit e).sites = s.sites := rfl
@[simp] theorem State.emit_rings (e : Emission) : (s.emit e).rings = s.rings := rfl
@[simp] theorem State.emit_ports (e : Emission) : (s.emit e).ports = s.ports := rfl
@[simp] theorem State.emit_links (e : Emission) : (s.emit e).links = s.links := rfl
@[simp] theorem State.emit_peers (e : Emission) : (s.emit e).peers = s.peers := rfl
@[simp] theorem State.emit_croutes (e : Emission) : (s.emit e).croutes = s.croutes := rfl
@[simp] theorem State.emit_inbox (e : Emission) : (s.emit e).inbox = s.inbox := rfl
@[simp] theorem State.emit_relay (e : Emission) : (s.emit e).relay = s.relay := rfl
@[simp] theorem State.emit_hostBad (e : Emission) : (s.emit e).hostBad = s.hostBad := rfl
@[simp] theorem State.emit_pending (e : Emission) : (s.emit e).pending = s.pending := rfl
@[simp] theorem State.emit_part (e : Emission) (j : Nat) : (s.emit e).part j = s.part j := rfl
@[simp] theorem State.emit_box (e : Emission) (j : Nat) : (s.emit e).box j = s.box j := rfl
@[simp] theorem State.emit_usher (e : Emission) (j : Nat) : (s.emit e).usher j = s.usher j := rfl
@[simp] theorem State.emit_sync (e : Emission) (j : Nat) : (s.emit e).sync j = s.sync j := rfl
@[simp] theorem State.emit_clu (e : Emission) (j : Nat) : (s.emit e).clu j = s.clu j := rfl
@[simp] theorem State.emit_core (e : Emission) (j : Nat) : (s.emit e).core j = s.core j := rfl
@[simp] theorem State.emit_chan (e : Emission) (j : Nat) : (s.emit e).chan j = s.chan j := rfl
@[simp] theorem State.emit_site (e : Emission) (j : Nat) : (s.emit e).site j = s.site j := rfl
@[simp] theorem State.emit_ring (e : Emission) (j : Nat) : (s.emit e).ring j = s.ring j := rfl
@[simp] theorem State.emit_port (e : Emission) (j : Nat) : (s.emit e).port j = s.port j := rfl
@[simp] theorem State.emit_link (e : Emission) (j : Nat) : (s.emit e).link j = s.link j := rfl
@[simp] theorem State.emit_inboxOf (e : Emission) (j : Nat) : (s.emit e).inboxOf j = s.inboxOf j := rfl
@[simp] theorem State.emit_relayOf (e : Emission) (j : Nat) : (s.emit e).relayOf j = s.relayOf j := rfl
@[simp] theorem State.emit_reg (e : Emission) (j : Nat) : (s.emit e).reg j = s.reg j := rfl

@[simp] theorem State.tick_ctrlClk : (s.tick).ctrlClk = s.ctrlClk := rfl
@[simp] theorem State.tick_wire : (s.tick).wire = s.wire := rfl
@[simp] theorem State.tick_regs : (s.tick).regs = s.regs := rfl
@[simp] theorem State.tick_mem : (s.tick).mem = s.mem := rfl
@[simp] theorem State.tick_ecc : (s.tick).ecc = s.ecc := rfl
@[simp] theorem State.tick_host : (s.tick).host = s.host := rfl
@[simp] theorem State.tick_flash : (s.tick).flash = s.flash := rfl
@[simp] theorem State.tick_pba : (s.tick).pba = s.pba := rfl
@[simp] theorem State.tick_pwr : (s.tick).pwr = s.pwr := rfl
@[simp] theorem State.tick_fuses : (s.tick).fuses = s.fuses := rfl
@[simp] theorem State.tick_sec : (s.tick).sec = s.sec := rfl
@[simp] theorem State.tick_mbHost : (s.tick).mbHost = s.mbHost := rfl
@[simp] theorem State.tick_mbBoard : (s.tick).mbBoard = s.mbBoard := rfl
@[simp] theorem State.tick_mbOrder : (s.tick).mbOrder = s.mbOrder := rfl
@[simp] theorem State.tick_fab : (s.tick).fab = s.fab := rfl
@[simp] theorem State.tick_thm : (s.tick).thm = s.thm := rfl
@[simp] theorem State.tick_tsu : (s.tick).tsu = s.tsu := rfl
@[simp] theorem State.tick_parts : (s.tick).parts = s.parts := rfl
@[simp] theorem State.tick_boxes : (s.tick).boxes = s.boxes := rfl
@[simp] theorem State.tick_loans : (s.tick).loans = s.loans := rfl
@[simp] theorem State.tick_ushers : (s.tick).ushers = s.ushers := rfl
@[simp] theorem State.tick_syncs : (s.tick).syncs = s.syncs := rfl
@[simp] theorem State.tick_clus : (s.tick).clus = s.clus := rfl
@[simp] theorem State.tick_cores : (s.tick).cores = s.cores := rfl
@[simp] theorem State.tick_chans : (s.tick).chans = s.chans := rfl
@[simp] theorem State.tick_sites : (s.tick).sites = s.sites := rfl
@[simp] theorem State.tick_rings : (s.tick).rings = s.rings := rfl
@[simp] theorem State.tick_ports : (s.tick).ports = s.ports := rfl
@[simp] theorem State.tick_links : (s.tick).links = s.links := rfl
@[simp] theorem State.tick_peers : (s.tick).peers = s.peers := rfl
@[simp] theorem State.tick_croutes : (s.tick).croutes = s.croutes := rfl
@[simp] theorem State.tick_inbox : (s.tick).inbox = s.inbox := rfl
@[simp] theorem State.tick_relay : (s.tick).relay = s.relay := rfl
@[simp] theorem State.tick_hostBad : (s.tick).hostBad = s.hostBad := rfl
@[simp] theorem State.tick_pending : (s.tick).pending = s.pending := rfl
@[simp] theorem State.tick_part (j : Nat) : (s.tick).part j = s.part j := rfl
@[simp] theorem State.tick_box (j : Nat) : (s.tick).box j = s.box j := rfl
@[simp] theorem State.tick_usher (j : Nat) : (s.tick).usher j = s.usher j := rfl
@[simp] theorem State.tick_sync (j : Nat) : (s.tick).sync j = s.sync j := rfl
@[simp] theorem State.tick_clu (j : Nat) : (s.tick).clu j = s.clu j := rfl
@[simp] theorem State.tick_core (j : Nat) : (s.tick).core j = s.core j := rfl
@[simp] theorem State.tick_chan (j : Nat) : (s.tick).chan j = s.chan j := rfl
@[simp] theorem State.tick_site (j : Nat) : (s.tick).site j = s.site j := rfl
@[simp] theorem State.tick_ring (j : Nat) : (s.tick).ring j = s.ring j := rfl
@[simp] theorem State.tick_port (j : Nat) : (s.tick).port j = s.port j := rfl
@[simp] theorem State.tick_link (j : Nat) : (s.tick).link j = s.link j := rfl
@[simp] theorem State.tick_inboxOf (j : Nat) : (s.tick).inboxOf j = s.inboxOf j := rfl
@[simp] theorem State.tick_relayOf (j : Nat) : (s.tick).relayOf j = s.relayOf j := rfl
@[simp] theorem State.tick_reg (j : Nat) : (s.tick).reg j = s.reg j := rfl

@[simp] theorem State.setReg_ctrlClk (a : Nat) (v : W32) : (s.setReg a v).ctrlClk = s.ctrlClk := by rfl
@[simp] theorem State.setReg_freeCtr (a : Nat) (v : W32) : (s.setReg a v).freeCtr = s.freeCtr := by rfl
@[simp] theorem State.setReg_wire (a : Nat) (v : W32) : (s.setReg a v).wire = s.wire := by rfl
@[simp] theorem State.setReg_mem (a : Nat) (v : W32) : (s.setReg a v).mem = s.mem := by rfl
@[simp] theorem State.setReg_ecc (a : Nat) (v : W32) : (s.setReg a v).ecc = s.ecc := by rfl
@[simp] theorem State.setReg_host (a : Nat) (v : W32) : (s.setReg a v).host = s.host := by rfl
@[simp] theorem State.setReg_flash (a : Nat) (v : W32) : (s.setReg a v).flash = s.flash := by rfl
@[simp] theorem State.setReg_pba (a : Nat) (v : W32) : (s.setReg a v).pba = s.pba := by rfl
@[simp] theorem State.setReg_pwr (a : Nat) (v : W32) : (s.setReg a v).pwr = s.pwr := by rfl
@[simp] theorem State.setReg_fuses (a : Nat) (v : W32) : (s.setReg a v).fuses = s.fuses := by rfl
@[simp] theorem State.setReg_sec (a : Nat) (v : W32) : (s.setReg a v).sec = s.sec := by rfl
@[simp] theorem State.setReg_mbHost (a : Nat) (v : W32) : (s.setReg a v).mbHost = s.mbHost := by rfl
@[simp] theorem State.setReg_mbBoard (a : Nat) (v : W32) : (s.setReg a v).mbBoard = s.mbBoard := by rfl
@[simp] theorem State.setReg_mbOrder (a : Nat) (v : W32) : (s.setReg a v).mbOrder = s.mbOrder := by rfl
@[simp] theorem State.setReg_fab (a : Nat) (v : W32) : (s.setReg a v).fab = s.fab := by rfl
@[simp] theorem State.setReg_thm (a : Nat) (v : W32) : (s.setReg a v).thm = s.thm := by rfl
@[simp] theorem State.setReg_tsu (a : Nat) (v : W32) : (s.setReg a v).tsu = s.tsu := by rfl
@[simp] theorem State.setReg_parts (a : Nat) (v : W32) : (s.setReg a v).parts = s.parts := by rfl
@[simp] theorem State.setReg_boxes (a : Nat) (v : W32) : (s.setReg a v).boxes = s.boxes := by rfl
@[simp] theorem State.setReg_loans (a : Nat) (v : W32) : (s.setReg a v).loans = s.loans := by rfl
@[simp] theorem State.setReg_ushers (a : Nat) (v : W32) : (s.setReg a v).ushers = s.ushers := by rfl
@[simp] theorem State.setReg_syncs (a : Nat) (v : W32) : (s.setReg a v).syncs = s.syncs := by rfl
@[simp] theorem State.setReg_clus (a : Nat) (v : W32) : (s.setReg a v).clus = s.clus := by rfl
@[simp] theorem State.setReg_cores (a : Nat) (v : W32) : (s.setReg a v).cores = s.cores := by rfl
@[simp] theorem State.setReg_chans (a : Nat) (v : W32) : (s.setReg a v).chans = s.chans := by rfl
@[simp] theorem State.setReg_sites (a : Nat) (v : W32) : (s.setReg a v).sites = s.sites := by rfl
@[simp] theorem State.setReg_rings (a : Nat) (v : W32) : (s.setReg a v).rings = s.rings := by rfl
@[simp] theorem State.setReg_ports (a : Nat) (v : W32) : (s.setReg a v).ports = s.ports := by rfl
@[simp] theorem State.setReg_links (a : Nat) (v : W32) : (s.setReg a v).links = s.links := by rfl
@[simp] theorem State.setReg_peers (a : Nat) (v : W32) : (s.setReg a v).peers = s.peers := by rfl
@[simp] theorem State.setReg_croutes (a : Nat) (v : W32) : (s.setReg a v).croutes = s.croutes := by rfl
@[simp] theorem State.setReg_inbox (a : Nat) (v : W32) : (s.setReg a v).inbox = s.inbox := by rfl
@[simp] theorem State.setReg_relay (a : Nat) (v : W32) : (s.setReg a v).relay = s.relay := by rfl
@[simp] theorem State.setReg_pending (a : Nat) (v : W32) : (s.setReg a v).pending = s.pending := by rfl
@[simp] theorem State.setReg_part (a : Nat) (v : W32) (j : Nat) : (s.setReg a v).part j = s.part j := by rfl
@[simp] theorem State.setReg_box (a : Nat) (v : W32) (j : Nat) : (s.setReg a v).box j = s.box j := by rfl
@[simp] theorem State.setReg_usher (a : Nat) (v : W32) (j : Nat) : (s.setReg a v).usher j = s.usher j := by rfl
@[simp] theorem State.setReg_sync (a : Nat) (v : W32) (j : Nat) : (s.setReg a v).sync j = s.sync j := by rfl
@[simp] theorem State.setReg_clu (a : Nat) (v : W32) (j : Nat) : (s.setReg a v).clu j = s.clu j := by rfl
@[simp] theorem State.setReg_core (a : Nat) (v : W32) (j : Nat) : (s.setReg a v).core j = s.core j := by rfl
@[simp] theorem State.setReg_chan (a : Nat) (v : W32) (j : Nat) : (s.setReg a v).chan j = s.chan j := by rfl
@[simp] theorem State.setReg_site (a : Nat) (v : W32) (j : Nat) : (s.setReg a v).site j = s.site j := by rfl
@[simp] theorem State.setReg_ring (a : Nat) (v : W32) (j : Nat) : (s.setReg a v).ring j = s.ring j := by rfl
@[simp] theorem State.setReg_port (a : Nat) (v : W32) (j : Nat) : (s.setReg a v).port j = s.port j := by rfl
@[simp] theorem State.setReg_link (a : Nat) (v : W32) (j : Nat) : (s.setReg a v).link j = s.link j := by rfl
@[simp] theorem State.setReg_inboxOf (a : Nat) (v : W32) (j : Nat) : (s.setReg a v).inboxOf j = s.inboxOf j := by rfl
@[simp] theorem State.setReg_relayOf (a : Nat) (v : W32) (j : Nat) : (s.setReg a v).relayOf j = s.relayOf j := by rfl

@[simp] theorem State.setFld_ctrlClk (a hi lo v : Nat) : (s.setFld a hi lo v).ctrlClk = s.ctrlClk := by rfl
@[simp] theorem State.setFld_freeCtr (a hi lo v : Nat) : (s.setFld a hi lo v).freeCtr = s.freeCtr := by rfl
@[simp] theorem State.setFld_wire (a hi lo v : Nat) : (s.setFld a hi lo v).wire = s.wire := by rfl
@[simp] theorem State.setFld_mem (a hi lo v : Nat) : (s.setFld a hi lo v).mem = s.mem := by rfl
@[simp] theorem State.setFld_ecc (a hi lo v : Nat) : (s.setFld a hi lo v).ecc = s.ecc := by rfl
@[simp] theorem State.setFld_host (a hi lo v : Nat) : (s.setFld a hi lo v).host = s.host := by rfl
@[simp] theorem State.setFld_flash (a hi lo v : Nat) : (s.setFld a hi lo v).flash = s.flash := by rfl
@[simp] theorem State.setFld_pba (a hi lo v : Nat) : (s.setFld a hi lo v).pba = s.pba := by rfl
@[simp] theorem State.setFld_pwr (a hi lo v : Nat) : (s.setFld a hi lo v).pwr = s.pwr := by rfl
@[simp] theorem State.setFld_fuses (a hi lo v : Nat) : (s.setFld a hi lo v).fuses = s.fuses := by rfl
@[simp] theorem State.setFld_sec (a hi lo v : Nat) : (s.setFld a hi lo v).sec = s.sec := by rfl
@[simp] theorem State.setFld_mbHost (a hi lo v : Nat) : (s.setFld a hi lo v).mbHost = s.mbHost := by rfl
@[simp] theorem State.setFld_mbBoard (a hi lo v : Nat) : (s.setFld a hi lo v).mbBoard = s.mbBoard := by rfl
@[simp] theorem State.setFld_mbOrder (a hi lo v : Nat) : (s.setFld a hi lo v).mbOrder = s.mbOrder := by rfl
@[simp] theorem State.setFld_fab (a hi lo v : Nat) : (s.setFld a hi lo v).fab = s.fab := by rfl
@[simp] theorem State.setFld_thm (a hi lo v : Nat) : (s.setFld a hi lo v).thm = s.thm := by rfl
@[simp] theorem State.setFld_tsu (a hi lo v : Nat) : (s.setFld a hi lo v).tsu = s.tsu := by rfl
@[simp] theorem State.setFld_parts (a hi lo v : Nat) : (s.setFld a hi lo v).parts = s.parts := by rfl
@[simp] theorem State.setFld_boxes (a hi lo v : Nat) : (s.setFld a hi lo v).boxes = s.boxes := by rfl
@[simp] theorem State.setFld_loans (a hi lo v : Nat) : (s.setFld a hi lo v).loans = s.loans := by rfl
@[simp] theorem State.setFld_ushers (a hi lo v : Nat) : (s.setFld a hi lo v).ushers = s.ushers := by rfl
@[simp] theorem State.setFld_syncs (a hi lo v : Nat) : (s.setFld a hi lo v).syncs = s.syncs := by rfl
@[simp] theorem State.setFld_clus (a hi lo v : Nat) : (s.setFld a hi lo v).clus = s.clus := by rfl
@[simp] theorem State.setFld_cores (a hi lo v : Nat) : (s.setFld a hi lo v).cores = s.cores := by rfl
@[simp] theorem State.setFld_chans (a hi lo v : Nat) : (s.setFld a hi lo v).chans = s.chans := by rfl
@[simp] theorem State.setFld_sites (a hi lo v : Nat) : (s.setFld a hi lo v).sites = s.sites := by rfl
@[simp] theorem State.setFld_rings (a hi lo v : Nat) : (s.setFld a hi lo v).rings = s.rings := by rfl
@[simp] theorem State.setFld_ports (a hi lo v : Nat) : (s.setFld a hi lo v).ports = s.ports := by rfl
@[simp] theorem State.setFld_links (a hi lo v : Nat) : (s.setFld a hi lo v).links = s.links := by rfl
@[simp] theorem State.setFld_peers (a hi lo v : Nat) : (s.setFld a hi lo v).peers = s.peers := by rfl
@[simp] theorem State.setFld_croutes (a hi lo v : Nat) : (s.setFld a hi lo v).croutes = s.croutes := by rfl
@[simp] theorem State.setFld_inbox (a hi lo v : Nat) : (s.setFld a hi lo v).inbox = s.inbox := by rfl
@[simp] theorem State.setFld_relay (a hi lo v : Nat) : (s.setFld a hi lo v).relay = s.relay := by rfl
@[simp] theorem State.setFld_pending (a hi lo v : Nat) : (s.setFld a hi lo v).pending = s.pending := by rfl
@[simp] theorem State.setFld_part (a hi lo v : Nat) (j : Nat) : (s.setFld a hi lo v).part j = s.part j := by rfl
@[simp] theorem State.setFld_box (a hi lo v : Nat) (j : Nat) : (s.setFld a hi lo v).box j = s.box j := by rfl
@[simp] theorem State.setFld_usher (a hi lo v : Nat) (j : Nat) : (s.setFld a hi lo v).usher j = s.usher j := by rfl
@[simp] theorem State.setFld_sync (a hi lo v : Nat) (j : Nat) : (s.setFld a hi lo v).sync j = s.sync j := by rfl
@[simp] theorem State.setFld_clu (a hi lo v : Nat) (j : Nat) : (s.setFld a hi lo v).clu j = s.clu j := by rfl
@[simp] theorem State.setFld_core (a hi lo v : Nat) (j : Nat) : (s.setFld a hi lo v).core j = s.core j := by rfl
@[simp] theorem State.setFld_chan (a hi lo v : Nat) (j : Nat) : (s.setFld a hi lo v).chan j = s.chan j := by rfl
@[simp] theorem State.setFld_site (a hi lo v : Nat) (j : Nat) : (s.setFld a hi lo v).site j = s.site j := by rfl
@[simp] theorem State.setFld_ring (a hi lo v : Nat) (j : Nat) : (s.setFld a hi lo v).ring j = s.ring j := by rfl
@[simp] theorem State.setFld_port (a hi lo v : Nat) (j : Nat) : (s.setFld a hi lo v).port j = s.port j := by rfl
@[simp] theorem State.setFld_link (a hi lo v : Nat) (j : Nat) : (s.setFld a hi lo v).link j = s.link j := by rfl
@[simp] theorem State.setFld_inboxOf (a hi lo v : Nat) (j : Nat) : (s.setFld a hi lo v).inboxOf j = s.inboxOf j := by rfl
@[simp] theorem State.setFld_relayOf (a hi lo v : Nat) (j : Nat) : (s.setFld a hi lo v).relayOf j = s.relayOf j := by rfl

@[simp] theorem State.bump_ctrlClk (a n : Nat) : (s.bump a n).ctrlClk = s.ctrlClk := by rfl
@[simp] theorem State.bump_freeCtr (a n : Nat) : (s.bump a n).freeCtr = s.freeCtr := by rfl
@[simp] theorem State.bump_wire (a n : Nat) : (s.bump a n).wire = s.wire := by rfl
@[simp] theorem State.bump_mem (a n : Nat) : (s.bump a n).mem = s.mem := by rfl
@[simp] theorem State.bump_ecc (a n : Nat) : (s.bump a n).ecc = s.ecc := by rfl
@[simp] theorem State.bump_host (a n : Nat) : (s.bump a n).host = s.host := by rfl
@[simp] theorem State.bump_flash (a n : Nat) : (s.bump a n).flash = s.flash := by rfl
@[simp] theorem State.bump_pba (a n : Nat) : (s.bump a n).pba = s.pba := by rfl
@[simp] theorem State.bump_pwr (a n : Nat) : (s.bump a n).pwr = s.pwr := by rfl
@[simp] theorem State.bump_fuses (a n : Nat) : (s.bump a n).fuses = s.fuses := by rfl
@[simp] theorem State.bump_sec (a n : Nat) : (s.bump a n).sec = s.sec := by rfl
@[simp] theorem State.bump_mbHost (a n : Nat) : (s.bump a n).mbHost = s.mbHost := by rfl
@[simp] theorem State.bump_mbBoard (a n : Nat) : (s.bump a n).mbBoard = s.mbBoard := by rfl
@[simp] theorem State.bump_mbOrder (a n : Nat) : (s.bump a n).mbOrder = s.mbOrder := by rfl
@[simp] theorem State.bump_fab (a n : Nat) : (s.bump a n).fab = s.fab := by rfl
@[simp] theorem State.bump_thm (a n : Nat) : (s.bump a n).thm = s.thm := by rfl
@[simp] theorem State.bump_tsu (a n : Nat) : (s.bump a n).tsu = s.tsu := by rfl
@[simp] theorem State.bump_parts (a n : Nat) : (s.bump a n).parts = s.parts := by rfl
@[simp] theorem State.bump_boxes (a n : Nat) : (s.bump a n).boxes = s.boxes := by rfl
@[simp] theorem State.bump_loans (a n : Nat) : (s.bump a n).loans = s.loans := by rfl
@[simp] theorem State.bump_ushers (a n : Nat) : (s.bump a n).ushers = s.ushers := by rfl
@[simp] theorem State.bump_syncs (a n : Nat) : (s.bump a n).syncs = s.syncs := by rfl
@[simp] theorem State.bump_clus (a n : Nat) : (s.bump a n).clus = s.clus := by rfl
@[simp] theorem State.bump_cores (a n : Nat) : (s.bump a n).cores = s.cores := by rfl
@[simp] theorem State.bump_chans (a n : Nat) : (s.bump a n).chans = s.chans := by rfl
@[simp] theorem State.bump_sites (a n : Nat) : (s.bump a n).sites = s.sites := by rfl
@[simp] theorem State.bump_rings (a n : Nat) : (s.bump a n).rings = s.rings := by rfl
@[simp] theorem State.bump_ports (a n : Nat) : (s.bump a n).ports = s.ports := by rfl
@[simp] theorem State.bump_links (a n : Nat) : (s.bump a n).links = s.links := by rfl
@[simp] theorem State.bump_peers (a n : Nat) : (s.bump a n).peers = s.peers := by rfl
@[simp] theorem State.bump_croutes (a n : Nat) : (s.bump a n).croutes = s.croutes := by rfl
@[simp] theorem State.bump_inbox (a n : Nat) : (s.bump a n).inbox = s.inbox := by rfl
@[simp] theorem State.bump_relay (a n : Nat) : (s.bump a n).relay = s.relay := by rfl
@[simp] theorem State.bump_pending (a n : Nat) : (s.bump a n).pending = s.pending := by rfl
@[simp] theorem State.bump_part (a n : Nat) (j : Nat) : (s.bump a n).part j = s.part j := by rfl
@[simp] theorem State.bump_box (a n : Nat) (j : Nat) : (s.bump a n).box j = s.box j := by rfl
@[simp] theorem State.bump_usher (a n : Nat) (j : Nat) : (s.bump a n).usher j = s.usher j := by rfl
@[simp] theorem State.bump_sync (a n : Nat) (j : Nat) : (s.bump a n).sync j = s.sync j := by rfl
@[simp] theorem State.bump_clu (a n : Nat) (j : Nat) : (s.bump a n).clu j = s.clu j := by rfl
@[simp] theorem State.bump_core (a n : Nat) (j : Nat) : (s.bump a n).core j = s.core j := by rfl
@[simp] theorem State.bump_chan (a n : Nat) (j : Nat) : (s.bump a n).chan j = s.chan j := by rfl
@[simp] theorem State.bump_site (a n : Nat) (j : Nat) : (s.bump a n).site j = s.site j := by rfl
@[simp] theorem State.bump_ring (a n : Nat) (j : Nat) : (s.bump a n).ring j = s.ring j := by rfl
@[simp] theorem State.bump_port (a n : Nat) (j : Nat) : (s.bump a n).port j = s.port j := by rfl
@[simp] theorem State.bump_link (a n : Nat) (j : Nat) : (s.bump a n).link j = s.link j := by rfl
@[simp] theorem State.bump_inboxOf (a n : Nat) (j : Nat) : (s.bump a n).inboxOf j = s.inboxOf j := by rfl
@[simp] theorem State.bump_relayOf (a n : Nat) (j : Nat) : (s.bump a n).relayOf j = s.relayOf j := by rfl

@[simp] theorem State.hostWrite_ctrlClk (a : Nat) (bs : List Byte) : (s.hostWrite a bs).ctrlClk = s.ctrlClk := by rfl
@[simp] theorem State.hostWrite_freeCtr (a : Nat) (bs : List Byte) : (s.hostWrite a bs).freeCtr = s.freeCtr := by rfl
@[simp] theorem State.hostWrite_wire (a : Nat) (bs : List Byte) : (s.hostWrite a bs).wire = s.wire := by rfl
@[simp] theorem State.hostWrite_regs (a : Nat) (bs : List Byte) : (s.hostWrite a bs).regs = s.regs := by rfl
@[simp] theorem State.hostWrite_mem (a : Nat) (bs : List Byte) : (s.hostWrite a bs).mem = s.mem := by rfl
@[simp] theorem State.hostWrite_ecc (a : Nat) (bs : List Byte) : (s.hostWrite a bs).ecc = s.ecc := by rfl
@[simp] theorem State.hostWrite_flash (a : Nat) (bs : List Byte) : (s.hostWrite a bs).flash = s.flash := by rfl
@[simp] theorem State.hostWrite_pba (a : Nat) (bs : List Byte) : (s.hostWrite a bs).pba = s.pba := by rfl
@[simp] theorem State.hostWrite_pwr (a : Nat) (bs : List Byte) : (s.hostWrite a bs).pwr = s.pwr := by rfl
@[simp] theorem State.hostWrite_fuses (a : Nat) (bs : List Byte) : (s.hostWrite a bs).fuses = s.fuses := by rfl
@[simp] theorem State.hostWrite_sec (a : Nat) (bs : List Byte) : (s.hostWrite a bs).sec = s.sec := by rfl
@[simp] theorem State.hostWrite_mbHost (a : Nat) (bs : List Byte) : (s.hostWrite a bs).mbHost = s.mbHost := by rfl
@[simp] theorem State.hostWrite_mbBoard (a : Nat) (bs : List Byte) : (s.hostWrite a bs).mbBoard = s.mbBoard := by rfl
@[simp] theorem State.hostWrite_mbOrder (a : Nat) (bs : List Byte) : (s.hostWrite a bs).mbOrder = s.mbOrder := by rfl
@[simp] theorem State.hostWrite_fab (a : Nat) (bs : List Byte) : (s.hostWrite a bs).fab = s.fab := by rfl
@[simp] theorem State.hostWrite_thm (a : Nat) (bs : List Byte) : (s.hostWrite a bs).thm = s.thm := by rfl
@[simp] theorem State.hostWrite_tsu (a : Nat) (bs : List Byte) : (s.hostWrite a bs).tsu = s.tsu := by rfl
@[simp] theorem State.hostWrite_parts (a : Nat) (bs : List Byte) : (s.hostWrite a bs).parts = s.parts := by rfl
@[simp] theorem State.hostWrite_boxes (a : Nat) (bs : List Byte) : (s.hostWrite a bs).boxes = s.boxes := by rfl
@[simp] theorem State.hostWrite_loans (a : Nat) (bs : List Byte) : (s.hostWrite a bs).loans = s.loans := by rfl
@[simp] theorem State.hostWrite_ushers (a : Nat) (bs : List Byte) : (s.hostWrite a bs).ushers = s.ushers := by rfl
@[simp] theorem State.hostWrite_syncs (a : Nat) (bs : List Byte) : (s.hostWrite a bs).syncs = s.syncs := by rfl
@[simp] theorem State.hostWrite_clus (a : Nat) (bs : List Byte) : (s.hostWrite a bs).clus = s.clus := by rfl
@[simp] theorem State.hostWrite_cores (a : Nat) (bs : List Byte) : (s.hostWrite a bs).cores = s.cores := by rfl
@[simp] theorem State.hostWrite_chans (a : Nat) (bs : List Byte) : (s.hostWrite a bs).chans = s.chans := by rfl
@[simp] theorem State.hostWrite_sites (a : Nat) (bs : List Byte) : (s.hostWrite a bs).sites = s.sites := by rfl
@[simp] theorem State.hostWrite_rings (a : Nat) (bs : List Byte) : (s.hostWrite a bs).rings = s.rings := by rfl
@[simp] theorem State.hostWrite_ports (a : Nat) (bs : List Byte) : (s.hostWrite a bs).ports = s.ports := by rfl
@[simp] theorem State.hostWrite_links (a : Nat) (bs : List Byte) : (s.hostWrite a bs).links = s.links := by rfl
@[simp] theorem State.hostWrite_peers (a : Nat) (bs : List Byte) : (s.hostWrite a bs).peers = s.peers := by rfl
@[simp] theorem State.hostWrite_croutes (a : Nat) (bs : List Byte) : (s.hostWrite a bs).croutes = s.croutes := by rfl
@[simp] theorem State.hostWrite_inbox (a : Nat) (bs : List Byte) : (s.hostWrite a bs).inbox = s.inbox := by rfl
@[simp] theorem State.hostWrite_relay (a : Nat) (bs : List Byte) : (s.hostWrite a bs).relay = s.relay := by rfl
@[simp] theorem State.hostWrite_pending (a : Nat) (bs : List Byte) : (s.hostWrite a bs).pending = s.pending := by rfl
@[simp] theorem State.hostWrite_part (a : Nat) (bs : List Byte) (j : Nat) : (s.hostWrite a bs).part j = s.part j := by rfl
@[simp] theorem State.hostWrite_box (a : Nat) (bs : List Byte) (j : Nat) : (s.hostWrite a bs).box j = s.box j := by rfl
@[simp] theorem State.hostWrite_usher (a : Nat) (bs : List Byte) (j : Nat) : (s.hostWrite a bs).usher j = s.usher j := by rfl
@[simp] theorem State.hostWrite_sync (a : Nat) (bs : List Byte) (j : Nat) : (s.hostWrite a bs).sync j = s.sync j := by rfl
@[simp] theorem State.hostWrite_clu (a : Nat) (bs : List Byte) (j : Nat) : (s.hostWrite a bs).clu j = s.clu j := by rfl
@[simp] theorem State.hostWrite_core (a : Nat) (bs : List Byte) (j : Nat) : (s.hostWrite a bs).core j = s.core j := by rfl
@[simp] theorem State.hostWrite_chan (a : Nat) (bs : List Byte) (j : Nat) : (s.hostWrite a bs).chan j = s.chan j := by rfl
@[simp] theorem State.hostWrite_site (a : Nat) (bs : List Byte) (j : Nat) : (s.hostWrite a bs).site j = s.site j := by rfl
@[simp] theorem State.hostWrite_ring (a : Nat) (bs : List Byte) (j : Nat) : (s.hostWrite a bs).ring j = s.ring j := by rfl
@[simp] theorem State.hostWrite_port (a : Nat) (bs : List Byte) (j : Nat) : (s.hostWrite a bs).port j = s.port j := by rfl
@[simp] theorem State.hostWrite_link (a : Nat) (bs : List Byte) (j : Nat) : (s.hostWrite a bs).link j = s.link j := by rfl
@[simp] theorem State.hostWrite_inboxOf (a : Nat) (bs : List Byte) (j : Nat) : (s.hostWrite a bs).inboxOf j = s.inboxOf j := by rfl
@[simp] theorem State.hostWrite_relayOf (a : Nat) (bs : List Byte) (j : Nat) : (s.hostWrite a bs).relayOf j = s.relayOf j := by rfl
@[simp] theorem State.hostWrite_reg (a : Nat) (bs : List Byte) (j : Nat) : (s.hostWrite a bs).reg j = s.reg j := by rfl

@[simp] theorem State.flashWrite_ctrlClk (a : Nat) (bs : List Byte) : (s.flashWrite a bs).ctrlClk = s.ctrlClk := by rfl
@[simp] theorem State.flashWrite_freeCtr (a : Nat) (bs : List Byte) : (s.flashWrite a bs).freeCtr = s.freeCtr := by rfl
@[simp] theorem State.flashWrite_wire (a : Nat) (bs : List Byte) : (s.flashWrite a bs).wire = s.wire := by rfl
@[simp] theorem State.flashWrite_regs (a : Nat) (bs : List Byte) : (s.flashWrite a bs).regs = s.regs := by rfl
@[simp] theorem State.flashWrite_mem (a : Nat) (bs : List Byte) : (s.flashWrite a bs).mem = s.mem := by rfl
@[simp] theorem State.flashWrite_ecc (a : Nat) (bs : List Byte) : (s.flashWrite a bs).ecc = s.ecc := by rfl
@[simp] theorem State.flashWrite_host (a : Nat) (bs : List Byte) : (s.flashWrite a bs).host = s.host := by rfl
@[simp] theorem State.flashWrite_pba (a : Nat) (bs : List Byte) : (s.flashWrite a bs).pba = s.pba := by rfl
@[simp] theorem State.flashWrite_pwr (a : Nat) (bs : List Byte) : (s.flashWrite a bs).pwr = s.pwr := by rfl
@[simp] theorem State.flashWrite_fuses (a : Nat) (bs : List Byte) : (s.flashWrite a bs).fuses = s.fuses := by rfl
@[simp] theorem State.flashWrite_sec (a : Nat) (bs : List Byte) : (s.flashWrite a bs).sec = s.sec := by rfl
@[simp] theorem State.flashWrite_mbHost (a : Nat) (bs : List Byte) : (s.flashWrite a bs).mbHost = s.mbHost := by rfl
@[simp] theorem State.flashWrite_mbBoard (a : Nat) (bs : List Byte) : (s.flashWrite a bs).mbBoard = s.mbBoard := by rfl
@[simp] theorem State.flashWrite_mbOrder (a : Nat) (bs : List Byte) : (s.flashWrite a bs).mbOrder = s.mbOrder := by rfl
@[simp] theorem State.flashWrite_fab (a : Nat) (bs : List Byte) : (s.flashWrite a bs).fab = s.fab := by rfl
@[simp] theorem State.flashWrite_thm (a : Nat) (bs : List Byte) : (s.flashWrite a bs).thm = s.thm := by rfl
@[simp] theorem State.flashWrite_tsu (a : Nat) (bs : List Byte) : (s.flashWrite a bs).tsu = s.tsu := by rfl
@[simp] theorem State.flashWrite_parts (a : Nat) (bs : List Byte) : (s.flashWrite a bs).parts = s.parts := by rfl
@[simp] theorem State.flashWrite_boxes (a : Nat) (bs : List Byte) : (s.flashWrite a bs).boxes = s.boxes := by rfl
@[simp] theorem State.flashWrite_loans (a : Nat) (bs : List Byte) : (s.flashWrite a bs).loans = s.loans := by rfl
@[simp] theorem State.flashWrite_ushers (a : Nat) (bs : List Byte) : (s.flashWrite a bs).ushers = s.ushers := by rfl
@[simp] theorem State.flashWrite_syncs (a : Nat) (bs : List Byte) : (s.flashWrite a bs).syncs = s.syncs := by rfl
@[simp] theorem State.flashWrite_clus (a : Nat) (bs : List Byte) : (s.flashWrite a bs).clus = s.clus := by rfl
@[simp] theorem State.flashWrite_cores (a : Nat) (bs : List Byte) : (s.flashWrite a bs).cores = s.cores := by rfl
@[simp] theorem State.flashWrite_chans (a : Nat) (bs : List Byte) : (s.flashWrite a bs).chans = s.chans := by rfl
@[simp] theorem State.flashWrite_sites (a : Nat) (bs : List Byte) : (s.flashWrite a bs).sites = s.sites := by rfl
@[simp] theorem State.flashWrite_rings (a : Nat) (bs : List Byte) : (s.flashWrite a bs).rings = s.rings := by rfl
@[simp] theorem State.flashWrite_ports (a : Nat) (bs : List Byte) : (s.flashWrite a bs).ports = s.ports := by rfl
@[simp] theorem State.flashWrite_links (a : Nat) (bs : List Byte) : (s.flashWrite a bs).links = s.links := by rfl
@[simp] theorem State.flashWrite_peers (a : Nat) (bs : List Byte) : (s.flashWrite a bs).peers = s.peers := by rfl
@[simp] theorem State.flashWrite_croutes (a : Nat) (bs : List Byte) : (s.flashWrite a bs).croutes = s.croutes := by rfl
@[simp] theorem State.flashWrite_inbox (a : Nat) (bs : List Byte) : (s.flashWrite a bs).inbox = s.inbox := by rfl
@[simp] theorem State.flashWrite_relay (a : Nat) (bs : List Byte) : (s.flashWrite a bs).relay = s.relay := by rfl
@[simp] theorem State.flashWrite_pending (a : Nat) (bs : List Byte) : (s.flashWrite a bs).pending = s.pending := by rfl
@[simp] theorem State.flashWrite_part (a : Nat) (bs : List Byte) (j : Nat) : (s.flashWrite a bs).part j = s.part j := by rfl
@[simp] theorem State.flashWrite_box (a : Nat) (bs : List Byte) (j : Nat) : (s.flashWrite a bs).box j = s.box j := by rfl
@[simp] theorem State.flashWrite_usher (a : Nat) (bs : List Byte) (j : Nat) : (s.flashWrite a bs).usher j = s.usher j := by rfl
@[simp] theorem State.flashWrite_sync (a : Nat) (bs : List Byte) (j : Nat) : (s.flashWrite a bs).sync j = s.sync j := by rfl
@[simp] theorem State.flashWrite_clu (a : Nat) (bs : List Byte) (j : Nat) : (s.flashWrite a bs).clu j = s.clu j := by rfl
@[simp] theorem State.flashWrite_core (a : Nat) (bs : List Byte) (j : Nat) : (s.flashWrite a bs).core j = s.core j := by rfl
@[simp] theorem State.flashWrite_chan (a : Nat) (bs : List Byte) (j : Nat) : (s.flashWrite a bs).chan j = s.chan j := by rfl
@[simp] theorem State.flashWrite_site (a : Nat) (bs : List Byte) (j : Nat) : (s.flashWrite a bs).site j = s.site j := by rfl
@[simp] theorem State.flashWrite_ring (a : Nat) (bs : List Byte) (j : Nat) : (s.flashWrite a bs).ring j = s.ring j := by rfl
@[simp] theorem State.flashWrite_port (a : Nat) (bs : List Byte) (j : Nat) : (s.flashWrite a bs).port j = s.port j := by rfl
@[simp] theorem State.flashWrite_link (a : Nat) (bs : List Byte) (j : Nat) : (s.flashWrite a bs).link j = s.link j := by rfl
@[simp] theorem State.flashWrite_inboxOf (a : Nat) (bs : List Byte) (j : Nat) : (s.flashWrite a bs).inboxOf j = s.inboxOf j := by rfl
@[simp] theorem State.flashWrite_relayOf (a : Nat) (bs : List Byte) (j : Nat) : (s.flashWrite a bs).relayOf j = s.relayOf j := by rfl
@[simp] theorem State.flashWrite_reg (a : Nat) (bs : List Byte) (j : Nat) : (s.flashWrite a bs).reg j = s.reg j := by rfl

@[simp] theorem State.setHealth_ctrlClk (w : Nat) (h : Health) : (s.setHealth w h).ctrlClk = s.ctrlClk := by rfl
@[simp] theorem State.setHealth_freeCtr (w : Nat) (h : Health) : (s.setHealth w h).freeCtr = s.freeCtr := by rfl
@[simp] theorem State.setHealth_wire (w : Nat) (h : Health) : (s.setHealth w h).wire = s.wire := by rfl
@[simp] theorem State.setHealth_regs (w : Nat) (h : Health) : (s.setHealth w h).regs = s.regs := by rfl
@[simp] theorem State.setHealth_mem (w : Nat) (h : Health) : (s.setHealth w h).mem = s.mem := by rfl
@[simp] theorem State.setHealth_host (w : Nat) (h : Health) : (s.setHealth w h).host = s.host := by rfl
@[simp] theorem State.setHealth_flash (w : Nat) (h : Health) : (s.setHealth w h).flash = s.flash := by rfl
@[simp] theorem State.setHealth_pba (w : Nat) (h : Health) : (s.setHealth w h).pba = s.pba := by rfl
@[simp] theorem State.setHealth_pwr (w : Nat) (h : Health) : (s.setHealth w h).pwr = s.pwr := by rfl
@[simp] theorem State.setHealth_fuses (w : Nat) (h : Health) : (s.setHealth w h).fuses = s.fuses := by rfl
@[simp] theorem State.setHealth_sec (w : Nat) (h : Health) : (s.setHealth w h).sec = s.sec := by rfl
@[simp] theorem State.setHealth_mbHost (w : Nat) (h : Health) : (s.setHealth w h).mbHost = s.mbHost := by rfl
@[simp] theorem State.setHealth_mbBoard (w : Nat) (h : Health) : (s.setHealth w h).mbBoard = s.mbBoard := by rfl
@[simp] theorem State.setHealth_mbOrder (w : Nat) (h : Health) : (s.setHealth w h).mbOrder = s.mbOrder := by rfl
@[simp] theorem State.setHealth_fab (w : Nat) (h : Health) : (s.setHealth w h).fab = s.fab := by rfl
@[simp] theorem State.setHealth_thm (w : Nat) (h : Health) : (s.setHealth w h).thm = s.thm := by rfl
@[simp] theorem State.setHealth_tsu (w : Nat) (h : Health) : (s.setHealth w h).tsu = s.tsu := by rfl
@[simp] theorem State.setHealth_parts (w : Nat) (h : Health) : (s.setHealth w h).parts = s.parts := by rfl
@[simp] theorem State.setHealth_boxes (w : Nat) (h : Health) : (s.setHealth w h).boxes = s.boxes := by rfl
@[simp] theorem State.setHealth_loans (w : Nat) (h : Health) : (s.setHealth w h).loans = s.loans := by rfl
@[simp] theorem State.setHealth_ushers (w : Nat) (h : Health) : (s.setHealth w h).ushers = s.ushers := by rfl
@[simp] theorem State.setHealth_syncs (w : Nat) (h : Health) : (s.setHealth w h).syncs = s.syncs := by rfl
@[simp] theorem State.setHealth_clus (w : Nat) (h : Health) : (s.setHealth w h).clus = s.clus := by rfl
@[simp] theorem State.setHealth_cores (w : Nat) (h : Health) : (s.setHealth w h).cores = s.cores := by rfl
@[simp] theorem State.setHealth_chans (w : Nat) (h : Health) : (s.setHealth w h).chans = s.chans := by rfl
@[simp] theorem State.setHealth_sites (w : Nat) (h : Health) : (s.setHealth w h).sites = s.sites := by rfl
@[simp] theorem State.setHealth_rings (w : Nat) (h : Health) : (s.setHealth w h).rings = s.rings := by rfl
@[simp] theorem State.setHealth_ports (w : Nat) (h : Health) : (s.setHealth w h).ports = s.ports := by rfl
@[simp] theorem State.setHealth_links (w : Nat) (h : Health) : (s.setHealth w h).links = s.links := by rfl
@[simp] theorem State.setHealth_peers (w : Nat) (h : Health) : (s.setHealth w h).peers = s.peers := by rfl
@[simp] theorem State.setHealth_croutes (w : Nat) (h : Health) : (s.setHealth w h).croutes = s.croutes := by rfl
@[simp] theorem State.setHealth_inbox (w : Nat) (h : Health) : (s.setHealth w h).inbox = s.inbox := by rfl
@[simp] theorem State.setHealth_relay (w : Nat) (h : Health) : (s.setHealth w h).relay = s.relay := by rfl
@[simp] theorem State.setHealth_pending (w : Nat) (h : Health) : (s.setHealth w h).pending = s.pending := by rfl
@[simp] theorem State.setHealth_part (w : Nat) (h : Health) (j : Nat) : (s.setHealth w h).part j = s.part j := by rfl
@[simp] theorem State.setHealth_box (w : Nat) (h : Health) (j : Nat) : (s.setHealth w h).box j = s.box j := by rfl
@[simp] theorem State.setHealth_usher (w : Nat) (h : Health) (j : Nat) : (s.setHealth w h).usher j = s.usher j := by rfl
@[simp] theorem State.setHealth_sync (w : Nat) (h : Health) (j : Nat) : (s.setHealth w h).sync j = s.sync j := by rfl
@[simp] theorem State.setHealth_clu (w : Nat) (h : Health) (j : Nat) : (s.setHealth w h).clu j = s.clu j := by rfl
@[simp] theorem State.setHealth_core (w : Nat) (h : Health) (j : Nat) : (s.setHealth w h).core j = s.core j := by rfl
@[simp] theorem State.setHealth_chan (w : Nat) (h : Health) (j : Nat) : (s.setHealth w h).chan j = s.chan j := by rfl
@[simp] theorem State.setHealth_site (w : Nat) (h : Health) (j : Nat) : (s.setHealth w h).site j = s.site j := by rfl
@[simp] theorem State.setHealth_ring (w : Nat) (h : Health) (j : Nat) : (s.setHealth w h).ring j = s.ring j := by rfl
@[simp] theorem State.setHealth_port (w : Nat) (h : Health) (j : Nat) : (s.setHealth w h).port j = s.port j := by rfl
@[simp] theorem State.setHealth_link (w : Nat) (h : Health) (j : Nat) : (s.setHealth w h).link j = s.link j := by rfl
@[simp] theorem State.setHealth_inboxOf (w : Nat) (h : Health) (j : Nat) : (s.setHealth w h).inboxOf j = s.inboxOf j := by rfl
@[simp] theorem State.setHealth_relayOf (w : Nat) (h : Health) (j : Nat) : (s.setHealth w h).relayOf j = s.relayOf j := by rfl
@[simp] theorem State.setHealth_reg (w : Nat) (h : Health) (j : Nat) : (s.setHealth w h).reg j = s.reg j := by rfl

@[simp] theorem State.putBytes_ctrlClk (a : Nat) (bs : List Byte) : (s.putBytes a bs).ctrlClk = s.ctrlClk := by rfl
@[simp] theorem State.putBytes_freeCtr (a : Nat) (bs : List Byte) : (s.putBytes a bs).freeCtr = s.freeCtr := by rfl
@[simp] theorem State.putBytes_wire (a : Nat) (bs : List Byte) : (s.putBytes a bs).wire = s.wire := by rfl
@[simp] theorem State.putBytes_regs (a : Nat) (bs : List Byte) : (s.putBytes a bs).regs = s.regs := by rfl
@[simp] theorem State.putBytes_ecc (a : Nat) (bs : List Byte) : (s.putBytes a bs).ecc = s.ecc := by rfl
@[simp] theorem State.putBytes_host (a : Nat) (bs : List Byte) : (s.putBytes a bs).host = s.host := by rfl
@[simp] theorem State.putBytes_flash (a : Nat) (bs : List Byte) : (s.putBytes a bs).flash = s.flash := by rfl
@[simp] theorem State.putBytes_pba (a : Nat) (bs : List Byte) : (s.putBytes a bs).pba = s.pba := by rfl
@[simp] theorem State.putBytes_pwr (a : Nat) (bs : List Byte) : (s.putBytes a bs).pwr = s.pwr := by rfl
@[simp] theorem State.putBytes_fuses (a : Nat) (bs : List Byte) : (s.putBytes a bs).fuses = s.fuses := by rfl
@[simp] theorem State.putBytes_sec (a : Nat) (bs : List Byte) : (s.putBytes a bs).sec = s.sec := by rfl
@[simp] theorem State.putBytes_mbHost (a : Nat) (bs : List Byte) : (s.putBytes a bs).mbHost = s.mbHost := by rfl
@[simp] theorem State.putBytes_mbBoard (a : Nat) (bs : List Byte) : (s.putBytes a bs).mbBoard = s.mbBoard := by rfl
@[simp] theorem State.putBytes_mbOrder (a : Nat) (bs : List Byte) : (s.putBytes a bs).mbOrder = s.mbOrder := by rfl
@[simp] theorem State.putBytes_fab (a : Nat) (bs : List Byte) : (s.putBytes a bs).fab = s.fab := by rfl
@[simp] theorem State.putBytes_thm (a : Nat) (bs : List Byte) : (s.putBytes a bs).thm = s.thm := by rfl
@[simp] theorem State.putBytes_tsu (a : Nat) (bs : List Byte) : (s.putBytes a bs).tsu = s.tsu := by rfl
@[simp] theorem State.putBytes_parts (a : Nat) (bs : List Byte) : (s.putBytes a bs).parts = s.parts := by rfl
@[simp] theorem State.putBytes_boxes (a : Nat) (bs : List Byte) : (s.putBytes a bs).boxes = s.boxes := by rfl
@[simp] theorem State.putBytes_loans (a : Nat) (bs : List Byte) : (s.putBytes a bs).loans = s.loans := by rfl
@[simp] theorem State.putBytes_ushers (a : Nat) (bs : List Byte) : (s.putBytes a bs).ushers = s.ushers := by rfl
@[simp] theorem State.putBytes_syncs (a : Nat) (bs : List Byte) : (s.putBytes a bs).syncs = s.syncs := by rfl
@[simp] theorem State.putBytes_clus (a : Nat) (bs : List Byte) : (s.putBytes a bs).clus = s.clus := by rfl
@[simp] theorem State.putBytes_cores (a : Nat) (bs : List Byte) : (s.putBytes a bs).cores = s.cores := by rfl
@[simp] theorem State.putBytes_chans (a : Nat) (bs : List Byte) : (s.putBytes a bs).chans = s.chans := by rfl
@[simp] theorem State.putBytes_sites (a : Nat) (bs : List Byte) : (s.putBytes a bs).sites = s.sites := by rfl
@[simp] theorem State.putBytes_rings (a : Nat) (bs : List Byte) : (s.putBytes a bs).rings = s.rings := by rfl
@[simp] theorem State.putBytes_ports (a : Nat) (bs : List Byte) : (s.putBytes a bs).ports = s.ports := by rfl
@[simp] theorem State.putBytes_links (a : Nat) (bs : List Byte) : (s.putBytes a bs).links = s.links := by rfl
@[simp] theorem State.putBytes_peers (a : Nat) (bs : List Byte) : (s.putBytes a bs).peers = s.peers := by rfl
@[simp] theorem State.putBytes_croutes (a : Nat) (bs : List Byte) : (s.putBytes a bs).croutes = s.croutes := by rfl
@[simp] theorem State.putBytes_inbox (a : Nat) (bs : List Byte) : (s.putBytes a bs).inbox = s.inbox := by rfl
@[simp] theorem State.putBytes_relay (a : Nat) (bs : List Byte) : (s.putBytes a bs).relay = s.relay := by rfl
@[simp] theorem State.putBytes_pending (a : Nat) (bs : List Byte) : (s.putBytes a bs).pending = s.pending := by rfl
@[simp] theorem State.putBytes_part (a : Nat) (bs : List Byte) (j : Nat) : (s.putBytes a bs).part j = s.part j := by rfl
@[simp] theorem State.putBytes_box (a : Nat) (bs : List Byte) (j : Nat) : (s.putBytes a bs).box j = s.box j := by rfl
@[simp] theorem State.putBytes_usher (a : Nat) (bs : List Byte) (j : Nat) : (s.putBytes a bs).usher j = s.usher j := by rfl
@[simp] theorem State.putBytes_sync (a : Nat) (bs : List Byte) (j : Nat) : (s.putBytes a bs).sync j = s.sync j := by rfl
@[simp] theorem State.putBytes_clu (a : Nat) (bs : List Byte) (j : Nat) : (s.putBytes a bs).clu j = s.clu j := by rfl
@[simp] theorem State.putBytes_core (a : Nat) (bs : List Byte) (j : Nat) : (s.putBytes a bs).core j = s.core j := by rfl
@[simp] theorem State.putBytes_chan (a : Nat) (bs : List Byte) (j : Nat) : (s.putBytes a bs).chan j = s.chan j := by rfl
@[simp] theorem State.putBytes_site (a : Nat) (bs : List Byte) (j : Nat) : (s.putBytes a bs).site j = s.site j := by rfl
@[simp] theorem State.putBytes_ring (a : Nat) (bs : List Byte) (j : Nat) : (s.putBytes a bs).ring j = s.ring j := by rfl
@[simp] theorem State.putBytes_port (a : Nat) (bs : List Byte) (j : Nat) : (s.putBytes a bs).port j = s.port j := by rfl
@[simp] theorem State.putBytes_link (a : Nat) (bs : List Byte) (j : Nat) : (s.putBytes a bs).link j = s.link j := by rfl
@[simp] theorem State.putBytes_inboxOf (a : Nat) (bs : List Byte) (j : Nat) : (s.putBytes a bs).inboxOf j = s.inboxOf j := by rfl
@[simp] theorem State.putBytes_relayOf (a : Nat) (bs : List Byte) (j : Nat) : (s.putBytes a bs).relayOf j = s.relayOf j := by rfl
@[simp] theorem State.putBytes_reg (a : Nat) (bs : List Byte) (j : Nat) : (s.putBytes a bs).reg j = s.reg j := by rfl

@[simp] theorem State.setPwr_ctrlClk (x : PwrSt) : (s.setPwr x).ctrlClk = s.ctrlClk := rfl
@[simp] theorem State.setPwr_freeCtr (x : PwrSt) : (s.setPwr x).freeCtr = s.freeCtr := rfl
@[simp] theorem State.setPwr_wire (x : PwrSt) : (s.setPwr x).wire = s.wire := rfl
@[simp] theorem State.setPwr_regs (x : PwrSt) : (s.setPwr x).regs = s.regs := rfl
@[simp] theorem State.setPwr_mem (x : PwrSt) : (s.setPwr x).mem = s.mem := rfl
@[simp] theorem State.setPwr_ecc (x : PwrSt) : (s.setPwr x).ecc = s.ecc := rfl
@[simp] theorem State.setPwr_host (x : PwrSt) : (s.setPwr x).host = s.host := rfl
@[simp] theorem State.setPwr_flash (x : PwrSt) : (s.setPwr x).flash = s.flash := rfl
@[simp] theorem State.setPwr_pba (x : PwrSt) : (s.setPwr x).pba = s.pba := rfl
@[simp] theorem State.setPwr_fuses (x : PwrSt) : (s.setPwr x).fuses = s.fuses := rfl
@[simp] theorem State.setPwr_sec (x : PwrSt) : (s.setPwr x).sec = s.sec := rfl
@[simp] theorem State.setPwr_mbHost (x : PwrSt) : (s.setPwr x).mbHost = s.mbHost := rfl
@[simp] theorem State.setPwr_mbBoard (x : PwrSt) : (s.setPwr x).mbBoard = s.mbBoard := rfl
@[simp] theorem State.setPwr_mbOrder (x : PwrSt) : (s.setPwr x).mbOrder = s.mbOrder := rfl
@[simp] theorem State.setPwr_fab (x : PwrSt) : (s.setPwr x).fab = s.fab := rfl
@[simp] theorem State.setPwr_thm (x : PwrSt) : (s.setPwr x).thm = s.thm := rfl
@[simp] theorem State.setPwr_tsu (x : PwrSt) : (s.setPwr x).tsu = s.tsu := rfl
@[simp] theorem State.setPwr_parts (x : PwrSt) : (s.setPwr x).parts = s.parts := rfl
@[simp] theorem State.setPwr_boxes (x : PwrSt) : (s.setPwr x).boxes = s.boxes := rfl
@[simp] theorem State.setPwr_loans (x : PwrSt) : (s.setPwr x).loans = s.loans := rfl
@[simp] theorem State.setPwr_ushers (x : PwrSt) : (s.setPwr x).ushers = s.ushers := rfl
@[simp] theorem State.setPwr_syncs (x : PwrSt) : (s.setPwr x).syncs = s.syncs := rfl
@[simp] theorem State.setPwr_clus (x : PwrSt) : (s.setPwr x).clus = s.clus := rfl
@[simp] theorem State.setPwr_cores (x : PwrSt) : (s.setPwr x).cores = s.cores := rfl
@[simp] theorem State.setPwr_chans (x : PwrSt) : (s.setPwr x).chans = s.chans := rfl
@[simp] theorem State.setPwr_sites (x : PwrSt) : (s.setPwr x).sites = s.sites := rfl
@[simp] theorem State.setPwr_rings (x : PwrSt) : (s.setPwr x).rings = s.rings := rfl
@[simp] theorem State.setPwr_ports (x : PwrSt) : (s.setPwr x).ports = s.ports := rfl
@[simp] theorem State.setPwr_links (x : PwrSt) : (s.setPwr x).links = s.links := rfl
@[simp] theorem State.setPwr_peers (x : PwrSt) : (s.setPwr x).peers = s.peers := rfl
@[simp] theorem State.setPwr_croutes (x : PwrSt) : (s.setPwr x).croutes = s.croutes := rfl
@[simp] theorem State.setPwr_inbox (x : PwrSt) : (s.setPwr x).inbox = s.inbox := rfl
@[simp] theorem State.setPwr_relay (x : PwrSt) : (s.setPwr x).relay = s.relay := rfl
@[simp] theorem State.setPwr_hostBad (x : PwrSt) : (s.setPwr x).hostBad = s.hostBad := rfl
@[simp] theorem State.setPwr_pending (x : PwrSt) : (s.setPwr x).pending = s.pending := rfl
@[simp] theorem State.setPwr_part (x : PwrSt) (j : Nat) : (s.setPwr x).part j = s.part j := rfl
@[simp] theorem State.setPwr_box (x : PwrSt) (j : Nat) : (s.setPwr x).box j = s.box j := rfl
@[simp] theorem State.setPwr_usher (x : PwrSt) (j : Nat) : (s.setPwr x).usher j = s.usher j := rfl
@[simp] theorem State.setPwr_sync (x : PwrSt) (j : Nat) : (s.setPwr x).sync j = s.sync j := rfl
@[simp] theorem State.setPwr_clu (x : PwrSt) (j : Nat) : (s.setPwr x).clu j = s.clu j := rfl
@[simp] theorem State.setPwr_core (x : PwrSt) (j : Nat) : (s.setPwr x).core j = s.core j := rfl
@[simp] theorem State.setPwr_chan (x : PwrSt) (j : Nat) : (s.setPwr x).chan j = s.chan j := rfl
@[simp] theorem State.setPwr_site (x : PwrSt) (j : Nat) : (s.setPwr x).site j = s.site j := rfl
@[simp] theorem State.setPwr_ring (x : PwrSt) (j : Nat) : (s.setPwr x).ring j = s.ring j := rfl
@[simp] theorem State.setPwr_port (x : PwrSt) (j : Nat) : (s.setPwr x).port j = s.port j := rfl
@[simp] theorem State.setPwr_link (x : PwrSt) (j : Nat) : (s.setPwr x).link j = s.link j := rfl
@[simp] theorem State.setPwr_inboxOf (x : PwrSt) (j : Nat) : (s.setPwr x).inboxOf j = s.inboxOf j := rfl
@[simp] theorem State.setPwr_relayOf (x : PwrSt) (j : Nat) : (s.setPwr x).relayOf j = s.relayOf j := rfl
@[simp] theorem State.setPwr_reg (x : PwrSt) (j : Nat) : (s.setPwr x).reg j = s.reg j := rfl

@[simp] theorem State.modSec_ctrlClk (f : SecSt → SecSt) : (s.modSec f).ctrlClk = s.ctrlClk := rfl
@[simp] theorem State.modSec_freeCtr (f : SecSt → SecSt) : (s.modSec f).freeCtr = s.freeCtr := rfl
@[simp] theorem State.modSec_wire (f : SecSt → SecSt) : (s.modSec f).wire = s.wire := rfl
@[simp] theorem State.modSec_regs (f : SecSt → SecSt) : (s.modSec f).regs = s.regs := rfl
@[simp] theorem State.modSec_mem (f : SecSt → SecSt) : (s.modSec f).mem = s.mem := rfl
@[simp] theorem State.modSec_ecc (f : SecSt → SecSt) : (s.modSec f).ecc = s.ecc := rfl
@[simp] theorem State.modSec_host (f : SecSt → SecSt) : (s.modSec f).host = s.host := rfl
@[simp] theorem State.modSec_flash (f : SecSt → SecSt) : (s.modSec f).flash = s.flash := rfl
@[simp] theorem State.modSec_pba (f : SecSt → SecSt) : (s.modSec f).pba = s.pba := rfl
@[simp] theorem State.modSec_pwr (f : SecSt → SecSt) : (s.modSec f).pwr = s.pwr := rfl
@[simp] theorem State.modSec_fuses (f : SecSt → SecSt) : (s.modSec f).fuses = s.fuses := rfl
@[simp] theorem State.modSec_mbHost (f : SecSt → SecSt) : (s.modSec f).mbHost = s.mbHost := rfl
@[simp] theorem State.modSec_mbBoard (f : SecSt → SecSt) : (s.modSec f).mbBoard = s.mbBoard := rfl
@[simp] theorem State.modSec_mbOrder (f : SecSt → SecSt) : (s.modSec f).mbOrder = s.mbOrder := rfl
@[simp] theorem State.modSec_fab (f : SecSt → SecSt) : (s.modSec f).fab = s.fab := rfl
@[simp] theorem State.modSec_thm (f : SecSt → SecSt) : (s.modSec f).thm = s.thm := rfl
@[simp] theorem State.modSec_tsu (f : SecSt → SecSt) : (s.modSec f).tsu = s.tsu := rfl
@[simp] theorem State.modSec_parts (f : SecSt → SecSt) : (s.modSec f).parts = s.parts := rfl
@[simp] theorem State.modSec_boxes (f : SecSt → SecSt) : (s.modSec f).boxes = s.boxes := rfl
@[simp] theorem State.modSec_loans (f : SecSt → SecSt) : (s.modSec f).loans = s.loans := rfl
@[simp] theorem State.modSec_ushers (f : SecSt → SecSt) : (s.modSec f).ushers = s.ushers := rfl
@[simp] theorem State.modSec_syncs (f : SecSt → SecSt) : (s.modSec f).syncs = s.syncs := rfl
@[simp] theorem State.modSec_clus (f : SecSt → SecSt) : (s.modSec f).clus = s.clus := rfl
@[simp] theorem State.modSec_cores (f : SecSt → SecSt) : (s.modSec f).cores = s.cores := rfl
@[simp] theorem State.modSec_chans (f : SecSt → SecSt) : (s.modSec f).chans = s.chans := rfl
@[simp] theorem State.modSec_sites (f : SecSt → SecSt) : (s.modSec f).sites = s.sites := rfl
@[simp] theorem State.modSec_rings (f : SecSt → SecSt) : (s.modSec f).rings = s.rings := rfl
@[simp] theorem State.modSec_ports (f : SecSt → SecSt) : (s.modSec f).ports = s.ports := rfl
@[simp] theorem State.modSec_links (f : SecSt → SecSt) : (s.modSec f).links = s.links := rfl
@[simp] theorem State.modSec_peers (f : SecSt → SecSt) : (s.modSec f).peers = s.peers := rfl
@[simp] theorem State.modSec_croutes (f : SecSt → SecSt) : (s.modSec f).croutes = s.croutes := rfl
@[simp] theorem State.modSec_inbox (f : SecSt → SecSt) : (s.modSec f).inbox = s.inbox := rfl
@[simp] theorem State.modSec_relay (f : SecSt → SecSt) : (s.modSec f).relay = s.relay := rfl
@[simp] theorem State.modSec_hostBad (f : SecSt → SecSt) : (s.modSec f).hostBad = s.hostBad := rfl
@[simp] theorem State.modSec_pending (f : SecSt → SecSt) : (s.modSec f).pending = s.pending := rfl
@[simp] theorem State.modSec_part (f : SecSt → SecSt) (j : Nat) : (s.modSec f).part j = s.part j := rfl
@[simp] theorem State.modSec_box (f : SecSt → SecSt) (j : Nat) : (s.modSec f).box j = s.box j := rfl
@[simp] theorem State.modSec_usher (f : SecSt → SecSt) (j : Nat) : (s.modSec f).usher j = s.usher j := rfl
@[simp] theorem State.modSec_sync (f : SecSt → SecSt) (j : Nat) : (s.modSec f).sync j = s.sync j := rfl
@[simp] theorem State.modSec_clu (f : SecSt → SecSt) (j : Nat) : (s.modSec f).clu j = s.clu j := rfl
@[simp] theorem State.modSec_core (f : SecSt → SecSt) (j : Nat) : (s.modSec f).core j = s.core j := rfl
@[simp] theorem State.modSec_chan (f : SecSt → SecSt) (j : Nat) : (s.modSec f).chan j = s.chan j := rfl
@[simp] theorem State.modSec_site (f : SecSt → SecSt) (j : Nat) : (s.modSec f).site j = s.site j := rfl
@[simp] theorem State.modSec_ring (f : SecSt → SecSt) (j : Nat) : (s.modSec f).ring j = s.ring j := rfl
@[simp] theorem State.modSec_port (f : SecSt → SecSt) (j : Nat) : (s.modSec f).port j = s.port j := rfl
@[simp] theorem State.modSec_link (f : SecSt → SecSt) (j : Nat) : (s.modSec f).link j = s.link j := rfl
@[simp] theorem State.modSec_inboxOf (f : SecSt → SecSt) (j : Nat) : (s.modSec f).inboxOf j = s.inboxOf j := rfl
@[simp] theorem State.modSec_relayOf (f : SecSt → SecSt) (j : Nat) : (s.modSec f).relayOf j = s.relayOf j := rfl
@[simp] theorem State.modSec_reg (f : SecSt → SecSt) (j : Nat) : (s.modSec f).reg j = s.reg j := rfl

@[simp] theorem State.modFab_ctrlClk (f : FabSt → FabSt) : (s.modFab f).ctrlClk = s.ctrlClk := rfl
@[simp] theorem State.modFab_freeCtr (f : FabSt → FabSt) : (s.modFab f).freeCtr = s.freeCtr := rfl
@[simp] theorem State.modFab_wire (f : FabSt → FabSt) : (s.modFab f).wire = s.wire := rfl
@[simp] theorem State.modFab_regs (f : FabSt → FabSt) : (s.modFab f).regs = s.regs := rfl
@[simp] theorem State.modFab_mem (f : FabSt → FabSt) : (s.modFab f).mem = s.mem := rfl
@[simp] theorem State.modFab_ecc (f : FabSt → FabSt) : (s.modFab f).ecc = s.ecc := rfl
@[simp] theorem State.modFab_host (f : FabSt → FabSt) : (s.modFab f).host = s.host := rfl
@[simp] theorem State.modFab_flash (f : FabSt → FabSt) : (s.modFab f).flash = s.flash := rfl
@[simp] theorem State.modFab_pba (f : FabSt → FabSt) : (s.modFab f).pba = s.pba := rfl
@[simp] theorem State.modFab_pwr (f : FabSt → FabSt) : (s.modFab f).pwr = s.pwr := rfl
@[simp] theorem State.modFab_fuses (f : FabSt → FabSt) : (s.modFab f).fuses = s.fuses := rfl
@[simp] theorem State.modFab_sec (f : FabSt → FabSt) : (s.modFab f).sec = s.sec := rfl
@[simp] theorem State.modFab_mbHost (f : FabSt → FabSt) : (s.modFab f).mbHost = s.mbHost := rfl
@[simp] theorem State.modFab_mbBoard (f : FabSt → FabSt) : (s.modFab f).mbBoard = s.mbBoard := rfl
@[simp] theorem State.modFab_mbOrder (f : FabSt → FabSt) : (s.modFab f).mbOrder = s.mbOrder := rfl
@[simp] theorem State.modFab_thm (f : FabSt → FabSt) : (s.modFab f).thm = s.thm := rfl
@[simp] theorem State.modFab_tsu (f : FabSt → FabSt) : (s.modFab f).tsu = s.tsu := rfl
@[simp] theorem State.modFab_parts (f : FabSt → FabSt) : (s.modFab f).parts = s.parts := rfl
@[simp] theorem State.modFab_boxes (f : FabSt → FabSt) : (s.modFab f).boxes = s.boxes := rfl
@[simp] theorem State.modFab_loans (f : FabSt → FabSt) : (s.modFab f).loans = s.loans := rfl
@[simp] theorem State.modFab_ushers (f : FabSt → FabSt) : (s.modFab f).ushers = s.ushers := rfl
@[simp] theorem State.modFab_syncs (f : FabSt → FabSt) : (s.modFab f).syncs = s.syncs := rfl
@[simp] theorem State.modFab_clus (f : FabSt → FabSt) : (s.modFab f).clus = s.clus := rfl
@[simp] theorem State.modFab_cores (f : FabSt → FabSt) : (s.modFab f).cores = s.cores := rfl
@[simp] theorem State.modFab_chans (f : FabSt → FabSt) : (s.modFab f).chans = s.chans := rfl
@[simp] theorem State.modFab_sites (f : FabSt → FabSt) : (s.modFab f).sites = s.sites := rfl
@[simp] theorem State.modFab_rings (f : FabSt → FabSt) : (s.modFab f).rings = s.rings := rfl
@[simp] theorem State.modFab_ports (f : FabSt → FabSt) : (s.modFab f).ports = s.ports := rfl
@[simp] theorem State.modFab_links (f : FabSt → FabSt) : (s.modFab f).links = s.links := rfl
@[simp] theorem State.modFab_peers (f : FabSt → FabSt) : (s.modFab f).peers = s.peers := rfl
@[simp] theorem State.modFab_croutes (f : FabSt → FabSt) : (s.modFab f).croutes = s.croutes := rfl
@[simp] theorem State.modFab_inbox (f : FabSt → FabSt) : (s.modFab f).inbox = s.inbox := rfl
@[simp] theorem State.modFab_relay (f : FabSt → FabSt) : (s.modFab f).relay = s.relay := rfl
@[simp] theorem State.modFab_hostBad (f : FabSt → FabSt) : (s.modFab f).hostBad = s.hostBad := rfl
@[simp] theorem State.modFab_pending (f : FabSt → FabSt) : (s.modFab f).pending = s.pending := rfl
@[simp] theorem State.modFab_part (f : FabSt → FabSt) (j : Nat) : (s.modFab f).part j = s.part j := rfl
@[simp] theorem State.modFab_box (f : FabSt → FabSt) (j : Nat) : (s.modFab f).box j = s.box j := rfl
@[simp] theorem State.modFab_usher (f : FabSt → FabSt) (j : Nat) : (s.modFab f).usher j = s.usher j := rfl
@[simp] theorem State.modFab_sync (f : FabSt → FabSt) (j : Nat) : (s.modFab f).sync j = s.sync j := rfl
@[simp] theorem State.modFab_clu (f : FabSt → FabSt) (j : Nat) : (s.modFab f).clu j = s.clu j := rfl
@[simp] theorem State.modFab_core (f : FabSt → FabSt) (j : Nat) : (s.modFab f).core j = s.core j := rfl
@[simp] theorem State.modFab_chan (f : FabSt → FabSt) (j : Nat) : (s.modFab f).chan j = s.chan j := rfl
@[simp] theorem State.modFab_site (f : FabSt → FabSt) (j : Nat) : (s.modFab f).site j = s.site j := rfl
@[simp] theorem State.modFab_ring (f : FabSt → FabSt) (j : Nat) : (s.modFab f).ring j = s.ring j := rfl
@[simp] theorem State.modFab_port (f : FabSt → FabSt) (j : Nat) : (s.modFab f).port j = s.port j := rfl
@[simp] theorem State.modFab_link (f : FabSt → FabSt) (j : Nat) : (s.modFab f).link j = s.link j := rfl
@[simp] theorem State.modFab_inboxOf (f : FabSt → FabSt) (j : Nat) : (s.modFab f).inboxOf j = s.inboxOf j := rfl
@[simp] theorem State.modFab_relayOf (f : FabSt → FabSt) (j : Nat) : (s.modFab f).relayOf j = s.relayOf j := rfl
@[simp] theorem State.modFab_reg (f : FabSt → FabSt) (j : Nat) : (s.modFab f).reg j = s.reg j := rfl

@[simp] theorem State.modTsu_ctrlClk (f : TsuSt → TsuSt) : (s.modTsu f).ctrlClk = s.ctrlClk := rfl
@[simp] theorem State.modTsu_freeCtr (f : TsuSt → TsuSt) : (s.modTsu f).freeCtr = s.freeCtr := rfl
@[simp] theorem State.modTsu_wire (f : TsuSt → TsuSt) : (s.modTsu f).wire = s.wire := rfl
@[simp] theorem State.modTsu_regs (f : TsuSt → TsuSt) : (s.modTsu f).regs = s.regs := rfl
@[simp] theorem State.modTsu_mem (f : TsuSt → TsuSt) : (s.modTsu f).mem = s.mem := rfl
@[simp] theorem State.modTsu_ecc (f : TsuSt → TsuSt) : (s.modTsu f).ecc = s.ecc := rfl
@[simp] theorem State.modTsu_host (f : TsuSt → TsuSt) : (s.modTsu f).host = s.host := rfl
@[simp] theorem State.modTsu_flash (f : TsuSt → TsuSt) : (s.modTsu f).flash = s.flash := rfl
@[simp] theorem State.modTsu_pba (f : TsuSt → TsuSt) : (s.modTsu f).pba = s.pba := rfl
@[simp] theorem State.modTsu_pwr (f : TsuSt → TsuSt) : (s.modTsu f).pwr = s.pwr := rfl
@[simp] theorem State.modTsu_fuses (f : TsuSt → TsuSt) : (s.modTsu f).fuses = s.fuses := rfl
@[simp] theorem State.modTsu_sec (f : TsuSt → TsuSt) : (s.modTsu f).sec = s.sec := rfl
@[simp] theorem State.modTsu_mbHost (f : TsuSt → TsuSt) : (s.modTsu f).mbHost = s.mbHost := rfl
@[simp] theorem State.modTsu_mbBoard (f : TsuSt → TsuSt) : (s.modTsu f).mbBoard = s.mbBoard := rfl
@[simp] theorem State.modTsu_mbOrder (f : TsuSt → TsuSt) : (s.modTsu f).mbOrder = s.mbOrder := rfl
@[simp] theorem State.modTsu_fab (f : TsuSt → TsuSt) : (s.modTsu f).fab = s.fab := rfl
@[simp] theorem State.modTsu_thm (f : TsuSt → TsuSt) : (s.modTsu f).thm = s.thm := rfl
@[simp] theorem State.modTsu_parts (f : TsuSt → TsuSt) : (s.modTsu f).parts = s.parts := rfl
@[simp] theorem State.modTsu_boxes (f : TsuSt → TsuSt) : (s.modTsu f).boxes = s.boxes := rfl
@[simp] theorem State.modTsu_loans (f : TsuSt → TsuSt) : (s.modTsu f).loans = s.loans := rfl
@[simp] theorem State.modTsu_ushers (f : TsuSt → TsuSt) : (s.modTsu f).ushers = s.ushers := rfl
@[simp] theorem State.modTsu_syncs (f : TsuSt → TsuSt) : (s.modTsu f).syncs = s.syncs := rfl
@[simp] theorem State.modTsu_clus (f : TsuSt → TsuSt) : (s.modTsu f).clus = s.clus := rfl
@[simp] theorem State.modTsu_cores (f : TsuSt → TsuSt) : (s.modTsu f).cores = s.cores := rfl
@[simp] theorem State.modTsu_chans (f : TsuSt → TsuSt) : (s.modTsu f).chans = s.chans := rfl
@[simp] theorem State.modTsu_sites (f : TsuSt → TsuSt) : (s.modTsu f).sites = s.sites := rfl
@[simp] theorem State.modTsu_rings (f : TsuSt → TsuSt) : (s.modTsu f).rings = s.rings := rfl
@[simp] theorem State.modTsu_ports (f : TsuSt → TsuSt) : (s.modTsu f).ports = s.ports := rfl
@[simp] theorem State.modTsu_links (f : TsuSt → TsuSt) : (s.modTsu f).links = s.links := rfl
@[simp] theorem State.modTsu_peers (f : TsuSt → TsuSt) : (s.modTsu f).peers = s.peers := rfl
@[simp] theorem State.modTsu_croutes (f : TsuSt → TsuSt) : (s.modTsu f).croutes = s.croutes := rfl
@[simp] theorem State.modTsu_inbox (f : TsuSt → TsuSt) : (s.modTsu f).inbox = s.inbox := rfl
@[simp] theorem State.modTsu_relay (f : TsuSt → TsuSt) : (s.modTsu f).relay = s.relay := rfl
@[simp] theorem State.modTsu_hostBad (f : TsuSt → TsuSt) : (s.modTsu f).hostBad = s.hostBad := rfl
@[simp] theorem State.modTsu_pending (f : TsuSt → TsuSt) : (s.modTsu f).pending = s.pending := rfl
@[simp] theorem State.modTsu_part (f : TsuSt → TsuSt) (j : Nat) : (s.modTsu f).part j = s.part j := rfl
@[simp] theorem State.modTsu_box (f : TsuSt → TsuSt) (j : Nat) : (s.modTsu f).box j = s.box j := rfl
@[simp] theorem State.modTsu_usher (f : TsuSt → TsuSt) (j : Nat) : (s.modTsu f).usher j = s.usher j := rfl
@[simp] theorem State.modTsu_sync (f : TsuSt → TsuSt) (j : Nat) : (s.modTsu f).sync j = s.sync j := rfl
@[simp] theorem State.modTsu_clu (f : TsuSt → TsuSt) (j : Nat) : (s.modTsu f).clu j = s.clu j := rfl
@[simp] theorem State.modTsu_core (f : TsuSt → TsuSt) (j : Nat) : (s.modTsu f).core j = s.core j := rfl
@[simp] theorem State.modTsu_chan (f : TsuSt → TsuSt) (j : Nat) : (s.modTsu f).chan j = s.chan j := rfl
@[simp] theorem State.modTsu_site (f : TsuSt → TsuSt) (j : Nat) : (s.modTsu f).site j = s.site j := rfl
@[simp] theorem State.modTsu_ring (f : TsuSt → TsuSt) (j : Nat) : (s.modTsu f).ring j = s.ring j := rfl
@[simp] theorem State.modTsu_port (f : TsuSt → TsuSt) (j : Nat) : (s.modTsu f).port j = s.port j := rfl
@[simp] theorem State.modTsu_link (f : TsuSt → TsuSt) (j : Nat) : (s.modTsu f).link j = s.link j := rfl
@[simp] theorem State.modTsu_inboxOf (f : TsuSt → TsuSt) (j : Nat) : (s.modTsu f).inboxOf j = s.inboxOf j := rfl
@[simp] theorem State.modTsu_relayOf (f : TsuSt → TsuSt) (j : Nat) : (s.modTsu f).relayOf j = s.relayOf j := rfl
@[simp] theorem State.modTsu_reg (f : TsuSt → TsuSt) (j : Nat) : (s.modTsu f).reg j = s.reg j := rfl

theorem State.setPart_part (i j : Nat) (x : PartSt) : (s.setPart i x).part j = if i = j then x else s.part j :=
  tblGet_tblSet PartSt.init s.parts i j x

@[simp] theorem State.setPart_part_same (i : Nat) (x : PartSt) : (s.setPart i x).part i = x := by simp [State.setPart_part]

theorem State.modPart_part (i j : Nat) (f : PartSt → PartSt) :
    (s.modPart i f).part j = if i = j then f (s.part i) else s.part j := State.setPart_part s i j _

@[simp] theorem State.modPart_part_same (i : Nat) (f : PartSt → PartSt) : (s.modPart i f).part i = f (s.part i) := by
  simp [State.modPart_part]

theorem State.setBox_box (i j : Nat) (x : BoxSt) : (s.setBox i x).box j = if i = j then x else s.box j :=
  tblGet_tblSet BoxSt.init s.boxes i j x

@[simp] theorem State.setBox_box_same (i : Nat) (x : BoxSt) : (s.setBox i x).box i = x := by simp [State.setBox_box]

theorem State.modBox_box (i j : Nat) (f : BoxSt → BoxSt) :
    (s.modBox i f).box j = if i = j then f (s.box i) else s.box j := State.setBox_box s i j _

@[simp] theorem State.modBox_box_same (i : Nat) (f : BoxSt → BoxSt) : (s.modBox i f).box i = f (s.box i) := by
  simp [State.modBox_box]

theorem State.setUsher_usher (i j : Nat) (x : UshSt) : (s.setUsher i x).usher j = if i = j then x else s.usher j :=
  tblGet_tblSet UshSt.init s.ushers i j x

@[simp] theorem State.setUsher_usher_same (i : Nat) (x : UshSt) : (s.setUsher i x).usher i = x := by simp [State.setUsher_usher]

theorem State.modUsher_usher (i j : Nat) (f : UshSt → UshSt) :
    (s.modUsher i f).usher j = if i = j then f (s.usher i) else s.usher j := State.setUsher_usher s i j _

@[simp] theorem State.modUsher_usher_same (i : Nat) (f : UshSt → UshSt) : (s.modUsher i f).usher i = f (s.usher i) := by
  simp [State.modUsher_usher]

theorem State.setSync_sync (i j : Nat) (x : SynSt) : (s.setSync i x).sync j = if i = j then x else s.sync j :=
  tblGet_tblSet SynSt.init s.syncs i j x

@[simp] theorem State.setSync_sync_same (i : Nat) (x : SynSt) : (s.setSync i x).sync i = x := by simp [State.setSync_sync]

theorem State.modSync_sync (i j : Nat) (f : SynSt → SynSt) :
    (s.modSync i f).sync j = if i = j then f (s.sync i) else s.sync j := State.setSync_sync s i j _

@[simp] theorem State.modSync_sync_same (i : Nat) (f : SynSt → SynSt) : (s.modSync i f).sync i = f (s.sync i) := by
  simp [State.modSync_sync]

theorem State.setClu_clu (i j : Nat) (x : CluSt) : (s.setClu i x).clu j = if i = j then x else s.clu j :=
  tblGet_tblSet CluSt.init s.clus i j x

@[simp] theorem State.setClu_clu_same (i : Nat) (x : CluSt) : (s.setClu i x).clu i = x := by simp [State.setClu_clu]

theorem State.modClu_clu (i j : Nat) (f : CluSt → CluSt) :
    (s.modClu i f).clu j = if i = j then f (s.clu i) else s.clu j := State.setClu_clu s i j _

@[simp] theorem State.modClu_clu_same (i : Nat) (f : CluSt → CluSt) : (s.modClu i f).clu i = f (s.clu i) := by
  simp [State.modClu_clu]

theorem State.setCore_core (i j : Nat) (x : CoreSt) : (s.setCore i x).core j = if i = j then x else s.core j :=
  tblGet_tblSet CoreSt.init s.cores i j x

@[simp] theorem State.setCore_core_same (i : Nat) (x : CoreSt) : (s.setCore i x).core i = x := by simp [State.setCore_core]

theorem State.modCore_core (i j : Nat) (f : CoreSt → CoreSt) :
    (s.modCore i f).core j = if i = j then f (s.core i) else s.core j := State.setCore_core s i j _

@[simp] theorem State.modCore_core_same (i : Nat) (f : CoreSt → CoreSt) : (s.modCore i f).core i = f (s.core i) := by
  simp [State.modCore_core]

theorem State.setChan_chan (i j : Nat) (x : ChanSt) : (s.setChan i x).chan j = if i = j then x else s.chan j :=
  tblGet_tblSet ChanSt.init s.chans i j x

@[simp] theorem State.setChan_chan_same (i : Nat) (x : ChanSt) : (s.setChan i x).chan i = x := by simp [State.setChan_chan]

theorem State.modChan_chan (i j : Nat) (f : ChanSt → ChanSt) :
    (s.modChan i f).chan j = if i = j then f (s.chan i) else s.chan j := State.setChan_chan s i j _

@[simp] theorem State.modChan_chan_same (i : Nat) (f : ChanSt → ChanSt) : (s.modChan i f).chan i = f (s.chan i) := by
  simp [State.modChan_chan]

theorem State.setSite_site (i j : Nat) (x : SiteSt) : (s.setSite i x).site j = if i = j then x else s.site j :=
  tblGet_tblSet SiteSt.init s.sites i j x

@[simp] theorem State.setSite_site_same (i : Nat) (x : SiteSt) : (s.setSite i x).site i = x := by simp [State.setSite_site]

theorem State.modSite_site (i j : Nat) (f : SiteSt → SiteSt) :
    (s.modSite i f).site j = if i = j then f (s.site i) else s.site j := State.setSite_site s i j _

@[simp] theorem State.modSite_site_same (i : Nat) (f : SiteSt → SiteSt) : (s.modSite i f).site i = f (s.site i) := by
  simp [State.modSite_site]

theorem State.setRing_ring (i j : Nat) (x : RingSt) : (s.setRing i x).ring j = if i = j then x else s.ring j :=
  tblGet_tblSet RingSt.init s.rings i j x

@[simp] theorem State.setRing_ring_same (i : Nat) (x : RingSt) : (s.setRing i x).ring i = x := by simp [State.setRing_ring]

theorem State.modRing_ring (i j : Nat) (f : RingSt → RingSt) :
    (s.modRing i f).ring j = if i = j then f (s.ring i) else s.ring j := State.setRing_ring s i j _

@[simp] theorem State.modRing_ring_same (i : Nat) (f : RingSt → RingSt) : (s.modRing i f).ring i = f (s.ring i) := by
  simp [State.modRing_ring]

theorem State.setPort_port (i j : Nat) (x : PortSt) : (s.setPort i x).port j = if i = j then x else s.port j :=
  tblGet_tblSet PortSt.init s.ports i j x

@[simp] theorem State.setPort_port_same (i : Nat) (x : PortSt) : (s.setPort i x).port i = x := by simp [State.setPort_port]

theorem State.modPort_port (i j : Nat) (f : PortSt → PortSt) :
    (s.modPort i f).port j = if i = j then f (s.port i) else s.port j := State.setPort_port s i j _

@[simp] theorem State.modPort_port_same (i : Nat) (f : PortSt → PortSt) : (s.modPort i f).port i = f (s.port i) := by
  simp [State.modPort_port]

theorem State.setLink_link (i j : Nat) (x : LinkSt) : (s.setLink i x).link j = if i = j then x else s.link j :=
  tblGet_tblSet LinkSt.init s.links i j x

@[simp] theorem State.setLink_link_same (i : Nat) (x : LinkSt) : (s.setLink i x).link i = x := by simp [State.setLink_link]

theorem State.modLink_link (i j : Nat) (f : LinkSt → LinkSt) :
    (s.modLink i f).link j = if i = j then f (s.link i) else s.link j := State.setLink_link s i j _

@[simp] theorem State.modLink_link_same (i : Nat) (f : LinkSt → LinkSt) : (s.modLink i f).link i = f (s.link i) := by
  simp [State.modLink_link]

theorem State.setInbox_inboxOf (i j : Nat) (x : List Arrived) : (s.setInbox i x).inboxOf j = if i = j then x else s.inboxOf j :=
  tblGet_tblSet [] _ i j x

@[simp] theorem State.setInbox_inboxOf_same (i : Nat) (x : List Arrived) : (s.setInbox i x).inboxOf i = x := by simp [State.setInbox_inboxOf]

theorem State.setRelay_relayOf (i j : Nat) (x : List Arrived) : (s.setRelay i x).relayOf j = if i = j then x else s.relayOf j :=
  tblGet_tblSet [] _ i j x

@[simp] theorem State.setRelay_relayOf_same (i : Nat) (x : List Arrived) : (s.setRelay i x).relayOf i = x := by simp [State.setRelay_relayOf]

@[simp] theorem State.emit_wire (e : Emission) : (s.emit e).wire = s.wire ++ [e] := rfl
@[simp] theorem State.tick_freeCtr : s.tick.freeCtr = s.freeCtr + 1 := rfl
@[simp] theorem State.setPwr_pwr (x : PwrSt) : (s.setPwr x).pwr = x := rfl
@[simp] theorem State.modSec_sec (f : SecSt → SecSt) : (s.modSec f).sec = f s.sec := rfl
@[simp] theorem State.modFab_fab (f : FabSt → FabSt) : (s.modFab f).fab = f s.fab := rfl
@[simp] theorem State.modTsu_tsu (f : TsuSt → TsuSt) : (s.modTsu f).tsu = f s.tsu := rfl

/-! ## Registers -/

/-- What a register reads as after hardware writes one. -/
theorem State.setReg_reg (a b : Nat) (v : W32) : (s.setReg a v).reg b = if a = b then v else s.reg b :=
  tblGet_tblSet_at resetAt s.regs a b v

@[simp] theorem State.setReg_reg_same (a : Nat) (v : W32) : (s.setReg a v).reg a = v := by simp [State.setReg_reg]

theorem State.setFld_reg (a b hi lo v : Nat) :
    (s.setFld a hi lo v).reg b = if a = b then rput (s.reg a) hi lo v else s.reg b := State.setReg_reg s a b _

@[simp] theorem State.setFld_reg_same (a hi lo v : Nat) : (s.setFld a hi lo v).reg a = rput (s.reg a) hi lo v := by
  simp [State.setFld_reg]

theorem State.bump_reg (a b n : Nat) : (s.bump a n).reg b = if a = b then satAdd (s.reg a) n else s.reg b :=
  State.setReg_reg s a b _

@[simp] theorem State.bump_reg_same (a n : Nat) : (s.bump a n).reg a = satAdd (s.reg a) n := by simp [State.bump_reg]

/-! ## Memories -/

/-- Host memory after a write: the bytes written in their place. -/
theorem State.hostWrite_hostRead (a : Nat) (bs : List Byte) : (s.hostWrite a bs).hostRead a bs.length = bs :=
  memRead_memWrite 0 s.host (a % 2 ^ 64) bs

/-- Flash after a write: the bytes written in their place. -/
theorem State.flashWrite_flashRead (a : Nat) (bs : List Byte) : (s.flashWrite a bs).flashRead a bs.length = bs :=
  memRead_memWrite 0xFF s.flash a bs

/-- The health of a word after it is set. -/
theorem State.setHealth_health (w v : Nat) (h : Health) :
    (s.setHealth w h).health v = if w = v then h else s.health v := tblGet_tblSet Health.ok s.ecc w v h

end Sys2Proof.Machine
end

