-- ==== Sys2Proof/Laws/Frames.lean ====
section
/-! SUPPORT. `sameBut`: reflexive, transitive, monotone in the parts named. -/

namespace Sys2Proof.Machine

open Sys2Proof

theorem State.sameBut_refl (F : List Field) (s : State) : s.sameBut F s := ⟨rfl, fun f _ => f.same_refl s⟩
theorem State.sameBut_trans {F : List Field} {s t u : State} (a : s.sameBut F t) (b : t.sameBut F u) : s.sameBut F u :=
  ⟨b.1.trans a.1, fun f h => Field.same_trans (a.2 f h) (b.2 f h)⟩
theorem State.sameBut_mono {F G : List Field} {s t : State} (a : s.sameBut F t) (h : ∀ f, f ∈ F → f ∈ G) : s.sameBut G t :=
  ⟨a.1, fun f k => a.2 f (fun q => k (h f q))⟩
/-! ## A change of one part -/

theorem State.sameBut_ctrlClk {s : State} (x) : s.sameBut [.ctrlClk] { s with ctrlClk := x } :=
  ⟨rfl, fun f h => by cases f <;> first | rfl | exact absurd (by decide) h⟩

theorem State.sameBut_freeCtr {s : State} (x) : s.sameBut [.freeCtr] { s with freeCtr := x } :=
  ⟨rfl, fun f h => by cases f <;> first | rfl | exact absurd (by decide) h⟩

theorem State.sameBut_wire {s : State} (x) : s.sameBut [.wire] { s with wire := x } :=
  ⟨rfl, fun f h => by cases f <;> first | rfl | exact absurd (by decide) h⟩

theorem State.sameBut_regs {s : State} (x) : s.sameBut [.regs] { s with regs := x } :=
  ⟨rfl, fun f h => by cases f <;> first | rfl | exact absurd (by decide) h⟩

theorem State.sameBut_mem {s : State} (x) : s.sameBut [.mem] { s with mem := x } :=
  ⟨rfl, fun f h => by cases f <;> first | rfl | exact absurd (by decide) h⟩

theorem State.sameBut_ecc {s : State} (x) : s.sameBut [.ecc] { s with ecc := x } :=
  ⟨rfl, fun f h => by cases f <;> first | rfl | exact absurd (by decide) h⟩

theorem State.sameBut_host {s : State} (x) : s.sameBut [.host] { s with host := x } :=
  ⟨rfl, fun f h => by cases f <;> first | rfl | exact absurd (by decide) h⟩

theorem State.sameBut_flash {s : State} (x) : s.sameBut [.flash] { s with flash := x } :=
  ⟨rfl, fun f h => by cases f <;> first | rfl | exact absurd (by decide) h⟩

theorem State.sameBut_pba {s : State} (x) : s.sameBut [.pba] { s with pba := x } :=
  ⟨rfl, fun f h => by cases f <;> first | rfl | exact absurd (by decide) h⟩

theorem State.sameBut_pwr {s : State} (x) : s.sameBut [.pwr] { s with pwr := x } :=
  ⟨rfl, fun f h => by cases f <;> first | rfl | exact absurd (by decide) h⟩

theorem State.sameBut_fuses {s : State} (x) : s.sameBut [.fuses] { s with fuses := x } :=
  ⟨rfl, fun f h => by cases f <;> first | rfl | exact absurd (by decide) h⟩

theorem State.sameBut_sec {s : State} (x) : s.sameBut [.sec] { s with sec := x } :=
  ⟨rfl, fun f h => by cases f <;> first | rfl | exact absurd (by decide) h⟩

theorem State.sameBut_mbHost {s : State} (x) : s.sameBut [.mbHost] { s with mbHost := x } :=
  ⟨rfl, fun f h => by cases f <;> first | rfl | exact absurd (by decide) h⟩

theorem State.sameBut_mbBoard {s : State} (x) : s.sameBut [.mbBoard] { s with mbBoard := x } :=
  ⟨rfl, fun f h => by cases f <;> first | rfl | exact absurd (by decide) h⟩

theorem State.sameBut_mbOrder {s : State} (x) : s.sameBut [.mbOrder] { s with mbOrder := x } :=
  ⟨rfl, fun f h => by cases f <;> first | rfl | exact absurd (by decide) h⟩

theorem State.sameBut_fab {s : State} (x) : s.sameBut [.fab] { s with fab := x } :=
  ⟨rfl, fun f h => by cases f <;> first | rfl | exact absurd (by decide) h⟩

theorem State.sameBut_thm {s : State} (x) : s.sameBut [.thm] { s with thm := x } :=
  ⟨rfl, fun f h => by cases f <;> first | rfl | exact absurd (by decide) h⟩

theorem State.sameBut_tsu {s : State} (x) : s.sameBut [.tsu] { s with tsu := x } :=
  ⟨rfl, fun f h => by cases f <;> first | rfl | exact absurd (by decide) h⟩

theorem State.sameBut_parts {s : State} (x) : s.sameBut [.parts] { s with parts := x } :=
  ⟨rfl, fun f h => by cases f <;> first | rfl | exact absurd (by decide) h⟩

theorem State.sameBut_boxes {s : State} (x) : s.sameBut [.boxes] { s with boxes := x } :=
  ⟨rfl, fun f h => by cases f <;> first | rfl | exact absurd (by decide) h⟩

theorem State.sameBut_loans {s : State} (x) : s.sameBut [.loans] { s with loans := x } :=
  ⟨rfl, fun f h => by cases f <;> first | rfl | exact absurd (by decide) h⟩

theorem State.sameBut_ushers {s : State} (x) : s.sameBut [.ushers] { s with ushers := x } :=
  ⟨rfl, fun f h => by cases f <;> first | rfl | exact absurd (by decide) h⟩

theorem State.sameBut_syncs {s : State} (x) : s.sameBut [.syncs] { s with syncs := x } :=
  ⟨rfl, fun f h => by cases f <;> first | rfl | exact absurd (by decide) h⟩

theorem State.sameBut_clus {s : State} (x) : s.sameBut [.clus] { s with clus := x } :=
  ⟨rfl, fun f h => by cases f <;> first | rfl | exact absurd (by decide) h⟩

theorem State.sameBut_cores {s : State} (x) : s.sameBut [.cores] { s with cores := x } :=
  ⟨rfl, fun f h => by cases f <;> first | rfl | exact absurd (by decide) h⟩

theorem State.sameBut_chans {s : State} (x) : s.sameBut [.chans] { s with chans := x } :=
  ⟨rfl, fun f h => by cases f <;> first | rfl | exact absurd (by decide) h⟩

theorem State.sameBut_sites {s : State} (x) : s.sameBut [.sites] { s with sites := x } :=
  ⟨rfl, fun f h => by cases f <;> first | rfl | exact absurd (by decide) h⟩

theorem State.sameBut_rings {s : State} (x) : s.sameBut [.rings] { s with rings := x } :=
  ⟨rfl, fun f h => by cases f <;> first | rfl | exact absurd (by decide) h⟩

theorem State.sameBut_ports {s : State} (x) : s.sameBut [.ports] { s with ports := x } :=
  ⟨rfl, fun f h => by cases f <;> first | rfl | exact absurd (by decide) h⟩

theorem State.sameBut_links {s : State} (x) : s.sameBut [.links] { s with links := x } :=
  ⟨rfl, fun f h => by cases f <;> first | rfl | exact absurd (by decide) h⟩

theorem State.sameBut_peers {s : State} (x) : s.sameBut [.peers] { s with peers := x } :=
  ⟨rfl, fun f h => by cases f <;> first | rfl | exact absurd (by decide) h⟩

theorem State.sameBut_croutes {s : State} (x) : s.sameBut [.croutes] { s with croutes := x } :=
  ⟨rfl, fun f h => by cases f <;> first | rfl | exact absurd (by decide) h⟩

theorem State.sameBut_inbox {s : State} (x) : s.sameBut [.inbox] { s with inbox := x } :=
  ⟨rfl, fun f h => by cases f <;> first | rfl | exact absurd (by decide) h⟩

theorem State.sameBut_relay {s : State} (x) : s.sameBut [.relay] { s with relay := x } :=
  ⟨rfl, fun f h => by cases f <;> first | rfl | exact absurd (by decide) h⟩

/-! ## The updates of units -/

theorem State.modPart_sameBut (s : State) (i : Nat) (f : PartSt → _) : s.sameBut [.parts] (s.modPart i f) := State.sameBut_parts _
theorem State.modBox_sameBut (s : State) (i : Nat) (f : BoxSt → _) : s.sameBut [.boxes] (s.modBox i f) := State.sameBut_boxes _
theorem State.modUsher_sameBut (s : State) (i : Nat) (f : UshSt → _) : s.sameBut [.ushers] (s.modUsher i f) := State.sameBut_ushers _
theorem State.modSync_sameBut (s : State) (i : Nat) (f : SynSt → _) : s.sameBut [.syncs] (s.modSync i f) := State.sameBut_syncs _
theorem State.modClu_sameBut (s : State) (i : Nat) (f : CluSt → _) : s.sameBut [.clus] (s.modClu i f) := State.sameBut_clus _
theorem State.modCore_sameBut (s : State) (i : Nat) (f : CoreSt → _) : s.sameBut [.cores] (s.modCore i f) := State.sameBut_cores _
theorem State.modChan_sameBut (s : State) (i : Nat) (f : ChanSt → _) : s.sameBut [.chans] (s.modChan i f) := State.sameBut_chans _
theorem State.modSite_sameBut (s : State) (i : Nat) (f : SiteSt → _) : s.sameBut [.sites] (s.modSite i f) := State.sameBut_sites _
theorem State.modRing_sameBut (s : State) (i : Nat) (f : RingSt → _) : s.sameBut [.rings] (s.modRing i f) := State.sameBut_rings _
theorem State.modPort_sameBut (s : State) (i : Nat) (f : PortSt → _) : s.sameBut [.ports] (s.modPort i f) := State.sameBut_ports _
theorem State.modLink_sameBut (s : State) (i : Nat) (f : LinkSt → _) : s.sameBut [.links] (s.modLink i f) := State.sameBut_links _
theorem State.setReg_sameBut (s : State) (a : Nat) (v : W32) : s.sameBut [.regs] (s.setReg a v) := State.sameBut_regs _
theorem State.setFld_sameBut (s : State) (a hi lo v : Nat) : s.sameBut [.regs] (s.setFld a hi lo v) := State.sameBut_regs _
theorem State.bump_sameBut (s : State) (a n : Nat) : s.sameBut [.regs] (s.bump a n) := State.sameBut_regs _
theorem State.emit_sameBut (s : State) (e : Emission) : s.sameBut [.wire] (s.emit e) := State.sameBut_wire _
theorem State.tick_sameBut (s : State)  : s.sameBut [.freeCtr] (s.tick) := State.sameBut_freeCtr _
theorem State.putBytes_sameBut (s : State) (a : Nat) (bs : List Byte) : s.sameBut [.mem] (s.putBytes a bs) := State.sameBut_mem _
theorem State.hostWrite_sameBut (s : State) (a : Nat) (bs : List Byte) : s.sameBut [.host] (s.hostWrite a bs) := State.sameBut_host _
theorem State.flashWrite_sameBut (s : State) (a : Nat) (bs : List Byte) : s.sameBut [.flash] (s.flashWrite a bs) := State.sameBut_flash _
theorem State.setLoan_sameBut (s : State) (a b n : Nat) : s.sameBut [.loans] (s.setLoan a b n) := State.sameBut_loans _
theorem State.modSec_sameBut (s : State) (f : SecSt → SecSt) : s.sameBut [.sec] (s.modSec f) := State.sameBut_sec _
theorem State.modFab_sameBut (s : State) (f : FabSt → FabSt) : s.sameBut [.fab] (s.modFab f) := State.sameBut_fab _
theorem State.modTsu_sameBut (s : State) (f : TsuSt → TsuSt) : s.sameBut [.tsu] (s.modTsu f) := State.sameBut_tsu _
theorem State.setPwr_sameBut (s : State) (x : PwrSt) : s.sameBut [.pwr] (s.setPwr x) := State.sameBut_pwr _
theorem State.setInbox_sameBut (s : State) (i : Nat) (x : List Arrived) : s.sameBut [.inbox] (s.setInbox i x) := State.sameBut_inbox _
theorem State.setRelay_sameBut (s : State) (i : Nat) (x : List Arrived) : s.sameBut [.relay] (s.setRelay i x) := State.sameBut_relay _
theorem State.setHealth_sameBut (s : State) (w : Nat) (h : Health) : s.sameBut [.ecc] (s.setHealth w h) := State.sameBut_ecc _

/-- Events change registers, outputs, host memory and pending vectors only. -/
theorem State.raiseAll_sameBut (s : State) (page src : Nat) (forced : Bool) (es : List Ev) :
    s.sameBut [.wire, .regs, .host, .pba] (s.raiseAll page src forced es) :=
  (State.raiseAll_keeps s page src forced es rfl (Keeps.refl (F := fieldMask [.wire, .regs, .host, .pba]) s)).sameBut
    (fun f => by cases f <;> decide)

end Sys2Proof.Machine
end

