-- ==== Sys2Proof/Laws/Events.lean ====
section
/-! SUPPORT. What setting event bits leaves alone and what it sets (R373 to R375). -/

namespace Sys2Proof.Machine

open Sys2Proof

/-! ## Parts of the state that events do not change -/

variable (s : State) (page src : Nat) (forced : Bool) (es : List Ev)


@[simp] theorem State.raiseAll_ctrlClk : (s.raiseAll page src forced es).ctrlClk = s.ctrlClk :=
  (State.raiseAll_keeps s page src forced es rfl (Keeps.refl (F := 332) s)).same .ctrlClk rfl
@[simp] theorem State.raiseAll_freeCtr : (s.raiseAll page src forced es).freeCtr = s.freeCtr :=
  (State.raiseAll_keeps s page src forced es rfl (Keeps.refl (F := 332) s)).same .freeCtr rfl
@[simp] theorem State.raiseAll_mem : (s.raiseAll page src forced es).mem = s.mem :=
  (State.raiseAll_keeps s page src forced es rfl (Keeps.refl (F := 332) s)).same .mem rfl
@[simp] theorem State.raiseAll_ecc : (s.raiseAll page src forced es).ecc = s.ecc :=
  (State.raiseAll_keeps s page src forced es rfl (Keeps.refl (F := 332) s)).same .ecc rfl
@[simp] theorem State.raiseAll_flash : (s.raiseAll page src forced es).flash = s.flash :=
  (State.raiseAll_keeps s page src forced es rfl (Keeps.refl (F := 332) s)).same .flash rfl
@[simp] theorem State.raiseAll_pwr : (s.raiseAll page src forced es).pwr = s.pwr :=
  (State.raiseAll_keeps s page src forced es rfl (Keeps.refl (F := 332) s)).same .pwr rfl
@[simp] theorem State.raiseAll_fuses : (s.raiseAll page src forced es).fuses = s.fuses :=
  (State.raiseAll_keeps s page src forced es rfl (Keeps.refl (F := 332) s)).same .fuses rfl
@[simp] theorem State.raiseAll_sec : (s.raiseAll page src forced es).sec = s.sec :=
  (State.raiseAll_keeps s page src forced es rfl (Keeps.refl (F := 332) s)).same .sec rfl
@[simp] theorem State.raiseAll_mbHost : (s.raiseAll page src forced es).mbHost = s.mbHost :=
  (State.raiseAll_keeps s page src forced es rfl (Keeps.refl (F := 332) s)).same .mbHost rfl
@[simp] theorem State.raiseAll_mbBoard : (s.raiseAll page src forced es).mbBoard = s.mbBoard :=
  (State.raiseAll_keeps s page src forced es rfl (Keeps.refl (F := 332) s)).same .mbBoard rfl
@[simp] theorem State.raiseAll_mbOrder : (s.raiseAll page src forced es).mbOrder = s.mbOrder :=
  (State.raiseAll_keeps s page src forced es rfl (Keeps.refl (F := 332) s)).same .mbOrder rfl
@[simp] theorem State.raiseAll_fab : (s.raiseAll page src forced es).fab = s.fab :=
  (State.raiseAll_keeps s page src forced es rfl (Keeps.refl (F := 332) s)).same .fab rfl
@[simp] theorem State.raiseAll_thm : (s.raiseAll page src forced es).thm = s.thm :=
  (State.raiseAll_keeps s page src forced es rfl (Keeps.refl (F := 332) s)).same .thm rfl
@[simp] theorem State.raiseAll_tsu : (s.raiseAll page src forced es).tsu = s.tsu :=
  (State.raiseAll_keeps s page src forced es rfl (Keeps.refl (F := 332) s)).same .tsu rfl
@[simp] theorem State.raiseAll_parts : (s.raiseAll page src forced es).parts = s.parts :=
  (State.raiseAll_keeps s page src forced es rfl (Keeps.refl (F := 332) s)).same .parts rfl
@[simp] theorem State.raiseAll_boxes : (s.raiseAll page src forced es).boxes = s.boxes :=
  (State.raiseAll_keeps s page src forced es rfl (Keeps.refl (F := 332) s)).same .boxes rfl
@[simp] theorem State.raiseAll_loans : (s.raiseAll page src forced es).loans = s.loans :=
  (State.raiseAll_keeps s page src forced es rfl (Keeps.refl (F := 332) s)).same .loans rfl
@[simp] theorem State.raiseAll_ushers : (s.raiseAll page src forced es).ushers = s.ushers :=
  (State.raiseAll_keeps s page src forced es rfl (Keeps.refl (F := 332) s)).same .ushers rfl
@[simp] theorem State.raiseAll_syncs : (s.raiseAll page src forced es).syncs = s.syncs :=
  (State.raiseAll_keeps s page src forced es rfl (Keeps.refl (F := 332) s)).same .syncs rfl
@[simp] theorem State.raiseAll_clus : (s.raiseAll page src forced es).clus = s.clus :=
  (State.raiseAll_keeps s page src forced es rfl (Keeps.refl (F := 332) s)).same .clus rfl
@[simp] theorem State.raiseAll_cores : (s.raiseAll page src forced es).cores = s.cores :=
  (State.raiseAll_keeps s page src forced es rfl (Keeps.refl (F := 332) s)).same .cores rfl
@[simp] theorem State.raiseAll_chans : (s.raiseAll page src forced es).chans = s.chans :=
  (State.raiseAll_keeps s page src forced es rfl (Keeps.refl (F := 332) s)).same .chans rfl
@[simp] theorem State.raiseAll_sites : (s.raiseAll page src forced es).sites = s.sites :=
  (State.raiseAll_keeps s page src forced es rfl (Keeps.refl (F := 332) s)).same .sites rfl
@[simp] theorem State.raiseAll_rings : (s.raiseAll page src forced es).rings = s.rings :=
  (State.raiseAll_keeps s page src forced es rfl (Keeps.refl (F := 332) s)).same .rings rfl
@[simp] theorem State.raiseAll_ports : (s.raiseAll page src forced es).ports = s.ports :=
  (State.raiseAll_keeps s page src forced es rfl (Keeps.refl (F := 332) s)).same .ports rfl
@[simp] theorem State.raiseAll_links : (s.raiseAll page src forced es).links = s.links :=
  (State.raiseAll_keeps s page src forced es rfl (Keeps.refl (F := 332) s)).same .links rfl
@[simp] theorem State.raiseAll_peers : (s.raiseAll page src forced es).peers = s.peers :=
  (State.raiseAll_keeps s page src forced es rfl (Keeps.refl (F := 332) s)).same .peers rfl
@[simp] theorem State.raiseAll_croutes : (s.raiseAll page src forced es).croutes = s.croutes :=
  (State.raiseAll_keeps s page src forced es rfl (Keeps.refl (F := 332) s)).same .croutes rfl
@[simp] theorem State.raiseAll_inbox : (s.raiseAll page src forced es).inbox = s.inbox :=
  (State.raiseAll_keeps s page src forced es rfl (Keeps.refl (F := 332) s)).same .inbox rfl
@[simp] theorem State.raiseAll_relay : (s.raiseAll page src forced es).relay = s.relay :=
  (State.raiseAll_keeps s page src forced es rfl (Keeps.refl (F := 332) s)).same .relay rfl
@[simp] theorem State.raiseAll_pending : (s.raiseAll page src forced es).pending = s.pending :=
  (State.raiseAll_keeps s page src forced es rfl (Keeps.refl (F := 332) s)).pending
@[simp] theorem State.raiseAll_part (i : Nat) : (s.raiseAll page src forced es).part i = s.part i := by simp [State.part]
@[simp] theorem State.raiseAll_box (i : Nat) : (s.raiseAll page src forced es).box i = s.box i := by simp [State.box]
@[simp] theorem State.raiseAll_usher (i : Nat) : (s.raiseAll page src forced es).usher i = s.usher i := by simp [State.usher]
@[simp] theorem State.raiseAll_sync (i : Nat) : (s.raiseAll page src forced es).sync i = s.sync i := by simp [State.sync]
@[simp] theorem State.raiseAll_clu (i : Nat) : (s.raiseAll page src forced es).clu i = s.clu i := by simp [State.clu]
@[simp] theorem State.raiseAll_core (i : Nat) : (s.raiseAll page src forced es).core i = s.core i := by simp [State.core]
@[simp] theorem State.raiseAll_chan (i : Nat) : (s.raiseAll page src forced es).chan i = s.chan i := by simp [State.chan]
@[simp] theorem State.raiseAll_site (i : Nat) : (s.raiseAll page src forced es).site i = s.site i := by simp [State.site]
@[simp] theorem State.raiseAll_ring (i : Nat) : (s.raiseAll page src forced es).ring i = s.ring i := by simp [State.ring]
@[simp] theorem State.raiseAll_port (i : Nat) : (s.raiseAll page src forced es).port i = s.port i := by simp [State.port]
@[simp] theorem State.raiseAll_link (i : Nat) : (s.raiseAll page src forced es).link i = s.link i := by simp [State.link]
@[simp] theorem State.raiseAll_inboxOf (i : Nat) : (s.raiseAll page src forced es).inboxOf i = s.inboxOf i := by simp [State.inboxOf]
@[simp] theorem State.raiseAll_relayOf (i : Nat) : (s.raiseAll page src forced es).relayOf i = s.relayOf i := by simp [State.relayOf]

/-! ## Registers -/

/-- The status register of an event is a register of its page's events. -/
theorem isEventReg_evStat (e : Ev) (h : e.port < 8) : isEventReg page (evStat page e) = true := by
  unfold isEventReg evStat
  split
  · split
    · simp_all
    · have : e.port ∈ List.range 8 := by simpa using h
      simp only [Bool.or_eq_true, List.any_eq_true]
      exact .inr ⟨e.port, this, by simp⟩
  · simp

theorem isEventReg_of_mem {a : Nat} (h : a ∈ [page + rHDR_EVT_STAT, page + rHDR_ERR_LOG_HEAD, page + rHDR_ERR_COUNT,
    aPrompt + rHDR_EVT_STAT, aPrompt + rHDR_ERR_LOG_HEAD, aPrompt + rHDR_ERR_COUNT, aPrompt + rPROMPT_LOG_WR,
    aPrompt + rPROMPT_LOG_DROP]) : isEventReg page a = true := by
  unfold isEventReg
  rw [List.contains_iff_mem.mpr h, Bool.true_or, Bool.true_or]

theorem State.setEv_reg (e : Ev) (a : Nat) (hp : e.port < 8) (h : isEventReg page a = false) : (s.setEv page e).reg a = s.reg a := by
  have h1 : evStat page e ≠ a := fun k => by rw [← k, isEventReg_evStat page e hp] at h; cases h
  have h2 : page + rHDR_ERR_LOG_HEAD ≠ a := fun k => by rw [isEventReg_of_mem page (by simp [← k])] at h; cases h
  have h3 : page + rHDR_ERR_COUNT ≠ a := fun k => by rw [isEventReg_of_mem page (by simp [← k])] at h; cases h
  simp [State.setEv, State.bump_reg, State.setReg_reg, h1, h2, h3]

@[simp] theorem State.sendMsix_regs (v : Nat) : (s.sendMsix v).regs = s.regs := by
  unfold State.sendMsix
  split
  · split <;> rfl
  · rfl

@[simp] theorem State.pageMsix_regs : (s.pageMsix page).regs = s.regs := by
  unfold State.pageMsix
  split
  · exact s.sendMsix_regs _
  · rfl

@[simp] theorem State.pageMsix_reg (a : Nat) : (s.pageMsix page).reg a = s.reg a := by simp [State.reg]

theorem isEventReg_prompt {a : Nat} (h : isEventReg page a = false) : ∀ x ∈ [aPrompt + rHDR_EVT_STAT,
    aPrompt + rHDR_ERR_LOG_HEAD, aPrompt + rHDR_ERR_COUNT, aPrompt + rPROMPT_LOG_WR, aPrompt + rPROMPT_LOG_DROP], x ≠ a := by
  intro x hx k
  rw [isEventReg_of_mem page (a := a) (by subst k; simp only [List.mem_cons, List.not_mem_nil, or_false] at hx ⊢; omega)] at h
  cases h

theorem State.logDrop_reg (a : Nat) (h : isEventReg page a = false) : s.logDrop.reg a = s.reg a := by
  have hp := isEventReg_prompt page h
  have h1 := hp (aPrompt + rHDR_EVT_STAT) (by simp)
  have h2 := hp (aPrompt + rHDR_ERR_LOG_HEAD) (by simp)
  have h3 := hp (aPrompt + rHDR_ERR_COUNT) (by simp)
  have h4 := hp (aPrompt + rPROMPT_LOG_DROP) (by simp)
  have h5 : evStat aPrompt (ev evPROMPT_LOG_DROP) = aPrompt + rHDR_EVT_STAT := rfl
  unfold State.logDrop
  dsimp only
  split <;> simp [State.setEv, State.bump_reg, State.setReg_reg, h1, h2, h3, h4, h5]

theorem State.logRecord_reg (e : Ev) (a : Nat) (h : isEventReg page a = false) :
    (s.logRecord page src forced e).reg a = s.reg a := by
  unfold State.logRecord
  split
  · rfl
  · dsimp only
    split
    · exact s.logDrop_reg page a h
    · simp [State.setFld_reg, isEventReg_prompt page h (aPrompt + rPROMPT_LOG_WR) (by simp)]

theorem State.raiseEv_reg (e : Ev) (a : Nat) (hp : e.port < 8) (h : isEventReg page a = false) :
    (s.raiseEv page src forced e).reg a = s.reg a := by
  unfold State.raiseEv
  dsimp only
  split
  · rw [State.logRecord_reg _ _ _ _ _ _ h, State.setEv_reg _ _ _ _ hp h]
  · exact State.setEv_reg _ _ _ _ hp h

theorem State.raiseEvs_reg (a : Nat) (hp : ∀ e ∈ es, e.port < 8) (h : isEventReg page a = false) :
    (es.foldl (fun s e => s.raiseEv page src forced e) s).reg a = s.reg a := by
  induction es generalizing s with
  | nil => rfl
  | cons e r ih =>
    rw [List.foldl_cons, ih _ (fun x hx => hp x (List.mem_cons_of_mem _ hx)),
      State.raiseEv_reg _ _ _ _ _ _ (hp e (List.mem_cons_self ..)) h]

/-- Events change no register but those of `isEventReg`. -/
theorem State.raiseAll_reg (a : Nat) (hp : ∀ e ∈ es, e.port < 8) (h : isEventReg page a = false) :
    (s.raiseAll page src forced es).reg a = s.reg a := by
  unfold State.raiseAll
  dsimp only
  split
  · rw [State.pageMsix_reg, State.raiseEvs_reg _ _ _ _ _ _ hp h]
  · exact State.raiseEvs_reg _ _ _ _ _ _ hp h

/-! ## Event bits are sticky -/

/-- A register that no event overwrites other than by setting bits. -/
def notOverwritten (page x : Nat) : Prop :=
  ∀ a ∈ [page + rHDR_ERR_LOG_HEAD, page + rHDR_ERR_COUNT, aPrompt + rHDR_ERR_LOG_HEAD, aPrompt + rHDR_ERR_COUNT,
    aPrompt + rPROMPT_LOG_WR, aPrompt + rPROMPT_LOG_DROP], a ≠ x

theorem rb_or (v w : W32) (b : Nat) : rb (v ||| w) b = (rb v b || rb w b) := by
  simp only [rb, bit, BitVec.toNat_or]
  have h : ∀ n : Nat, (n / 2 ^ b % 2 == 1) = n.testBit b := fun n => by
    rw [Nat.testBit_eq_decide_div_mod_eq, beq_eq_decide]
  rw [h, h, h, Nat.testBit_or]

theorem rb_one (b : Nat) (h : b < 32) : rb (BitVec.ofNat 32 (1 <<< b)) b = true := by
  have : ∀ b : Fin 32, rb (BitVec.ofNat 32 (1 <<< b.1)) b.1 = true := by decide
  exact this ⟨b, h⟩

theorem State.setEv_keeps_bit (e : Ev) (x b : Nat) (hx : notOverwritten page x) (h : rb (s.reg x) b = true) :
    rb ((s.setEv page e).reg x) b = true := by
  have h2 := hx (page + rHDR_ERR_LOG_HEAD) (by simp)
  have h3 := hx (page + rHDR_ERR_COUNT) (by simp)
  simp only [State.setEv, State.bump_reg, State.setReg_reg, h2, h3, ↓reduceIte]
  split
  · next k => rw [rb_or, k, h, Bool.true_or]
  · exact h

theorem State.setEv_sets (e : Ev) (hb : e.bit < 32) (hx : notOverwritten page (evStat page e)) :
    rb ((s.setEv page e).reg (evStat page e)) e.bit = true := by
  have h2 := hx (page + rHDR_ERR_LOG_HEAD) (by simp)
  have h3 := hx (page + rHDR_ERR_COUNT) (by simp)
  simp [State.setEv, State.bump_reg, State.setReg_reg, h2, h3, rb_or, rb_one _ hb]

theorem State.logRecord_keeps_bit (e : Ev) (x b : Nat) (hx : notOverwritten page x) (h : rb (s.reg x) b = true) :
    rb ((s.logRecord page src forced e).reg x) b = true := by
  have h5 := hx (aPrompt + rPROMPT_LOG_WR) (by simp)
  have h6 := hx (aPrompt + rPROMPT_LOG_DROP) (by simp)
  have hq : notOverwritten aPrompt x := fun a ha => hx a (by
    simp only [List.mem_cons, List.not_mem_nil, or_false] at ha ⊢
    omega)
  unfold State.logRecord
  split
  · exact h
  · dsimp only
    split
    · unfold State.logDrop
      dsimp only
      have := State.setEv_keeps_bit (s.bump (aPrompt + rPROMPT_LOG_DROP) 1) aPrompt (ev evPROMPT_LOG_DROP) x b hq
        (by rw [State.bump_reg, if_neg h6]; exact h)
      split
      · rw [State.pageMsix_reg]
        exact this
      · exact this
    · rw [State.setFld_reg, if_neg h5]
      exact h

theorem State.raiseEv_keeps_bit (e : Ev) (x b : Nat) (hx : notOverwritten page x) (h : rb (s.reg x) b = true) :
    rb ((s.raiseEv page src forced e).reg x) b = true := by
  unfold State.raiseEv
  dsimp only
  have := s.setEv_keeps_bit page e x b hx h
  split
  · exact State.logRecord_keeps_bit _ _ _ _ _ _ _ hx this
  · exact this

theorem State.raiseEv_sets (e : Ev) (hb : e.bit < 32) (hx : notOverwritten page (evStat page e)) :
    rb ((s.raiseEv page src forced e).reg (evStat page e)) e.bit = true := by
  unfold State.raiseEv
  dsimp only
  have := s.setEv_sets page e hb hx
  split
  · exact State.logRecord_keeps_bit _ _ _ _ _ _ _ hx this
  · exact this

theorem State.raiseEvs_keeps_bit (x b : Nat) (hx : notOverwritten page x) (h : rb (s.reg x) b = true) :
    rb ((es.foldl (fun s e => s.raiseEv page src forced e) s).reg x) b = true := by
  induction es generalizing s with
  | nil => exact h
  | cons e r ih => exact ih _ (State.raiseEv_keeps_bit _ _ _ _ _ _ _ hx h)

/-- A bit that stands in a status register still stands after further events. -/
theorem State.raiseAll_keeps_bit (x b : Nat) (hx : notOverwritten page x) (h : rb (s.reg x) b = true) :
    rb ((s.raiseAll page src forced es).reg x) b = true := by
  unfold State.raiseAll
  dsimp only
  split
  · rw [State.pageMsix_reg]
    exact State.raiseEvs_keeps_bit _ _ _ _ _ _ _ hx h
  · exact State.raiseEvs_keeps_bit _ _ _ _ _ _ _ hx h

/-- Every event of the list is set. -/
theorem State.raiseAll_sets (e : Ev) (he : e ∈ es) (hb : e.bit < 32) (hx : notOverwritten page (evStat page e)) :
    rb ((s.raiseAll page src forced es).reg (evStat page e)) e.bit = true := by
  have : ∀ s : State, rb ((es.foldl (fun s e => s.raiseEv page src forced e) s).reg (evStat page e)) e.bit = true := by
    induction es with
    | nil => cases he
    | cons x r ih =>
      intro s
      rw [List.foldl_cons]
      rcases List.mem_cons.mp he with rfl | h
      · exact State.raiseEvs_keeps_bit _ _ _ _ _ _ _ hx (State.raiseEv_sets _ _ _ _ _ hb hx)
      · exact ih h _
  unfold State.raiseAll
  dsimp only
  split
  · rw [State.pageMsix_reg]
    exact this s
  · exact this s

/-- Raising an event of a page's first status register sets its bit. -/
theorem State.raiseAll_evt (b a0 a1 : Nat) (h : ⟨false, 0, b, a0, a1⟩ ∈ es) (hb : b < 32)
    (hx : notOverwritten page (page + rHDR_EVT_STAT)) : (s.raiseAll page src forced es).evt page b = true :=
  s.raiseAll_sets page src forced es ⟨false, 0, b, a0, a1⟩ h hb hx

theorem ev_port (b : Nat) : (ev b).port < 8 := Nat.zero_lt_succ _

end Sys2Proof.Machine
end

