-- ==== Sys2Proof/Laws/Pages.lean ====
section
/-! SUPPORT. Pages: an open page lets a write have its effect, every page is 4 KiB aligned, and an event of a page sets its
bit. -/

namespace Sys2Proof.Machine

open Sys2Proof

theorem State.onPage_open {s : State} {k : PageKind} {i : Nat} (f : State → State) (h : s.pageOpen k i true = true) :
    s.onPage k i f = f s := by simp [State.onPage, h]

theorem State.onPage_closed {s : State} {k : PageKind} {i : Nat} (f : State → State) (h : s.pageOpen k i true = false) :
    s.onPage k i f = s := by simp [State.onPage, h]

theorem aOio_mod (k : Nat) : aOio k % 4096 = 0 := by unfold aOio; omega
theorem aPart_mod (p : Nat) : aPart p % 4096 = 0 := by unfold aPart; omega
theorem aUsh_mod (p : Nat) : aUsh p % 4096 = 0 := by unfold aUsh aPart; omega
theorem aBox_mod (p : Nat) : aBox p % 4096 = 0 := by unfold aBox aPart; omega
theorem aSyn_mod (p : Nat) : aSyn p % 4096 = 0 := by unfold aSyn aPart; omega
theorem aClu_mod (c : Nat) : aClu c % 4096 = 0 := by unfold aClu aPart; omega
theorem aDma_mod (c : Nat) : aDma c % 4096 = 0 := by unfold aDma aClu aPart; omega
theorem aCore_mod (c : Nat) : aCore c % 4096 = 0 := by unfold aCore aClu aPart; omega

/-- The status register of an aligned page is written by events only, which set bits. -/
theorem notOverwritten_stat {page q : Nat} (hp : page % 4096 = 0) (hq : q % 4096 = 0) :
    notOverwritten page (q + rHDR_EVT_STAT) := by
  intro a ha
  simp only [List.mem_cons, List.not_mem_nil, or_false] at ha
  simp only [rHDR_EVT_STAT, rHDR_ERR_LOG_HEAD, rHDR_ERR_COUNT, rPROMPT_LOG_WR, rPROMPT_LOG_DROP, aPrompt] at *
  omega

theorem State.raise_evt (s : State) (page src b : Nat) (hp : page % 4096 = 0) (hb : b < 32) :
    (s.raise page src b).evt page b = true :=
  State.raiseAll_evt s page src false [ev b] b 0 0 (by simp [ev]) hb (notOverwritten_stat hp hp)

theorem State.raiseArg_evt (s : State) (page src b a0 a1 : Nat) (hp : page % 4096 = 0) (hb : b < 32) :
    (s.raiseArg page src b a0 a1).evt page b = true :=
  State.raiseAll_evt s page src false _ b a0 a1 (by simp) hb (notOverwritten_stat hp hp)

/-- An event bit that is set stays set when further events are recorded. -/
theorem State.raiseAll_evt_keeps (s : State) (page src : Nat) (forced : Bool) (es : List Ev) (q b : Nat)
    (hp : page % 4096 = 0) (hq : q % 4096 = 0) (h : s.evt q b = true) : (s.raiseAll page src forced es).evt q b = true :=
  State.raiseAll_keeps_bit s page src forced es _ b (notOverwritten_stat hp hq) h

end Sys2Proof.Machine
end

