-- ==== Sys2Proof/Laws/Clean.lean ====
section
/-! SUPPORT. Memory accesses where no word holds an error (the health table is empty): reads change nothing, writes change
the bytes written and nothing else. -/

namespace Sys2Proof.Machine

open Sys2Proof

theorem State.health_clean {s : State} (h : s.ecc = []) (w : Nat) : s.health w = .ok := by simp [State.health, h, tblGet]

theorem State.touch_clean {s : State} (h : s.ecc = []) (f : Bool) (w : Nat) : s.touch f w = s := by
  simp [State.touch, State.health_clean h]

theorem State.touchAll_clean {s : State} (h : s.ecc = []) (f : Bool) (ws : List Nat) :
    ws.foldl (fun s w => s.touch f w) s = s := by
  induction ws with
  | nil => rfl
  | cons w r ih => rw [List.foldl_cons, State.touch_clean h, ih]

theorem State.setHealth_clean {s : State} (h : s.ecc = []) (w : Nat) : s.setHealth w .ok = s := by
  unfold State.setHealth
  rw [h]
  cases s
  simp_all [tblSet, tblDrop]

theorem State.readMem_clean {s : State} (h : s.ecc = []) (a n : Nat) :
    s.readMem a n = (s, (List.range n).map (fun i => (s.memByte (a + i), false))) := by
  simp [State.readMem, State.touchAll_clean h, State.health_clean h, State.memByte]

theorem anyPoison_clean (s : State) (a n : Nat) : anyPoison ((List.range n).map (fun i => (s.memByte (a + i), false))) = false := by
  simp [anyPoison]

theorem memRead_eq_map (d : Byte) (m : Tbl Byte) (a n : Nat) : memRead d m a n = (List.range n).map (fun i => tblGet d m (a + i)) := by
  induction n generalizing a with
  | zero => rfl
  | succ n ih =>
    rw [memRead, ih, List.range_succ_eq_map, List.map_cons, List.map_map]
    simp [Function.comp_def, Nat.add_assoc, Nat.add_comm 1]

theorem plain_clean (s : State) (a n : Nat) :
    plain ((List.range n).map (fun i => (s.memByte (a + i), false))) = memRead 0 s.mem a n := by
  simp [plain, memRead_eq_map, State.memByte]

theorem State.writeMem_clean {s : State} (h : s.ecc = []) (a : Nat) (bs : List Byte) :
    s.writeMem a bs = (s.putBytes a bs, false) := by
  have : ∀ ws : List Nat, ws.foldl (fun (x : State × Bool) w =>
      if a ≤ 8 * w ∧ 8 * w + 8 ≤ a + bs.length then (x.1.setHealth w .ok, x.2)
      else
        let t := x.1.touch true w
        (t, x.2 || decide (t.health w = .poisoned))) (s, false) = (s, false) := by
    intro ws
    induction ws with
    | nil => rfl
    | cons w r ih =>
      rw [List.foldl_cons]
      simp only [State.setHealth_clean h, State.touch_clean h, State.health_clean h]
      simpa using ih
  simp only [State.writeMem]
  rw [this]

theorem State.writeMarked_clean {s : State} (h : s.ecc = []) (a : Nat) (cs : List (Byte × Bool)) (hc : anyPoison cs = false) :
    s.writeMarked a cs = (s.putBytes a (plain cs), false) := by
  have hn : ∀ c ∈ cs, c.2 = false := by simpa [anyPoison] using hc
  have hs : ∀ lo hi, (State.writeMarked.slice' cs lo hi).any Prod.snd = false := by
    intro lo hi
    simp only [State.writeMarked.slice', List.any_eq_false, Bool.not_eq_true]
    exact fun c h => hn c (List.mem_of_mem_drop (List.mem_of_mem_take h))
  have : ∀ (ws : List Nat) (t : State), ws.foldl (fun s w =>
      if (State.writeMarked.slice' cs (8 * w - a) (8 * w + 8 - a)).any Prod.snd then s.setHealth w .poisoned else s) t = t := by
    intro ws t
    induction ws generalizing t with
    | nil => rfl
    | cons w r ih =>
      rw [List.foldl_cons, if_neg (by simp [hs])]
      exact ih t
  simp only [State.writeMarked, State.writeMem_clean h]
  rw [this]

theorem State.scrWrite_clean {s : State} (h : s.ecc = []) (i : Nat) (ws : List (Nat × List Byte)) :
    s.scrWrite i ws = ({ s with mem := scrMem i ws s.mem }, false) := by
  unfold State.scrWrite scrMem
  generalize mergeWrites ws = l
  induction l generalizing s with
  | nil => rfl
  | cons w r ih =>
    simp only [List.foldl_cons, State.writeMem_clean h, Bool.or_self]
    exact ih (s := s.putBytes (scratchAddr i w.1) w.2) h

theorem State.scrMeet_clean {s : State} (h : s.ecc = []) (i : Nat) (rs : List (Nat × Nat)) : s.scrMeet i rs = (s, false) := by
  unfold State.scrMeet
  induction rs with
  | nil => rfl
  | cons r q ih =>
    simp only [List.foldl_cons, State.readMem_clean h, anyPoison_clean, Bool.or_self]
    exact ih

end Sys2Proof.Machine
end

