-- ==== Sys2Proof/Laws/Sequencer.lean ====
section
/-! SUPPORT. The core sequencer's shared operations: fetching, a record's entry into flight, and what acts. -/

namespace Sys2Proof.Machine

open Sys2Proof

/-! ## Fetching -/

theorem State.readMem_cores (s : State) (a n : Nat) : (s.readMem a n).1.cores = s.cores :=
  (State.readMem_keeps s a n (Nat.or_self _) (Keeps.refl s)).same .cores rfl

theorem State.readMem_core (s : State) (a n i : Nat) : (s.readMem a n).1.core i = s.core i := by
  simp [State.core, State.readMem_cores]

theorem State.fetchOne_core (s : State) (i : Nat) : ∃ q l, ∀ j, (s.fetchOne i).core j =
    if j = i then { s.core i with qhead := q, fetched := (s.core i).fetched ++ l } else s.core j := by
  unfold State.fetchOne
  dsimp only
  split
  · refine ⟨(s.core i).qhead, [], fun j => ?_⟩
    by_cases h : j = i
    · subst h; simp
    · rw [if_neg h]
  · split
    · refine ⟨((s.core i).qhead % s.qSlots i + 1) % s.qSlots i, [], fun j => ?_⟩
      rw [State.modCore_core]
      by_cases h : j = i
      · subst h; simp
      · rw [if_neg h, if_neg (Ne.symm h)]
    · refine ⟨((s.core i).qhead % s.qSlots i + 1) % s.qSlots i, [⟨(s.core i).qhead % s.qSlots i,
        plain (s.readMem (scratchAddr i (s.slotOff i ((s.core i).qhead % s.qSlots i))) 32).2,
        anyPoison (s.readMem (scratchAddr i (s.slotOff i ((s.core i).qhead % s.qSlots i))) 32).2⟩], fun j => ?_⟩
      rw [State.modCore_core, State.readMem_core]
      by_cases h : j = i
      · subst h; rw [if_pos rfl, if_pos rfl]
      · rw [if_neg h, if_neg (Ne.symm h), State.readMem_core]

theorem State.forFetch_core (s : State) (i n : Nat) : ∃ q l, ∀ j, (forN (fun _ s => s.fetchOne i) n s).core j =
    if j = i then { s.core i with qhead := q, fetched := (s.core i).fetched ++ l } else s.core j := by
  induction n with
  | zero =>
    refine ⟨(s.core i).qhead, [], fun j => ?_⟩
    by_cases h : j = i
    · subst h; simp [forN]
    · rw [if_neg h]; rfl
  | succ n ih =>
    obtain ⟨q, l, h⟩ := ih
    obtain ⟨q', l', h'⟩ := State.fetchOne_core (forN (fun _ s => s.fetchOne i) n s) i
    refine ⟨q', l ++ l', fun j => ?_⟩
    rw [forN, h' j, h i, h j]
    split <;> simp

/-- Fetching advances QHEAD and adds slots to what is fetched; it changes nothing else of any core. -/
theorem State.fetch_core (s : State) (i : Nat) : ∃ q l, ∀ j, (s.fetch i).core j =
    if j = i then { s.core i with qhead := q, fetched := (s.core i).fetched ++ l } else s.core j := s.forFetch_core i 16

/-- Nothing is fetched by a core that is not RUNNING, holds 8 slots, or has reached the tail. -/
theorem State.fetch_idle {s : State} {i : Nat}
    (h : (s.core i).st ≠ cRUNNING ∨ 8 ≤ (s.core i).fetched.length ∨ (s.core i).qhead % s.qSlots i = s.qTail i) :
    s.fetch i = s := by
  have : s.fetchOne i = s := by
    unfold State.fetchOne
    dsimp only
    rw [if_pos h]
  have h2 : ∀ n, forN (fun _ s => State.fetchOne s i) n s = s := by
    intro n
    induction n with
    | zero => rfl
    | succ n ih => rw [forN, ih, this]
  exact h2 16

theorem State.fetchOne_clean {s : State} (h : s.ecc = []) (i : Nat) : ∃ cs, s.fetchOne i = { s with cores := cs } := by
  unfold State.fetchOne
  dsimp only
  split
  · exact ⟨s.cores, rfl⟩
  · split
    · exact ⟨_, rfl⟩
    · rw [State.readMem_clean h]
      exact ⟨_, rfl⟩

/-- Where no word holds an error, fetching changes the cores only. -/
theorem State.fetch_clean {s : State} (h : s.ecc = []) (i : Nat) : ∃ cs, s.fetch i = { s with cores := cs } := by
  have : ∀ n, ∃ cs, forN (fun _ s => State.fetchOne s i) n s = { s with cores := cs } := by
    intro n
    induction n with
    | zero => exact ⟨s.cores, rfl⟩
    | succ n ih =>
      obtain ⟨cs, e⟩ := ih
      rw [forN, e]
      obtain ⟨ds, e'⟩ := State.fetchOne_clean (s := { s with cores := cs }) h i
      exact ⟨ds, by rw [e']⟩
  exact this 16

/-! ## Flight -/

theorem State.flightAt_unacted {s : State} {i : Nat} (h : (s.core i).quiet) {idx : Nat} {f : Flight} (e : s.flightAt i idx = some f) :
    f.unacted = false := h f (List.mem_of_find?_eq_some e)

theorem State.act_of_not {s : State} {i : Nat} {f : Flight} (h : f.unacted = false) : s.act i f = s := by
  simp [State.act, h]

/-- A core with nothing left to act settles as it is. -/
theorem State.settle_quiet {s : State} {i : Nat} (h : (s.core i).quiet) : s.settle i = s := by
  have step : ∀ idx, (match s.flightAt i idx with | some f => s.act i f | none => s) = s := by
    intro idx
    split
    · next e => exact State.act_of_not (State.flightAt_unacted h e)
    · rfl
  unfold State.settle
  generalize (s.core i).flight.map (fun f => f.slot.idx) = l
  induction l with
  | nil => rfl
  | cons x r ih => exact (congrArg (fun u => r.foldl _ u) (step x)).trans ih

theorem State.enter_core (s : State) (i : Nat) (x : Slot) (code j : Nat) : (s.enter i x code).core j =
    if j = i then { s.core i with
      fetched := (s.core i).fetched.drop 1
      flight := (s.core i).flight ++ [⟨x, false, false, code, 0, false, 0,
        (if code = stOK then recRegions x.bytes else ([], [])).1, (if code = stOK then recRegions x.bytes else ([], [])).2,
        if code = stOK then recHands x.bytes else [], s.ctrlClk, false, []⟩] }
    else s.core j := by
  unfold State.enter
  dsimp only
  rw [State.modCore_core]
  by_cases h : i = j
  · subst h; simp
  · have : ¬ j = i := fun e => h e.symm
    simp [h, this]

end Sys2Proof.Machine
end

