-- ==== Sys2Proof/Laws/Issue.lean ====
section
/-! SUPPORT. Issuing a record: its entry in flight, and what a record that computes leaves behind. -/

namespace Sys2Proof.Machine

open Sys2Proof

theorem State.issue_next {s : State} {i op : Nat} {x : Slot} (e : State → Slot → State) (hn : s.nextRec i op = some x)
    (hc : s.issueCode i x.bytes = stOK) : s.issue i op e = ((e (s.enter i x stOK) x).settle i).fetch i := by
  unfold State.issue
  simp only [hn, hc, ↓reduceIte]

theorem State.nextRec_op {s : State} {i op : Nat} {x : Slot} (hn : s.nextRec i op = some x) : recOp x.bytes = op := by
  unfold State.nextRec at hn
  split at hn
  · cases hn
  · split at hn
    · next h => cases hn; exact h.2.1
    · cases hn

/-- not an acting op -/
theorem quiet_enter {s : State} {i : Nat} {x : Slot} (hq : (s.core i).quiet) (ho : recOp x.bytes ≠ 0x09 ∧ recOp x.bytes ≠ 0x0C ∧ recOp x.bytes ≠ 0x0E ∧ recOp x.bytes ≠ 0x0F) :
   ((s.enter i x stOK).core i).quiet := by
  intro f hf
  rw [State.enter_core, if_pos rfl] at hf
  simp only [List.mem_append, List.mem_singleton] at hf
  rcases hf with h | rfl
  · exact hq f h
  · simp [Flight.unacted, ho]

theorem quiet_modFlight {s : State} {i idx : Nat} {g : Flight → Flight} (hq : (s.core i).quiet) (h : ∀ f, f.unacted = false → (g f).unacted = false) :
   ((s.modFlight i idx g).core i).quiet := by
  intro f hf
  simp only [State.modFlight, State.modCore_core_same, List.mem_map] at hf
  obtain ⟨y, hy, rfl⟩ := hf
  split
  · exact h _ (hq y hy)
  · exact hq y hy

theorem enter_sameBut (s : State) (i : Nat) (x : Slot) (c : Nat) : s.sameBut [.cores] (s.enter i x c) := State.sameBut_cores _
theorem modFlight_sameBut (s : State) (i : Nat) (x : Nat) (f : Flight → Flight) : s.sameBut [.cores] (s.modFlight i x f) := State.sameBut_cores _
theorem modCore_sameBut (s : State) (i : Nat) (f : CoreSt → CoreSt) : s.sameBut [.cores] (s.modCore i f) := State.sameBut_cores _
theorem fetch_sameBut {s : State} (h : s.ecc = []) (i : Nat) : s.sameBut [.cores] (s.fetch i) := by
  obtain ⟨cs, e⟩ := State.fetch_clean h i
  rw [e]; exact State.sameBut_cores _

theorem inFlight_fetch {s : State} {i : Nat} {x : Slot} {a : Bool} {fl : Nat} {la : Bool} (h : inFlight (s.core i) x a fl la) : inFlight ((s.fetch i).core i) x a fl la := by
  obtain ⟨q, l, e⟩ := s.fetch_core i
  rw [e, if_pos rfl]; exact h
theorem fetch_core_other {s : State} {i j : Nat} (h : j ≠ i) : (s.fetch i).core j = s.core j := by
  obtain ⟨q, l, e⟩ := s.fetch_core i
  rw [e, if_neg h]
theorem modFlight_core_other {s : State} {i j x : Nat} {f : Flight → Flight} (h : j ≠ i) : (s.modFlight i x f).core j = s.core j := by
  rw [State.modFlight, State.modCore_core, if_neg (Ne.symm h)]

theorem modFlight_last {s : State} {i idx : Nat} {fs : List Flight} {F : Flight} (g : Flight → Flight)
    (h : (s.core i).flight = fs ++ [F]) (hi : F.slot.idx = idx) (hd : F.done = false) (hf : ∀ f ∈ fs, f.slot.idx ≠ idx) :
    (s.modFlight i idx g).core i = { s.core i with flight := fs ++ [g F] } := by
  unfold State.modFlight
  rw [State.modCore_core_same, h, List.map_append, List.map_singleton, if_pos ⟨hi, hd⟩]
  congr 2
  conv_rhs => rw [← List.map_id fs]
  exact List.map_congr_left (fun f hf' => if_neg (fun e => hf f hf' e.1))

/-- The flight entry that a record which passed its checks has when it issues. -/
def entry (x : Slot) (now : Nat) : Flight :=
  ⟨x, false, false, stOK, 0, false, 0, (recRegions x.bytes).1, (recRegions x.bytes).2, recHands x.bytes, now, false, []⟩

theorem enter_core_same (s : State) (i : Nat) (x : Slot) : (s.enter i x stOK).core i =
    { s.core i with fetched := (s.core i).fetched.drop 1, flight := (s.core i).flight ++ [entry x s.ctrlClk] } := by
  rw [State.enter_core, if_pos rfl]; rfl

theorem enter_core_other {s : State} {i j : Nat} {x : Slot} {c : Nat} (h : j ≠ i) : (s.enter i x c).core j = s.core j := by
  rw [State.enter_core, if_neg h]

def notActing (x : Slot) : Prop := recOp x.bytes ≠ 0x09 ∧ recOp x.bytes ≠ 0x0C ∧ recOp x.bytes ≠ 0x0E ∧ recOp x.bytes ≠ 0x0F

theorem quiet_append {c : CoreSt} {fs : List Flight} {F : Flight} (h : ∀ f ∈ fs, f.unacted = false) (hF : notActing F.slot) (e : c.flight = fs ++ [F]) : c.quiet := by
  intro f hf
  rw [e, List.mem_append, List.mem_singleton] at hf
  rcases hf with k | rfl
  · exact h f k
  · obtain ⟨a, b, c, d⟩ := hF; simp [Flight.unacted, a, b, c, d]

theorem computed_ok {s : State} {i : Nat} {x : Slot} {ws : List (Nat × List Byte)} {xs : List (Nat × Xa)} {fl : Flags} (u : State) 
    (hu : s.sameBut [.cores, .freeCtr] u) (hec : s.ecc = []) (hc : u.cores = (s.enter i x stOK).cores) (hq : (s.core i).quiet)
    (hx : ∀ f ∈ (s.core i).flight, f.slot.idx ≠ x.idx) (ho : notActing x) :
    Computed i x s (((u.computed i x false ws xs fl).settle i).fetch i) ws xs fl ∧ (((u.computed i x false ws xs fl).settle i).fetch i).freeCtr = u.freeCtr := by
  have he : u.ecc = [] := (hu.2 .ecc (by decide)).trans hec
  have hm : u.mem = s.mem := hu.2 .mem (by decide)
  have hcore : ∀ j, u.core j = (s.enter i x stOK).core j := fun j => by simp [State.core, hc]
  generalize hv : u.computed i x false ws xs fl = v
  let w := State.modCore { u with mem := scrMem i ws u.mem } i (fun c => { c with xa := xs.foldl (fun (t : Tbl Xa) (e : Nat × Xa) => tblSet Xa.none t e.1 e.2) c.xa })
  have hv' : v = w.modFlight i x.idx (fun f => { f with code := stOK, flags := flagBits fl, undo := u.undoOf i (mergeWrites ws) }) := by
    rw [← hv]; unfold State.computed
    simp [State.scrWrite_clean he, w]
  have hwc : w.core i = { (s.enter i x stOK).core i with xa := xs.foldl (fun t e => tblSet Xa.none t e.1 e.2) (s.core i).xa } := by
    rw [State.modCore_core_same]
    have hu' : State.core { u with mem := scrMem i ws u.mem } i = (s.enter i x stOK).core i := hcore i
    rw [hu', enter_core_same]
  have hwf : (w.core i).flight = (s.core i).flight ++ [entry x s.ctrlClk] := by rw [hwc, enter_core_same]
  have hvc := modFlight_last (idx := x.idx) (fun f => { f with code := stOK, flags := flagBits fl, undo := u.undoOf i (mergeWrites ws) }) hwf rfl rfl hx
  rw [← hv'] at hvc
  have hvq : (v.core i).quiet := quiet_append hq (F := { entry x s.ctrlClk with code := stOK, flags := flagBits fl, undo := u.undoOf i (mergeWrites ws) }) ho (by rw [hvc])
  rw [State.settle_quiet hvq]
  have hvo : ∀ j, j ≠ i → v.core j = s.core j := fun j hj => by
    rw [hv', modFlight_core_other hj, State.modCore_core, if_neg (Ne.symm hj)]
    exact (hcore j).trans (enter_core_other hj)
  have hs1 : s.sameBut [.cores, .mem, .freeCtr] v := by
    refine State.sameBut_trans (State.sameBut_mono hu (by decide)) (State.sameBut_trans (t := { u with mem := scrMem i ws u.mem }) ?_ ?_)
    · exact ⟨rfl, fun f h => by cases f <;> first | rfl | exact absurd (by decide) h⟩
    · rw [hv']
      exact State.sameBut_mono (State.sameBut_trans (modCore_sameBut _ _ _) (modFlight_sameBut _ _ _ _)) (by decide)
  have hve : v.ecc = [] := (hs1.2 .ecc (by decide)).trans hec
  obtain ⟨cs, hf⟩ := State.fetch_clean hve i
  have hvm : v.mem = scrMem i ws s.mem := by rw [hv', ← hm]; rfl
  obtain ⟨q, l, hfc⟩ := v.fetch_core i
  refine ⟨⟨?_, ?_, ?_, ⟨l, ?_⟩, State.sameBut_trans hs1 (State.sameBut_mono (fetch_sameBut hve i) (by decide)), fun j hj => ?_⟩, ?_⟩
  · rw [hf]; exact hvm
  · rw [hfc, if_pos rfl, hvc, hwc]
  · refine inFlight_fetch ?_
    rw [hvc]
    exact ⟨{ entry x s.ctrlClk with code := stOK, flags := flagBits fl, undo := u.undoOf i (mergeWrites ws) }, by simp, rfl, rfl, rfl, rfl, rfl, rfl⟩
  · rw [hfc, if_pos rfl, hvc, hwc, enter_core_same]
  · rw [fetch_core_other hj, hvo j hj]
  · rw [hf, hv']; rfl

theorem scr_of_mem {s t : State} (h : t.mem = s.mem) (i : Nat) : t.scr i = s.scr i := by funext a n; simp [State.scr, h]

end Sys2Proof.Machine
end

