-- ==== Sys2Proof/Laws/Stop.lean ====
section
/-! SUPPORT. What STOP leaves: no record waits, and the core does not run. -/

namespace Sys2Proof.Machine

open Sys2Proof

/-- What the core's own operations do not undo: a core that is not RUNNING does not become so, and no record begins to wait. -/
structure Calm (i : Nat) (s t : State) : Prop where
  st : (s.core i).st ≠ cRUNNING → (t.core i).st ≠ cRUNNING
  waits : ∀ P : Nat → Prop, (∀ f ∈ (s.core i).flight, f.waits = true → P f.slot.idx) → (∀ f ∈ (t.core i).flight, f.waits = true → P f.slot.idx)

variable {i : Nat} {σ s : State}
theorem Calm.refl (i) (s : State) : Calm i s s := ⟨id, fun _ h => h⟩
theorem Calm.trans {t u : State} (a : Calm i s t) (b : Calm i t u) : Calm i s u := ⟨b.st ∘ a.st, fun P h => b.waits P (a.waits P h)⟩
theorem Calm.of_core {t : State} (h1 : (t.core i).st = (s.core i).st ∨ (t.core i).st ≠ cRUNNING)
   (h2 : ∀ f ∈ (t.core i).flight, f.waits = true → ∃ g ∈ (s.core i).flight, g.waits = true ∧ g.slot = f.slot) : Calm i s t := by
  refine ⟨fun h => ?_, fun P h f hf w => ?_⟩
  · rcases h1 with k | k
    · rw [k]; exact h
    · exact k
  · obtain ⟨g, hg, gw, e⟩ := h2 f hf w
    rw [← e]; exact h g hg gw
theorem Calm.of_cores {t : State} (h : t.cores = s.cores) (hk : Calm i σ s) : Calm i σ t := by
  have : t.core i = s.core i := by simp [State.core, h]
  exact hk.trans ⟨by simp [this], by simp [this]⟩
theorem Calm.modCore (j : Nat) (f : CoreSt → CoreSt) (h1 : ∀ c, (f c).st = c.st ∨ (f c).st ≠ cRUNNING)
    (h2 : ∀ c, ∀ x ∈ (f c).flight, x.waits = true → ∃ g ∈ c.flight, g.waits = true ∧ g.slot = x.slot) (hk : Calm i σ s) : Calm i σ (s.modCore j f) := by
  refine hk.trans ?_
  by_cases h : j = i
  · subst h
    exact .of_core (by simpa using h1 _) (by simpa using h2 _)
  · exact .of_core (.inl (by simp [State.modCore_core, h])) (by
      simp only [State.modCore_core, h, ↓reduceIte]; exact fun f hf w => ⟨f, hf, w, rfl⟩)

theorem Calm.modFlight (j idx : Nat) (f : Flight → Flight)
    (hf : ∀ x, (f x).waits = true → x.waits = true ∧ x.slot = (f x).slot) (hk : Calm i σ s) : Calm i σ (s.modFlight j idx f) := by
  refine Calm.modCore _ _ (fun _ => .inl rfl) (fun c x hx w => ?_) hk
  simp only [List.mem_map] at hx
  obtain ⟨y, hy, rfl⟩ := hx
  refine ⟨y, hy, ?_⟩
  split at w
  · rw [if_pos ‹_›]; exact hf _ w
  · rw [if_neg ‹_›]; exact ⟨w, rfl⟩

theorem Calm.fetch (j : Nat) (hk : Calm i σ s) : Calm i σ (s.fetch j) := by
  refine hk.trans ?_
  obtain ⟨q, l, h⟩ := s.fetch_core j
  by_cases e : i = j
  · subst e
    exact .of_core (.inl (by simp [h])) (by rw [h, if_pos rfl]; exact fun f hf w => ⟨f, hf, w, rfl⟩)
  · exact .of_core (.inl (by rw [h, if_neg e])) (by rw [h, if_neg e]; exact fun f hf w => ⟨f, hf, w, rfl⟩)

theorem Calm.foldl {β : Type} (f : State → β → State) (l : List β) (h : ∀ s x, Calm i σ s → Calm i σ (f s x)) (hk : Calm i σ s) : Calm i σ (l.foldl f s) := by
  induction l generalizing s with
  | nil => exact hk
  | cons x r ih => exact ih (h _ x hk)

theorem waits_acted (f : Flight) : ({ f with acted := true } : Flight).waits = false := by simp [Flight.waits]
theorem waits_done (f : Flight) : ({ f with done := true } : Flight).waits = false := by simp [Flight.waits]

theorem Calm.releaseWaiter (p : Nat) (w : Waiter) (hk : Calm i σ s) : Calm i σ (s.releaseWaiter p w) := by
  unfold State.releaseWaiter
  split
  · refine Calm.modCore _ _ (fun _ => .inl rfl) (fun c x hx w => ?_) (Calm.of_cores (s := s) rfl hk)
    simp only [List.mem_map] at hx
    obtain ⟨y, hy, rfl⟩ := hx
    refine ⟨y, hy, ?_⟩
    split at w
    · rw [waits_acted] at w; cases w
    · rw [if_neg ‹_›]; exact ⟨w, rfl⟩
  · exact Calm.of_cores (s := s) rfl hk

theorem Calm.objOp (p o : Nat) (set : Bool) (v : Nat) (hk : Calm i σ s) : Calm i σ (s.objOp p o set v) := by
  unfold State.objOp State.tailMoved
  dsimp only
  refine Calm.foldl _ _ (fun s j hk => Calm.fetch j hk) (Calm.foldl _ _ (fun s w hk => Calm.releaseWaiter p w hk) (Calm.of_cores (s := s) rfl hk))

theorem State.boxReturn_core (s : State) (c n j : Nat) : (s.boxReturn c n).core j = if c = j then { s.core c with held := (s.core c).held - min n (s.core c).held } else s.core j := by
  unfold State.boxReturn
  dsimp only
  split
  · rw [State.modBox_core, State.modCore_core]
  · rw [State.modBox_core, State.modBox_core, State.modCore_core]

theorem Calm.boxReturn (c n : Nat) (hk : Calm i σ s) : Calm i σ (s.boxReturn c n) := by
  refine hk.trans (Calm.of_core (.inl ?_) ?_)
  · rw [State.boxReturn_core]; split
    · next h => subst h; rfl
    · rfl
  · rw [State.boxReturn_core]; split
    · next h => subst h; exact fun f hf w => ⟨f, hf, w, rfl⟩
    · exact fun f hf w => ⟨f, hf, w, rfl⟩

theorem Calm.returnTickets (c n : Nat) (hk : Calm i σ s) : Calm i σ (s.returnTickets c n) := by
  unfold State.returnTickets
  dsimp only
  refine Calm.boxReturn _ _ (Calm.modCore _ _ (fun _ => .inl rfl) (fun c x hx w => ⟨x, hx, w, rfl⟩) (Calm.of_cores (s := s) rfl hk))

theorem State.writeBack_cores (s : State) (i : Nat) (f : Flight) : (s.writeBack i f).cores = s.cores :=
  (State.writeBack_keeps s i f (Nat.or_self _) (Keeps.refl s)).same .cores rfl

theorem Calm.endFlight (j idx : Nat) (hk : Calm i σ s) : Calm i σ (s.endFlight j idx) := by
  unfold State.endFlight
  split
  · exact hk
  · refine (Calm.modFlight _ _ _ (fun x w => ?_) (Calm.of_cores (State.writeBack_cores _ _ _) hk))
    simp [Flight.waits] at w

theorem Calm.evCore (j b a0 a1 : Nat) (hk : Calm i σ s) : Calm i σ (s.evCore j b a0 a1) := Calm.of_cores (State.raiseAll_cores _ _ _ _ _) hk

theorem Calm.abortFlight (j : Nat) (f : Flight) (hk : Calm i σ s) : Calm i σ (s.abortFlight j f) := by
  unfold State.abortFlight
  extract_lets op u
  have : Calm i σ u := by
    unfold u
    split
    · exact Calm.of_cores (s := s) rfl hk
    split
    · split
      · exact Calm.of_cores (s := s) rfl hk
      · exact hk
    · exact hk
  refine Calm.endFlight _ _ (Calm.modFlight _ _ _ (fun x w => ?_) this)
  simp [Flight.waits] at w

theorem Calm.abortDead (j : Nat) (hk : Calm i σ s) : Calm i σ (s.abortDead j) :=
  Calm.foldl _ _ (fun _ f hk => Calm.abortFlight j f hk) hk

theorem Calm.abortBehind (j idx : Nat) (hk : Calm i σ s) : Calm i σ (s.abortBehind j idx) :=
  Calm.abortDead j (Calm.foldl _ _ (fun _ f hk => Calm.abortFlight j f hk) hk)

theorem Calm.faultAt (j idx code : Nat) (hk : Calm i σ s) : Calm i σ (s.faultAt j idx code) := by
  unfold State.faultAt
  extract_lets c first u
  exact Calm.abortBehind _ _ (Calm.modCore _ _ (fun _ => .inr (by simp [cDRAINING, cRUNNING])) (fun c x hx w => ⟨x, hx, w, rfl⟩) hk)

theorem Calm.endActs (j : Nat) (f : Flight) (hk : Calm i σ s) : Calm i σ (s.endActs j f) := by
  unfold State.endActs
  dsimp only
  split
  · exact Calm.faultAt _ _ _ (Calm.endFlight _ _ (Calm.of_cores (State.setReg_cores _ _ _) (Calm.boxReturn _ _ hk)))
  · exact Calm.evCore _ _ _ _ (Calm.modCore _ _ (fun _ => .inr (by simp [cHALTED, cRUNNING])) (fun c x hx w => by simp at hx)
      (Calm.endFlight _ _ (Calm.of_cores (State.setReg_cores _ _ _) (Calm.boxReturn _ _ hk))))

theorem State.remoteSignal_cores (s : State) (src c : Nat) (set : Bool) (o v : Nat) : (s.remoteSignal src c set o v).1.cores = s.cores :=
  (State.remoteSignal_keeps s src c set o v (Nat.or_self _) (Keeps.refl s)).same .cores rfl

theorem State.remoteSignal_code (s : State) (src c : Nat) (set : Bool) (o v k : Nat) (h : (s.remoteSignal src c set o v).2 = .refused k) : k ≠ stOK := by
  unfold State.remoteSignal at h
  extract_lets at h
  split at h
  · cases h; decide
  split at h
  · cases h; decide
  split at h
  · cases h
  split at h <;> cases h
  decide

theorem Calm.act (j : Nat) (f : Flight) (hk : Calm i σ s) : Calm i σ (s.act j f) := by
  have hac : ∀ (s : State) idx, Calm i σ s → Calm i σ (s.modFlight j idx (fun f => { f with acted := true })) := fun s idx =>
    Calm.modFlight _ _ _ (fun x w => by rw [waits_acted] at w; cases w)
  have hfail : ∀ (s : State) idx code, code ≠ stOK → Calm i σ s → Calm i σ (s.modFlight j idx (fun f => { f with code := code })) := fun s idx code hc =>
    Calm.modFlight _ _ _ (fun x w => by simp [Flight.waits, hc] at w)
  unfold State.act
  extract_lets op idx fs ac fl
  split
  · exact hk
  split
  · split
    · split
      · have hr : ∀ a b c d, Calm i σ (s.remoteSignal j a b c d).1 := fun a b c d => Calm.of_cores (State.remoteSignal_cores s j _ _ _ _) hk
        split
        · exact Calm.modFlight _ _ _ (fun x w => by simp [Flight.waits] at w) (hr _ _ _ _)
        · next e => exact hfail _ _ _ (State.remoteSignal_code _ _ _ _ _ _ _ e) (hr _ _ _ _)
        · exact hr _ _ _ _
      · exact hac _ _ (Calm.objOp _ _ _ _ hk)
    · exact hk
  split
  · split
    · split
      · exact hfail _ _ _ (by decide) hk
      · exact hac _ _ (Calm.returnTickets _ _ hk)
    · exact hk
  split
  · split
    · exact hac _ _ hk
    · exact hk
  split
  · exact Calm.endActs _ _ hk
  · exact hk

theorem Calm.settle (j : Nat) (hk : Calm i σ s) : Calm i σ (s.settle j) := by
  unfold State.settle
  refine Calm.foldl _ _ (fun s idx hk => ?_) hk
  split
  · exact Calm.act _ _ hk
  · exact hk

theorem abort_waits (s : State) (j : Nat) (f : Flight) : ∀ g ∈ ((s.abortFlight j f).core j).flight, g.waits = true → g.slot.idx ≠ f.slot.idx := by
  unfold State.abortFlight
  extract_lets op u
  refine (Calm.endFlight (i := j) j f.slot.idx (Calm.refl j _)).waits (fun k => k ≠ f.slot.idx) (fun g hg w => ?_)
  simp only [State.modFlight, State.modCore_core_same, List.mem_map] at hg
  obtain ⟨y, hy, rfl⟩ := hg
  split at w
  · simp [Flight.waits] at w
  · next h =>
    rw [if_neg h]
    intro e
    refine h ⟨e, ?_⟩
    simp only [Flight.waits, Bool.and_eq_true, Bool.not_eq_true'] at w
    exact w.1.1.1

theorem abortAll (j : Nat) (L : List Flight) (s : State) (h : ∀ g ∈ (s.core j).flight, g.waits = true → g.slot.idx ∈ L.map (fun f => f.slot.idx)) :
    ∀ g ∈ ((L.foldl (fun s f => s.abortFlight j f) s).core j).flight, g.waits = false := by
  induction L generalizing s with
  | nil =>
    intro g hg
    cases e : g.waits
    · rfl
    · exact absurd (h g hg e) (by simp)
  | cons f r ih =>
    refine ih _ (fun g hg w => ?_)
    have := (Calm.abortFlight j f (Calm.refl j s)).waits _ h g hg w
    rcases List.mem_cons.mp this with e | e
    · exact absurd e (abort_waits s j f g hg w)
    · exact e

theorem State.abortWaits_calm (s : State) (i : Nat) (h : (s.core i).st ≠ cRUNNING) : ((s.abortWaits i).core i).st ≠ cRUNNING ∧
    ∀ f ∈ ((s.abortWaits i).core i).flight, f.waits = false := by
  unfold State.abortWaits
  split
  · next e =>
    refine ⟨h, fun f hf => ?_⟩
    have := List.find?_eq_none.mp e f hf
    simpa using this
  · next f0 e0 =>
    have key := abortAll i ((s.core i).flight.filter Flight.waits) s (fun g hg w => List.mem_map.mpr ⟨g, List.mem_filter.mpr ⟨hg, w⟩, rfl⟩)
    have a1 := Calm.foldl (fun s f => State.abortFlight s i f) ((s.core i).flight.filter Flight.waits) (fun s f => Calm.abortFlight i f) (Calm.refl i s)
    extract_lets u
    have a2 := Calm.abortDead i (Calm.foldl (fun s f => State.abortFlight s i f)
      (((u.core i).after f0.slot.idx).filter (fun g => g.unacted && (recOp g.slot.bytes == 0x09 || recOp g.slot.bytes == 0x0F)))
      (fun s f => Calm.abortFlight i f) (Calm.refl i u))
    refine ⟨a2.st (a1.st h), fun f hf => ?_⟩
    cases e : f.waits
    · rfl
    · exact (a2.waits (fun _ => False) (fun g hg w => by rw [key g hg] at w; cases w) f hf e).elim

theorem State.abortWaits_none (s : State) (i : Nat) (h : ∀ f ∈ (s.core i).flight, f.waits = false) : s.abortWaits i = s := by
  unfold State.abortWaits
  rw [List.find?_eq_none.mpr (fun f hf => by simp [h f hf])]

end Sys2Proof.Machine
end

