-- ==== Sys2Proof/Laws/Act.lean ====
section
/-! SUPPORT. What the last record of a core does when it acts, and what an object operation and a return of tickets do. -/

namespace Sys2Proof.Machine

open Sys2Proof

theorem State.sameBut_step {σ s t : State} {F G : List Field} (hk : σ.sameBut F s) (h : s.sameBut G t) (hG : ∀ f, f ∈ G → f ∈ F) : σ.sameBut F t :=
  State.sameBut_trans hk (State.sameBut_mono h hG)
theorem tail_ok {s v : State} {i : Nat} {F : List Field} (hs : s.sameBut F v) (he : s.ecc = []) (hF : Field.ecc ∉ F) (hc : Field.cores ∈ F) :
    s.sameBut F (v.fetch i) := by
  refine State.sameBut_trans hs (State.sameBut_mono (fetch_sameBut ((hs.2 .ecc hF).trans he) i) (fun f h => by rw [List.mem_singleton.mp h]; exact hc))
theorem entry_inFlight {c : CoreSt} {fs : List Flight} {F : Flight} {x : Slot} {a : Bool} {fl : Nat} {la : Bool} (h : c.flight = fs ++ [F])
    (h1 : F.slot = x ∧ F.done = false ∧ F.code = stOK ∧ F.acted = a ∧ F.flags = fl ∧ F.late = la) : inFlight c x a fl la :=
  ⟨F, by simp [h], h1.1, h1.2.1, h1.2.2.1, h1.2.2.2.1, h1.2.2.2.2.1, h1.2.2.2.2.2⟩

theorem flightAt_last {s : State} {i idx : Nat} {fs : List Flight} {F : Flight} (h : (s.core i).flight = fs ++ [F]) (hi : F.slot.idx = idx) (hd : F.done = false)
    (hf : ∀ f ∈ fs, f.slot.idx ≠ idx) : s.flightAt i idx = some F := by
  unfold State.flightAt
  rw [h, List.find?_append]
  rw [List.find?_eq_none.mpr (fun f hf' => by simp [hf f hf'])]
  simp [hi, hd]

theorem before_last {c : CoreSt} {idx : Nat} {fs : List Flight} {F : Flight} (h : c.flight = fs ++ [F]) (hi : F.slot.idx = idx)
    (hf : ∀ f ∈ fs, f.slot.idx ≠ idx) : c.before idx = fs := by
  unfold CoreSt.before
  rw [h, List.takeWhile_append_of_pos (by simpa using hf)]
  simp [hi]

/-- only the last record of a core can act -/
theorem settle_last {s : State} {i : Nat} {fs : List Flight} {F : Flight} (h : (s.core i).flight = fs ++ [F]) (hd : F.done = false)
    (hf : ∀ f ∈ fs, f.slot.idx ≠ F.slot.idx) (hq : ∀ f ∈ fs, f.unacted = false) : s.settle i = s.act i F := by
  unfold State.settle
  rw [h, List.map_append, List.foldl_append]
  have : (fs.map (fun f => f.slot.idx)).foldl (fun s idx => match s.flightAt i idx with | some f => s.act i f | none => s) s = s := by
    have key : ∀ idx, (∀ f, s.flightAt i idx = some f → f.unacted = false) → (match s.flightAt i idx with | some f => s.act i f | none => s) = s := by
      intro idx hh
      split
      · next e => exact State.act_of_not (hh _ e)
      · rfl
    have : ∀ l : List Flight, (∀ f ∈ l, f ∈ fs) → (l.map (fun f => f.slot.idx)).foldl (fun s idx => match s.flightAt i idx with | some f => s.act i f | none => s) s = s := by
      intro l
      induction l with
      | nil => intro _; rfl
      | cons g r ih =>
        intro hm
        rw [List.map_cons, List.foldl_cons]
        refine (congrArg (fun u => List.foldl _ u _) (key g.slot.idx (fun f e => ?_))).trans (ih (fun f k => hm f (List.mem_cons_of_mem _ k)))
        have hmem := List.mem_of_find?_eq_some e
        have hidx := List.find?_some e
        rw [h, List.mem_append, List.mem_singleton] at hmem
        rcases hmem with k | rfl
        · exact hq f k
        · simp only [Bool.and_eq_true, beq_iff_eq] at hidx
          exact absurd hidx.1.symm (hf g (hm g (List.mem_cons_self ..)))
    exact this fs (fun _ k => k)
  show List.foldl (fun s idx => match s.flightAt i idx with | some f => s.act i f | none => s)
    ((fs.map (fun f => f.slot.idx)).foldl (fun s idx => match s.flightAt i idx with | some f => s.act i f | none => s) s) ([F].map (fun f => f.slot.idx)) = s.act i F
  rw [this]
  simp only [List.map_singleton, List.foldl_cons, List.foldl_nil]
  rw [flightAt_last h rfl hd hf]

theorem entry_unacted {x : Slot} {now : Nat} (h : recOp x.bytes = 0x09 ∨ recOp x.bytes = 0x0C ∨ recOp x.bytes = 0x0E ∨ recOp x.bytes = 0x0F) : (entry x now).unacted = true := by
  unfold Flight.unacted entry
  rcases h with h | h | h | h <;> simp [h]

theorem releaseWaiter_vals (s : State) (p : Nat) (w : Waiter) (q : Nat) : ((s.releaseWaiter p w).sync q).vals = (s.sync q).vals ∧ (q ≠ p → (s.releaseWaiter p w).sync q = s.sync q) := by
  unfold State.releaseWaiter
  split <;> simp only [State.modCore_sync, State.modSync_sync] <;> refine ⟨?_, fun h => ?_⟩
  · split
    · next h => subst h; rfl
    · rfl
  · rw [if_neg (Ne.symm h)]
  · split
    · next h => subst h; rfl
    · rfl
  · rw [if_neg (Ne.symm h)]

theorem fetch_syncs (s : State) (i : Nat) : (s.fetch i).syncs = s.syncs := (State.fetch_keeps s i (Nat.or_self _) (Keeps.refl s)).same .syncs rfl

theorem objOp_sync (s : State) (p o : Nat) (set : Bool) (v q : Nat) :
    ((s.objOp p o set v).sync q).vals = (if q = p then tblSet 0 (s.sync p).vals o ((if set then v else s.objVal p o + v) % 2 ^ 32) else (s.sync q).vals)
    ∧ (q ≠ p → (s.objOp p o set v).sync q = s.sync q) := by
  unfold State.objOp State.tailMoved
  extract_lets new u w
  have h1 : ∀ (l : List Nat) (t : State), (l.foldl (fun s i => s.fetch i) t).syncs = t.syncs := by
    intro l
    induction l with
    | nil => intro t; rfl
    | cons x r ih => intro t; rw [List.foldl_cons, ih, fetch_syncs]
  have h2 : ∀ (l : List Waiter) (t : State), ((l.foldl (fun s w => s.releaseWaiter p w) t).sync q).vals = (t.sync q).vals
      ∧ (q ≠ p → (l.foldl (fun s w => s.releaseWaiter p w) t).sync q = t.sync q) := by
    intro l
    induction l with
    | nil => intro t; exact ⟨rfl, fun _ => rfl⟩
    | cons x r ih =>
      intro t
      rw [List.foldl_cons]
      have a := ih (t.releaseWaiter p x)
      have b := releaseWaiter_vals t p x q
      exact ⟨a.1.trans b.1, fun h => (a.2 h).trans (b.2 h)⟩
  have h3 : ∀ t : State, t.syncs = w.syncs → t.sync q = w.sync q := fun t h => by simp [State.sync, h]
  rw [h3 _ (h1 _ _)]
  have h4 := h2 ((u.sync p).waiters.filter (fun w => w.obj == o && !w.met && w.holds new)) u
  refine ⟨h4.1.trans ?_, fun h => (h4.2 h).trans ?_⟩
  · simp only [u, State.modSync_sync]
    by_cases h : p = q
    · subst h; simp [new]
    · rw [if_neg h, if_neg (Ne.symm h)]
  · simp only [u, State.modSync_sync, if_neg (Ne.symm h)]

theorem objOp_objVal (s : State) (p o : Nat) (set : Bool) (v o' : Nat) :
    (s.objOp p o set v).objVal p o' = if o' = o then (if set then v else s.objVal p o + v) % 2 ^ 32 else s.objVal p o' := by
  unfold State.objVal
  rw [(objOp_sync s p o set v p).1, if_pos rfl, tblGet_tblSet]
  by_cases h : o' = o
  · subst h; simp [State.objVal]
  · rw [if_neg h, if_neg (Ne.symm h)]

/-- an operation on an object where no word holds an error -/
theorem objOp_sameBut {s : State} (he : s.ecc = []) (p o : Nat) (set : Bool) (v : Nat) : s.sameBut [.cores, .syncs] (s.objOp p o set v) := by
  have hf : ∀ (l : List Nat) (t : State), s.sameBut [.cores, .syncs] t → s.sameBut [.cores, .syncs] (l.foldl (fun s i => s.fetch i) t) := by
    intro l
    induction l with
    | nil => intro t h; exact h
    | cons x r ih =>
      intro t h
      simp only [List.foldl_cons]
      exact ih _ (tail_ok h he (by decide) (by decide))
  have hw : ∀ (l : List Waiter) (t : State), s.sameBut [.cores, .syncs] t → s.sameBut [.cores, .syncs] (l.foldl (fun s w => s.releaseWaiter p w) t) := by
    intro l
    induction l with
    | nil => intro t h; exact h
    | cons x r ih =>
      intro t h
      simp only [List.foldl_cons]
      refine ih _ (State.sameBut_trans h ?_)
      unfold State.releaseWaiter
      split
      · exact State.sameBut_step (State.sameBut_mono (State.modSync_sameBut t p _) (by decide)) (State.modCore_sameBut _ _ _) (by decide)
      · exact State.sameBut_mono (State.modSync_sameBut t p _) (by decide)
  unfold State.objOp State.tailMoved
  extract_lets new u w
  exact hf _ _ (hw _ _ (State.sameBut_mono (State.modSync_sameBut s p _) (by decide)))

/-- the last flight entry of a core under an object operation -/
theorem objOp_flight (s : State) (p o : Nat) (set : Bool) (v i : Nat) {fs : List Flight} {F : Flight} (h : (s.core i).flight = fs ++ [F]) (hF : recOp F.slot.bytes ≠ 0x0A)
    (hf : ∀ f ∈ fs, f.slot.idx ≠ F.slot.idx) :
    ∃ gs, ((s.objOp p o set v).core i).flight = gs ++ [F] ∧ ∀ f ∈ gs, f.slot.idx ≠ F.slot.idx := by
  have hfe : ∀ (l : List Nat) (t : State), ((l.foldl (fun s i => s.fetch i) t).core i).flight = (t.core i).flight := by
    intro l
    induction l with
    | nil => intro t; rfl
    | cons x r ih =>
      intro t
      rw [List.foldl_cons, ih]
      obtain ⟨q, l, e⟩ := t.fetch_core x
      rw [e]; split
      · next k => subst k; rfl
      · rfl
  have hw : ∀ (l : List Waiter) (t : State), (∃ gs, (t.core i).flight = gs ++ [F] ∧ ∀ f ∈ gs, f.slot.idx ≠ F.slot.idx) →
      (∃ gs, ((l.foldl (fun s w => s.releaseWaiter p w) t).core i).flight = gs ++ [F] ∧ ∀ f ∈ gs, f.slot.idx ≠ F.slot.idx) := by
    intro l
    induction l with
    | nil => intro t h; exact h
    | cons x r ih =>
      intro t ⟨gs, h1, h2⟩
      simp only [List.foldl_cons]
      refine ih _ ?_
      unfold State.releaseWaiter
      by_cases hlt : x.src < 2304
      · simp only [if_pos hlt]
        by_cases hx : x.src = i
        · subst hx
          refine ⟨gs.map (fun f => if recOp f.slot.bytes = 0x0A ∧ f.done = false then { f with acted := true } else f), ?_, ?_⟩
          · rw [State.modCore_core_same, State.modSync_core]
            simp only [h1, List.map_append, List.map_singleton]
            rw [if_neg (fun k => hF k.1)]
          · intro f hf'
            obtain ⟨g, hg, rfl⟩ := List.mem_map.mp hf'
            have := h2 g hg
            split <;> exact this
        · exact ⟨gs, by rw [State.modCore_core, if_neg hx, State.modSync_core]; exact h1, h2⟩
      · simp only [if_neg hlt]
        exact ⟨gs, h1, h2⟩
  unfold State.objOp State.tailMoved
  dsimp only
  rw [hfe]
  exact hw _ _ ⟨fs, h, hf⟩

theorem boxReturn_sameBut (s : State) (c n : Nat) : s.sameBut [.cores, .boxes] (s.boxReturn c n) := by
  unfold State.boxReturn
  extract_lets k asked gone u v
  have h1 : s.sameBut [.cores, .boxes] v := State.sameBut_trans (State.sameBut_mono (modCore_sameBut s c _) (by decide)) (State.sameBut_mono (State.modBox_sameBut _ _ _) (by decide))
  split
  · exact h1
  · exact State.sameBut_trans h1 (State.sameBut_mono (State.modBox_sameBut _ _ _) (by decide))

theorem modFlight_objVal (s : State) (i x : Nat) (f : Flight → Flight) (p o : Nat) : (s.modFlight i x f).objVal p o = s.objVal p o := rfl
theorem modFlight_sync (s : State) (i x : Nat) (f : Flight → Flight) (p : Nat) : (s.modFlight i x f).sync p = s.sync p := rfl
theorem modFlight_box (s : State) (i x : Nat) (f : Flight → Flight) (p : Nat) : (s.modFlight i x f).box p = s.box p := rfl

theorem core_not_event (i : Nat) {r : Nat} (h : (decide (r < 0x300) && r != rHDR_EVT_STAT && r != rHDR_ERR_LOG_HEAD && r != rHDR_ERR_COUNT) = true) : isEventReg (aCore i) (aCore i + r) = false := by
  simp only [Bool.and_eq_true, bne_iff_ne, decide_eq_true_eq] at h
  obtain ⟨⟨⟨h1, h2⟩, h3⟩, h4⟩ := h
  unfold isEventReg
  rw [Bool.or_eq_false_iff, Bool.or_eq_false_iff]
  have e : 0x1000000 ≤ aCore i := by unfold aCore aClu aPart; omega
  refine ⟨⟨?_, ?_⟩, ?_⟩
  · rw [← Bool.not_eq_true, List.contains_iff_mem]
    simp only [List.mem_cons, List.not_mem_nil, or_false, Nat.add_left_cancel_iff, aPrompt, rHDR_EVT_STAT, rHDR_ERR_LOG_HEAD, rHDR_ERR_COUNT, rPROMPT_LOG_WR, rPROMPT_LOG_DROP, aDev] at *
    omega
  · simp [aDev]; omega
  · rw [List.any_eq_false]
    intro n hn
    simp [rOIOLINK_LNK_EVT]
    omega
theorem modFlight_reg (s : State) (i x : Nat) (f : Flight → Flight) (a : Nat) : (s.modFlight i x f).reg a = s.reg a := rfl

theorem boxInsert_mem (e : BoxEnt) (q : List BoxEnt) (x : BoxEnt) : x ∈ boxInsert e q ↔ x = e ∨ x ∈ q := by
  induction q with
  | nil => simp [boxInsert]
  | cons y r ih =>
    unfold boxInsert
    split
    · simp
    · simp [ih]; tauto

end Sys2Proof.Machine
end

