-- ==== Sys2Proof/Laws/KeepsCommands.lean ====
section
/-! SUPPORT. `Keeps` for the meaning of every command: what a next state keeps of the state before, and which parts of it may
differ. -/

namespace Sys2Proof.Machine

open Sys2Proof

theorem execEccWriteback_keeps (addr : Nat) (s t : State) (h : execEccWriteback addr s = .next t) : Keeps 32 s t := by
  have hk := Keeps.refl (F := 32) s
  unfold execEccWriteback at h
  split at h
  · cases h
  · cases h
    exact keeps_ite (fun _ => State.setHealth_keeps _ _ _ rfl hk) (fun _ => hk)

theorem execScrubLine_keeps (clu : Nat) (upsets : List (Nat × Upset)) (s : State) (u : State) (h : execScrubLine clu upsets s = .next u) : Keeps 8388990 s u := by
  have hk := Keeps.refl (F := 8388990) s
  unfold execScrubLine at h
  cases h
  repeat' (first | with_reducible (first
    | assumption
    | refine State.scrub_keeps _ _ _ rfl ?_))

theorem execRepairDone_keeps (clu : Nat) (s : State) (u : State) (h : execRepairDone clu s = .next u) : Keeps 8388940 s u := by
  have hk := Keeps.refl (F := 8388940) s
  unfold execRepairDone at h
  cases h
  repeat' (first | with_reducible (first
    | assumption
    | refine State.repairDone_keeps _ _ rfl ?_))

theorem execTicketGrant_keeps (p : Nat) (s : State) (u : State) (h : execTicketGrant p s = .next u) : Keeps 18350088 s u := by
  have hk := Keeps.refl (F := 18350088) s
  unfold execTicketGrant at h
  cases h
  repeat' (first | with_reducible (first
    | assumption
    | refine State.grantHead_keeps _ _ rfl ?_))

theorem execBudgetCommit_keeps (p : Nat) (s : State) (u : State) (h : execBudgetCommit p s = .next u) : Keeps 1573196 s u := by
  have hk := Keeps.refl (F := 1573196) s
  unfold execBudgetCommit at h
  cases h
  repeat' (first | with_reducible (first
    | assumption
    | refine State.onPage_keeps _ _ _ _ (fun _ hk => ?_) rfl ?_
    | refine State.commit_keeps _ _ rfl ?_))

theorem execRateHoldEnd_keeps (s : State) (u : State) (h : execRateHoldEnd s = .next u) : Keeps 1638732 s u := by
  have hk := Keeps.refl (F := 1638732) s
  unfold execRateHoldEnd at h
  cases h
  repeat' (first | with_reducible (first
    | assumption
    | refine State.rateEnd_keeps _ rfl ?_))

theorem execBoxAudit_keeps (p : Nat) (s : State) (u : State) (h : execBoxAudit p s = .next u) : Keeps 524620 s u := by
  have hk := Keeps.refl (F := 524620) s
  unfold execBoxAudit at h
  cases h
  repeat' (first | with_reducible (first
    | assumption
    | refine State.audit_keeps _ _ rfl ?_))

theorem execWithdrawNotice_keeps (core : Nat) (s : State) (u : State) (h : execWithdrawNotice core s = .next u) : Keeps 17301836 s u := by
  have hk := Keeps.refl (F := 17301836) s
  unfold execWithdrawNotice at h
  cases h
  repeat' (first | with_reducible (first
    | assumption
    | refine State.takeNotice_keeps _ _ rfl ?_))

theorem execBoardCapWrite_keeps (_path : Path) (v : W32) (s : State) (u : State) (h : execBoardCapWrite _path v s = .next u) : Keeps 1573196 s u := by
  have hk := Keeps.refl (F := 1573196) s
  unfold execBoardCapWrite at h
  cases h
  repeat' (first | with_reducible (first
    | assumption
    | refine State.onPage_keeps _ _ _ _ (fun _ hk => ?_) rfl ?_
    | refine State.setFld_keeps _ _ _ _ _ rfl ?_
    | refine State.applyBoardCap_keeps _ rfl ?_
    | refine keeps_ite (fun _ => ?_) (fun _ => ?_)))

theorem execStart_keeps (core : Nat) (s : State) (u : State) (h : execStart core s = .next u) : Keeps 25166206 s u := by
  have hk := Keeps.refl (F := 25166206) s
  unfold execStart at h
  cases h
  repeat' (first | with_reducible (first
    | assumption
    | refine State.onPage_keeps _ _ _ _ (fun _ hk => ?_) rfl ?_
    | refine State.start_keeps _ _ rfl ?_))

theorem execStop_keeps (core : Nat) (s : State) (u : State) (h : execStop core s = .next u) : Keeps 13451657598 s u := by
  have hk := Keeps.refl (F := 13451657598) s
  unfold execStop at h
  cases h
  repeat' (first | with_reducible (first
    | assumption
    | refine State.onPage_keeps _ _ _ _ (fun _ hk => ?_) rfl ?_
    | refine State.stop_keeps _ _ rfl ?_))

theorem execReturnAll_keeps (core : Nat) (s : State) (u : State) (h : execReturnAll core s = .next u) : Keeps 17301504 s u := by
  have hk := Keeps.refl (F := 17301504) s
  unfold execReturnAll at h
  cases h
  repeat' (first | with_reducible (first
    | assumption
    | refine State.onPage_keeps _ _ _ _ (fun _ hk => ?_) rfl ?_
    | refine State.returnAll_keeps _ _ rfl ?_))

theorem execQheadWrite_keeps (core : Nat) (v : W32) (s : State) (u : State) (h : execQheadWrite core v s = .next u) : Keeps 16777224 s u := by
  have hk := Keeps.refl (F := 16777224) s
  unfold execQheadWrite at h
  cases h
  repeat' (first | with_reducible (first
    | assumption
    | refine State.onPage_keeps _ _ _ _ (fun _ hk => ?_) rfl ?_
    | refine State.writeQhead_keeps _ _ _ rfl ?_))

theorem execQtailWrite_keeps (core : Nat) (v : W32) (s : State) (u : State) (h : execQtailWrite core v s = .next u) : Keeps 25166206 s u := by
  have hk := Keeps.refl (F := 25166206) s
  unfold execQtailWrite at h
  cases h
  repeat' (first | with_reducible (first
    | assumption
    | refine State.onPage_keeps _ _ _ _ (fun _ hk => ?_) rfl ?_
    | refine State.writeQtail_keeps _ _ _ rfl ?_))

theorem execMatmul_keeps (core : Nat) (s : State) (u : State) (h : execMatmul core s = .next u) : Keeps 13451657598 s u := by
  have hk := Keeps.refl (F := 13451657598) s
  unfold execMatmul at h
  cases h
  repeat' (first | with_reducible (first
    | assumption
    | refine State.matmul_keeps _ _ rfl ?_))

theorem execVecop_keeps (core : Nat) (s : State) (u : State) (h : execVecop core s = .next u) : Keeps 13451657598 s u := by
  have hk := Keeps.refl (F := 13451657598) s
  unfold execVecop at h
  cases h
  repeat' (first | with_reducible (first
    | assumption
    | refine State.vecop_keeps _ _ rfl ?_))

theorem execSoftmaxStream_keeps (core : Nat) (s : State) (u : State) (h : execSoftmaxStream core s = .next u) : Keeps 13451657598 s u := by
  have hk := Keeps.refl (F := 13451657598) s
  unfold execSoftmaxStream at h
  cases h
  repeat' (first | with_reducible (first
    | assumption
    | refine State.softmax_keeps _ _ rfl ?_))

theorem execConvert_keeps (core : Nat) (s : State) (u : State) (h : execConvert core s = .next u) : Keeps 13451657598 s u := by
  have hk := Keeps.refl (F := 13451657598) s
  unfold execConvert at h
  cases h
  repeat' (first | with_reducible (first
    | assumption
    | refine State.convert_keeps _ _ rfl ?_))

theorem execXaSpill_keeps (core : Nat) (s : State) (u : State) (h : execXaSpill core s = .next u) : Keeps 13451657598 s u := by
  have hk := Keeps.refl (F := 13451657598) s
  unfold execXaSpill at h
  cases h
  repeat' (first | with_reducible (first
    | assumption
    | refine State.xaSpill_keeps _ _ rfl ?_))

theorem execXaFill_keeps (core : Nat) (s : State) (u : State) (h : execXaFill core s = .next u) : Keeps 13451657598 s u := by
  have hk := Keeps.refl (F := 13451657598) s
  unfold execXaFill at h
  cases h
  repeat' (first | with_reducible (first
    | assumption
    | refine State.xaFill_keeps _ _ rfl ?_))

theorem execLoad_keeps (core : Nat) (s : State) (u : State) (h : execLoad core s = .next u) : Keeps 13453754750 s u := by
  have hk := Keeps.refl (F := 13453754750) s
  unfold execLoad at h
  cases h
  repeat' (first | with_reducible (first
    | assumption
    | refine State.load_keeps _ _ rfl ?_))

theorem execStore_keeps (core : Nat) (s : State) (u : State) (h : execStore core s = .next u) : Keeps 13453754750 s u := by
  have hk := Keeps.refl (F := 13453754750) s
  unfold execStore at h
  cases h
  repeat' (first | with_reducible (first
    | assumption
    | refine State.store_keeps _ _ rfl ?_))

theorem execSignal_keeps (core : Nat) (s : State) (u : State) (h : execSignal core s = .next u) : Keeps 13451657598 s u := by
  have hk := Keeps.refl (F := 13451657598) s
  unfold execSignal at h
  cases h
  repeat' (first | with_reducible (first
    | assumption
    | refine State.signal_keeps _ _ rfl ?_))

theorem execWait_keeps (core : Nat) (s : State) (u : State) (h : execWait core s = .next u) : Keeps 13451657598 s u := by
  have hk := Keeps.refl (F := 13451657598) s
  unfold execWait at h
  cases h
  repeat' (first | with_reducible (first
    | assumption
    | refine State.wait_keeps _ _ rfl ?_))

theorem execTicket_keeps (core : Nat) (s : State) (u : State) (h : execTicket core s = .next u) : Keeps 13451657598 s u := by
  have hk := Keeps.refl (F := 13451657598) s
  unfold execTicket at h
  cases h
  repeat' (first | with_reducible (first
    | assumption
    | refine State.ticket_keeps _ _ rfl ?_))

theorem execRet_keeps (core : Nat) (s : State) (u : State) (h : execRet core s = .next u) : Keeps 13451657598 s u := by
  have hk := Keeps.refl (F := 13451657598) s
  unfold execRet at h
  cases h
  repeat' (first | with_reducible (first
    | assumption
    | refine State.return__keeps _ _ rfl ?_))

theorem execCueWait_keeps (core : Nat) (s : State) (u : State) (h : execCueWait core s = .next u) : Keeps 13451657598 s u := by
  have hk := Keeps.refl (F := 13451657598) s
  unfold execCueWait at h
  cases h
  repeat' (first | with_reducible (first
    | assumption
    | refine State.cueWait_keeps _ _ rfl ?_))

theorem execCueWaitTarget_keeps (core : Nat) (s : State) (u : State) (h : execCueWaitTarget core s = .next u) : Keeps 13451657598 s u := by
  have hk := Keeps.refl (F := 13451657598) s
  unfold execCueWaitTarget at h
  cases h
  repeat' (first | with_reducible (first
    | assumption
    | refine State.cueWaitTarget_keeps _ _ rfl ?_))

theorem execFence_keeps (core : Nat) (s : State) (u : State) (h : execFence core s = .next u) : Keeps 13451657598 s u := by
  have hk := Keeps.refl (F := 13451657598) s
  unfold execFence at h
  cases h
  repeat' (first | with_reducible (first
    | assumption
    | refine State.fence_keeps _ _ rfl ?_))

theorem execEndRec_keeps (core : Nat) (s : State) (u : State) (h : execEndRec core s = .next u) : Keeps 13451657598 s u := by
  have hk := Keeps.refl (F := 13451657598) s
  unfold execEndRec at h
  cases h
  repeat' (first | with_reducible (first
    | assumption
    | refine State.end__keeps _ _ rfl ?_))

theorem execRecordComplete_keeps (core : Nat) (slot : Nat) (s : State) (u : State) (h : execRecordComplete core slot s = .next u) : Keeps 13451657598 s u := by
  have hk := Keeps.refl (F := 13451657598) s
  unfold execRecordComplete at h
  cases h
  repeat' (first | with_reducible (first
    | assumption
    | refine State.recordComplete_keeps _ _ _ rfl ?_))

theorem execCoreHalt_keeps (core : Nat) (s : State) (u : State) (h : execCoreHalt core s = .next u) : Keeps 16777548 s u := by
  have hk := Keeps.refl (F := 16777548) s
  unfold execCoreHalt at h
  cases h
  repeat' (first | with_reducible (first
    | assumption
    | refine State.coreHalt_keeps _ _ rfl ?_))

theorem execTicketTimeout_keeps (core : Nat) (s : State) (u : State) (h : execTicketTimeout core s = .next u) : Keeps 13451657598 s u := by
  have hk := Keeps.refl (F := 13451657598) s
  unfold execTicketTimeout at h
  cases h
  repeat' (first | with_reducible (first
    | assumption
    | refine State.ticketTimeout_keeps _ _ rfl ?_))

theorem execHostSet_keeps (p : Nat) (obj : Nat) (v : W32) (s : State) (u : State) (h : execHostSet p obj v s = .next u) : Keeps 29360510 s u := by
  have hk := Keeps.refl (F := 29360510) s
  unfold execHostSet at h
  cases h
  repeat' (first | with_reducible (first
    | assumption
    | refine State.onPage_keeps _ _ _ _ (fun _ hk => ?_) rfl ?_
    | refine State.objOp_keeps _ _ _ _ _ rfl ?_))

theorem execHostAdd_keeps (p : Nat) (v : W32) (s : State) (u : State) (h : execHostAdd p v s = .next u) : Keeps 29360510 s u := by
  have hk := Keeps.refl (F := 29360510) s
  unfold execHostAdd at h
  cases h
  repeat' (first | with_reducible (first
    | assumption
    | refine State.onPage_keeps _ _ _ _ (fun _ hk => ?_) rfl ?_
    | refine State.objOp_keeps _ _ _ _ _ rfl ?_))

theorem execSignalMessage_keeps (p : Nat) (m : Msg) (s : State) (u : State) (h : execSignalMessage p m s = .next u) : Keeps 13451133310 s u := by
  have hk := Keeps.refl (F := 13451133310) s
  unfold execSignalMessage at h
  cases h
  repeat' (first | with_reducible (first
    | assumption
    | refine State.signalMessage_keeps _ _ _ rfl ?_))

theorem execSyncAck_keeps (p : Nat) (m : Msg) (s : State) (u : State) (h : execSyncAck p m s = .next u) : Keeps 13451657598 s u := by
  have hk := Keeps.refl (F := 13451657598) s
  unfold execSyncAck at h
  cases h
  repeat' (first | with_reducible (first
    | assumption
    | refine State.syncAck_keeps _ _ _ rfl ?_))

theorem execSyncAckTimer_keeps (p : Nat) (peer : Nat) (s : State) (u : State) (h : execSyncAckTimer p peer s = .next u) : Keeps 13425967436 s u := by
  have hk := Keeps.refl (F := 13425967436) s
  unfold execSyncAckTimer at h
  cases h
  repeat' (first | with_reducible (first
    | assumption
    | refine State.ackTimer_keeps _ _ _ rfl ?_))

theorem execSigAckTimeout_keeps (p : Nat) (peer : Nat) (s : State) (u : State) (h : execSigAckTimeout p peer s = .next u) : Keeps 13453754750 s u := by
  have hk := Keeps.refl (F := 13453754750) s
  unfold execSigAckTimeout at h
  cases h
  repeat' (first | with_reducible (first
    | assumption
    | refine State.declareLost_keeps _ _ _ rfl ?_))

theorem execSeqQuery_keeps (p : Nat) (m : Msg) (s : State) (u : State) (h : execSeqQuery p m s = .next u) : Keeps 13421773132 s u := by
  have hk := Keeps.refl (F := 13421773132) s
  unfold execSeqQuery at h
  cases h
  repeat' (first | with_reducible (first
    | assumption
    | refine State.seqQuery_keeps _ _ _ rfl ?_))

theorem execSeqQueryRetry_keeps (p : Nat) (peer : Nat) (s : State) (u : State) (h : execSeqQueryRetry p peer s = .next u) : Keeps 13421773132 s u := by
  have hk := Keeps.refl (F := 13421773132) s
  unfold execSeqQueryRetry at h
  cases h
  repeat' (first | with_reducible (first
    | assumption
    | refine State.sendQuery_keeps _ _ _ rfl ?_))

theorem execSeqReply_keeps (p : Nat) (m : Msg) (s : State) (u : State) (h : execSeqReply p m s = .next u) : Keeps 4836032844 s u := by
  have hk := Keeps.refl (F := 4836032844) s
  unfold execSeqReply at h
  cases h
  repeat' (first | with_reducible (first
    | assumption
    | refine State.seqReply_keeps _ _ _ rfl ?_))

theorem execSeqSkip_keeps (p : Nat) (m : Msg) (s : State) (u : State) (h : execSeqSkip p m s = .next u) : Keeps 4836032516 s u := by
  have hk := Keeps.refl (F := 4836032516) s
  unfold execSeqSkip at h
  cases h
  repeat' (first | with_reducible (first
    | assumption
    | refine State.seqSkip_keeps _ _ _ rfl ?_))

theorem execRefused_keeps (p : Nat) (m : Msg) (s : State) (u : State) (h : execRefused p m s = .next u) : Keeps 13453754750 s u := by
  have hk := Keeps.refl (F := 13453754750) s
  unfold execRefused at h
  cases h
  repeat' (first | with_reducible (first
    | assumption
    | refine State.refused_keeps _ _ _ rfl ?_))

theorem execDropped_keeps (p : Nat) (m : Msg) (s : State) (u : State) (h : execDropped p m s = .next u) : Keeps 13453754750 s u := by
  have hk := Keeps.refl (F := 13453754750) s
  unfold execDropped at h
  cases h
  repeat' (first | with_reducible (first
    | assumption
    | refine State.dropped_keeps _ _ _ rfl ?_))

theorem execResend_keeps (p : Nat) (s : State) (u : State) (h : execResend p s = .next u) : Keeps 13425967436 s u := by
  have hk := Keeps.refl (F := 13425967436) s
  unfold execResend at h
  cases h
  repeat' (first | with_reducible (first
    | assumption
    | refine State.onPage_keeps _ _ _ _ (fun _ hk => ?_) rfl ?_
    | refine State.resend_keeps _ _ rfl ?_))

theorem execDiscard_keeps (p : Nat) (s : State) (u : State) (h : execDiscard p s = .next u) : Keeps 13425967436 s u := by
  have hk := Keeps.refl (F := 13425967436) s
  unfold execDiscard at h
  cases h
  repeat' (first | with_reducible (first
    | assumption
    | refine State.onPage_keeps _ _ _ _ (fun _ hk => ?_) rfl ?_
    | refine State.discard_keeps _ _ rfl ?_))

theorem execBhCensus_keeps (p : Nat) (s : State) (u : State) (h : execBhCensus p s = .next u) : Keeps 13425967436 s u := by
  have hk := Keeps.refl (F := 13425967436) s
  unfold execBhCensus at h
  cases h
  repeat' (first | with_reducible (first
    | assumption
    | refine State.periodicCensus_keeps _ _ rfl ?_))

theorem execBhQuery_keeps (p : Nat) (m : Msg) (s : State) (u : State) (h : execBhQuery p m s = .next u) : Keeps 13421773132 s u := by
  have hk := Keeps.refl (F := 13421773132) s
  unfold execBhQuery at h
  cases h
  repeat' (first | with_reducible (first
    | assumption
    | refine State.bhQuery_keeps _ _ _ rfl ?_))

theorem execBhReply_keeps (p : Nat) (m : Msg) (s : State) (u : State) (h : execBhReply p m s = .next u) : Keeps 13425967436 s u := by
  have hk := Keeps.refl (F := 13425967436) s
  unfold execBhReply at h
  cases h
  repeat' (first | with_reducible (first
    | assumption
    | refine State.bhReply_keeps _ _ _ rfl ?_))

theorem execBhQueryTimeout_keeps (p : Nat) (peer : Nat) (s : State) (u : State) (h : execBhQueryTimeout p peer s = .next u) : Keeps 4194312 s u := by
  have hk := Keeps.refl (F := 4194312) s
  unfold execBhQueryTimeout at h
  cases h
  repeat' (first | with_reducible (first
    | assumption
    | refine State.bhTimeout_keeps _ _ _ rfl ?_))

theorem execBhReport_keeps (p : Nat) (s : State) (u : State) (h : execBhReport p s = .next u) : Keeps 13425967436 s u := by
  have hk := Keeps.refl (F := 13425967436) s
  unfold execBhReport at h
  cases h
  repeat' (first | with_reducible (first
    | assumption
    | refine State.bhReport_keeps _ _ rfl ?_))

theorem execReqTailWrite_keeps (p : Nat) (v : W32) (s : State) (u : State) (h : execReqTailWrite p v s = .next u) : Keeps 31457662 s u := by
  have hk := Keeps.refl (F := 31457662) s
  unfold execReqTailWrite at h
  cases h
  repeat' (first | with_reducible (first
    | assumption
    | refine State.onPage_keeps _ _ _ _ (fun _ hk => ?_) rfl ?_
    | refine State.writeReqTail_keeps _ _ _ rfl ?_))

theorem execCreate_keeps (p : Nat) (s : State) (u : State) (h : execCreate p s = .next u) : Keeps 31457662 s u := by
  have hk := Keeps.refl (F := 31457662) s
  unfold execCreate at h
  cases h
  repeat' (first | with_reducible (first
    | assumption
    | refine State.create_keeps _ _ rfl ?_))

theorem execDestroy_keeps (p : Nat) (s : State) (u : State) (h : execDestroy p s = .next u) : Keeps 31457662 s u := by
  have hk := Keeps.refl (F := 31457662) s
  unfold execDestroy at h
  cases h
  repeat' (first | with_reducible (first
    | assumption
    | refine State.destroy_keeps _ _ rfl ?_))

theorem execPin_keeps (p : Nat) (s : State) (u : State) (h : execPin p s = .next u) : Keeps 31457662 s u := by
  have hk := Keeps.refl (F := 31457662) s
  unfold execPin at h
  cases h
  repeat' (first | with_reducible (first
    | assumption
    | refine State.pin_keeps _ _ rfl ?_))

theorem execUnpin_keeps (p : Nat) (s : State) (u : State) (h : execUnpin p s = .next u) : Keeps 31457662 s u := by
  have hk := Keeps.refl (F := 31457662) s
  unfold execUnpin at h
  cases h
  repeat' (first | with_reducible (first
    | assumption
    | refine State.unpin_keeps _ _ rfl ?_))

theorem execMap_keeps (p : Nat) (s : State) (u : State) (h : execMap p s = .next u) : Keeps 31457662 s u := by
  have hk := Keeps.refl (F := 31457662) s
  unfold execMap at h
  cases h
  repeat' (first | with_reducible (first
    | assumption
    | refine State.mapReq_keeps _ _ _ rfl ?_))

theorem execUnmap_keeps (p : Nat) (s : State) (u : State) (h : execUnmap p s = .next u) : Keeps 31457662 s u := by
  have hk := Keeps.refl (F := 31457662) s
  unfold execUnmap at h
  cases h
  repeat' (first | with_reducible (first
    | assumption
    | refine State.mapReq_keeps _ _ _ rfl ?_))

theorem execPlacePoint_keeps (p : Nat) (s : State) (u : State) (h : execPlacePoint p s = .next u) : Keeps 31457662 s u := by
  have hk := Keeps.refl (F := 31457662) s
  unfold execPlacePoint at h
  cases h
  repeat' (first | with_reducible (first
    | assumption
    | refine State.placePoint_keeps _ _ rfl ?_))

theorem execRehearseBegin_keeps (p : Nat) (s : State) (u : State) (h : execRehearseBegin p s = .next u) : Keeps 31457662 s u := by
  have hk := Keeps.refl (F := 31457662) s
  unfold execRehearseBegin at h
  cases h
  repeat' (first | with_reducible (first
    | assumption
    | refine State.rehearseBegin_keeps _ _ rfl ?_))

theorem execRehearseEnd_keeps (p : Nat) (s : State) (u : State) (h : execRehearseEnd p s = .next u) : Keeps 31457662 s u := by
  have hk := Keeps.refl (F := 31457662) s
  unfold execRehearseEnd at h
  cases h
  repeat' (first | with_reducible (first
    | assumption
    | refine State.rehearseEnd_keeps _ _ rfl ?_))

theorem execSceneDefine_keeps (p : Nat) (s : State) (u : State) (h : execSceneDefine p s = .next u) : Keeps 31457662 s u := by
  have hk := Keeps.refl (F := 31457662) s
  unfold execSceneDefine at h
  cases h
  repeat' (first | with_reducible (first
    | assumption
    | refine State.sceneDefine_keeps _ _ rfl ?_))

theorem execSceneSwap_keeps (p : Nat) (s : State) (u : State) (h : execSceneSwap p s = .next u) : Keeps 13453230462 s u := by
  have hk := Keeps.refl (F := 13453230462) s
  unfold execSceneSwap at h
  cases h
  repeat' (first | with_reducible (first
    | assumption
    | refine State.sceneSwap_keeps _ _ rfl ?_))

theorem execSceneSwapComplete_keeps (p : Nat) (s : State) (u : State) (h : execSceneSwapComplete p s = .next u) : Keeps 31457662 s u := by
  have hk := Keeps.refl (F := 31457662) s
  unfold execSceneSwapComplete at h
  cases h
  repeat' (first | with_reducible (first
    | assumption
    | refine State.swapComplete_keeps _ _ rfl ?_))

theorem execHostBar2Read_keeps (addr : Nat) (len : Nat) (s : State) (u : State) (h : execHostBar2Read addr len s = .next u) : Keeps 10486142 s u := by
  have hk := Keeps.refl (F := 10486142) s
  unfold execHostBar2Read at h
  cases h
  repeat' (first | with_reducible (first
    | assumption
    | refine State.bar2Read_keeps _ _ _ rfl ?_))

theorem execHostBar2Write_keeps (addr : Nat) (data : List Byte) (s : State) (u : State) (h : execHostBar2Write addr data s = .next u) : Keeps 10486142 s u := by
  have hk := Keeps.refl (F := 10486142) s
  unfold execHostBar2Write at h
  cases h
  repeat' (first | with_reducible (first
    | assumption
    | refine State.bar2Write_keeps _ _ _ rfl ?_))

theorem execEpoch_keeps (p : Nat) (s : State) (u : State) (h : execEpoch p s = .next u) : Keeps 2097152 s u := by
  have hk := Keeps.refl (F := 2097152) s
  unfold execEpoch at h
  cases h
  repeat' (first | with_reducible (first
    | assumption
    | refine State.epoch_keeps _ _ rfl ?_))

theorem execMigrate_keeps (p : Nat) (handle : Nat) (shard : Nat) (s : State) (u : State) (h : execMigrate p handle shard s = .next u) : Keeps 31457662 s u := by
  have hk := Keeps.refl (F := 31457662) s
  unfold execMigrate at h
  cases h
  repeat' (first | with_reducible (first
    | assumption
    | refine State.migrate_keeps _ _ _ _ rfl ?_))

theorem execMpRead_keeps (p : Nat) (m : Msg) (s : State) (u : State) (h : execMpRead p m s = .next u) : Keeps 13430161790 s u := by
  have hk := Keeps.refl (F := 13430161790) s
  unfold execMpRead at h
  cases h
  repeat' (first | with_reducible (first
    | assumption
    | refine State.mpRead_keeps _ _ _ rfl ?_))

theorem execMpWrite_keeps (p : Nat) (m : Msg) (s : State) (u : State) (h : execMpWrite p m s = .next u) : Keeps 13430161790 s u := by
  have hk := Keeps.refl (F := 13430161790) s
  unfold execMpWrite at h
  cases h
  repeat' (first | with_reducible (first
    | assumption
    | refine State.mpWrite_keeps _ _ _ rfl ?_))

theorem execMpReadData_keeps (p : Nat) (m : Msg) (s : State) (u : State) (h : execMpReadData p m s = .next u) : Keeps 13432258942 s u := by
  have hk := Keeps.refl (F := 13432258942) s
  unfold execMpReadData at h
  cases h
  repeat' (first | with_reducible (first
    | assumption
    | refine State.mpReadData_keeps _ _ _ rfl ?_))

theorem execMpWriteAck_keeps (p : Nat) (m : Msg) (s : State) (u : State) (h : execMpWriteAck p m s = .next u) : Keeps 13432258942 s u := by
  have hk := Keeps.refl (F := 13432258942) s
  unfold execMpWriteAck at h
  cases h
  repeat' (first | with_reducible (first
    | assumption
    | refine State.mpWriteAck_keeps _ _ _ rfl ?_))

theorem execMpTimeout_keeps (p : Nat) (tag : Nat) (s : State) (u : State) (h : execMpTimeout p tag s = .next u) : Keeps 13432258942 s u := by
  have hk := Keeps.refl (F := 13432258942) s
  unfold execMpTimeout at h
  cases h
  repeat' (first | with_reducible (first
    | assumption
    | refine State.mpTimeout_keeps _ _ _ rfl ?_))

theorem execExportEnable_keeps (p : Nat) (v : W32) (s : State) (u : State) (h : execExportEnable p v s = .next u) : Keeps 2097208 s u := by
  have hk := Keeps.refl (F := 2097208) s
  unfold execExportEnable at h
  cases h
  repeat' (first | with_reducible (first
    | assumption
    | refine State.onPage_keeps _ _ _ _ (fun _ hk => ?_) rfl ?_
    | refine State.writeExport_keeps _ _ _ rfl ?_))

theorem execRingTailWrite_keeps (ch : Nat) (v : W32) (s : State) (u : State) (h : execRingTailWrite ch v s = .next u) : Keeps 65012094 s u := by
  have hk := Keeps.refl (F := 65012094) s
  unfold execRingTailWrite at h
  cases h
  repeat' (first | with_reducible (first
    | assumption
    | refine State.onPage_keeps _ _ _ _ (fun _ hk => ?_) rfl ?_
    | refine State.writeRingTail_keeps _ _ _ rfl ?_))

theorem execChannelEnable_keeps (ch : Nat) (v : W32) (s : State) (u : State) (h : execChannelEnable ch v s = .next u) : Keeps 33554440 s u := by
  have hk := Keeps.refl (F := 33554440) s
  unfold execChannelEnable at h
  cases h
  repeat' (first | with_reducible (first
    | assumption
    | refine State.onPage_keeps _ _ _ _ (fun _ hk => ?_) rfl ?_
    | refine State.enableChan_keeps _ _ _ rfl ?_))

theorem execChannelDisable_keeps (ch : Nat) (v : W32) (s : State) (u : State) (h : execChannelDisable ch v s = .next u) : Keeps 48234878 s u := by
  have hk := Keeps.refl (F := 48234878) s
  unfold execChannelDisable at h
  cases h
  repeat' (first | with_reducible (first
    | assumption
    | refine State.onPage_keeps _ _ _ _ (fun _ hk => ?_) rfl ?_
    | refine State.disableChan_keeps _ _ _ rfl ?_))

theorem execAbort_keeps (ch : Nat) (s : State) (u : State) (h : execAbort ch s = .next u) : Keeps 48234878 s u := by
  have hk := Keeps.refl (F := 48234878) s
  unfold execAbort at h
  cases h
  repeat' (first | with_reducible (first
    | assumption
    | refine State.onPage_keeps _ _ _ _ (fun _ hk => ?_) rfl ?_
    | refine State.abort_keeps _ _ rfl ?_))

theorem execDmaResume_keeps (ch : Nat) (s : State) (u : State) (h : execDmaResume ch s = .next u) : Keeps 65012094 s u := by
  have hk := Keeps.refl (F := 65012094) s
  unfold execDmaResume at h
  cases h
  repeat' (first | with_reducible (first
    | assumption
    | refine State.onPage_keeps _ _ _ _ (fun _ hk => ?_) rfl ?_
    | refine State.resumeChan_keeps _ _ rfl ?_))

theorem execLinear_keeps (ch : Nat) (s : State) (u : State) (h : execLinear ch s = .next u) : Keeps 13470007678 s u := by
  have hk := Keeps.refl (F := 13470007678) s
  unfold execLinear at h
  cases h
  repeat' (first | with_reducible (first
    | assumption
    | refine State.moveRows_keeps _ _ _ rfl ?_))

theorem execStrided_keeps (ch : Nat) (s : State) (u : State) (h : execStrided ch s = .next u) : Keeps 13470007678 s u := by
  have hk := Keeps.refl (F := 13470007678) s
  unfold execStrided at h
  cases h
  repeat' (first | with_reducible (first
    | assumption
    | refine State.moveRows_keeps _ _ _ rfl ?_))

theorem execFetch_keeps (ch : Nat) (s : State) (u : State) (h : execFetch ch s = .next u) : Keeps 13470007678 s u := by
  have hk := Keeps.refl (F := 13470007678) s
  unfold execFetch at h
  cases h
  repeat' (first | with_reducible (first
    | assumption
    | refine State.fetchMode_keeps _ _ rfl ?_))

theorem execInterleave_keeps (ch : Nat) (s : State) (u : State) (h : execInterleave ch s = .next u) : Keeps 48234878 s u := by
  have hk := Keeps.refl (F := 48234878) s
  unfold execInterleave at h
  cases h
  repeat' (first | with_reducible (first
    | assumption
    | refine State.weave_keeps _ _ _ rfl ?_))

theorem execDeinterleave_keeps (ch : Nat) (s : State) (u : State) (h : execDeinterleave ch s = .next u) : Keeps 48234878 s u := by
  have hk := Keeps.refl (F := 48234878) s
  unfold execDeinterleave at h
  cases h
  repeat' (first | with_reducible (first
    | assumption
    | refine State.weave_keeps _ _ _ rfl ?_))

theorem execNibblePlane_keeps (ch : Nat) (s : State) (u : State) (h : execNibblePlane ch s = .next u) : Keeps 48234878 s u := by
  have hk := Keeps.refl (F := 48234878) s
  unfold execNibblePlane at h
  cases h
  repeat' (first | with_reducible (first
    | assumption
    | refine State.plane_keeps _ _ _ rfl ?_))

theorem execBytePlane_keeps (ch : Nat) (s : State) (u : State) (h : execBytePlane ch s = .next u) : Keeps 48234878 s u := by
  have hk := Keeps.refl (F := 48234878) s
  unfold execBytePlane at h
  cases h
  repeat' (first | with_reducible (first
    | assumption
    | refine State.plane_keeps _ _ _ rfl ?_))

theorem execDescriptorComplete_keeps (ch : Nat) (s : State) (u : State) (h : execDescriptorComplete ch s = .next u) : Keeps 65012094 s u := by
  have hk := Keeps.refl (F := 65012094) s
  unfold execDescriptorComplete at h
  cases h
  repeat' (first | with_reducible (first
    | assumption
    | refine State.descComplete_keeps _ _ rfl ?_))

theorem execChainEvent_keeps (ch : Nat) (s : State) (u : State) (h : execChainEvent ch s = .next u) : Keeps 33554764 s u := by
  have hk := Keeps.refl (F := 33554764) s
  unfold execChainEvent at h
  cases h
  repeat' (first | with_reducible (first
    | assumption
    | refine State.chanEvent_keeps _ _ rfl ?_))

theorem execNativeRead_keeps (p : Nat) (m : Msg) (s : State) (u : State) (h : execNativeRead p m s = .next u) : Keeps 13432258942 s u := by
  have hk := Keeps.refl (F := 13432258942) s
  unfold execNativeRead at h
  cases h
  repeat' (first | with_reducible (first
    | assumption
    | refine State.nativeRead_keeps _ _ _ rfl ?_))

theorem execNativeWrite_keeps (p : Nat) (m : Msg) (s : State) (u : State) (h : execNativeWrite p m s = .next u) : Keeps 13432258942 s u := by
  have hk := Keeps.refl (F := 13432258942) s
  unfold execNativeWrite at h
  cases h
  repeat' (first | with_reducible (first
    | assumption
    | refine State.nativeWrite_keeps _ _ _ rfl ?_))

theorem execReadData_keeps (p : Nat) (m : Msg) (s : State) (u : State) (h : execReadData p m s = .next u) : Keeps 13465813374 s u := by
  have hk := Keeps.refl (F := 13465813374) s
  unfold execReadData at h
  cases h
  repeat' (first | with_reducible (first
    | assumption
    | refine State.readData_keeps _ _ _ rfl ?_))

theorem execWriteAck_keeps (p : Nat) (m : Msg) (s : State) (u : State) (h : execWriteAck p m s = .next u) : Keeps 13455327564 s u := by
  have hk := Keeps.refl (F := 13455327564) s
  unfold execWriteAck at h
  cases h
  repeat' (first | with_reducible (first
    | assumption
    | refine State.writeAck_keeps _ _ _ rfl ?_))

theorem execNativeError_keeps (p : Nat) (m : Msg) (s : State) (u : State) (h : execNativeError p m s = .next u) : Keeps 4865392644 s u := by
  have hk := Keeps.refl (F := 4865392644) s
  unfold execNativeError at h
  cases h
  repeat' (first | with_reducible (first
    | assumption
    | refine State.nativeError_keeps _ _ _ rfl ?_))

theorem execSensorSample_keeps (reads : List SensRead) (s : State) (u : State) (h : execSensorSample reads s = .next u) : Keeps 1638732 s u := by
  have hk := Keeps.refl (F := 1638732) s
  unfold execSensorSample at h
  cases h
  repeat' (first | with_reducible (first
    | assumption
    | refine State.sample_keeps _ _ rfl ?_))

theorem execSensorShortage_keeps (s : State) (u : State) (h : execSensorShortage s = .next u) : Keeps 1638732 s u := by
  have hk := Keeps.refl (F := 1638732) s
  unfold execSensorShortage at h
  cases h
  repeat' (first | with_reducible (first
    | assumption
    | refine State.shortage_keeps _ rfl ?_))

theorem execPhyTrained_keeps (port : Nat) (delayOk : Bool) (s : State) (u : State) (h : execPhyTrained port delayOk s = .next u) : Keeps 805306702 s u := by
  have hk := Keeps.refl (F := 805306702) s
  unfold execPhyTrained at h
  cases h
  repeat' (first | with_reducible (first
    | assumption
    | refine State.phyTrained_keeps _ _ _ rfl ?_))

theorem execCapResend_keeps (l : Nat) (s : State) (u : State) (h : execCapResend l s = .next u) : Keeps 536870916 s u := by
  have hk := Keeps.refl (F := 536870916) s
  unfold execCapResend at h
  cases h
  repeat' (first | with_reducible (first
    | assumption
    | refine State.capResend_keeps _ _ rfl ?_))

theorem execCap_keeps (l : Nat) (flit : List Byte) (s : State) (u : State) (h : execCap l flit s = .next u) : Keeps 13957202302 s u := by
  have hk := Keeps.refl (F := 13957202302) s
  unfold execCap at h
  cases h
  repeat' (first | with_reducible (first
    | assumption
    | refine State.cap_keeps _ _ _ rfl ?_))

theorem execCapAck_keeps (l : Nat) (flit : List Byte) (s : State) (u : State) (h : execCapAck l flit s = .next u) : Keeps 13822984574 s u := by
  have hk := Keeps.refl (F := 13822984574) s
  unfold execCapAck at h
  cases h
  repeat' (first | with_reducible (first
    | assumption
    | refine State.capAck_keeps _ _ _ rfl ?_))

theorem execCapTimeout_keeps (l : Nat) (s : State) (u : State) (h : execCapTimeout l s = .next u) : Keeps 13822853502 s u := by
  have hk := Keeps.refl (F := 13822853502) s
  unfold execCapTimeout at h
  cases h
  repeat' (first | with_reducible (first
    | assumption
    | refine State.capTimeout_keeps _ _ rfl ?_))

theorem execDataFlit_keeps (l : Nat) (flit : List Byte) (s : State) (u : State) (h : execDataFlit l flit s = .next u) : Keeps 13822853502 s u := by
  have hk := Keeps.refl (F := 13822853502) s
  unfold execDataFlit at h
  cases h
  repeat' (first | with_reducible (first
    | assumption
    | refine State.dataFlit_keeps _ _ _ rfl ?_))

theorem execNullFlit_keeps (l : Nat) (flit : List Byte) (s : State) (u : State) (h : execNullFlit l flit s = .next u) : Keeps 13822853502 s u := by
  have hk := Keeps.refl (F := 13822853502) s
  unfold execNullFlit at h
  cases h
  repeat' (first | with_reducible (first
    | assumption
    | refine State.recvFlit_keeps _ _ _ _ (fun _ hk => ?_) rfl ?_))

theorem execAckTimer_keeps (l : Nat) (s : State) (u : State) (h : execAckTimer l s = .next u) : Keeps 536870916 s u := by
  have hk := Keeps.refl (F := 536870916) s
  unfold execAckTimer at h
  cases h
  repeat' (first | with_reducible (first
    | assumption
    | refine State.ackLapse_keeps _ _ rfl ?_))

theorem execReplayTimeout_keeps (l : Nat) (s : State) (u : State) (h : execReplayTimeout l s = .next u) : Keeps 13822853502 s u := by
  have hk := Keeps.refl (F := 13822853502) s
  unfold execReplayTimeout at h
  cases h
  repeat' (first | with_reducible (first
    | assumption
    | refine State.replayLapse_keeps _ _ rfl ?_))

theorem execCreditTimeout_keeps (l : Nat) (tc : Nat) (s : State) (u : State) (h : execCreditTimeout l tc s = .next u) : Keeps 13822853502 s u := by
  have hk := Keeps.refl (F := 13822853502) s
  unfold execCreditTimeout at h
  cases h
  repeat' (first | with_reducible (first
    | assumption
    | refine State.creditTimeout_keeps _ _ _ rfl ?_))

theorem execMessageStart_keeps (l : Nat) (tc : Nat) (s : State) (u : State) (h : execMessageStart l tc s = .next u) : Keeps 536870916 s u := by
  have hk := Keeps.refl (F := 536870916) s
  unfold execMessageStart at h
  cases h
  repeat' (first | with_reducible (first
    | assumption
    | refine State.messageStart_keeps _ _ _ rfl ?_))

theorem execRelayForward_keeps (p : Nat) (idx : Nat) (s : State) (u : State) (h : execRelayForward p idx s = .next u) : Keeps 13487309182 s u := by
  have hk := Keeps.refl (F := 13487309182) s
  unfold execRelayForward at h
  cases h
  repeat' (first | with_reducible (first
    | assumption
    | refine State.relayForward_keeps _ _ _ rfl ?_))

theorem execPause_keeps (port : Nat) (os : List Byte) (s : State) (u : State) (h : execPause port os s = .next u) : Keeps 13957071230 s u := by
  have hk := Keeps.refl (F := 13957071230) s
  unfold execPause at h
  cases h
  repeat' (first | with_reducible (first
    | assumption
    | refine State.pauseOs_keeps _ _ _ rfl ?_))

theorem execResume_keeps (port : Nat) (os : List Byte) (s : State) (u : State) (h : execResume port os s = .next u) : Keeps 13957071230 s u := by
  have hk := Keeps.refl (F := 13957071230) s
  unfold execResume at h
  cases h
  repeat' (first | with_reducible (first
    | assumption
    | refine State.resumeOs_keeps _ _ _ rfl ?_))

theorem execRetrainComplete_keeps (port : Nat) (s : State) (u : State) (h : execRetrainComplete port s = .next u) : Keeps 13957071230 s u := by
  have hk := Keeps.refl (F := 13957071230) s
  unfold execRetrainComplete at h
  cases h
  repeat' (first | with_reducible (first
    | assumption
    | refine State.retrainComplete_keeps _ _ rfl ?_))

theorem execRetrainTimeout_keeps (port : Nat) (s : State) (u : State) (h : execRetrainTimeout port s = .next u) : Keeps 13822853502 s u := by
  have hk := Keeps.refl (F := 13822853502) s
  unfold execRetrainTimeout at h
  cases h
  repeat' (first | with_reducible (first
    | assumption
    | refine State.retrainTimeout_keeps _ _ rfl ?_))

theorem execDown_keeps (port : Nat) (os : List Byte) (s : State) (u : State) (h : execDown port os s = .next u) : Keeps 13822853502 s u := by
  have hk := Keeps.refl (F := 13822853502) s
  unfold execDown at h
  cases h
  repeat' (first | with_reducible (first
    | assumption
    | refine State.downOs_keeps _ _ _ rfl ?_))

theorem execCensusSend_keeps (l : Nat) (s : State) (u : State) (h : execCensusSend l s = .next u) : Keeps 536870916 s u := by
  have hk := Keeps.refl (F := 536870916) s
  unfold execCensusSend at h
  cases h
  repeat' (first | with_reducible (first
    | assumption
    | refine State.censusSend_keeps _ _ rfl ?_))

theorem execCensus_keeps (l : Nat) (flit : List Byte) (s : State) (u : State) (h : execCensus l flit s = .next u) : Keeps 13822853502 s u := by
  have hk := Keeps.refl (F := 13822853502) s
  unfold execCensus at h
  cases h
  repeat' (first | with_reducible (first
    | assumption
    | refine State.census_keeps _ _ _ rfl ?_))

theorem execTimingSend_keeps (port : Nat) (s : State) (u : State) (h : execTimingSend port s = .next u) : Keeps 537001988 s u := by
  have hk := Keeps.refl (F := 537001988) s
  unfold execTimingSend at h
  cases h
  repeat' (first | with_reducible (first
    | assumption
    | refine State.timingDue_keeps _ _ rfl ?_))

theorem execTiming_keeps (port : Nat) (body : List Byte) (t : Nat) (s : State) (u : State) (h : execTiming port body t s = .next u) : Keeps 537002316 s u := by
  have hk := Keeps.refl (F := 537002316) s
  unfold execTiming at h
  cases h
  repeat' (first | with_reducible (first
    | assumption
    | refine State.timingIn_keeps _ _ _ _ rfl ?_))

theorem execGtsTick_keeps (s : State) (u : State) (h : execGtsTick s = .next u) : Keeps 131405 s u := by
  have hk := Keeps.refl (F := 131405) s
  unfold execGtsTick at h
  cases h
  repeat' (first | with_reducible (first
    | assumption
    | refine State.runToTick_keeps _ rfl ?_))

theorem execGtsSet_keeps (s : State) (u : State) (h : execGtsSet s = .next u) : Keeps 131072 s u := by
  have hk := Keeps.refl (F := 131072) s
  unfold execGtsSet at h
  cases h
  repeat' (first | with_reducible (first
    | assumption
    | refine State.onPage_keeps _ _ _ _ (fun _ hk => ?_) rfl ?_
    | refine State.captureSet_keeps _ rfl ?_))

theorem execRateAdjWrite_keeps (v : W32) (s : State) (u : State) (h : execRateAdjWrite v s = .next u) : Keeps 131072 s u := by
  have hk := Keeps.refl (F := 131072) s
  unfold execRateAdjWrite at h
  cases h
  repeat' (first | with_reducible (first
    | assumption
    | refine State.onPage_keeps _ _ _ _ (fun _ hk => ?_) rfl ?_
    | refine State.writeRate_keeps _ _ rfl ?_))

theorem execTsuCfgWrite_keeps (v : W32) (s : State) (u : State) (h : execTsuCfgWrite v s = .next u) : Keeps 131404 s u := by
  have hk := Keeps.refl (F := 131404) s
  unfold execTsuCfgWrite at h
  cases h
  repeat' (first | with_reducible (first
    | assumption
    | refine State.onPage_keeps _ _ _ _ (fun _ hk => ?_) rfl ?_
    | refine State.writeTsuCfg_keeps _ _ rfl ?_))

theorem execTsuHoldover_keeps (s : State) (u : State) (h : execTsuHoldover s = .next u) : Keeps 131404 s u := by
  have hk := Keeps.refl (F := 131404) s
  unfold execTsuHoldover at h
  cases h
  repeat' (first | with_reducible (first
    | assumption
    | refine State.enterHoldover_keeps _ rfl ?_
    | refine keeps_ite (fun _ => ?_) (fun _ => ?_)))

theorem execAltTakeover_keeps (s : State) (u : State) (h : execAltTakeover s = .next u) : Keeps 131404 s u := by
  have hk := Keeps.refl (F := 131404) s
  unfold execAltTakeover at h
  cases h
  repeat' (first | with_reducible (first
    | assumption
    | refine State.enterAcquire_keeps _ rfl ?_
    | refine State.modTsu_keeps _ _ rfl ?_
    | refine keeps_ite (fun _ => ?_) (fun _ => ?_)))

theorem execFastFrame_keeps (k : Nat) (frame : List Byte) (mismatch : Bool) (s : State) (u : State) (h : execFastFrame k frame mismatch s = .next u) : Keeps 13957071230 s u := by
  have hk := Keeps.refl (F := 13957071230) s
  unfold execFastFrame at h
  cases h
  repeat' (first | with_reducible (first
    | assumption
    | refine State.takeFrame_keeps _ _ _ _ rfl ?_))

theorem execSwitchOver_keeps (k : Nat) (s : State) (u : State) (h : execSwitchOver k s = .next u) : Keeps 1006633294 s u := by
  have hk := Keeps.refl (F := 1006633294) s
  unfold execSwitchOver at h
  cases h
  repeat' (first | with_reducible (first
    | assumption
    | refine State.switchOver_keeps _ _ rfl ?_))

theorem execForceSwitch_keeps (k : Nat) (s : State) (u : State) (h : execForceSwitch k s = .next u) : Keeps 67108864 s u := by
  have hk := Keeps.refl (F := 67108864) s
  unfold execForceSwitch at h
  cases h
  repeat' (first | with_reducible (first
    | assumption
    | refine State.onPage_keeps _ _ _ _ (fun _ hk => ?_) rfl ?_
    | refine State.modSite_keeps _ _ _ rfl ?_
    | refine keeps_ite (fun _ => ?_) (fun _ => ?_)))

theorem execClearFailed_keeps (k : Nat) (s : State) (u : State) (h : execClearFailed k s = .next u) : Keeps 67108864 s u := by
  have hk := Keeps.refl (F := 67108864) s
  unfold execClearFailed at h
  cases h
  repeat' (first | with_reducible (first
    | assumption
    | refine State.onPage_keeps _ _ _ _ (fun _ hk => ?_) rfl ?_
    | refine State.clearFailed_keeps _ _ rfl ?_))

theorem execRamPass_keeps (k : Nat) (ctl : Nat) (ok : Bool) (s : State) (u : State) (h : execRamPass k ctl ok s = .next u) : Keeps 13957071230 s u := by
  have hk := Keeps.refl (F := 13957071230) s
  unfold execRamPass at h
  cases h
  repeat' (first | with_reducible (first
    | assumption
    | refine State.ramPass_keeps _ _ _ _ rfl ?_))

theorem execRevert_keeps (k : Nat) (s : State) (u : State) (h : execRevert k s = .next u) : Keeps 67109196 s u := by
  have hk := Keeps.refl (F := 67109196) s
  unfold execRevert at h
  cases h
  repeat' (first | with_reducible (first
    | assumption
    | refine State.revert_keeps _ _ rfl ?_))

theorem execUnderstudyAck_keeps (k : Nat) (ack : Bool) (kind1 : Bool) (s : State) (u : State) (h : execUnderstudyAck k ack kind1 s = .next u) : Keeps 13957071230 s u := by
  have hk := Keeps.refl (F := 13957071230) s
  unfold execUnderstudyAck at h
  cases h
  repeat' (first | with_reducible (first
    | assumption
    | refine State.reverseFrame_keeps _ _ _ _ rfl ?_))

theorem execControlCycle_keeps (k : Nat) (reads : List RingRead) (s : State) (u : State) (h : execControlCycle k reads s = .next u) : Keeps 13957071230 s u := by
  have hk := Keeps.refl (F := 13957071230) s
  unfold execControlCycle at h
  cases h
  repeat' (first | with_reducible (first
    | assumption
    | refine State.controlCycle_keeps _ _ _ rfl ?_))

theorem execLaserLost_keeps (k : Nat) (b : Bool) (s : State) (u : State) (h : execLaserLost k b s = .next u) : Keeps 67109196 s u := by
  have hk := Keeps.refl (F := 67109196) s
  unfold execLaserLost at h
  cases h
  repeat' (first | with_reducible (first
    | assumption
    | refine State.laserLost_keeps _ _ _ rfl ?_))

theorem execRampDone_keeps (k : Nat) (s : State) (u : State) (h : execRampDone k s = .next u) : Keeps 1006633292 s u := by
  have hk := Keeps.refl (F := 1006633292) s
  unfold execRampDone at h
  cases h
  repeat' (first | with_reducible (first
    | assumption
    | refine State.rampDone_keeps _ _ rfl ?_))

theorem execRampFail_keeps (k : Nat) (s : State) (u : State) (h : execRampFail k s = .next u) : Keeps 67109196 s u := by
  have hk := Keeps.refl (F := 67109196) s
  unfold execRampFail at h
  cases h
  repeat' (first | with_reducible (first
    | assumption
    | refine State.rampFailed_keeps _ _ rfl ?_))

theorem execLaserRestored_keeps (k : Nat) (b : Bool) (s : State) (u : State) (h : execLaserRestored k b s = .next u) : Keeps 67109196 s u := by
  have hk := Keeps.refl (F := 67109196) s
  unfold execLaserRestored at h
  cases h
  repeat' (first | with_reducible (first
    | assumption
    | refine State.laserBack_keeps _ _ _ rfl ?_))

theorem execUncross_keeps (k : Nat) (s : State) (u : State) (h : execUncross k s = .next u) : Keeps 1006632972 s u := by
  have hk := Keeps.refl (F := 1006632972) s
  unfold execUncross at h
  cases h
  repeat' (first | with_reducible (first
    | assumption
    | refine State.onPage_keeps _ _ _ _ (fun _ hk => ?_) rfl ?_
    | refine State.uncross_keeps _ _ rfl ?_))

theorem execRingAcquire_keeps (k : Nat) (ring : Nat) (code : Nat) (s : State) (u : State) (h : execRingAcquire k ring code s = .next u) : Keeps 13957071230 s u := by
  have hk := Keeps.refl (F := 13957071230) s
  unfold execRingAcquire at h
  cases h
  repeat' (first | with_reducible (first
    | assumption
    | refine State.ringLocks_keeps _ _ _ rfl ?_))

theorem execRingReacqTimeout_keeps (k : Nat) (ring : Nat) (s : State) (u : State) (h : execRingReacqTimeout k ring s = .next u) : Keeps 13957071230 s u := by
  have hk := Keeps.refl (F := 13957071230) s
  unfold execRingReacqTimeout at h
  cases h
  repeat' (first | with_reducible (first
    | assumption
    | refine State.ringStuck_keeps _ _ rfl ?_))

theorem execLineWeak_keeps (k : Nat) (ring : Nat) (s : State) (u : State) (h : execLineWeak k ring s = .next u) : Keeps 402653184 s u := by
  have hk := Keeps.refl (F := 402653184) s
  unfold execLineWeak at h
  cases h
  repeat' (first | with_reducible (first
    | assumption
    | refine State.lineWeak_keeps _ _ rfl ?_))

theorem execEyeMeasure_keeps (port : Nat) (margins : List (Nat × Nat)) (s : State) (u : State) (h : execEyeMeasure port margins s = .next u) : Keeps 268435456 s u := by
  have hk := Keeps.refl (F := 268435456) s
  unfold execEyeMeasure at h
  cases h
  repeat' (first | with_reducible (first
    | assumption
    | refine State.measureEye_keeps _ _ _ rfl ?_))

theorem execCdrLockLoss_keeps (port : Nat) (lane : Nat) (s : State) (u : State) (h : execCdrLockLoss port lane s = .next u) : Keeps 268435464 s u := by
  have hk := Keeps.refl (F := 268435464) s
  unfold execCdrLockLoss at h
  cases h
  repeat' (first | with_reducible (first
    | assumption
    | refine State.cdrLoss_keeps _ _ _ rfl ?_))

theorem execPortEnable_keeps (port : Nat) (s : State) (u : State) (h : execPortEnable port s = .next u) : Keeps 939524104 s u := by
  have hk := Keeps.refl (F := 939524104) s
  unfold execPortEnable at h
  cases h
  repeat' (first | with_reducible (first
    | assumption
    | refine State.onPage_keeps _ _ _ _ (fun _ hk => ?_) rfl ?_
    | refine State.enablePort_keeps _ _ rfl ?_))

theorem execPortDisable_keeps (port : Nat) (s : State) (u : State) (h : execPortDisable port s = .next u) : Keeps 13957071230 s u := by
  have hk := Keeps.refl (F := 13957071230) s
  unfold execPortDisable at h
  cases h
  repeat' (first | with_reducible (first
    | assumption
    | refine State.onPage_keeps _ _ _ _ (fun _ hk => ?_) rfl ?_
    | refine State.disablePort_keeps _ _ rfl ?_))

theorem execPortCapWrite_keeps (port : Nat) (v : W32) (s : State) (u : State) (h : execPortCapWrite port v s = .next u) : Keeps 13957071230 s u := by
  have hk := Keeps.refl (F := 13957071230) s
  unfold execPortCapWrite at h
  cases h
  repeat' (first | with_reducible (first
    | assumption
    | refine State.onPage_keeps _ _ _ _ (fun _ hk => ?_) rfl ?_
    | refine State.writeCaps_keeps _ _ _ rfl ?_))

theorem execRequal_keeps (port : Nat) (s : State) (u : State) (h : execRequal port s = .next u) : Keeps 939524108 s u := by
  have hk := Keeps.refl (F := 939524108) s
  unfold execRequal at h
  cases h
  repeat' (first | with_reducible (first
    | assumption
    | refine State.onPage_keeps _ _ _ _ (fun _ hk => ?_) rfl ?_
    | refine State.requal_keeps _ _ rfl ?_))

theorem execLossOfSignal_keeps (port : Nat) (dark : List Nat) (s : State) (u : State) (h : execLossOfSignal port dark s = .next u) : Keeps 805306700 s u := by
  have hk := Keeps.refl (F := 805306700) s
  unfold execLossOfSignal at h
  cases h
  repeat' (first | with_reducible (first
    | assumption
    | refine State.lossOfSignal_keeps _ _ _ rfl ?_))

theorem execLosTimeout_keeps (port : Nat) (s : State) (u : State) (h : execLosTimeout port s = .next u) : Keeps 13822853502 s u := by
  have hk := Keeps.refl (F := 13822853502) s
  unfold execLosTimeout at h
  cases h
  repeat' (first | with_reducible (first
    | assumption
    | refine State.losLapse_keeps _ _ rfl ?_))

theorem execSignalReturn_keeps (port : Nat) (s : State) (u : State) (h : execSignalReturn port s = .next u) : Keeps 268435456 s u := by
  have hk := Keeps.refl (F := 268435456) s
  unfold execSignalReturn at h
  cases h
  repeat' (first | with_reducible (first
    | assumption
    | refine State.signalBack_keeps _ _ rfl ?_))

theorem execAdcConversion_keeps (k : Nat) (raw : Int) (s : State) (u : State) (h : execAdcConversion k raw s = .next u) : Keeps 67109196 s u := by
  have hk := Keeps.refl (F := 67109196) s
  unfold execAdcConversion at h
  cases h
  repeat' (first | with_reducible (first
    | assumption
    | refine State.adcSample_keeps _ _ _ rfl ?_))

theorem execAdcFrame_keeps (k : Nat) (ok : Bool) (s : State) (u : State) (h : execAdcFrame k ok s = .next u) : Keeps 67109196 s u := by
  have hk := Keeps.refl (F := 67109196) s
  unfold execAdcFrame at h
  cases h
  repeat' (first | with_reducible (first
    | assumption
    | refine State.adcBoundary_keeps _ _ _ rfl ?_))

theorem execImReq_keeps (k : Nat) (v : W32) (s : State) (u : State) (h : execImReq k v s = .next u) : Keeps 805306380 s u := by
  have hk := Keeps.refl (F := 805306380) s
  unfold execImReq at h
  cases h
  repeat' (first | with_reducible (first
    | assumption
    | refine State.onPage_keeps _ _ _ _ (fun _ hk => ?_) rfl ?_
    | refine State.imWrite_keeps _ _ _ rfl ?_))

theorem execIntermissionEnd_keeps (port : Nat) (cal : CalRes) (s : State) (u : State) (h : execIntermissionEnd port cal s = .next u) : Keeps 13957071230 s u := by
  have hk := Keeps.refl (F := 13957071230) s
  unfold execIntermissionEnd at h
  cases h
  repeat' (first | with_reducible (first
    | assumption
    | refine State.endIm_keeps _ _ _ rfl ?_))

theorem execForcedIntermission_keeps (port : Nat) (s : State) (u : State) (h : execForcedIntermission port s = .next u) : Keeps 872415564 s u := by
  have hk := Keeps.refl (F := 872415564) s
  unfold execForcedIntermission at h
  cases h
  repeat' (first | with_reducible (first
    | assumption
    | refine State.forceIm_keeps _ _ rfl ?_))

theorem execHouseSlot_keeps (port : Nat) (slot : Nat) (s : State) (u : State) (h : execHouseSlot port slot s = .next u) : Keeps 872546638 s u := by
  have hk := Keeps.refl (F := 872546638) s
  unfold execHouseSlot at h
  cases h
  repeat' (first | with_reducible (first
    | assumption
    | refine State.houseSlot_keeps _ _ _ rfl ?_))

theorem execHsSwap_keeps (port : Nat) (s : State) (u : State) (h : execHsSwap port s = .next u) : Keeps 268435456 s u := by
  have hk := Keeps.refl (F := 268435456) s
  unfold execHsSwap at h
  cases h
  repeat' (first | with_reducible (first
    | assumption
    | refine State.onPage_keeps _ _ _ _ (fun _ hk => ?_) rfl ?_
    | refine State.hsSwap_keeps _ _ rfl ?_))

theorem execHsStop_keeps (port : Nat) (s : State) (u : State) (h : execHsStop port s = .next u) : Keeps 268435456 s u := by
  have hk := Keeps.refl (F := 268435456) s
  unfold execHsStop at h
  cases h
  repeat' (first | with_reducible (first
    | assumption
    | refine State.onPage_keeps _ _ _ _ (fun _ hk => ?_) rfl ?_
    | refine State.hsStop_keeps _ _ rfl ?_))

theorem execRerange_keeps (port : Nat) (s : State) (u : State) (h : execRerange port s = .next u) : Keeps 268435456 s u := by
  have hk := Keeps.refl (F := 268435456) s
  unfold execRerange at h
  cases h
  repeat' (first | with_reducible (first
    | assumption
    | refine State.onPage_keeps _ _ _ _ (fun _ hk => ?_) rfl ?_
    | refine State.startRanging_keeps _ _ rfl ?_))

theorem execRange_keeps (port : Nat) (m : Msg) (t : Nat) (s : State) (u : State) (h : execRange port m t s = .next u) : Keeps 268435456 s u := by
  have hk := Keeps.refl (F := 268435456) s
  unfold execRange at h
  cases h
  repeat' (first | with_reducible (first
    | assumption
    | refine State.rangeHeard_keeps _ _ _ _ rfl ?_))

theorem execRangeFail_keeps (port : Nat) (s : State) (u : State) (h : execRangeFail port s = .next u) : Keeps 268435788 s u := by
  have hk := Keeps.refl (F := 268435788) s
  unfold execRangeFail at h
  cases h
  repeat' (first | with_reducible (first
    | assumption
    | refine State.rangeFails_keeps _ _ rfl ?_))

theorem execBurstReceive_keeps (port : Nat) (delim : List Byte) (t : Nat) (s : State) (u : State) (h : execBurstReceive port delim t s = .next u) : Keeps 268435466 s u := by
  have hk := Keeps.refl (F := 268435466) s
  unfold execBurstReceive at h
  cases h
  repeat' (first | with_reducible (first
    | assumption
    | refine State.burstIn_keeps _ _ _ _ rfl ?_))

theorem execIntrusion_keeps (port : Nat) (s : State) (u : State) (h : execIntrusion port s = .next u) : Keeps 268435788 s u := by
  have hk := Keeps.refl (F := 268435788) s
  unfold execIntrusion at h
  cases h
  repeat' (first | with_reducible (first
    | assumption
    | refine State.intrusion_keeps _ _ rfl ?_))

theorem execDelimiterTimeout_keeps (port : Nat) (s : State) (u : State) (h : execDelimiterTimeout port s = .next u) : Keeps 268435456 s u := by
  have hk := Keeps.refl (F := 268435456) s
  unfold execDelimiterTimeout at h
  cases h
  repeat' (first | with_reducible (first
    | assumption
    | refine State.delimLapse_keeps _ _ rfl ?_))

theorem execHello_keeps (port : Nat) (m : Msg) (s : State) (u : State) (h : execHello port m s = .next u) : Keeps 13690372430 s u := by
  have hk := Keeps.refl (F := 13690372430) s
  unfold execHello at h
  cases h
  repeat' (first | with_reducible (first
    | assumption
    | refine State.helloIn_keeps _ _ _ rfl ?_))

theorem execHelloResend_keeps (port : Nat) (s : State) (u : State) (h : execHelloResend port s = .next u) : Keeps 13690372430 s u := by
  have hk := Keeps.refl (F := 13690372430) s
  unfold execHelloResend at h
  cases h
  repeat' (first | with_reducible (first
    | assumption
    | refine State.helloAgain_keeps _ _ rfl ?_))

theorem execLeader_keeps (port : Nat) (m : Msg) (s : State) (u : State) (h : execLeader port m s = .next u) : Keeps 13690372430 s u := by
  have hk := Keeps.refl (F := 13690372430) s
  unfold execLeader at h
  cases h
  repeat' (first | with_reducible (first
    | assumption
    | refine State.leaderIn_keeps _ _ _ rfl ?_))

theorem execRoot_keeps (port : Nat) (m : Msg) (s : State) (u : State) (h : execRoot port m s = .next u) : Keeps 13690372430 s u := by
  have hk := Keeps.refl (F := 13690372430) s
  unfold execRoot at h
  cases h
  repeat' (first | with_reducible (first
    | assumption
    | refine State.rootIn_keeps _ _ _ rfl ?_))

theorem execHoldout_keeps (port : Nat) (m : Msg) (s : State) (u : State) (h : execHoldout port m s = .next u) : Keeps 4831838540 s u := by
  have hk := Keeps.refl (F := 4831838540) s
  unfold execHoldout at h
  cases h
  repeat' (first | with_reducible (first
    | assumption
    | refine State.holdoutIn_keeps _ _ _ rfl ?_))

theorem execDigest_keeps (m : Msg) (s : State) (u : State) (h : execDigest m s = .next u) : Keeps 13421773132 s u := by
  have hk := Keeps.refl (F := 13421773132) s
  unfold execDigest at h
  cases h
  repeat' (first | with_reducible (first
    | assumption
    | refine State.digestIn_keeps _ _ rfl ?_))

theorem execDigestResult_keeps (m : Msg) (s : State) (u : State) (h : execDigestResult m s = .next u) : Keeps 4831838540 s u := by
  have hk := Keeps.refl (F := 4831838540) s
  unfold execDigestResult at h
  cases h
  repeat' (first | with_reducible (first
    | assumption
    | refine State.digestAnswer_keeps _ _ rfl ?_))

theorem execPeerAbsent_keeps (peer : Nat) (s : State) (u : State) (h : execPeerAbsent peer s = .next u) : Keeps 13690372430 s u := by
  have hk := Keeps.refl (F := 13690372430) s
  unfold execPeerAbsent at h
  cases h
  repeat' (first | with_reducible (first
    | assumption
    | refine State.peerGone_keeps _ _ rfl ?_))

theorem execPhaseWaitTimeout_keeps (s : State) (u : State) (h : execPhaseWaitTimeout s = .next u) : Keeps 13690372430 s u := by
  have hk := Keeps.refl (F := 13690372430) s
  unfold execPhaseWaitTimeout at h
  cases h
  repeat' (first | with_reducible (first
    | assumption
    | refine State.phaseLapse_keeps _ rfl ?_))

theorem execMaxAnchor_keeps (p : Nat) (m : Msg) (s : State) (u : State) (h : execMaxAnchor p m s = .next u) : Keeps 13432258942 s u := by
  have hk := Keeps.refl (F := 13432258942) s
  unfold execMaxAnchor at h
  cases h
  repeat' (first | with_reducible (first
    | assumption
    | refine State.collective_keeps _ _ _ _ _ _ (fun _ _ _ _ hk => ?_) rfl ?_
    | refine State.maxRun_keeps _ _ _ _ _ _ rfl ?_))

theorem execExactAdd_keeps (p : Nat) (m : Msg) (s : State) (u : State) (h : execExactAdd p m s = .next u) : Keeps 13432258942 s u := by
  have hk := Keeps.refl (F := 13432258942) s
  unfold execExactAdd at h
  cases h
  repeat' (first | with_reducible (first
    | assumption
    | refine State.collective_keeps _ _ _ _ _ _ (fun _ _ _ _ hk => ?_) rfl ?_
    | refine State.addRun_keeps _ _ _ _ _ _ rfl ?_))

theorem execPeerEntryWrite_keeps (b : Bool) (v : W32) (s : State) (u : State) (h : execPeerEntryWrite b v s = .next u) : Keeps 1077936128 s u := by
  have hk := Keeps.refl (F := 1077936128) s
  unfold execPeerEntryWrite at h
  cases h
  repeat' (first | with_reducible (first
    | assumption
    | refine State.onPage_keeps _ _ _ _ (fun _ hk => ?_) rfl ?_
    | refine State.writePeer_keeps _ _ _ rfl ?_))

theorem execCueActWrite_keeps (v : W32) (s : State) (u : State) (h : execCueActWrite v s = .next u) : Keeps 131072 s u := by
  have hk := Keeps.refl (F := 131072) s
  unfold execCueActWrite at h
  cases h
  repeat' (first | with_reducible (first
    | assumption
    | refine State.onPage_keeps _ _ _ _ (fun _ hk => ?_) rfl ?_
    | refine State.writeCue_keeps _ _ rfl ?_))

theorem execCueFire_keeps (cue : Nat) (s : State) (u : State) (h : execCueFire cue s = .next u) : Keeps 868352382 s u := by
  have hk := Keeps.refl (F := 868352382) s
  unfold execCueFire at h
  cases h
  repeat' (first | with_reducible (first
    | assumption
    | refine State.fireCue_keeps _ _ rfl ?_))

theorem execCoreReset_keeps (core : Nat) (s : State) (u : State) (h : execCoreReset core s = .next u) : Keeps 65536382 s u := by
  have hk := Keeps.refl (F := 65536382) s
  unfold execCoreReset at h
  cases h
  repeat' (first | with_reducible (first
    | assumption
    | refine State.onPage_keeps _ _ _ _ (fun _ hk => ?_) rfl ?_
    | refine State.askReset_keeps _ _ _ rfl ?_))

theorem execClusterReset_keeps (clu : Nat) (s : State) (u : State) (h : execClusterReset clu s = .next u) : Keeps 65536382 s u := by
  have hk := Keeps.refl (F := 65536382) s
  unfold execClusterReset at h
  cases h
  repeat' (first | with_reducible (first
    | assumption
    | refine State.onPage_keeps _ _ _ _ (fun _ hk => ?_) rfl ?_
    | refine State.askReset_keeps _ _ _ rfl ?_))

theorem execCtxInit_keeps (p : Nat) (s : State) (u : State) (h : execCtxInit p s = .next u) : Keeps 31457662 s u := by
  have hk := Keeps.refl (F := 31457662) s
  unfold execCtxInit at h
  cases h
  repeat' (first | with_reducible (first
    | assumption
    | refine State.ctxInit_keeps _ _ rfl ?_))

theorem execContextSwitch_keeps (p : Nat) (s : State) (u : State) (h : execContextSwitch p s = .next u) : Keeps 13487309182 s u := by
  have hk := Keeps.refl (F := 13487309182) s
  unfold execContextSwitch at h
  cases h
  repeat' (first | with_reducible (first
    | assumption
    | refine State.contextSwitch_keeps _ _ rfl ?_))

theorem execContextResume_keeps (p : Nat) (s : State) (u : State) (h : execContextResume p s = .next u) : Keeps 13487309182 s u := by
  have hk := Keeps.refl (F := 13487309182) s
  unfold execContextResume at h
  cases h
  repeat' (first | with_reducible (first
    | assumption
    | refine State.contextResume_keeps _ _ rfl ?_))

theorem execWaitTimeout_keeps (p : Nat) (src : Nat) (s : State) (u : State) (h : execWaitTimeout p src s = .next u) : Keeps 13487309182 s u := by
  have hk := Keeps.refl (F := 13487309182) s
  unfold execWaitTimeout at h
  cases h
  repeat' (first | with_reducible (first
    | assumption
    | refine State.waitTimeout_keeps _ _ _ rfl ?_))

theorem execCurtainHold_keeps (l : Nat) (os : List Byte) (s : State) (u : State) (h : execCurtainHold l os s = .next u) : Keeps 536871244 s u := by
  have hk := Keeps.refl (F := 536871244) s
  unfold execCurtainHold at h
  cases h
  repeat' (first | with_reducible (first
    | assumption
    | refine State.recvCurtain_keeps _ _ _ _ _ (fun _ hk => ?_) rfl ?_
    | refine State.curtHold_keeps _ _ _ rfl ?_))

theorem execCurtainRelease_keeps (l : Nat) (os : List Byte) (s : State) (u : State) (h : execCurtainRelease l os s = .next u) : Keeps 536871244 s u := by
  have hk := Keeps.refl (F := 536871244) s
  unfold execCurtainRelease at h
  cases h
  repeat' (first | with_reducible (first
    | assumption
    | refine State.recvCurtain_keeps _ _ _ _ _ (fun _ hk => ?_) rfl ?_
    | refine State.curtRelease_keeps _ _ _ rfl ?_))

theorem execCurtainFence_keeps (l : Nat) (os : List Byte) (s : State) (u : State) (h : execCurtainFence l os s = .next u) : Keeps 536871244 s u := by
  have hk := Keeps.refl (F := 536871244) s
  unfold execCurtainFence at h
  cases h
  repeat' (first | with_reducible (first
    | assumption
    | refine State.recvCurtain_keeps _ _ _ _ _ (fun _ hk => ?_) rfl ?_
    | refine State.curtFence_keeps _ _ _ rfl ?_))

theorem execFencePoint_keeps (l : Nat) (s : State) (u : State) (h : execFencePoint l s = .next u) : Keeps 603979780 s u := by
  have hk := Keeps.refl (F := 603979780) s
  unfold execFencePoint at h
  cases h
  repeat' (first | with_reducible (first
    | assumption
    | refine State.fencePoint_keeps _ _ rfl ?_))

theorem execFenceDone_keeps (l : Nat) (os : List Byte) (s : State) (u : State) (h : execFenceDone l os s = .next u) : Keeps 536871244 s u := by
  have hk := Keeps.refl (F := 536871244) s
  unfold execFenceDone at h
  cases h
  repeat' (first | with_reducible (first
    | assumption
    | refine State.recvCurtain_keeps _ _ _ _ _ (fun _ hk => ?_) rfl ?_
    | refine State.evLink_keeps _ _ _ _ rfl ?_))

theorem execCurtLapsed_keeps (l : Nat) (scope : Scope) (s : State) (u : State) (h : execCurtLapsed l scope s = .next u) : Keeps 536871244 s u := by
  have hk := Keeps.refl (F := 536871244) s
  unfold execCurtLapsed at h
  cases h
  repeat' (first | with_reducible (first
    | assumption
    | refine State.curtLapse_keeps _ _ _ rfl ?_))

theorem execRegisterWrite_keeps (path : Path) (addr : Nat) (data : List Byte) (s : State) (u : State) (h : execRegisterWrite path addr data s = .next u) : Keeps 17179505022 s u := by
  have hk := Keeps.refl (F := 17179505022) s
  unfold execRegisterWrite at h
  cases h
  repeat' (first | with_reducible (first
    | assumption
    | refine State.hostWriteReg_keeps _ _ _ rfl ?_
    | refine State.boardWrite_keeps _ _ _ rfl ?_
    | refine keeps_ite (fun _ => ?_) (fun _ => ?_)))

theorem execRcRead_keeps (path : Path) (addr : Nat) (len : Nat) (s : State) (u : State) (h : execRcRead path addr len s = .next u) : Keeps 268579148 s u := by
  have hk := Keeps.refl (F := 268579148) s
  unfold execRcRead at h
  cases h
  repeat' (first | with_reducible (first
    | assumption
    | refine State.hostReadReg_keeps _ _ _ rfl ?_
    | refine State.emit_keeps _ _ rfl ?_
    | refine State.boardReadEffect_keeps _ _ rfl ?_
    | refine keeps_ite (fun _ => ?_) (fun _ => ?_)))

theorem execGtsLoRead_keeps (len : Nat) (s : State) (u : State) (h : execGtsLoRead len s = .next u) : Keeps 268566860 s u := by
  have hk := Keeps.refl (F := 268566860) s
  unfold execGtsLoRead at h
  cases h
  repeat' (first | with_reducible (first
    | assumption
    | refine State.hostReadReg_keeps _ _ _ rfl ?_))

theorem execEvtForceWrite_keeps (page : Nat) (v : W32) (s : State) (u : State) (h : execEvtForceWrite page v s = .next u) : Keeps 332 s u := by
  have hk := Keeps.refl (F := 332) s
  unfold execEvtForceWrite at h
  cases h
  repeat' (first | with_reducible (first
    | assumption
    | refine State.onPage_keeps _ _ _ _ (fun _ hk => ?_) rfl ?_
    | refine State.forceEvents_keeps _ _ _ _ rfl ?_) | split)

theorem execEvtEnWrite_keeps (addr : Nat) (v : W32) (s : State) (u : State) (h : execEvtEnWrite addr v s = .next u) : Keeps 332 s u := by
  have hk := Keeps.refl (F := 332) s
  unfold execEvtEnWrite at h
  cases h
  repeat' (first | with_reducible (first
    | assumption
    | refine State.badAccess_keeps _ rfl ?_
    | refine State.onPage_keeps _ _ _ _ (fun _ hk => ?_) rfl ?_
    | refine State.writeHeader_keeps _ _ _ _ _ rfl ?_
    | refine State.enableWrite_keeps _ _ _ (fun _ hk => ?_) rfl ?_
    | refine State.plainWrite_keeps _ _ _ _ _ rfl ?_
    | refine keeps_ite (fun _ => ?_) (fun _ => ?_)) | split)

theorem execErrCountClr_keeps (page : Nat) (v : W32) (s : State) (u : State) (h : execErrCountClr page v s = .next u) : Keeps 8 s u := by
  have hk := Keeps.refl (F := 8) s
  unfold execErrCountClr at h
  cases h
  repeat' (first | with_reducible (first
    | assumption
    | refine State.onPage_keeps _ _ _ _ (fun _ hk => ?_) rfl ?_
    | refine State.clearErrCount_keeps _ _ _ _ rfl ?_) | split)

theorem execMsiXVectorUnmask_keeps (vec : Nat) (s : State) (u : State) (h : execMsiXVectorUnmask vec s = .next u) : Keeps 268 s u := by
  have hk := Keeps.refl (F := 268) s
  unfold execMsiXVectorUnmask at h
  cases h
  repeat' (first | with_reducible (first
    | assumption
    | refine State.unmask_keeps _ _ rfl ?_
    | refine keeps_ite (fun _ => ?_) (fun _ => ?_)))

theorem execDeviceReset_keeps (s : State) (u : State) (h : execDeviceReset s = .next u) : Keeps 17179868031 s u := by
  have hk := Keeps.refl (F := 17179868031) s
  unfold execDeviceReset at h
  cases h
  repeat' (first | with_reducible (first
    | assumption
    | refine State.devReset_keeps _ _ rfl ?_) | split)

theorem execPwrgdFall_keeps (s : State) (u : State) (h : execPwrgdFall s = .next u) : Keeps 17179868031 s u := by
  have hk := Keeps.refl (F := 17179868031) s
  unfold execPwrgdFall at h
  cases h
  repeat' (first | with_reducible (first
    | assumption
    | refine State.devReset_keeps _ _ rfl ?_
    | refine State.setPwr_keeps _ _ rfl ?_))

theorem execPerstN_keeps (s : State) (u : State) (h : execPerstN s = .next u) : Keeps 17179868031 s u := by
  have hk := Keeps.refl (F := 17179868031) s
  unfold execPerstN at h
  cases h
  repeat' (first | with_reducible (first
    | assumption
    | refine State.setPwr_keeps _ _ rfl ?_
    | refine State.devReset_keeps _ _ rfl ?_
    | refine keeps_ite (fun _ => ?_) (fun _ => ?_)))

theorem execThermalTrip_keeps (s : State) (u : State) (h : execThermalTrip s = .next u) : Keeps 17179867965 s u := by
  have hk := Keeps.refl (F := 17179867965) s
  unfold execThermalTrip at h
  cases h
  repeat' (first | with_reducible (first
    | assumption
    | refine State.toReset_keeps _ _ rfl ?_
    | refine State.emit_keeps _ _ rfl ?_
    | refine State.setPwr_keeps _ _ rfl ?_
    | refine keeps_ite (fun _ => ?_) (fun _ => ?_)))

theorem execRefLost_keeps (s : State) (u : State) (h : execRefLost s = .next u) : Keeps 131916 s u := by
  have hk := Keeps.refl (F := 131916) s
  unfold execRefLost at h
  cases h
  repeat' (first | with_reducible (first
    | assumption
    | refine State.emit_keeps _ _ rfl ?_
    | refine State.setPwr_keeps _ _ rfl ?_
    | refine State.enterHoldover_keeps _ rfl ?_
    | refine keeps_ite (fun _ => ?_) (fun _ => ?_)))

theorem execRefRestored_keeps (s : State) (u : State) (h : execRefRestored s = .next u) : Keeps 516 s u := by
  have hk := Keeps.refl (F := 516) s
  unfold execRefRestored at h
  cases h
  repeat' (first | with_reducible (first
    | assumption
    | refine State.emit_keeps _ _ rfl ?_
    | refine State.setPwr_keeps _ _ rfl ?_
    | refine keeps_ite (fun _ => ?_) (fun _ => ?_)))

theorem execClockFatal_keeps (s : State) (u : State) (h : execClockFatal s = .next u) : Keeps 13958513534 s u := by
  have hk := Keeps.refl (F := 13958513534) s
  unfold execClockFatal at h
  cases h
  repeat' (first | with_reducible (first
    | assumption
    | refine State.allDown_keeps _ _ rfl ?_
    | refine State.emit_keeps _ _ rfl ?_
    | refine State.setPwr_keeps _ _ rfl ?_
    | refine State.holdPartition_keeps _ _ rfl ?_
    | refine keeps_ite (fun _ => ?_) (fun _ => ?_)
    | refine keeps_foldl (fun _ _ hk => ?_) ?_))

theorem execPllUnlock_keeps (p : Nat) (s : State) (u : State) (h : execPllUnlock p s = .next u) : Keeps 17179868031 s u := by
  have hk := Keeps.refl (F := 17179868031) s
  unfold execPllUnlock at h
  cases h
  repeat' (first | with_reducible (first
    | assumption
    | refine State.emit_keeps _ _ rfl ?_
    | refine State.devReset_keeps _ _ rfl ?_
    | refine State.setPwr_keeps _ _ rfl ?_
    | refine State.holdPartition_keeps _ _ rfl ?_
    | refine keeps_ite (fun _ => ?_) (fun _ => ?_)))

theorem execD2dPllUnlock_keeps (die : Nat) (s : State) (u : State) (h : execD2dPllUnlock die s = .next u) : Keeps 512 s u := by
  have hk := Keeps.refl (F := 512) s
  unfold execD2dPllUnlock at h
  cases h
  repeat' (first | with_reducible (first
    | assumption
    | refine State.setPwr_keeps _ _ rfl ?_
    | refine keeps_ite (fun _ => ?_) (fun _ => ?_)))

theorem execUcieRetrainComplete_keeps (ring : Bool) (i : Nat) (s : State) (u : State) (h : execUcieRetrainComplete ring i s = .next u) : Keeps 13487309694 s u := by
  have hk := Keeps.refl (F := 13487309694) s
  unfold execUcieRetrainComplete at h
  cases h
  repeat' (first | with_reducible (first
    | assumption
    | refine State.releaseHeld_keeps _ rfl ?_
    | refine State.setPwr_keeps _ _ rfl ?_
    | refine keeps_ite (fun _ => ?_) (fun _ => ?_)))

theorem execSynthUnlock_keeps (k : Nat) (s : State) (u : State) (h : execSynthUnlock k s = .next u) : Keeps 13822854014 s u := by
  have hk := Keeps.refl (F := 13822854014) s
  unfold execSynthUnlock at h
  cases h
  repeat' (first | with_reducible (first
    | assumption
    | refine State.setPwr_keeps _ _ rfl ?_
    | refine State.siteDown_keeps _ _ _ rfl ?_
    | refine keeps_ite (fun _ => ?_) (fun _ => ?_)))

theorem execHeldWrite_keeps (s : State) (u : State) (h : execHeldWrite s = .next u) : Keeps 2178 s u := by
  have hk := Keeps.refl (F := 2178) s
  unfold execHeldWrite at h
  cases h
  repeat' (first | with_reducible (first
    | assumption
    | refine State.writeRecord_keeps _ _ rfl ?_
    | refine keeps_ite (fun _ => ?_) (fun _ => ?_)) | split)

theorem execResetPartition_keeps (path : Path) (s : State) (u : State) (h : execResetPartition path s = .next u) : Keeps 17179769342 s u := by
  have hk := Keeps.refl (F := 17179769342) s
  unfold execResetPartition at h
  cases h
  repeat' (first | with_reducible (first
    | assumption
    | refine State.command_keeps _ _ _ _ (fun _ _ hk => ?_) rfl ?_
    | refine State.cmdResetPartition_keeps _ _ rfl ?_))

theorem execResetDevice_keeps (path : Path) (s : State) (u : State) (h : execResetDevice path s = .next u) : Keeps 31694 s u := by
  have hk := Keeps.refl (F := 31694) s
  unfold execResetDevice at h
  cases h
  repeat' (first | with_reducible (first
    | assumption
    | refine State.command_keeps _ _ _ _ (fun _ _ hk => ?_) rfl ?_
    | refine State.schedule_keeps _ _ rfl ?_))

theorem execFwActivate_keeps (path : Path) (s : State) (u : State) (h : execFwActivate path s = .next u) : Keeps 32718 s u := by
  have hk := Keeps.refl (F := 32718) s
  unfold execFwActivate at h
  cases h
  repeat' (first | with_reducible (first
    | assumption
    | refine State.command_keeps _ _ _ _ (fun _ _ hk => ?_) rfl ?_
    | refine State.cmdFwActivate_keeps _ _ _ rfl ?_))

theorem execKeyRollover_keeps (path : Path) (s : State) (u : State) (h : execKeyRollover path s = .next u) : Keeps 31182 s u := by
  have hk := Keeps.refl (F := 31182) s
  unfold execKeyRollover at h
  cases h
  repeat' (first | with_reducible (first
    | assumption
    | refine State.command_keeps _ _ _ _ (fun _ _ hk => ?_) rfl ?_
    | refine State.cmdKeyRollover_keeps _ _ rfl ?_))

theorem execFuseWrite_keeps (path : Path) (good : Bool) (s : State) (u : State) (h : execFuseWrite path good s = .next u) : Keeps 32206 s u := by
  have hk := Keeps.refl (F := 32206) s
  unfold execFuseWrite at h
  cases h
  repeat' (first | with_reducible (first
    | assumption
    | refine State.command_keeps _ _ _ _ (fun _ _ hk => ?_) rfl ?_
    | refine State.cmdFuseWrite_keeps _ _ _ rfl ?_))

theorem execCurtain_keeps (path : Path) (s : State) (u : State) (h : execCurtain path s = .next u) : Keeps 604010958 s u := by
  have hk := Keeps.refl (F := 604010958) s
  unfold execCurtain at h
  cases h
  repeat' (first | with_reducible (first
    | assumption
    | refine State.command_keeps _ _ _ _ (fun _ _ hk => ?_) rfl ?_
    | refine State.cmdCurtain_keeps _ _ rfl ?_))

theorem execLinkFence_keeps (path : Path) (s : State) (u : State) (h : execLinkFence path s = .next u) : Keeps 13957102078 s u := by
  have hk := Keeps.refl (F := 13957102078) s
  unfold execLinkFence at h
  cases h
  repeat' (first | with_reducible (first
    | assumption
    | refine State.command_keeps _ _ _ _ (fun _ _ hk => ?_) rfl ?_
    | refine State.fencePorts_keeps _ _ rfl ?_))

theorem execUnfence_keeps (path : Path) (s : State) (u : State) (h : execUnfence path s = .next u) : Keeps 31182 s u := by
  have hk := Keeps.refl (F := 31182) s
  unfold execUnfence at h
  cases h
  repeat' (first | with_reducible (first
    | assumption
    | refine State.command_keeps _ _ _ _ (fun _ _ hk => ?_) rfl ?_
    | refine State.unfencePorts_keeps _ _ rfl ?_))

theorem execTestUnlock_keeps (path : Path) (s : State) (u : State) (h : execTestUnlock path s = .next u) : Keeps 17179769342 s u := by
  have hk := Keeps.refl (F := 17179769342) s
  unfold execTestUnlock at h
  cases h
  repeat' (first | with_reducible (first
    | assumption
    | refine State.command_keeps _ _ _ _ (fun _ _ hk => ?_) rfl ?_
    | refine State.cmdTestUnlock_keeps _ _ rfl ?_))

theorem execGetChallenge_keeps (path : Path) (s : State) (u : State) (h : execGetChallenge path s = .next u) : Keeps 31182 s u := by
  have hk := Keeps.refl (F := 31182) s
  unfold execGetChallenge at h
  cases h
  repeat' (first | with_reducible (first
    | assumption
    | refine State.command_keeps _ _ _ _ (fun _ _ hk => ?_) rfl ?_
    | refine State.cmdGetChallenge_keeps _ _ rfl ?_))

theorem execChallengeExpiry_keeps (s : State) (u : State) (h : execChallengeExpiry s = .next u) : Keeps 2048 s u := by
  have hk := Keeps.refl (F := 2048) s
  unfold execChallengeExpiry at h
  cases h
  repeat' (first | with_reducible (first
    | assumption
    | refine State.modSec_keeps _ _ rfl ?_))

theorem execLockoutEnd_keeps (s : State) (u : State) (h : execLockoutEnd s = .next u) : Keeps 2048 s u := by
  have hk := Keeps.refl (F := 2048) s
  unfold execLockoutEnd at h
  cases h
  repeat' (first | with_reducible (first
    | assumption
    | refine State.modSec_keeps _ _ rfl ?_))

theorem execTenantAssign_keeps (path : Path) (s : State) (u : State) (h : execTenantAssign path s = .next u) : Keeps 67402190 s u := by
  have hk := Keeps.refl (F := 67402190) s
  unfold execTenantAssign at h
  cases h
  repeat' (first | with_reducible (first
    | assumption
    | refine State.assignAgain_keeps _ _ _ _ rfl ?_
    | refine State.command_keeps _ _ _ _ (fun _ _ hk => ?_) rfl ?_
    | refine State.cmdTenantAssign_keeps _ _ rfl ?_) | split)

theorem execSettingsCommit_keeps (path : Path) (s : State) (u : State) (h : execSettingsCommit path s = .next u) : Keeps 31182 s u := by
  have hk := Keeps.refl (F := 31182) s
  unfold execSettingsCommit at h
  cases h
  repeat' (first | with_reducible (first
    | assumption
    | refine State.command_keeps _ _ _ _ (fun _ _ hk => ?_) rfl ?_
    | refine State.cmdSettingsCommit_keeps _ _ rfl ?_))

theorem execFlashWrite_keeps (path : Path) (s : State) (u : State) (h : execFlashWrite path s = .next u) : Keeps 31182 s u := by
  have hk := Keeps.refl (F := 31182) s
  unfold execFlashWrite at h
  cases h
  repeat' (first | with_reducible (first
    | assumption
    | refine State.command_keeps _ _ _ _ (fun _ _ hk => ?_) rfl ?_
    | refine State.cmdFlashWrite_keeps _ _ rfl ?_))

theorem execProvision_keeps (path : Path) (s : State) (u : State) (h : execProvision path s = .next u) : Keeps 32206 s u := by
  have hk := Keeps.refl (F := 32206) s
  unfold execProvision at h
  cases h
  repeat' (first | with_reducible (first
    | assumption
    | refine State.command_keeps _ _ _ _ (fun _ _ hk => ?_) rfl ?_
    | refine State.cmdProvision_keeps _ _ rfl ?_))

theorem execPowerOn_keeps (env : BootEnv) (s : State) (u : State) (h : execPowerOn env s = .next u) : Keeps 17179769854 s u := by
  have hk := Keeps.refl (F := 17179769854) s
  unfold execPowerOn at h
  cases h
  repeat' (first | with_reducible (first
    | assumption
    | refine State.setPwr_keeps _ _ rfl ?_
    | refine State.boot_keeps _ _ rfl ?_
    | refine keeps_ite (fun _ => ?_) (fun _ => ?_)))

theorem execPerstNDeassert_keeps (env : BootEnv) (s : State) (u : State) (h : execPerstNDeassert env s = .next u) : Keeps 17179769854 s u := by
  have hk := Keeps.refl (F := 17179769854) s
  unfold execPerstNDeassert at h
  cases h
  repeat' (first | with_reducible (first
    | assumption
    | refine State.setPwr_keeps _ _ rfl ?_
    | refine State.boot_keeps _ _ rfl ?_
    | refine keeps_ite (fun _ => ?_) (fun _ => ?_)))

theorem execStepTimeout_keeps (step : Nat) (parts : List Nat) (sites : List Nat) (s : State) (u : State) (h : execStepTimeout step parts sites s = .next u) : Keeps 17179769854 s u := by
  have hk := Keeps.refl (F := 17179769854) s
  unfold execStepTimeout at h
  cases h
  repeat' (first | with_reducible (first
    | assumption
    | refine State.setPwr_keeps _ _ rfl ?_
    | refine State.overrun_keeps _ _ _ _ _ _ rfl ?_
    | refine keeps_ite (fun _ => ?_) (fun _ => ?_)) | split)

theorem execChipletDescriptor_keeps (k : Nat) (d : List Byte) (licence : List Byte) (s : State) (u : State) (h : execChipletDescriptor k d licence s = .next u) : Keeps 17179769854 s u := by
  have hk := Keeps.refl (F := 17179769854) s
  unfold execChipletDescriptor at h
  cases h
  repeat' (first | with_reducible (first
    | assumption
    | refine State.descriptor_keeps _ _ _ _ rfl ?_))

theorem execSelectEcho_keeps (k : Nat) (r : List Byte) (s : State) (u : State) (h : execSelectEcho k r s = .next u) : Keeps 17179769854 s u := by
  have hk := Keeps.refl (F := 17179769854) s
  unfold execSelectEcho at h
  cases h
  repeat' (first | with_reducible (first
    | assumption
    | refine State.selectEcho_keeps _ _ _ rfl ?_))

theorem execChipletDescriptorTimeout_keeps (k : Nat) (s : State) (u : State) (h : execChipletDescriptorTimeout k s = .next u) : Keeps 17179769854 s u := by
  have hk := Keeps.refl (F := 17179769854) s
  unfold execChipletDescriptorTimeout at h
  cases h
  repeat' (first | with_reducible (first
    | assumption
    | refine State.bootOn_keeps _ rfl ?_
    | refine State.failSite_keeps _ _ rfl ?_
    | refine keeps_ite (fun _ => ?_) (fun _ => ?_)))

theorem execGetVersion_keeps (s : State) (u : State) (h : execGetVersion s = .next u) : Keeps 2052 s u := by
  have hk := Keeps.refl (F := 2052) s
  unfold execGetVersion at h
  cases h
  repeat' (first | with_reducible (first
    | assumption
    | refine State.spdmAt_keeps _ _ _ (fun _ hk => ?_) rfl ?_
    | refine State.spdmTo_keeps _ _ _ rfl ?_))

theorem execGetCapabilities_keeps (s : State) (u : State) (h : execGetCapabilities s = .next u) : Keeps 2052 s u := by
  have hk := Keeps.refl (F := 2052) s
  unfold execGetCapabilities at h
  cases h
  repeat' (first | with_reducible (first
    | assumption
    | refine State.spdmAt_keeps _ _ _ (fun _ hk => ?_) rfl ?_
    | refine State.spdmTo_keeps _ _ _ rfl ?_))

theorem execNegotiateAlgorithms_keeps (p384 : Bool) (sha384 : Bool) (s : State) (u : State) (h : execNegotiateAlgorithms p384 sha384 s = .next u) : Keeps 2052 s u := by
  have hk := Keeps.refl (F := 2052) s
  unfold execNegotiateAlgorithms at h
  cases h
  repeat' (first | with_reducible (first
    | assumption
    | refine State.spdmAt_keeps _ _ _ (fun _ hk => ?_) rfl ?_
    | refine State.spdmTo_keeps _ _ _ rfl ?_
    | refine State.emit_keeps _ _ rfl ?_
    | refine keeps_ite (fun _ => ?_) (fun _ => ?_)))

theorem execGetDigests_keeps (s : State) (u : State) (h : execGetDigests s = .next u) : Keeps 4 s u := by
  have hk := Keeps.refl (F := 4) s
  unfold execGetDigests at h
  cases h
  repeat' (first | with_reducible (first
    | assumption
    | refine State.spdmAt_keeps _ _ _ (fun _ hk => ?_) rfl ?_
    | refine State.emit_keeps _ _ rfl ?_))

theorem execGetCertificate_keeps (slot : Nat) (offset : Nat) (len : Nat) (s : State) (u : State) (h : execGetCertificate slot offset len s = .next u) : Keeps 4 s u := by
  have hk := Keeps.refl (F := 4) s
  unfold execGetCertificate at h
  cases h
  repeat' (first | with_reducible (first
    | assumption
    | refine State.spdmAt_keeps _ _ _ (fun _ hk => ?_) rfl ?_
    | refine State.emit_keeps _ _ rfl ?_
    | refine keeps_ite (fun _ => ?_) (fun _ => ?_)))

theorem execChallenge_keeps (slot : Nat) (_nonce : List Byte) (s : State) (u : State) (h : execChallenge slot _nonce s = .next u) : Keeps 6 s u := by
  have hk := Keeps.refl (F := 6) s
  unfold execChallenge at h
  cases h
  repeat' (first | with_reducible (first
    | assumption
    | refine State.spdmAt_keeps _ _ _ (fun _ hk => ?_) rfl ?_
    | refine State.emit_keeps _ _ rfl ?_
    | refine State.tick_keeps _ rfl ?_
    | refine keeps_ite (fun _ => ?_) (fun _ => ?_)))

theorem execGetMeasurements_keeps (index : Nat) (sign : Bool) (_nonce : List Byte) (s : State) (u : State) (h : execGetMeasurements index sign _nonce s = .next u) : Keeps 6 s u := by
  have hk := Keeps.refl (F := 6) s
  unfold execGetMeasurements at h
  cases h
  repeat' (first | with_reducible (first
    | assumption
    | refine State.spdmAt_keeps _ _ _ (fun _ hk => ?_) rfl ?_
    | refine State.emit_keeps _ _ rfl ?_
    | refine State.tick_keeps _ rfl ?_
    | refine keeps_ite (fun _ => ?_) (fun _ => ?_)))

theorem execTapInstruction_keeps (die : Nat) (inst : Tap) (s : State) (u : State) (h : execTapInstruction die inst s = .next u) : Keeps 2054 s u := by
  have hk := Keeps.refl (F := 2054) s
  unfold execTapInstruction at h
  cases h
  repeat' (first | with_reducible (first
    | assumption
    | refine State.tapIn_keeps _ _ _ rfl ?_))

end Sys2Proof.Machine
end

