-- ==== Sys2Proof/Tests/States.lean ====
section
/-! SUPPORT. Small states for the tests: a device past bring-up, with little in it. -/

namespace Sys2Proof.Tests

set_option Elab.async false

open Sys2Proof Sys2Proof.Machine

/-- A device past step 8, all partitions UNASSIGNED, every table empty. -/
def up : State := { State.reset with pwr := { PwrSt.init with pwrgd := true, perstN := true, inReset := false, step := 8 } }

/-- The same with partition 0 assigned to tenant 5. -/
def owned : State := { up with parts := [(0, ⟨1, 5⟩)] }

/-- Core 0 as given. -/
def withCore (c : CoreSt) : State := { up with cores := [(0, c)] }

/-- A record of 32 bytes that begins with the given ones. -/
def recOf (l : List Byte) : List Byte := padTo 32 l

/-- A running core 0 whose next record is the given one, in slot 0. -/
def nextIs (l : List Byte) : State := withCore { CoreSt.init with st := cRUNNING, fetched := [⟨0, recOf l, false⟩] }

/-- Core 0 has nothing in flight and the record of opcode `op` next, past its checks. -/
def readyRec (op : Nat) (s : State) : Bool :=
  decide (s.ecc = []) && decide ((s.core 0).flight = []) && (match s.nextRec 0 op with
    | none => false
    | some x => s.issueCode 0 x.bytes == stOK)

/-- What the statements about records at issue ask for. -/
def RecordNext (op : Nat) (s : State) (x : Slot) : Prop :=
  s.ecc = [] ∧ (s.core 0).quiet ∧ s.issueCode 0 x.bytes = stOK ∧ (∀ f ∈ (s.core 0).flight, f.slot.idx ≠ x.idx)
    ∧ s.nextRec 0 op = some x

theorem recordNext_of_readyRec {op : Nat} {s : State} (h : readyRec op s = true) : ∃ x, RecordNext op s x := by
  unfold readyRec at h
  simp only [Bool.and_eq_true, decide_eq_true_eq] at h
  obtain ⟨⟨h1, h2⟩, h3⟩ := h
  split at h3
  · cases h3
  · next x hx =>
    refine ⟨x, h1, ?_, by simpa using h3, ?_, hx⟩
    · intro f hf; rw [h2] at hf; cases hf
    · intro f hf; rw [h2] at hf; cases hf

/-- A shard of one page at a place, nothing pending. -/
def shardAt (clu page : Nat) : ShardSt := ⟨some (clu, page), none, false, false, 0, 0, 0, none, none, none, 0⟩

/-- A resident untyped handle of context 0 of 64 KiB, in one shard, at a place. -/
def oneShard (clu page : Nat) : HandleSt := ⟨65536, 16, 0, false, false, 1, [65536], 0, 0, false, true, [shardAt clu page], false⟩
def withHandle (s : State) (p h : Nat) (x : HandleSt) : State := s.setHandle p h (some x)


/-- An entry of the request ring. -/
def entry (op hid ctx : Nat) (arg : List Byte) : List Byte :=
  padTo 64 (leBytes 1 op ++ [1, 0, 0] ++ leBytes 4 (hid + 2 ^ 20 * ctx) ++ leBytes 8 0 ++ arg)
def reqIs (op hid ctx : Nat) (arg : List Byte) : UshReq := ⟨0, entry op hid ctx arg, false, 0⟩
/-- Usher of partition 0 with all pages usable and a request at hand. -/
def asks (r : UshReq) (u : UshSt) : State := { owned with ushers := [(0, { u with usable := 24000, req := some r })] }
/-- Descriptor of one page: with RES or without. -/
def desc1 (res : Bool) : List Byte := leBytes 5 65536 ++ [16, if res then 0x40 else 0, 0] ++ leBytes 4 32768
/-- A message whose body is as given. -/
def msgOf (profile tenant : Nat) (body : List Byte) : Msg := ⟨2, 0, 0, 0, profile, 8, 0, tenant, body⟩
/-- A descriptor: header, source, destination, the word of XLEN, rows and planes less one, the strides, and what follows. -/
def descB (hdr src dst xw rows planes sy dy : Nat) (more : List Byte) : List Byte :=
  padTo 64 (leBytes 4 hdr ++ leBytes 8 0 ++ leBytes 8 src ++ leBytes 8 dst ++ leBytes 4 xw ++ leBytes 2 rows ++ leBytes 2 planes
    ++ leBytes 4 sy ++ leBytes 4 dy ++ more)
/-- Endpoint words of scratch and of host memory, and a peer. -/
def scrW (core a : Nat) : Nat := 2 ^ 62 + core * 2 ^ 50 + a
def hostW (a : Nat) : Nat := 2 ^ 63 + a
/-- Channel 0 with a descriptor that is due. -/
def dueD (d : List Byte) : State := { owned with chans := [(0, { ChanSt.init with st := hACTIVE, ahead := [⟨0, d, 0⟩] })] }
def inChan (ch : Nat) (c : ChanSt) : State := { owned with chans := [(ch, c)] }
/-- Site 0 in use, with eight ports and every feature. -/
def siteIs (x : SiteSt) : State := { owned with sites := [(0, { x with status := 2, sel := [1, 8, 0, 0, 15, 0, 0x21] })] }
def laser (lost restored fresh : Bool) : LaserSt := ⟨lost, false, restored, fresh⟩
/-- Port 0 of that site as given, enabled, with its link. -/
def portIs (x : PortSt) (k : LinkSt) : State :=
  ({ siteIs SiteSt.init with ports := [(0, x)], links := [(0, k)] }.setFld (aPort 0 + rOIOPORT_CTL) 31 31 1)
def portUp : State := portIs { PortSt.init with st := pUP } { LinkSt.init with state := lUP }
/-- House port 8 of site 1 in partition 0 under profile 1, with 16 links, the first as given. -/
def houseLink (k : LinkSt) : State :=
  ((({ owned with sites := [(1, { SiteSt.init with status := 2, sel := [1, 8, 0, 0, 15, 0, 0x21] })], links := [(512, k)] }.setFld
    (aDev + rDEV_FAB_CFG) 1 0 1).setFld (aPort 8 + rOIOPORT_CTL) 31 31 1).setFld (aLnk 8 + rOIOLINK_LNK_CFG) 31 30 1).setFld (aLnk 8 + rOIOLINK_LNK_CFG) 6 0 16
def linkIs (k : LinkSt) : State := portIs { PortSt.init with st := pTRAIN } k
/-- An UP link whose partner advertises 1,000 of everything. -/
def upLink : LinkSt := { LinkSt.init with state := lUP, ver := 0x21, peerCap := some (padTo 40 [1, 8, 0x21, 0x10, 0, 0, 0, 0, 0, 0, 0x1F] ++ (List.range 16).flatMap (fun _ => leBytes 2 1000) ++ List.replicate 56 0) }
/-- A message to device 0, and the DATA flit with a number that carries it. -/
def toMe : Msg := ⟨3, 0, 3, 0, 1, 8, 9, 5, List.replicate 16 1⟩
def dataF (seq : Nat) : List Byte := flitBytes (flitHeader 1 3 0 1 seq) (msgBytes toMe) 0
def boxIs (b : BoxSt) : State := { owned with boxes := [(0, b)] }
/-- Box office 0 with BASE 100 and BUDGET_NEXT as given, under limits of 5,000. -/
def commits (n : Nat) : State := ((((boxIs { BoxSt.init with base := 100 }).setFld (aBox 0 + rBOX_BUDGET_NEXT) 15 0 n).setFld (aThm + rTHM_RAIL_LIMIT) 15 0 1500).setFld
  (aThm + rTHM_DEV_LIMIT) 15 0 5000).setFld (aThm + rTHM_BOARD_CAP) 15 0 5000

end Sys2Proof.Tests
end

