-- ==== Sys2Proof/Tests/Trust.lean ====
section
/-! SUPPORT. States that meet the hypotheses of the statements: each clause's, at the ends of its ranges. Mailbox, resets, firmware and attestation. -/

namespace Sys2Proof.Tests

set_option Elab.async false

open Sys2Proof Sys2Proof.Machine

/-! ## Trust -/

/-- The header of a firmware image with an empty body and SVN 3, signed with OpenSSL by a P-384 key made for this test. -/
def imgHeader : List Byte := leBytes 312
  0xf85a250abcbd4d2a924400c9160a1f2800a4faf39a805879893299abfd32589755fe28461ac18c6c8a9c788ebb3695f6ae8711e5260a3754dd8992a24c1f4c3d785465dc52896c1be474da2433b8359ae690b967b1f5e8da44ec2e6e302fbcb7a8c592ff997a8d56dfe61410abe689b27a18af94eba468face2d99579ff6dce8bb5718a315988229210402d25d73c524174c1e07452ec7e2691884390ea90e4bfa75a4919346f469c0c9a0ee61454e7f7b886d95a6ec2b9d7fc5e737381acc4ca66fa60f3f75a3835232d0b7ece5a5e82d11200e4a96f32516e6cc4829e357a650b94115351cdbd9b671ee444e43f8e65bb99848f1d21ad5fb656fe7bfde4e27dae1f663bfc70c4c4307be1411b7fd216ae3b1b17e32d94c3896ac51a760b038000000000000000800090008000000000103000756465731
/-- The header of a settings blob with empty sections and schema 9, signed in the same way by another key. -/
def setHead : List Byte := leBytes 264
  0x70d71dcc88fe556d70f4d51ab20c81ee70ca9a4b19d962930f68b8a4c330231ae5d5945b815239ccba1eda7913ecdf1b9e3d9c06ed11310b874d7cb4dd4ab20ef3750eff2910673f0354e6f9b426b95bd07f6b1dfbf027cd4a802294cdcf637133e56fe10a9bd3d6987c9128adb82977fd41456401ede79e2eb531b13fbd4a07faaeaad8f86c2ee4c2e112e11405df55e18aba7870d9ecc341f1539c28f2873a87c1d9de0aabef2550e2086bb3bd880edfed07760ccd966e5f2c91030edd905d5bb99848f1d21ad5fb656fe7bfde4e27dae1f663bfc70c4c4307be1411b7fd216ae3b1b17e32d94c3896ac51a760b038000000000000000000000000000000050000000956534554

/-- The digests of both keys fused; sensors in the window but those of die 7; a control record and a command key in use. -/
def trusting : State :=
  { up.setFld (aDev + rDEV_BOOT_STAT) 2 0 moNORMAL with
    fuses := { FuseSt.shipped with
      rootHash := [[], leBytes 48 0xff588e9ceb83f6acbc2b2156af219e1d099208b1275bfff309f8aafd0dcc443fe30857535500b31122dae70013db4931, [], []]
      ownerHash := leBytes 48 0x942cb160ae13f5e93167c6708c2f6315d46a0e0fbcc57e7c7a8683fba2f1286d3b08316bae20b6a3ec800b825192edf7, provisioned := true }
    thm := { ThmSt.init with sens := (List.range 8).map (fun d => (if d < 4 then 64 * d else 0x100 + 8 * (d - 4), { SensSt.init with valid := true, temp := if d = 7 then 681 else 680 })) }
    sec := { SecSt.init with ctrl := padTo 64 (leBytes 4 0x4354524C ++ leBytes 10 0 ++ leBytes 6 (2 ^ 30)), key := [9], fw := imgHeader } }
/-- A control record with GEN 3 and its seal under a key encryption key of zeros, made outside. -/
def ctlCopy : List Byte := leBytes 96
  0x1554271296a82a409998c931ff670ac1483139f781c562a9253cfdd352a328610000000000000000000000000000000000000000000000000000000000000000000000000000000000000000000000010000000000000000000000034354524c
def placed (a : Nat) (bs : List Byte) : Tbl Byte := bs.zipIdx.map (fun x => (a + x.2, x.1))
/-- The control record in copy 0 and the image in slot 0. -/
def imageFlash : Tbl Byte := placed 0 ctlCopy ++ placed (fwAddr 0) imgHeader
/-- The image verifies wherever this flash and these fuses are. -/
theorem image_ok : ∀ s : State, s.flash = imageFlash → s.fuses = trusting.fuses → s.imageOk 0 = true := by
  intro s h1 h2
  have : s.imageOk 0 = ({ trusting with flash := imageFlash } : State).imageOk 0 := by
    unfold State.imageOk State.fwHeader State.flashRead
    rw [h1, h2]
  rw [this]
  decide +kernel
/-- A record of a command with counter 5 and its tag. -/
def recordBody (cmd : Nat) (payload : List Byte) : List Byte := padTo 248 (leBytes 1 cmd ++ leBytes 3 0 ++ leBytes 6 5 ++ leBytes 6 0 ++ payload)
def recordB (cmd : Nat) (payload : List Byte) : List Byte :=
  recordBody cmd payload ++ (hmac256 [9] (recordBody cmd payload ++ leBytes 4 0)).take 8
/-- The host's instance has started a record; it is at the head of the engine's order. -/
def ordered (s : State) (r : List Byte) : State := { s with mbHost := { MbSt.init with busy := true, started := r }, mbOrder := [false] }

theorem recordBody_length (cmd : Nat) (payload : List Byte) : (recordBody cmd payload).length = 248 := by
  unfold recordBody padTo
  simp only [List.length_append, List.length_take, List.length_replicate]
  omega

/-- The record's tag is right, whatever its bytes are. -/
theorem tagRight_recordB (s : State) (cmd : Nat) (payload : List Byte) (hk : s.sec.key = [9]) (hs : s.serialNo = 0) :
    s.tagRight (recordB cmd payload) = true := by
  have h := recordBody_length cmd payload
  have e1 : (recordB cmd payload).take 248 = recordBody cmd payload := by
    unfold recordB; rw [← h]; exact List.take_left
  have e2 : slice (recordB cmd payload) 248 8 = (hmac256 [9] (recordBody cmd payload ++ leBytes 4 0)).take 8 := by
    unfold slice recordB; rw [← h, List.drop_left, List.take_take]; rfl
  unfold State.tagRight
  rw [e1, e2, hk, hs]
  exact beq_self_eq_true _

/-- What the checks before the tag and after it ask of the rest. -/
def sound (s : State) (r : List Byte) : Bool :=
  modeCheck s.mode (leAt r 0 1) (leAt r 16 1) false == 0 && s.provCheck (leAt r 0 1) && !s.sec.lockout && decide (leAt r 0 1 ≤ 9) && s.sec.key == [9]
    && s.serialNo == 0 && decide (s.sec.ctrLast < 5) && recCtr r == 5 && s.sec.held == none && decide (4101 < ctlMark s.sec.ctrl) && s.pwr.resetDue == none
/-- The state that the checks of a tagged record leave. -/
def passed (s : State) (r : List Byte) : State := { ordered s r with sec := { s.sec with tagFails := 0, ctrLast := 5 } }
theorem checks_recordB {s : State} {cmd : Nat} {payload : List Byte} (h : sound s (recordB cmd payload) = true) :
    (ordered s (recordB cmd payload)).checks false = (passed s (recordB cmd payload), mOK) := by
  simp only [sound, Bool.and_eq_true, beq_iff_eq, decide_eq_true_eq, Bool.not_eq_true'] at h
  obtain ⟨⟨⟨⟨⟨⟨⟨⟨⟨⟨h1, h2⟩, h3⟩, h4⟩, h5⟩, h6⟩, h7⟩, h8⟩, h9⟩, h10⟩, h11⟩ := h
  have ht := tagRight_recordB (ordered s (recordB cmd payload)) cmd payload h5 h6
  have hr : (ordered s (recordB cmd payload)).record false = recordB cmd payload := rfl
  have hm : (ordered s (recordB cmd payload)).mode = s.mode := rfl
  have hp : (ordered s (recordB cmd payload)).provCheck (leAt (recordB cmd payload) 0 1) = true := h2
  unfold State.checks
  rw [hr, hm]
  simp only [h1, hp, ht, ne_eq, not_true_eq_false, if_false, reduceCtorEq]
  have hl : (ordered s (recordB cmd payload)).sec.lockout = false := h3
  have hg : ¬ 9 < leAt (recordB cmd payload) 0 1 := by omega
  simp only [hl, hg, if_false, Bool.false_eq_true]
  have e1 : ¬ recCtr (recordB cmd payload) ≤ ((ordered s (recordB cmd payload)).modSec (fun x => { x with tagFails := 0 })).sec.ctrLast := by
    rw [h8]; show ¬ 5 ≤ s.sec.ctrLast; omega
  have e2 : ((ordered s (recordB cmd payload)).modSec (fun x => { x with tagFails := 0 })).markWaits (recCtr (recordB cmd payload)) = false := by
    unfold State.markWaits; show (match s.sec.held with | some r => _ | none => false) = false; rw [h9]
  rw [if_neg e1, e2, h8]
  simp only [if_false, Bool.false_eq_true]
  have e3 : ((ordered s (recordB cmd payload)).modSec (fun x => { x with tagFails := 0 })).takeCounter 5 = passed s (recordB cmd payload) := by
    unfold State.takeCounter
    have : ¬ ctlMark (((ordered s (recordB cmd payload)).modSec (fun x => { x with tagFails := 0 })).modSec (fun x => { x with ctrLast := 5 })).sec.record ≤ 5 + 4096 := by
      show ¬ ctlMark (s.sec.held.getD s.sec.ctrl) ≤ _
      rw [h9]; show ¬ ctlMark s.sec.ctrl ≤ _; omega
    rw [if_neg this]; rfl
  rw [e3]
  have e4 : (((ordered s (recordB cmd payload)).modSec (fun x => { x with tagFails := 0 }))).pwr.resetDue = none := h11
  rw [e4]; rfl

theorem witness_Mailbox_tag : let r := recordB 8 [0, 0, 5, 0]
    modeCheck trusting.mode 8 0 false = 0 ∧ trusting.provCheck (leAt r 0 1) = true ∧ trusting.sec.lockout = false ∧ isCmd 8 r = true
      ∧ trusting.tagRight r = true ∧ trusting.sec.ctrLast < recCtr r ∧ ¬ ({ trusting.sec with ctrLast := 5 }.ctrLast < recCtr r)
      ∧ trusting.markWaits (recCtr r) = false ∧ (ordered trusting r).mbOrder.head? = some false :=
  ⟨by decide +kernel, by decide +kernel, rfl, by decide +kernel, tagRight_recordB _ _ _ rfl (by decide +kernel), by decide +kernel, by decide +kernel,
    by decide +kernel, rfl⟩
theorem witness_Mailbox_badTag : trusting.tagRight (List.replicate 256 0) = false := by decide +kernel
theorem witness_Mailbox_refused : modeCheck moHELD 8 0 false ≠ 0 ∧ modeCheck moRESTRICTED 8 0 false = mRESTR ∧ up.provCheck 8 = false
    ∧ up.mbOrder.head? ≠ some false ∧ ({ up with pwr := { up.pwr with resetDue := some 2 } }).pwr.resetDue ≠ none := by decide +kernel

/-- A command that passes its checks: its record is right, and the state that they leave is the one named. -/
def Passes (s : State) (cmd : Nat) (payload : List Byte) (u : State) (r : List Byte) : Prop :=
  r = recordB cmd payload ∧ isCmd cmd r = true ∧ (ordered s r).checks false = (u, mOK) ∧ u = passed s r ∧ u.sec.record.length = 64
theorem passes {s : State} {cmd : Nat} {payload : List Byte} (h : sound s (recordB cmd payload) = true)
    (hc : isCmd cmd (recordB cmd payload) = true) (hl : (s.sec.held.getD s.sec.ctrl).length = 64) :
    Passes s cmd payload (passed s (recordB cmd payload)) (recordB cmd payload) :=
  ⟨rfl, hc, checks_recordB h, rfl, hl⟩

theorem witness_Resets_mailbox : ∀ x ∈ [(2, 0), (1, 4), (1, 0), (3, 4)], let l := [BitVec.ofNat 8 x.1, BitVec.ofNat 8 x.2]
    let r := recordB 1 l
    let u := passed trusting r
    sound trusting r = true ∧ isCmd 1 r = true ∧ leAt r 16 1 = x.1 ∧ setBits (leAt r 17 1) 0 4 = (if x.2 = 4 then [2] else [])
      ∧ (u.part 2).st < 2 ∧ u.sec.applied.filter (fun w => ofPartition 2 w.1) = [] := by decide +kernel
theorem witness_Resets_device : ∀ c ∈ [none, some 2], ({ up with pwr := { up.pwr with resetDue := c } }).pwr.resetDue = c := by decide +kernel
theorem witness_Resets_busy : ∀ x ∈ [(⟨2, 0⟩ : PartSt), ⟨3, 0⟩], let r := recordB 1 [1, 4]
    let u := passed { trusting with parts := [(2, x)] } r
    sound { trusting with parts := [(2, x)] } r = true ∧ leAt r 16 1 = 1 ∧ setBits (leAt r 17 1) 0 4 = [2] ∧ (u.part 2).st = x.st := by decide +kernel
theorem witness_Resets_closed : State.reset.pageOpen .part 0 true = false ∧ up.pageOpen .part (partOfClu 47) true = true := by decide +kernel
theorem witness_Resets_core : ∀ b ∈ [true, false], let s := { owned with ushers := [(0, { UshSt.init with stopped := b })] }
    s.pageOpen .part 0 true = true ∧ (s.usher 0).stopped = b ∧ (s.box 0).notices = [] := by decide +kernel

theorem witness_Firmware_checks : ∃ u r, Passes trusting 2 [0, 1] u r :=
  ⟨_, _, passes (by decide +kernel) (by decide +kernel) (by decide +kernel)⟩
theorem witness_Firmware_activate : let s := { trusting with flash := imageFlash }
    let u := passed s (recordB 2 [0, 1])
    u.imageOk 0 = true ∧ trusting.imageOk 1 = false ∧ u.flashWindow = true ∧ u.fuses.svnMin < fwSvn (u.fwHeader 0) :=
  ⟨image_ok _ rfl rfl, by decide +kernel, by decide +kernel, by decide +kernel⟩
theorem witness_Firmware_cold : ∀ cmd ∈ [2, 3, 9], let s := { trusting with thm := ThmSt.init }
    let r := recordB cmd [1]
    sound s r = true ∧ isCmd cmd r = true ∧ (passed s r).flashWindow = false := by decide +kernel
theorem witness_Firmware_rollover : let r := recordB 3 []
    sound trusting r = true ∧ isCmd 3 r = true ∧ (passed trusting r).flashWindow = true := by decide +kernel
theorem witness_Firmware_fuses : ∀ x ∈ [(0, 1, 0, 15), (0, 1, 0, 8), (4, 0, 191, 1), (4, 0, 192, 1), (7, 0, 0, 1), (0, 3, 0, 1)],
    let r := recordB 4 (leBytes 1 x.1 ++ leBytes 1 x.2.1 ++ leBytes 2 x.2.2.1 ++ leBytes 4 x.2.2.2)
    let u := passed trusting r
    sound trusting r = true ∧ isCmd 4 r = true ∧ leAt r 16 1 = x.1 ∧ leAt r 17 1 = x.2.1 ∧ leAt r 18 2 = x.2.2.1 ∧ leAt r 20 4 = x.2.2.2
      ∧ (u.fuseWord x.1 x.2.1 x.2.2.1).isSome = (x.2.1 != 3 && x.2.2.1 != 192) ∧ u.fuseWindow x.1 = decide (x.1 ≠ 7) := by decide +kernel
theorem witness_Firmware_flash : ∀ x ∈ [(1, 0x1800000 - 16), (1, 0x1800000 - 15), (4, 0), (0, 0)],
    let r := padTo 256 ([0x41#8] ++ leBytes 15 0 ++ leBytes 4 x.1 ++ leBytes 4 x.2 ++ leBytes 8 4096 ++ leBytes 4 16)
    let u := ((ordered trusting r).checks false).1
    ((ordered trusting r).checks false).2 = mOK ∧ isCmd 0x41 r = true ∧ u.sec.record.length = 64 ∧ u.flashWindow = true
      ∧ ctlBad u.sec.record (regionMark x.1).1 (regionMark x.1).2 = false
      ∧ (decide (4 ≤ leAt r 16 1 ∨ regionSize (leAt r 16 1) < leAt r 20 4 + leAt r 32 4 ∨ (u.mode ≠ moRECOVERY ∧ u.regionInUse (leAt r 16 1) = true))
        = decide (x.1 ≠ 1 ∨ x.2 ≠ 0x1800000 - 16)) := by decide +kernel
theorem witness_Firmware_settings : let s := { trusting with flash := placed (setAddr 0) setHead }
    let r := recordB 9 [0]
    sound s r = true ∧ isCmd 9 r = true ∧ (passed s r).blobUsable 0 = true ∧ (passed trusting r).blobUsable 1 = false := by decide +kernel
theorem witness_Firmware_provision : let r := padTo 256 [0x42#8]
    let s := { trusting with fuses := { trusting.fuses with provisioned := false }, mbBoard := { MbSt.init with started := r }, mbOrder := [true] }
    (s.checks true).2 = mOK ∧ isCmd 0x42 r = true ∧ s.mbOrder.head? = some true ∧ (s.checks true).1.sec.record.length = 64 ∧ (s.checks true).1.flashWindow = true := by
  decide +kernel

theorem witness_Tenants_assign : ∀ x ∈ [(0, 5), (3, 0), (3, 0xFFFE), (4, 5), (1, 5)],
    let s := { trusting with parts := [(1, ⟨1, 5⟩), (2, ⟨2, 0⟩)] }
    let r := recordB 8 (leBytes 2 x.1 ++ leBytes 2 x.2)
    let u := passed s r
    sound s r = true ∧ isCmd 8 r = true ∧ leAt r 16 1 = x.1 ∧ leAt r 18 2 = x.2 ∧ (u.part 2).st = 2 ∧ (u.part 1).st = 1 ∧ (u.part 3).st = 0
      ∧ u.tenantElsewhere 0 5 = true ∧ u.tenantElsewhere 3 0xFFFE = false := by decide +kernel
/-- An assignment that waits for its key at a site, or whose key is at every one; and the sites that mirror one, or none. -/
theorem witness_Tenants_waits : ∀ b ∈ [true, false], let r := recordB 8 (leBytes 2 0 ++ leBytes 2 5)
    let s := ordered { trusting with sec := { trusting.sec with assign := some (0, 5) }
                                     sites := [(7, { SiteSt.init with sync := true, wt := [(.key (if b then 6 else 5) [7], 1)] })] } r
    s.sec.assign = some (0, 5) ∧ s.mbOrder.head? = some false ∧ isCmd 8 r = true ∧ s.keyMirrored 5 = b ∧ (s.site 7).mirrored = true
      ∧ (∀ k : Fin 8, (trusting.site k).mirrored = false) ∧ trusting.keyMirrored 5 = true ∧ trusting.sec.assign = none := by decide +kernel
theorem witness_Tenants_key : let s := { trusting with parts := [(1, ⟨1, 5⟩)] }
    tblGet [] ((passed s (recordB 8 [0, 0, 5, 0])).site 0).keys 5 ≠ s.unwrap labelCurt 5 (List.replicate 32 0) := by decide +kernel
theorem witness_Tenants_fence : ∀ b ∈ [0, 1], let r := recordB 6 (leBytes 8 (2 ^ 63) ++ leBytes 1 b)
    sound trusting r = true ∧ isCmd 6 r = true ∧ bit (leAt r 24 1) 0 = decide (b = 1) ∧ bit (leAt r 16 8) 63 = true := by decide +kernel
theorem witness_Tenants_curtain : ∀ x ∈ [(1, 0x40), (4, 0x7E), (0, 0x40), (5, 0x40), (1, 1), (1, 0x80)],
    let s := { trusting with links := [(0, upLink)]
                             sites := [(0, { SiteSt.init with keys := [(5, [7])] })] }
    let r := recordB 5 (leBytes 8 3 ++ leBytes 8 0 ++ leBytes 1 x.1 ++ leBytes 1 x.2 ++ leBytes 2 15 ++ leBytes 2 5)
    let u := passed s r
    sound s r = true ∧ isCmd 5 r = true ∧ leAt r 36 2 = 5 ∧ u.namedLinks (leAt r 16 8) (leAt r 24 8) = [0, 64] ∧ u.curtRefused 0 x.1 5 = false
      ∧ u.curtRefused 64 x.1 5 = true ∧ leAt r 32 1 = x.1 ∧ leAt r 33 1 = x.2 ∧ leAt r 34 1 = 15
      ∧ (decide (x.1 = 0 ∨ 4 < x.1 ∨ bit x.2 0 = true ∨ bit x.2 7 = true) = decide (x ≠ (1, 0x40) ∧ x ≠ (4, 0x7E))) := by decide +kernel

/-- The clause of a signed challenge has no witness here: the test key is a constant of Config without a value. -/
theorem witness_Test_unlock : let r := recordB 7 []
    sound trusting r = true ∧ isCmd 7 r = true ∧ (passed trusting r).sec.challenge = [] := by decide +kernel
theorem witness_Test_challenge : let r := padTo 256 [0x40#8]
    ((ordered trusting r).checks false).2 = mOK ∧ isCmd 0x40 r = true := by decide +kernel
theorem witness_Test_tap : ∀ b ∈ [true, false], let s := { up with sec := { up.sec with unlocked := b } }
    s.sec.unlocked = b ∧ Tap.other 0 ∉ [Tap.bypass, .idcode, .samplePreload, .extest] ∧ Tap.bypass ∈ [Tap.bypass, .idcode, .samplePreload, .extest] := by
  decide +kernel
theorem witness_Test_held : ∀ h ∈ [none, some (padTo 64 [1])], let s := { trusting with sec := { trusting.sec with held := h } }
    s.sec.held = h ∧ s.flashWindow = true ∧ up.flashWindow = false ∧ s.sec.unlocked = false ∧ s.prompterUp = true := by decide +kernel
theorem witness_Test_vector : ∀ b ∈ [true, false], let s := { up with pba := if b then [2047] else [] }
    s.pwr.inReset = false ∧ 1 ≤ s.pwr.step ∧ decide (2047 ∈ s.pba) = b := by decide +kernel
theorem witness_Test_ucie : ∀ x ∈ [1, 8], ∀ pll ∈ [[], [3]], let s := { up with pwr := { up.pwr with retraining := [x], pllHeld := pll } }
    x ∈ s.pwr.retraining ∧ s.keptDown x = (decide (x = 1) && decide (pll = [3])) ∧ (∀ p : Fin 4, s.relayOf p = []) ∧ s.chans = [] := by decide +kernel
theorem witness_Attestation : ∀ n ∈ [0, 1, 2, 3], let s := { up with sec := { SecSt.init with spdm := n } }
    s.prompterUp = true ∧ s.sec.spdm = n := by decide +kernel
theorem witness_Attestation_forms : up.prompterUp = true ∧ up.certChain.length < 1 + up.certChain.length ∧ (false && true) = false
    ∧ 5 < 6 ∧ 6 ≠ 0xFF := by decide +kernel
theorem witness_Attestation_chain : let s := { up with flash := [(0x20000, 2), (0x20001, 0), (0x20002, 1)] }
    s.certChain.length = 2 := by decide +kernel

end Sys2Proof.Tests
end

