-- ==== Sys2Proof/Tests/BringUp.lean ====
section
/-! SUPPORT. States that meet the hypotheses of the statements: each clause's, at the ends of its ranges. Bring-up, clocks, registers and the whole block. -/

namespace Sys2Proof.Tests

set_option Elab.async false

open Sys2Proof Sys2Proof.Machine

/-! ## Bring-up, clocks and registers -/

/-- What a boot without failures meets. -/
def okBoot : BootEnv := ⟨true, [], [], [], [], [], [], [], true, 0, none⟩
theorem witness_BringUp_held : ({ State.reset with pwr := { PwrSt.init with trip := true } }).mayBoot = false
    ∧ State.reset.mayBoot = true ∧ State.reset.sec.ctrl = [] ∧ State.reset.sec.held = none ∧ State.reset.sec.fw = [] ∧ State.reset.bootRecord = none := by
  decide +kernel
def booting (fs : FuseSt) : State := { State.reset with flash := imageFlash, fuses := fs }
theorem witness_BringUp_boots : let s := booting trusting.fuses
    s.mayBoot = true ∧ s.imageOk 0 = true ∧ s.sec.ctrl = [] ∧ s.sec.held = none ∧ s.sec.fw = [] ∧ s.bootRecord = some (ctlCopy.take 64, 0)
      ∧ ctlActive (ctlCopy.take 64) = 0 ∧ ctlBad (ctlCopy.take 64) 8 0 = false ∧ ∀ d : Fin 16, s.identOk d = true :=
  ⟨by decide +kernel, image_ok _ rfl rfl, by decide +kernel, by decide +kernel, by decide +kernel, by decide +kernel, by decide +kernel, by decide +kernel, by decide +kernel⟩
theorem witness_BringUp_noImage : let s := booting { FuseSt.shipped with revoke := 15 }
    s.bootRecord = some (ctlCopy.take 64, 0) ∧ s.imageOk 0 = false ∧ s.imageOk 1 = false := by decide +kernel
theorem witness_BringUp_reject : ({ State.reset with fuses := { FuseSt.shipped with ident := [(0, 0)] } }).identOk 0 = false := by decide +kernel
theorem witness_BringUp_start : ∀ h ∈ [none, some 0], ({ okBoot with hang := h }).hang = h ∧ State.reset.pwr.step = 0 ∧ okBoot.partFail = [] ∧ okBoot.siteFail = []
    ∧ (∃ k, k < 8 ∧ (State.reset.site k).status < 2 ∧ (State.reset.part (k / 2)).st ≠ 3) ∧ ∀ b ∈ [true, false], ({ okBoot with romOk := b }).romOk = b := by
  intro h hh
  exact ⟨rfl, rfl, rfl, rfl, ⟨0, by decide, by decide +kernel, by decide +kernel⟩, fun b _ => rfl⟩
/-- A device all of whose sites have settled before: in use, FAILED, or with their partition FAILED. -/
theorem witness_BringUp_settled : let s := { booting trusting.fuses with
      sites := (List.range 8).map (fun k => (k, { SiteSt.init with status := if k < 4 then 2 else 3 })) }
    ∀ k : Fin 8, 2 ≤ (s.site k).status ∨ (s.part (k / 2)).st = 3 := by decide +kernel
/-- A step under way, from the control clock's lock to step 8. -/
theorem witness_StepTimeout : ∀ n ∈ [0, 1, 2, 3, 6, 7, 8], let s := { up with pwr := { up.pwr with inReset := n == 0, step := n - 1, boot := some (okBoot, n == 3) } }
    s.pwr.boot = some (okBoot, n == 3) ∧ s.pwr.inReset = decide (n = 0) ∧ (n = 0 ∨ n = s.pwr.step + 1) ∧ n ≤ 8 ∧ (n = 3 → (okBoot, n == 3).2 = true)
      ∧ up.pwr.boot = none := by decide +kernel

/-- A descriptor of a DL8 at site 7, with its generation, speed mask and CHECK. -/
def descOf (gen mask serial : Nat) : List Byte :=
  let b := padTo 28 ([1, 3, BitVec.ofNat 8 gen, 8, 18, BitVec.ofNat 8 mask, 15, 0, 0x21, 8] ++ leBytes 4 serial ++ [7, 0, 9, 0, 0, 0])
  b ++ leBytes 4 (crc32 b)
/-- Step 3 waits for the chiplets; the sites but for site 7 as given. -/
def exchanging (st : Nat) (x : SiteSt) : State :=
  { up with pwr := { up.pwr with step := 2, boot := some (okBoot, true) }
            sites := (List.range 7).map (fun k => (k, { SiteSt.init with status := st })) ++ [(7, x)] }
theorem witness_Chiplets_waits : ∀ n ∈ [0, 1], let s := exchanging 2 { SiteSt.init with checkFails := n }
    s.exchangeOpen = true ∧ (s.site 7).status = 0 ∧ (s.part (7 / 2)).st ≠ 3 ∧ (s.site 7).checkFails = n ∧ up.exchangeOpen = false
      ∧ s.pwr.boot = some (okBoot, true) ∧ okBoot.hang = none := by decide +kernel
theorem witness_Chiplets_others : ∀ st ∈ [1, 2], let s := exchanging st { SiteSt.init with status := 1, sel := [1] }
    (s.site 7).status = 1 ∧ ((List.range 7).any (fun j => decide ((s.site j).status < 2) && decide ((s.part (j / 2)).st ≠ 3))) = decide (st = 1) := by
  decide +kernel
theorem witness_Chiplets_descriptor : ∀ x ∈ [(1, 7, 0), (1, 0, 0), (1, 7, 1)], let d := descOf x.1 x.2.1 x.2.2
    d.length = 32 ∧ (leAt d 3 1 = 0 ∨ bits (leAt d 5 1) 2 0 = 0 ∨ leAt d 4 1 < 4 ↔ x.2.1 = 0) ∧ leAt d 28 4 = crc32 (d.take 28) ∧ leAt (d.set 3 0) 28 4 ≠ crc32 ((d.set 3 0).take 28) ∧ descRefused d = decide (x.2.1 = 0)
      ∧ up.descIdent 7 d = decide (x.2.2 = 0) ∧ up.licenceOk d [] = true := by decide +kernel
/-- A licence of zeros has R = 0, which no key verifies. -/
theorem witness_Chiplets_licence : up.licenceOk (descOf 15 7 0) [] = false := by
  have h1 : decide (leAt (descOf 15 7 0) 2 1 < 8) = false := by decide +kernel
  have h2 : decide (1 ≤ beOf (slice ([] : List Byte) 0 48)) = false := by decide +kernel
  unfold State.licenceOk ecdsaOk
  simp only [h1, h2, Bool.and_false, Bool.false_and, Bool.not_false, Bool.false_or, if_true]
theorem witness_Chiplets_echo : ∀ st ∈ [0, 1, 2], ({ up with sites := [(7, { SiteSt.init with status := st, sel := [1] })] }.site 7).status = st
    ∧ ({ up with sites := [(7, { SiteSt.init with status := st, sel := [1] })] }.site 7).sel ≠ [2] := by decide +kernel

theorem witness_Clocks : ∀ b ∈ [true, false], ∀ f ∈ [true, false], let s := { up with pwr := { up.pwr with pwrgd := b, refLost := b, clockFatal := f } }
    s.pwr.pwrgd = b ∧ s.prompterUp = true ∧ s.pwr.refLost = b ∧ s.pwr.clockFatal = f ∧ s.pwr.trip = false ∧ 0 ∉ s.pwr.pllHeld := by decide +kernel
theorem witness_Clocks_linksDown : ∀ port ∈ portsOf 0, ∀ l ∈ up.linksOf port, (up.link l).state = lDOWN := by decide +kernel

theorem witness_Accesses_closed : State.reset.placeOpen true (State.reset.place 0x1000) = false ∧ State.reset.placeOpen false (State.reset.place 0x1000) = false
    ∧ State.reset.pageOpen .prompt 0 true = false ∧ up.pageOpen .prompt 0 true = true := by decide +kernel
theorem witness_Accesses_pages : ∀ x ∈ [(PageKind.prompt, 0, 0x40), (.sec, 0, 0x40), (.clu, 47, 0xFFC)],
    up.place (pageBase x.1 x.2.1 + x.2.2) = .page x.1 x.2.1 x.2.2 ∧ up.pageOpen x.1 x.2.1 true = true ∧ up.pageOpen x.1 x.2.1 false = true
      ∧ (pageBase x.1 x.2.1 + x.2.2) % 4 = 0 := by decide +kernel
theorem witness_Accesses_board : up.boardReach (aTsu + 1) = false ∧ up.boardReach aMsix = false ∧ (∀ a ∈ [aDev + 4, aPrompt, aTsu, aThm, aSec + 4], up.boardReach a = true ∧ a < aMb)
    ∧ up.boardReach (aMb + rCMDMB_BAD_TAG) = true ∧ aMb ≤ aMb + rCMDMB_BAD_TAG ∧ Path.i3c ≠ .host ∧ State.reset.boardReach aThm = false := by decide +kernel
/-- The places beside the pages: an object's value and its meta word, the vector table and the pending bits. -/
theorem witness_Accesses_places : up.place (0x1000000 + 0x800000 * 3 + 0x100000 + 8 * 65535 + 4) = .obj 3 65535 true
    ∧ up.place (0x1000000 + 0x100000) = .obj 0 0 false ∧ up.place (aMsix + 4 * 3) = .msix 3 ∧ up.place (aMsix + 4 * 8190) = .msix 8190 ∧ up.place (aPba + 0xFC) = .pba 63
    ∧ ∀ a ∈ [0x1000000 + 0x100000, aMsix + 4 * 3, aPba], up.placeOpen true (up.place a) = true ∧ a % 4 = 0 := by decide +kernel
/-- Registers that are fixed while their unit runs: of a channel, a core and the device limit. -/
theorem witness_Accesses_fixed : ∀ b ∈ [true, false],
    let s := { owned with chans := [(767, { ChanSt.init with st := if b then hIDLE else hDISABLED })], cores := [(2303, { CoreSt.init with st := if b then cRUNNING else cHALTED })]
                          pwr := { up.pwr with step := if b then 7 else 6 } }
    decide ((s.chan 767).st = hDISABLED) = !b ∧ decide ((s.core 2303).st = cHALTED) = !b ∧ decide (s.pwr.step < 7) = !b
      ∧ s.place (pageBase .dma 767 + rDMA_RING_SIZE) = .page .dma 767 rDMA_RING_SIZE ∧ s.place (pageBase .core 2303 + rCORE_QSIZE) = .page .core 2303 rCORE_QSIZE
      ∧ s.place (pageBase .thm 0 + rTHM_DEV_LIMIT) = .page .thm 0 rTHM_DEV_LIMIT ∧ 0x40 ≤ rTHM_DEV_LIMIT
      ∧ s.placeOpen true (.page .dma 767 rDMA_RING_SIZE) = true ∧ s.placeOpen true (.page .core 2303 rCORE_QSIZE) = true := by decide +kernel
/-- Each command register of a device that is up answers at its place; one bit, none, or two. -/
theorem witness_Accesses_commands : (∀ x ∈ wholeWrites 0 0#32, up.place (pageBase x.1 0 + x.2.1) = .page x.1 0 x.2.1 ∧ up.placeOpen true (.page x.1 0 x.2.1) = true)
    ∧ (∀ x ∈ bitWrites up 0, up.place (pageBase x.1 0 + x.2.1) = .page x.1 0 x.2.1 ∧ up.placeOpen true (.page x.1 0 x.2.1) = true
      ∧ rb (1#32 <<< x.2.2.1) x.2.2.1 = true
      ∧ (∀ y ∈ bitWrites up 0, y.1 = x.1 → y.2.1 = x.2.1 → y.2.2.1 ≠ x.2.2.1 → rb (1#32 <<< x.2.2.1) y.2.2.1 = false)) := by decide +kernel
theorem witness_Accesses_resets : ∀ n ∈ [0, 1, 2, 3], let v := BitVec.ofNat 32 (n * 2 ^ 30 + 11 * 2 ^ 8 + 47)
    rf v 11 8 < 12 ∧ rf v 31 30 = n ∧ rf v 5 0 < 48 ∧ up.place (pageBase .part 3 + rPART_RESET_CTL) = .page .part 3 rPART_RESET_CTL := by decide +kernel
theorem witness_Accesses_ports : up.place (pageBase .oio 7 + (0x100 + 0x40 * 7 + rOIOPORT_CTL)) = .page .oio 7 (0x100 + 0x40 * 7 + rOIOPORT_CTL)
    ∧ rb (0x80000000#32) 31 = true ∧ rb (0x7FFFFFFF#32) 31 = false ∧ up.pageOpen .oio 7 true = true := by decide +kernel
theorem witness_Accesses_mailbox : ∀ busy ∈ [true, false], ∀ c ∈ [8, 0],
    let s := { up with mbHost := { MbSt.init with busy := busy, buf := padTo 256 [BitVec.ofNat 8 c] } }
    s.pageOpen .cmdmb 0 true = true ∧ onBoard .host = false ∧ onBoard .i3c = true ∧ (s.mb false).busy = busy ∧ s.mbOrder = []
      ∧ cmdDefined (leAt (s.mb false).buf 0 1) = decide (c = 8) ∧ bit (leOf (leBytes 4 1)) 0 = true := by decide +kernel
theorem witness_Accesses_reads : ∀ off ∈ [rOIO_HS_FOREIGN, rOIO_HS_CUE_BAD], up.place (aOio 7 + off) = .page .oio 7 off ∧ up.pageOpen .oio 7 false = true
    ∧ up.place 0x6000 = .nothing ∧ up.place (aTsu + rTSU_GTS_LO) = .page .tsu 0 rTSU_GTS_LO := by decide +kernel
theorem witness_Header : up.pageOpen .tsu 0 false = true ∧ aTsu % 4096 = 0 ∧ up.place aTsu = .page .tsu 0 0 ∧ State.reset.pageOpen .tsu 0 true = false
    ∧ up.pageOpen .tsu 0 true = true ∧ (∀ off ∈ [rHDR_EVT_EN, rHDR_PAGE_CTL], up.place (aTsu + off) = .page .tsu 0 off ∧ (aTsu + off) % 4 = 0)
    ∧ (1#32 &&& (rowAt .tsu rHDR_EVT_STAT).w1c) ≠ 0 ∧ (0#32 &&& (rowAt .tsu rHDR_EVT_STAT).w1c) = 0 := by decide +kernel

theorem witness_Header_enables : up.place (aDev + rDEV_FAB_EVT_EN) = .page .dev 0 rDEV_FAB_EVT_EN
    ∧ (let off := 0x300 + 0x80 * 7 + rOIOLINK_LNK_EVT_EN
      up.place (aOio 7 + off) = .page .oio 7 off ∧ 0x300 ≤ off ∧ off < 0x700 ∧ off % 0x80 = rOIOLINK_LNK_EVT_EN ∧ (aOio 7 + off) % 4 = 0)
    ∧ up.pageOpen .oio 7 true = true ∧ (∀ b ∈ [0, 1], rb (BitVec.ofNat 32 b : W32) 0 = decide (b = 1)) := by decide +kernel
theorem witness_Step_queue : ({ up with pending := [.lockoutEnd, .challengeExpiry] }).pending = .lockoutEnd :: [.challengeExpiry] ∧ up.pending = []
    ∧ up.clocked = true ∧ State.reset.clocked = false ∧ up.tsu.gts / 16000 = (up.tsu.acc + up.tsu.inc) / 2 ^ 40 / 16000 := by decide +kernel
theorem witness_Frame : ∀ a, Instr.lockoutEnd = .eccWriteback a → addrExists a = true := by intro a h; cases h
theorem witness_Canonical : Memory.wf up = true ∧ ∃ t, step { up with pending := [.lockoutEnd] } = .next t := ⟨by decide +kernel, _, rfl⟩
theorem witness_Flits : toMe.wf = true ∧ toMe.body.length < 2 ^ 20 ∧ ([] : List Byte).length ≤ 240 ∧ (List.replicate 240 1#8).length ≤ 240 := by decide +kernel

end Sys2Proof.Tests
end

