-- ==== Sys2Proof/Tests/CoreMemory.lean ====
section
/-! SUPPORT. States that meet the hypotheses of the statements: each clause's, at the ends of its ranges. Cores, memory and Usher. -/

namespace Sys2Proof.Tests

set_option Elab.async false

open Sys2Proof Sys2Proof.Machine

/-! ## Core -/

theorem witness_SequencerCommands_halted : up.pageOpen .core 2303 true = true ∧ (up.core 2303).st = cHALTED
    ∧ (up.core 2303).qhead % up.qSlots 2303 = up.qTail 2303 ∧ (up.box 3).notices = [] ∧ up.tailSrc 2303 = false := by decide +kernel

def running : State := withCore { CoreSt.init with st := cRUNNING }

theorem witness_SequencerCommands_running : running.pageOpen .core 0 true = true ∧ (running.core 0).st = cRUNNING
    ∧ (∀ f ∈ (running.core 0).flight, f.unacted = false ∧ f.waits = false)
    ∧ (running.setFld (aCore 0 + rCORE_QCTL) 0 0 1).tailSrc 0 = true := by decide +kernel

def dotNext : State :=
  withCore { CoreSt.init with st := cRUNNING, held := 8, fetched := [⟨0, recOf [1,0,0,0, 0x40,0,8,0, 0xC0,0,0,0, 0x88], false⟩] }

theorem witness_ComputingRecords_matmul : ∃ x, RecordNext 0x01 dotNext x := recordNext_of_readyRec (by decide +kernel)
theorem witness_ComputingRecords_vecop : ∃ x, RecordNext 0x02 (nextIs [2,0,0,0, 0,0, 0,0, 0,0, 0,4, 0,5]) x :=
  recordNext_of_readyRec (by decide +kernel)
theorem witness_ComputingRecords_softmaxStream : ∃ x, RecordNext 0x03 (nextIs [3,0,0,0, 0,4, 0,5, 0,6]) x :=
  recordNext_of_readyRec (by decide +kernel)
theorem witness_ComputingRecords_convert : ∃ x, RecordNext 0x04 (nextIs [4,0,0,0, 0,4, 0,5, 0,6, 0x68]) x :=
  recordNext_of_readyRec (by decide +kernel)
theorem witness_ComputingRecords_xaSpill : ∃ x, RecordNext 0x05 (nextIs [5,0,0,0, 0,1]) x := recordNext_of_readyRec (by decide +kernel)
theorem witness_ComputingRecords_xaFill : ∃ x, RecordNext 0x06 (nextIs [6,0,0,0, 0,1]) x := recordNext_of_readyRec (by decide +kernel)

def copyNext (op : Byte) : State := withHandle (nextIs ([op,0,0,0, 7,0,0,0, 0,0,0,0,0,0, 0,0, 16,0,0,0, 0,0,0,0, 0,1])) 0 7 (oneShard 0 100)

theorem witness_LoadAndStore : (∃ x, RecordNext 0x07 (copyNext 7) x) ∧ (∃ x, RecordNext 0x08 (copyNext 8) x)
    ∧ (copyNext 7).handle 0 7 = some (oneShard 0 100)
    ∧ (∀ op ∈ [7#8, 8#8], (copyNext op).rowsCheck 0 (copyOf (recOf [op,0,0,0, 7,0,0,0, 0,0,0,0,0,0, 0,0, 16,0,0,0, 0,0,0,0, 0,1])) = stOK) :=
  ⟨recordNext_of_readyRec (by decide +kernel), recordNext_of_readyRec (by decide +kernel), by decide +kernel, by decide +kernel⟩

theorem witness_WaitingRecords_wait : ∃ x, RecordNext 0x0A (nextIs [0xA,0,0,0, 3,0,0,0, 1]) x := recordNext_of_readyRec (by decide +kernel)
theorem witness_WaitingRecords_ticket : ∃ x, RecordNext 0x0B (nextIs [0xB,0,0,0, 8]) x := recordNext_of_readyRec (by decide +kernel)
theorem witness_WaitingRecords_cueWait : ∃ x, RecordNext 0x0D (nextIs [0xD,0,0,0, 0]) x := recordNext_of_readyRec (by decide +kernel)

theorem witness_ActingRecords_signal : (∃ x, RecordNext 0x09 (nextIs [9,0,0,0, 3,0, 0,0, 0,0,0,0, 5]) x)
    ∧ (signalOf (recOf [9,0,0,0, 3,0, 0,0, 0,0,0,0, 5])).remote = false := ⟨recordNext_of_readyRec (by decide +kernel), by decide +kernel⟩
theorem witness_ActingRecords_ret : (∃ x, RecordNext 0x0C (nextIs [0xC,0,0,0, 0]) x)
    ∧ ((nextIs [0xC,0,0,0, 0]).core 0).back = 0 := ⟨recordNext_of_readyRec (by decide +kernel), by decide +kernel⟩
theorem witness_ActingRecords_fence : ∃ x, RecordNext 0x0E (nextIs [0xE,0,0,0, 15]) x := recordNext_of_readyRec (by decide +kernel)
theorem witness_ActingRecords_endRec : (∃ x, RecordNext 0x0F (nextIs [0xF,0,0,0, 1]) x)
    ∧ recWB (recOf [0xF,0,0,0, 1]) = false ∧ recIRQ (recOf [0xF,0,0,0, 1]) = false := ⟨recordNext_of_readyRec (by decide +kernel), by decide +kernel⟩

/-- A record in flight that has issued with OK. -/
def flying (idx : Nat) (l : List Byte) (acted : Bool) : Flight := ⟨⟨idx, recOf l, false⟩, false, acted, stOK, 0, false, 0, [], [], [], 0, false, []⟩
def inAir (st : Nat) (fs : List Flight) : State := withCore { CoreSt.init with st := st, flight := fs }

theorem witness_RecordsEnd_recordComplete :
    let f := flying 15 [2] false
    let s := inAir cRUNNING [f]
    s.ecc = [] ∧ (∀ g ∈ (s.core 0).flight, g.unacted = false) ∧ s.flightAt 0 15 = some f ∧ f.code = stOK ∧ s.ready 0 f = true
      ∧ (s.core 0).st = cRUNNING := by decide +kernel
/-- A TICKET behind the record that completes: it has asked, or asks now. -/
theorem witness_RecordsEnd_completeThenAsk : ∀ b : Bool,
    let f := flying 0 [2] false
    let g := { flying 1 [0xB,0,0,0, 8] false with asked := b }
    let s := inAir cRUNNING [f, g]
    s.ecc = [] ∧ (s.core 0).quiet ∧ s.flightAt 0 0 = some f ∧ s.ready 0 f = true ∧ g.acted = false ∧ g.code = stOK
      ∧ [{ f with done := true }, g].find? (fun g => recOp g.slot.bytes == 0x0B && !g.done) = some g
      ∧ (∀ e ∈ (s.box 0).queue, e.core ≠ 0) := by
  intro b; cases b <;> exact ⟨by decide +kernel, by unfold CoreSt.quiet; decide +kernel, by decide +kernel, by decide +kernel, by decide +kernel,
    by decide +kernel, by decide +kernel, by decide +kernel⟩
theorem witness_RecordsEnd_coreHalt : let s := inAir cDRAINING [{ flying 0 [2] false with done := true }]
    (s.core 0).st = cDRAINING ∧ ∀ f ∈ (s.core 0).flight, f.done = true ∧ f.unacted = false := by decide +kernel
theorem witness_RecordsEnd_cueWaitTarget :
    let f := flying 3 [0xD] false
    let s := inAir cRUNNING [f]
    (s.core 0).flight.find? (fun f => recOp f.slot.bytes == 0x0D && f.waits && decide (leAt f.slot.bytes 4 8 ≤ s.tsu.gts)) = some f
      ∧ (∀ g ∈ (s.core 0).flight, g.slot.idx = f.slot.idx → g = f) ∧ ∀ g ∈ (s.core 0).flight, g.unacted = false := by decide +kernel
theorem witness_RecordsEnd_ticketTimeout :
    let f := flying 3 [0xB,0,0,0, 1,0,0,0, 1] false
    let s := { inAir cRUNNING [f] with ctrlClk := 1000 }
    let early := { s with ctrlClk := 999 }
    (s.core 0).flight.find? (fun f => recOp f.slot.bytes == 0x0B && f.waits && s.ticketLate f) = some f ∧ (s.core 0).fault = none
      ∧ (∀ g ∈ (early.core 0).flight, early.ticketLate g = false)
      ∧ (∀ g ∈ (s.core 0).flight, recOp g.slot.bytes = 0x0B → g.done = true ∨ g.asked = true ∨ g = f)
      ∧ (∀ g ∈ (s.core 0).after f.slot.idx, g.waits = false) ∧ ∀ g ∈ (s.core 0).flight, g.slot.idx = f.slot.idx → g = f := by decide +kernel
theorem witness_RecordsEnd_waitTimeout :
    let f := flying 3 [0xA,0,0,0, 3,0,0,0, 1] false
    let w : Waiter := ⟨0, 3, false, 1, 1000, 0, false⟩
    let s := { inAir cRUNNING [f] with syncs := [(0, { SynSt.init with waiters := [w] })] }
    s.waiterOf 0 0 = some w ∧ w.met = false ∧ (s.core 0).fault = none
      ∧ (s.core 0).flight.find? (fun f => recOp f.slot.bytes == 0x0A && f.waits) = some f := by decide +kernel
theorem witness_RecordsEnd_withdrawNotice :
    let s := { withCore { CoreSt.init with st := cRUNNING, held := 2 } with boxes := [(0, { BoxSt.init with notices := [(0, 2)] })] }
    (((s.box (partOfCore 0)).notices.filter (fun x => x.1 == 0)).map Prod.snd).sum ≠ 0 := by decide +kernel

/-! ## Memory and Usher -/

theorem witness_MemoryDie_eccWriteback : addrExists (2 ^ 33 + 2304 * 2 ^ 18) = false ∧ addrExists (2 ^ 33 + 2304 * 2 ^ 18 - 1) = true
    ∧ addrExists 0 = true := by decide +kernel
theorem witness_MemoryDie_scrubLine :
    let s := up.setFld (aClu 47 + rCLU_SCRUB_CTL) 31 31 1
    rb (s.reg (aClu 47 + rCLU_SCRUB_CTL)) 31 = true ∧ (s.clu 47).scrubLine + 1 < 2 ^ 21
      ∧ (∀ i, i < 8 → s.health (sliceAddr 3 11 0 / 8 + i) = .ok) := by decide +kernel
theorem witness_MemoryDie_scrubOff : ∀ c ∈ [0, 47], let s := up.setFld (aClu c + rCLU_SCRUB_CTL) 31 31 0
    rb (s.reg (aClu c + rCLU_SCRUB_CTL)) 31 = false := by decide +kernel
theorem witness_MemoryDie_repairDone : ({ up with clus := [(47, { CluSt.init with repairing := [9] })] }.clu 47).repairing = 9 :: [] := by decide



theorem witness_CreateAndDestroy_create :
    let r := reqIs 1 65535 0 (desc1 true)
    let s := asks r UshSt.init
    let d := slice r.entry 16 32
    s.reqFor 0 0x01 = some r ∧ (s.part 0).st = 1 ∧ (s.usher 0).hold = false ∧ entHandle r.entry < 2 ^ (s.usher 0).htLog2
      ∧ s.handle 0 65535 = none ∧ entReserved r.entry = false ∧ descOk d (s.usher 0).usable = true
      ∧ (s.usher 0).shardsUsed + (handleOf d 0).shards.length ≤ 2 ^ (s.usher 0).smLog2 ∧ bit (leAt d 6 1) 6 = true
      ∧ (placeAll (s.usher 0).usedMap [(none, 1)]).isSome = true := by decide +kernel
theorem witness_CreateAndDestroy_createPartner :
    let r := reqIs 1 7 7 (desc1 false)
    let s := ((asks r UshSt.init).setFld (aUsh 0 + rUSH_PARTNER_A) 31 31 1).setReg (aUsh 0 + rUSH_PARTNER_B) 4
    let d := slice r.entry 16 32
    s.reqFor 0 0x01 = some r ∧ descOk d (s.usher 0).usable = true ∧ bit (leAt d 6 1) 6 = false ∧ entReserved r.entry = false
      ∧ (s.partnerAll 0 (s.partnerMap 0) [1]).isSome = true := by decide +kernel

/-- A request about handle 7, which is resident in cluster 0. -/
def asks7 (r : UshReq) (h : HandleSt) : State := asks r { UshSt.init with handles := [(7, some h)], windows := [(1023, some (7, 0))] }

theorem witness_CreateAndDestroy_destroy :
    let r := reqIs 2 7 0 []
    ∀ b : Bool, let h := { oneShard 0 100 with pinned := b }
      let s := asks7 r h
      s.reqFor 0 0x02 = some r ∧ entReserved r.entry = false ∧ s.handle 0 (entHandle r.entry) = some h ∧ h.ctx = entCtx r.entry
        ∧ h.pinned = b := by decide +kernel
/-- A running STORE whose bytes of the handle have not all moved. -/
theorem witness_CreateAndDestroy_destroyWaits :
    let r := reqIs 2 7 0 []
    let s := { asks7 r (oneShard 0 100) with cores := [(575, { CoreSt.init with flight := [{ flying 0 [8] false with hand := [(7, 0, 16, true)] }] })] }
    s.reqFor 0 0x02 = some r ∧ s.handle 0 7 = some (oneShard 0 100) ∧ s.inUse 0 7 = true ∧ s.inUse 0 6 = false ∧ s.inUse 1 7 = false := by
  decide +kernel
/-- The requests that end with a code: the handle ID at and below 2^HT_LOG2, reserved bits, a hold, no handle, another context. -/
theorem witness_PinsAndWindows_refused : ∀ op ∈ [3, 4, 5],
    let s := fun (hid ctx flags : Nat) => asks7 (reqIs op hid ctx (leBytes 2 flags)) { oneShard 0 100 with pinned := op == 4 }
    let far := 2 ^ ((s 0 0 0).usher 0).htLog2
    (s far 0 0).reqFor 0 op = some (reqIs op far 0 (leBytes 2 0)) ∧ entHandle (reqIs op far 0 (leBytes 2 0)).entry = far
      ∧ (s (far - 1) 0 0).reqFor 0 op = some (reqIs op (far - 1) 0 (leBytes 2 0)) ∧ (s (far - 1) 0 0).handle 0 (far - 1) = none
      ∧ entCtx (reqIs op 7 1 (leBytes 2 0)).entry = 1 ∧ entReserved (reqIs op 7 8 (leBytes 2 0)).entry = true
      ∧ (s 7 1 0).reqFor 0 op = some (reqIs op 7 1 (leBytes 2 0)) ∧ (s 7 1 0).handle 0 7 = some { oneShard 0 100 with pinned := op == 4 } := by
  decide +kernel
theorem witness_PinsAndWindows_pinEnds :
    let s := fun (arg : Byte) (h : HandleSt) => asks7 (reqIs 3 7 0 [arg]) h
    let away := { oneShard 0 100 with resident := false }
    let moves := { oneShard 0 100 with shards := [{ shardAt 0 100 with move := some ⟨11, 200, 0, [], false⟩ }] }
    (s 0 away).handle 0 7 = some away ∧ away.resident = false ∧ moves.moving = true ∧ bit (leAt (reqIs 3 7 0 [0x1C]).entry 16 1) 4 = true
      ∧ bits (leAt (reqIs 3 7 0 [0x1C]).entry 16 1) 3 0 = 12 ∧ (s 0 moves).reqFor 0 0x03 = some (reqIs 3 7 0 [0])
      ∧ placeAll ((List.replicate 12 [(0, slicePages)]).set 11 [(0, slicePages)]) [(some 11, 1)] = none := by decide +kernel
theorem witness_PinsAndWindows_mapEnds :
    let s := asks7 (reqIs 5 7 0 (leBytes 2 1023 ++ [1])) (oneShard 0 100)
    let r := reqIs 5 7 0 (leBytes 2 1024)
    let far := reqIs 5 7 0 (leBytes 2 0 ++ [0, 0] ++ leBytes 4 0 ++ leBytes 8 65536)
    1023 < leAt r.entry 16 2 ∧ (tblGet none (s.usher 0).windows 1022).map Prod.fst ≠ some 7 ∧ leAt far.entry 24 8 = (oneShard 0 100).size
      ∧ leAt far.entry 24 8 % pageBytes = 0 ∧ far.entry.length = 64 ∧ leAt (reqIs 5 7 0 (leBytes 2 0 ++ [0, 0] ++ leBytes 4 0 ++ leBytes 8 1)).entry 24 8 % pageBytes ≠ 0 := by
  decide +kernel
theorem witness_noRequest : ∀ op : Fin 256, owned.reqFor 3 op = none := by decide +kernel
theorem witness_PinsAndWindows_pin :
    ∀ arg : Fin 32, arg.1 < 28 →
      let r := reqIs 3 7 0 [BitVec.ofNat 8 arg]
      let h := oneShard 0 100
      let s := asks7 r h
      s.reqFor 0 0x03 = some r ∧ entReserved r.entry = false ∧ s.handle 0 7 = some h ∧ h.ctx = entCtx r.entry ∧ (s.usher 0).hold = false
        ∧ h.resident = true ∧ h.moving = false := by decide +kernel
theorem witness_PinsAndWindows_pinMoves :
    let r := reqIs 3 7 0 [0x1B]
    let h := oneShard 0 100
    let s := asks7 r h
    bit (leAt r.entry 16 1) 4 = true ∧ bits (leAt r.entry 16 1) 3 0 = 11
      ∧ (h.shards.zipIdx.filter (fun x => match x.1.loc with | some l => l.1 != 11 | none => false)) ≠ []
      ∧ (placeAll ((List.replicate 12 [(0, slicePages)]).set 11 ((s.usher 0).usedIn 11)) [(some 11, h.shardPages 0)]).isSome = true := by
  decide +kernel
theorem witness_PinsAndWindows_unpin :
    let r := reqIs 4 7 0 []
    let h := { oneShard 0 100 with pinned := true }
    (asks7 r h).reqFor 0 0x04 = some r ∧ (asks7 r h).handle 0 7 = some h ∧ entReserved r.entry = false ∧ h.pinned = true := by decide +kernel
theorem witness_PinsAndWindows_map :
    let r := reqIs 5 7 0 (leBytes 2 1023)
    let h := oneShard 0 100
    (asks7 r h).reqFor 0 0x05 = some r ∧ leAt r.entry 16 2 ≤ 1023 ∧ bit (leAt r.entry 18 1) 0 = false ∧ leAt r.entry 24 8 % pageBytes = 0
      ∧ leAt r.entry 24 8 < h.size ∧ entReserved r.entry = false := by decide +kernel
theorem witness_PinsAndWindows_unmap :
    let r := reqIs 5 7 0 (leBytes 2 1023 ++ [1])
    let s := asks7 r (oneShard 0 100)
    s.reqFor 0 0x05 = some r ∧ bit (leAt r.entry 18 1) 0 = true ∧ entReserved r.entry = false
      ∧ tblGet none (s.usher 0).windows 1023 = some (7, 0) := by decide +kernel

theorem witness_Placement_reqTailWrite : owned.pageOpen .ush 3 true = true ∧ ((asks (reqIs 6 0 0 []) UshSt.init).usher 0).req.isSome = true := by
  decide +kernel
theorem witness_Placement_requests : ∀ op ∈ [6, 7, 8], let r := reqIs op 0 0 []
    let s := (asks r UshSt.init).setFld (aUsh 0 + rUSH_MIG_CTL) 31 31 0
    s.reqFor 0 op = some r ∧ entReserved r.entry = false ∧ (s.usher 0).hold = false ∧ rb (s.reg (aUsh 0 + rUSH_MIG_CTL)) 31 = false := by
  decide +kernel

/-- Handle 7 whose shard moves to page 200 of cluster 11. -/
def moving (round : Nat) (dirty : List Nat) (pin : Bool) : HandleSt :=
  { oneShard 0 100 with shards := [{ shardAt 0 100 with move := some ⟨11, 200, round, dirty, pin⟩ }] }

theorem witness_Placement_migrateCommits :
    let h := moving 0 [] false
    let s := withHandle owned 0 7 h
    s.handle 0 7 = some h ∧ (h.shard 0).move = some ⟨11, 200, 0, [], false⟩ ∧ (h.shard 0).loc = some (0, 100) ∧ 0 < h.shards.length
      ∧ (s.usher 0).req = none ∧ s.ecc = []
      ∧ shardAddr 0 (0, 100) 0 + h.shardLen 0 ≤ shardAddr 0 (11, 200) 0 := by decide +kernel
theorem witness_Placement_migrateRounds : ∀ x ∈ [(3, false), (9, true), (4, false)],
    let h := moving x.1 (List.range 65) x.2
    (withHandle owned 0 7 h).handle 0 7 = some h ∧ (h.shard 0).move = some ⟨11, 200, x.1, List.range 65, x.2⟩
      ∧ (x.2 = true ∨ x.1 < 4 ∨ (x.2 = false ∧ 4 ≤ x.1)) := by decide +kernel

theorem witness_Scenes_define :
    let r := reqIs 9 0 0 ([7, 0, 0, 0] ++ leBytes 4 1 ++ leBytes 8 4096)
    let s := asks r UshSt.init
    s.reqFor 0 0x09 = some r ∧ entReserved r.entry = false ∧ leAt r.entry 20 4 = 1
      ∧ (∀ h ∈ (List.range 1).map (fun i => leAt (s.hostRead (leAt r.entry 24 8) 4) (4 * i) 4), h < 2 ^ (s.usher 0).htLog2) := by decide +kernel
theorem witness_Scenes_swap : ∀ b : Bool, let r := reqIs 0x0A 0 0 [255]
    let h := oneShard 0 100
    let s := asks r { UshSt.init with handles := [(7, some h)], scenes := if b then [(255, some [7])] else [] }
    (s.usher 0).req = some r ∧ entOp r.entry = 0x0A ∧ r.phase ≠ 2 ∧ r.phase ≠ 4 ∧ s.reqMet 0 r = true ∧ entReserved r.entry = false
      ∧ (s.usher 0).hold = false ∧ tblGet none (s.usher 0).scenes (256 * entCtx r.entry + leAt r.entry 16 1) = (if b then some [7] else none)
      ∧ s.handle 0 7 = some h ∧ h.ctx = entCtx r.entry := by decide +kernel
theorem witness_Scenes_defineEnds : ∀ x ∈ [(0, [7, 0, 0, 0]), (65537, [7, 0, 0, 0]), (1, [7, 0, 0, 0])],
    let r := reqIs 9 0 0 (x.2 ++ leBytes 4 x.1 ++ leBytes 8 4096)
    let s := { asks r UshSt.init with host := [(4099, 0x80#8)] }
    s.reqFor 0 0x09 = some r ∧ leAt r.entry 20 4 = x.1
      ∧ (x.1 = 1 → ∃ h ∈ (List.range 1).map (fun i => leAt (s.hostRead (leAt r.entry 24 8) 4) (4 * i) 4), 2 ^ (s.usher 0).htLog2 ≤ h) := by
  decide +kernel
/-- A swap whose start condition is not met, with and without EARLY, and one whose out-set a record still uses. -/
theorem witness_Scenes_swapWaits : ∀ early : Byte, early.toNat < 2 →
    let r : UshReq := ⟨0, entry 0x0A 0 0 [255, early], true, 0⟩
    let s := asks r { UshSt.init with handles := [(7, some (oneShard 0 100))], scenes := [(255, some [7])] }
    s.reqMet 0 r = false ∧ bit (leAt r.entry 17 1) 0 = (early.toNat == 1) ∧ entReserved r.entry = false ∧ (s.usher 0).swap = none
      ∧ s.handle 0 7 = some (oneShard 0 100) := by decide +kernel
theorem witness_Scenes_swapDrains : ∀ busy : Bool,
    let r : UshReq := ⟨0, entry 0x0A 0 0 [255], false, 4⟩
    let w : SwapSt := ⟨0, 255, [7], [], 0, 0⟩
    let f := { flying 0 [8] false with hand := [(7, 0, 16, true)], done := !busy }
    let s := { asks r { UshSt.init with handles := [(7, some (oneShard 0 100))], swap := some w } with
      cores := [(0, { CoreSt.init with flight := [f] })] }
    (s.usher 0).req = some r ∧ (s.usher 0).swap = some w ∧ s.inUse 0 7 = busy := by decide +kernel
theorem witness_Scenes_idle : (owned.usher 0).swap = none ∧ (owned.usher 0).req = none ∧ owned.swapBusy 0 = false := by decide +kernel
theorem witness_Scenes_swapComplete : ∀ fail ∈ [0, uNOSPACE], let r := reqIs 0x0A 0 0 [255]
    let w : SwapSt := ⟨0, 255, [], [], 0, fail⟩
    let s := asks r { UshSt.init with swap := some w }
    (s.usher 0).swap = some w ∧ (s.usher 0).req = some r ∧ s.swapBusy 0 = false := by decide +kernel

theorem witness_Contexts_ctxInit : ∀ x ∈ [0, 7], let r := reqIs 0x0C 0 x []
    let s := asks r UshSt.init
    s.reqFor 0 0x0C = some r ∧ entReserved r.entry = false ∧ entCtx r.entry = x ∧ s.fld (aUsh 0 + rUSH_CTX_CFG + 4 * x) 22 16 ≤ 64
      ∧ leAt r.entry 16 2 ≤ 0xFFF ∧ (saveArea (s.withoutArea 0 x).usedMap (savePages (s.fld (aUsh 0 + rUSH_CTX_CFG + 4 * x) 22 16))).isSome = true := by
  decide +kernel
theorem witness_Contexts_switch :
    let c : CtxSt := { CtxSt.init with inited := true }
    let d : CtxSt := { c with cores := [(0, { SavedCore.init with core := { CoreSt.init with st := cRUNNING, fetched := [⟨0, recOf [2], false⟩] } })] }
    let s := { owned with ushers := [(0, { UshSt.init with ctxs := [(0, c), (1, d)] })] }.setFld (aUsh 0 + rUSH_CTX_CTL) 31 24 3
    (s.usher 0).stopped = false ∧ (s.usher 0).switching = none ∧ (s.ctx 0 (s.usher 0).running).inited = true ∧ s.nextCtx 0 = some 1
      ∧ s.chans = [] := by decide +kernel
theorem witness_Contexts_switchGoesOn :
    let s := { owned with ushers := [(0, { UshSt.init with ctxs := [(0, { CtxSt.init with inited := true })], stopped := true })] }
    (s.usher 0).stopped = true ∧ (s.usher 0).switching = none ∧ (s.ctx 0 (s.usher 0).running).inited = true ∧ s.chans = []
      ∧ (owned.ctx 0 (owned.usher 0).running).inited = false ∧ owned.nextCtx 0 = none ∧ (owned.usher 0).switching = none := by decide +kernel
theorem witness_Contexts_resume :
    let s := { owned with ushers := [(0, { UshSt.init with switching := some 1, stopped := true })] }
    (s.usher 0).switching = some 1 ∧ (∀ ch, (s.chan ch).st ≠ hPAUSED) ∧ (s.usher 0).waitReset = []
      ∧ ∀ i ∈ coresOf 0, (tblGet SavedCore.init (s.ctx 0 1).cores i).core.flight = [] :=
  ⟨by decide +kernel, fun _ => by show (0 : Nat) ≠ hPAUSED; decide, by decide +kernel, by decide +kernel⟩

theorem witness_HostBar2 : let s := asks7 (reqIs 6 0 0 []) (oneShard 0 100)
    s.ecc = [] ∧ s.bar2Open (1023 * 2 ^ 24) = true ∧ s.bar2 (1023 * 2 ^ 24) = some (0, 7, 0) ∧ s.bar2 (1023 * 2 ^ 24 + 65536) = none ∧ s.handle 0 7 = some (oneShard 0 100) := by
  decide +kernel

/-- Partition 0 exports one page. -/
def exporting : State :=
  { owned with ushers := [(0, { UshSt.init with exportPages := [(0, 100)] })] }.setFld (aUsh 0 + rUSH_EXPORT_CFG) 31 31 1

theorem witness_HostBar2_held : let s := { owned with pwr := { owned.pwr with retraining := [0, 1, 2, 3] } }
    s.bar2Open (2 ^ 34) = false ∧ s.bar2Open 0 = true := by decide +kernel
theorem witness_Partner_requests : ∀ op ∈ [1, 2], ∀ t ∈ [5, 6],
    let m := msgOf profMp t (mpHeader op 0 0 0 1023 0)
    mpOp m.body = op ∧ (exporting.takeMsg 0 m).exportOk 0 m = decide (t = 5) ∧ exporting.ecc = [] ∧ mpPoison m.body = 0 := by decide +kernel
theorem witness_Partner_responses : ∀ rd dead : Bool, ∀ st ∈ [0, 1], ∀ n ∈ [1, 2],
    let m := msgOf profMp 5 (mpHeader (if rd then 8 else 9) st 0 65535 0 0)
    let q : MpReq := ⟨65535, 0, rd, 7, 0, 0, true, dead⟩
    let h := { oneShard 0 100 with shards := [{ shardAt 0 100 with partner := some (0, 5), filling := some (0, 100), waiting := n }] }
    let s := { owned with ushers := [(0, { UshSt.init with handles := [(7, some h)], mp := [q] })] }
    mpOp m.body = (if rd then 8 else 9) ∧ s.refuses 0 m = false ∧ s.refuses 0 { m with tenant := 6 } = true ∧ (s.takeMsg 0 m).mpFor 0 m.body rd = some q ∧ mpStatus m.body = st ∧ s.handle 0 7 = some h
      ∧ (h.shard 0).filling = some (0, 100) ∧ (h.shard 0).waiting = n ∧ (h.shard 0).loc ≠ none ∧ (h.shard 0).partner ≠ none ∧ 0 < h.shards.length
      ∧ (s.usher 0).mp.find? (fun r => r.sent && r.tag == 65535) = some q := by decide +kernel
theorem witness_Partner_idle : (∀ r ∈ (owned.usher 0).mp, r.sent = false) ∧ rb (exporting.reg (aUsh 0 + rUSH_EXPORT_CFG)) 31 = true
    ∧ exporting.pageOpen .ush 0 true = true ∧ rb 0#32 31 = false := by decide +kernel
theorem witness_Partner_exportEnable : let s := owned
    s.pageOpen .ush 0 true = true ∧ rb (s.reg (aUsh 0 + rUSH_EXPORT_CFG)) 31 = false ∧ rb (0x80000001#32) 31 = true
      ∧ exportCount (0x80000001#32).toNat ≠ 0
      ∧ (exportAlloc (s.usher 0).usedMap (exportCount (0x80000001#32).toNat)).isSome = true := by decide +kernel
theorem witness_RequestsEnd : let r := reqIs 6 0 0 []
    let s := asks r UshSt.init
    s.ecc = [] ∧ s.reqAddr 0 r.index + 64 ≤ 2 ^ 64 ∧ entFlag r.entry 1 = false := by decide +kernel

end Sys2Proof.Tests
end

