-- ==== Sys2Proof/Tests/FabricHeat.lean ====
section
/-! SUPPORT. States that meet the hypotheses of the statements: each clause's, at the ends of its ranges. House, fabric, tickets, heat and the Understudy. -/

namespace Sys2Proof.Tests

set_option Elab.async false

open Sys2Proof Sys2Proof.Machine

/-! ## The house and the fabric -/

/-- House port 8 of site 1 as given: level house, enabled, OUT_EN as given; link 513 of output 0 has an ordered set to send. -/
def houseIs (h : HsSt) (outEn : Nat) (st : Nat) : State :=
  ((({ owned with
      sites := [(1, { SiteSt.init with status := 2, sel := [1, 8, 0, 0, 15, 0, 0x21] })]
      ports := [(8, { PortSt.init with st := st, hs := h })]
      links := [(513, { upLink with outq := [⟨65536, osBytes 4 1 0 0 18 0, false⟩] })] }.setFld (aPort 8 + rOIOPORT_CTL) 31 31 1).setFld (aPort 8 + rOIOPORT_CTL) 7 7 1).setFld
    (aLnk 8 + rOIOLINK_LNK_CFG) 31 30 1).setFld (aPort 8 + rOIOPORT_SPOT) 7 4 outEn

theorem witness_Houses_commands : up.pageOpen .oioPort 8 true = true ∧ State.reset.pageOpen .oioPort 8 true = false := by decide +kernel
/-- A forced intermission of the port waits for its slot, or none does. -/
theorem witness_Houses_forced : ∀ b ∈ [0, 1], let s := ((houseIs { HsSt.init with running := true, stopPend := true, slot := 5 } 15 pUP).modSite 1
      (fun x => { x with forced := [8] })).setFld (aOio 1 + rOIO_IM_CTL) 31 31 b
    (s.hs 8).slot ≠ noSlot ∧ (s.hs 8).stopPend = true ∧ decide (s.forcedNext (8 / 8) ≠ some 8) = decide (b = 0) := by decide +kernel
theorem witness_Houses_passed : let h := { HsSt.init with running := true, slot := 5 }
    ((5 : Nat) ≠ 0 ∧ 5 ≤ h.slot) ∧ h.slotCount ≤ h.slotCount := by decide +kernel
theorem witness_Houses_slot0 : ∀ run ∈ [true, false], ∀ stop ∈ [true, false], ∀ slot ∈ [0, noSlot],
    let s := houseIs { HsSt.init with running := run, stopPend := stop, slot := slot } 15 pUP
    (s.hs 8).running = run ∧ (s.hs 8).stopPend = stop ∧ (s.hs 8).slot = slot := by decide +kernel
theorem witness_Houses_data : ∀ en ∈ [0, 15],
    let s := houseIs { HsSt.init with running := true, ranged := true, entries := [(64, (0x80000005#32, 0))] } en pUP
    let h := s.hs 8
    (s.hs 8).running = true ∧ h.slot < 64 ∧ 64 < h.slotCount ∧ rb (h.entry 64).1 31 = true ∧ rb (h.entry 63).1 31 = false ∧ h.ranged = true
      ∧ h.rangeFail = false ∧ s.bursts 8 = true ∧ s.forcedNext (8 / 8) ≠ some 8 ∧ s.portPaused 8 = false ∧ (s.port 8).st = pUP
      ∧ s.nextLink 8 (rf (h.entry 64).1 30 29) (rf (h.entry 64).1 15 0) = some 513
      ∧ s.outEnabled 8 (rf (h.entry 64).1 30 29) = decide (en ≠ 0) := by decide +kernel
theorem witness_Houses_ranging : ∀ n ∈ [63, 64], let s := houseIs { HsSt.init with running := true, ranging := true, tries := n } 15 pUP
    let m : Msg := ⟨0, s.device, 0, 0, 4, 8, s.device, 0, leBytes 1 4 ++ leBytes 7 0 ++ leBytes 8 100⟩
    (s.hs 8).ranging = true ∧ (s.hs 8).tries = n ∧ m.srcDev = s.device ∧ m.profile = 4 ∧ leAt m.body 0 1 = 4 ∧ 8 ∈ State.planePorts 8 := by decide +kernel

/-- A fabric control message. -/
def fabM (body : List Byte) : Msg := ⟨0, 0, 0, 0, 4, 8, 0, 0, body⟩
/-- A device that starts up, in a phase and under a profile. -/
def starting (phase profile : Nat) : State := (up.setFld aFabStat 2 0 phase).setFld (aDev + rDEV_FAB_CFG) 1 0 profile
theorem witness_Systems_hello : ∀ seat ∈ [0, 7], let s := starting phSTAGE 0
    let b := leBytes 4 1 ++ leBytes 4 99 ++ leBytes 1 seat ++ leBytes 1 0
    leAt b 0 1 = 1 ∧ leAt b 4 4 ≠ s.serialNo ∧ s.roleLevel 0 = 0 ∧ s.heldOut = false ∧ s.strapStage = 0
      ∧ (bits (leAt b 8 1) 2 0 = s.strapSeat ↔ seat = 0) := by decide +kernel
theorem witness_Systems_leader : ∀ seat ∈ [0, 1, 7], let s := starting phSTAGE 0
    let b := leBytes 1 2 ++ leBytes 1 0 ++ leBytes 2 (2 ^ 15 + seat)
    leAt b 0 1 = 2 ∧ s.heldOut = false ∧ s.phase ≠ phLOCAL ∧ bit (leAt b 2 2) 15 = true ∧ devSeat (leAt b 2 2) = seat ∧ s.isLeader = false
      ∧ (seat ≠ s.strapSeat ↔ seat ≠ 0) ∧ s.fab.leader ≠ some seat := by decide +kernel
theorem witness_Systems_leaderKnown : ({ starting phSTAGE 0 with fab := { FabSt.init with leader := some 3 } }).fab.leader = some 3
    ∧ ((starting phSTAGE 0).setFld aFabStat 4 4 1).isLeader = true := by decide +kernel
theorem witness_Systems_root : let s := starting phHOUSE 1
    let b := rootBody 63 (512 * 63 + 5) 0
    leAt b 0 1 = 3 ∧ s.heldOut = false ∧ s.phase ≠ phLOCAL ∧ s.fab.house = none ∧ s.roleLevel 0 ≠ 2 ∧ s.profile ≠ 0 ∧ s.deviceValid = false
      ∧ bits (leAt b 1 1) 5 0 = 63 := by decide +kernel
theorem witness_Systems_rootHeld : let s := { starting phHOUSE 2 with fab := { FabSt.init with house := some 63 } }
    s.fab.house = some 63 ∧ s.roleLevel 15 = 2 ∧ s.heldOut = false ∧ s.phase ≠ phLOCAL := by decide +kernel
theorem witness_Systems_holdout : ∀ c ∈ [1, 5], let b := holdoutBody c 0
    leAt b 0 1 = 5 ∧ 1 ≤ leAt b 1 1 ∧ leAt b 1 1 ≤ 5 ∧ (starting phSTAGE 0).heldOut = false := by decide +kernel
theorem witness_Systems_digest : let s := (starting phREADY 0).setFld aFabStat 4 4 1
    s.isScopeRoot = true ∧ s.heldOut = false ∧ leAt ([0x20#8] : List Byte) 0 1 = 0x20 := by decide +kernel
theorem witness_Systems_result : (starting phCHECK 0).phase = phCHECK ∧ ∀ r ∈ [0, 1, 2], leAt [0x21#8, BitVec.ofNat 8 r] 1 1 = r := by decide +kernel
theorem witness_Systems_resend : let s := { starting phSTAGE 0 with links := [(0, { LinkSt.init with state := lUP })] }
    s.roleLevel 0 = 0 ∧ s.phase = phSTAGE ∧ s.linkUp 0 = true ∧ (s.link 0).txq = [] := by decide +kernel
/-- A message of another profile, kind or code; a device held out, or before STAGE; its own HELLO. -/
theorem witness_Systems_none : let s := starting 6 0
    ({ fabM [] with profile := 3 }).profile ≠ 4 ∧ (fabM []).profile = 4 ∧ leAt (leBytes 1 2) 0 1 ≠ 1
      ∧ s.heldOut = true ∧ (starting phLOCAL 0).phase = phLOCAL ∧ leAt (leBytes 4 1 ++ leBytes 4 s.serialNo) 4 4 = s.serialNo
      ∧ leAt (holdoutBody 6 0) 1 1 = 6 ∧ leAt (holdoutBody 0 0) 1 1 = 0 := by decide +kernel
theorem witness_Systems_lowerRoot : let s := { starting phHOUSE 1 with fab := { FabSt.init with house := some 63, root := some (512 * 63 + 8 * 5) } }
    s.fab.house = some 63 ∧ s.roleLevel 0 ≠ 2 ∧ devStage (512 * 63 + 8 * 4) < (s.fab.root.map devStage).getD 64 ∧ (∃ h, s.fab.house = some h ∧ h ≠ 62) :=
  ⟨by decide +kernel, by decide +kernel, by decide +kernel, 63, by decide +kernel, by decide⟩
theorem witness_Systems_digests : (starting phREADY 0).isScopeRoot = false ∧ profMgmt ≠ 4 ∧ (starting phSTAGE 0).phase ≠ phCHECK
    ∧ leAt [0x21#8, 3] 1 1 = 3 := by decide +kernel
theorem witness_Systems_check : ∀ b ∈ [0, 1], let s := (starting phCHECK 0).setFld aFabStat 4 4 b
    s.phase = phCHECK ∧ s.isScopeRoot = decide (b = 1) := by decide +kernel
theorem witness_Systems_house : let s := starting phHOUSE 1
    s.roleLevel 8 = 1 ∧ s.phase = phHOUSE ∧ 512 ∈ s.linksOf 8 := by decide +kernel
theorem witness_Systems_neighbour : let s := { starting phSTAGE 0 with links := [(0, { LinkSt.init with state := lUP })] }
    ((s.neighbour 0).map (fun y => s.fab.members.any (fun x => x.stage == y.1 && x.seat == y.2))) = some false := by decide +kernel
theorem witness_Systems_absent : ∀ n ∈ [15, 16], let s := { starting phSTAGE 0 with fab := { FabSt.init with attempts := [(7, n)] } }
    tblGet 0 s.fab.attempts 7 = n ∧ 7 ∉ s.fab.absent ∧ s.fab.leader = none := by decide +kernel

/-- A handle registered in COLL0 of partition 0 for a reduction. -/
def registered (mode : Nat) : State := (withHandle owned 0 7 (oneShard 0 100)).setReg (aPart 0 + rPART_COLL) (BitVec.ofNat 32 (2 ^ 31 + mode * 2 ^ 29 + 7))
theorem witness_Collectives_max : ∀ t ∈ [5, 6], ∀ i ∈ [0, 32767], let s := registered 2
    let m : Msg := { msgOf profColl t (collBody (1, i, 1) 0 7 [0xFF, 0x7F]) with srcPart := 0 }
    m.profile = profColl ∧ natOp m.body = 1 ∧ s.ecc = [] ∧ (s.takeMsg 0 m).collCheck 0 2 m = (if t = 5 then 0 else 1)
      ∧ s.handle 0 (natHandle m.body) = some (oneShard 0 100) ∧ collCount m.body = 1 ∧ collElem m.body = i
      ∧ 2 * (collElem m.body + collCount m.body) ≤ 65536 ∧ 16 + 2 * 1 ≤ m.body.length := by decide +kernel
theorem witness_Collectives_add : ∀ t ∈ [5, 6], ∀ f ∈ [[0, 0, 0, 0], [0x10, 0, 0, 0], [0xF0, 0xFF, 0, 0]], let s := registered 1
    let m := msgOf profColl t (collBody (2, 1364, 1) 0 7 f)
    let x := (unspill ((oneShard 0 100).bytesIn 0 (48 * 1364) 48 s.mem)).1
    natOp m.body = 2 ∧ (s.takeMsg 0 m).collCheck 0 1 m = (if t = 5 then 0 else 1) ∧ s.handle 0 (natHandle m.body) = some (oneShard 0 100)
      ∧ collCount m.body = 1 ∧ 48 * (collElem m.body + 1) ≤ 65536 ∧ 19 ≤ m.body.length ∧ 16 + (readFrag (m.body.drop 16)).2.1 ≤ m.body.length
      ∧ (decide (x.anchor < (readFrag (m.body.drop 16)).1.anchor) = decide (f = [0x10, 0, 0, 0])) := by decide +kernel
/-- A collective of another profile, of no OP of its own, of no elements, and one into a handle that is not registered. -/
theorem witness_Collectives_refused : let s := registered 2
    let m := fun op n => msgOf profColl 5 (collBody (op, 0, n) 0 7 [0xFF, 0x7F])
    (msgOf profNative 5 []).profile ≠ profColl ∧ natOp (m 3 1).body ≠ 1 ∧ natOp (m 3 1).body ≠ 2 ∧ collCount (m 1 0).body = 0
      ∧ (s.takeMsg 0 (m 1 0)).collCheck 0 2 (m 1 0) = 0 ∧ 2048 < collCount (m 1 2049).body ∧ natOp (m 2 1).body = 2
      ∧ (s.takeMsg 0 (m 2 1)).collCheck 0 1 (m 2 1) ≠ 0 ∧ State.reset.pageOpen .dev 0 true = false := by decide +kernel
theorem witness_Peers : ∀ c ∈ [0, 4095], let s := up.setFld (aDev + rDEV_PEER_SEL) 11 0 c
    s.pageOpen .dev 0 true = true ∧ s.fld (aDev + rDEV_PEER_SEL) 11 0 = c ∧ rf ((0x80000007#32 &&& 0xFFC37FFF#32)) 14 0 ≠ rf (s.peer c).1 14 0
      ∧ rf ((0x80000000#32 &&& 0xFFC37FFF#32)) 14 0 = rf (s.peer c).1 14 0 := by decide +kernel

/-! ## Tickets, heat and the Understudy -/

theorem witness_Tickets_grant : ∀ free ∈ [0, 8], let s := boxIs { BoxSt.init with free := free, queue := [⟨575, 8, 0, 0⟩] }
    (s.box 0).queue = ⟨575, 8, 0, 0⟩ :: [] ∧ (s.box 0).fault = false ∧ (s.pageOpen .box 0 true = true)
      ∧ (free = 8 → 8 ≤ (s.box 0).free ∧ 8 + s.inWindow 0 ≤ s.ramp 0)
      ∧ (free = 0 → (s.box 0).free < 8 ∧ (∀ b : Fin 4, s.loan 0 b = 0) ∧ ∀ q : Fin 4, s.canLend q 0 = 0) := by decide +kernel
/-- No room in the ramp's window for the head; and a head larger than the ramp. -/
theorem witness_Tickets_ramp : ∀ n ∈ [8, 2], let s := ({ (boxIs { BoxSt.init with free := 8, queue := [⟨0, 8, 0, 0⟩], window := [(0, 1)] }) with ctrlClk := 0 }).setFld (aBox 0 + rBOX_RAMP) 7 0 n
    s.ramp 0 = n ∧ s.inWindow 0 = 1 ∧ (n = 8 → 8 ≤ s.ramp 0 ∧ s.ramp 0 < 8 + s.inWindow 0)
      ∧ (n = 2 → s.ramp 0 < 8 ∧ s.inWindow 0 < s.ramp 0 ∧ 0 + (s.ramp 0 - s.inWindow 0) < 8) := by decide +kernel
theorem witness_Tickets_closed : State.reset.pageOpen .box 0 true = false ∧ State.reset.pageOpen .thm 0 true = false := by decide +kernel
theorem witness_Tickets_fault : ({ boxIs { BoxSt.init with fault := true, queue := [⟨0, 1, 0, 0⟩] } with ecc := [] }.box 0).fault = true
    ∧ (up.box 3).queue = [] := by decide +kernel
theorem witness_Tickets_commit : ∀ n ∈ [107, 108, 1500, 1501], let s := commits n
    s.fld (aBox 0 + rBOX_BUDGET_NEXT) 15 0 = n
      ∧ (decide ((s.box 0).base + 8 ≤ n ∧ n ≤ s.railLimit ∧ s.sumBudgets - (s.box 0).budget + n ≤ min s.devLimit s.boardCap) = decide (n = 108 ∨ n = 1500))
      ∧ (s.box 0).base + (s.granted 0 - s.noticed 0) + (s.box 0).withdrawn + s.lent 0 ≤ n + s.borrowed 0 := by decide +kernel
theorem witness_Tickets_boardCap : ∀ x ∈ [(6, 1000), (8, 1000), (8, 3600)], let s := (commits 0).setPwr { (commits 0).pwr with step := x.1 }
    s.pageOpen .thm 0 true = true ∧ s.sumBudgets = 3600
      ∧ ((s.pwr.step < 7 ∨ s.sumBudgets ≤ min s.devLimit x.2) ∨ (7 ≤ s.pwr.step ∧ min s.devLimit x.2 < s.sumBudgets)) := by decide +kernel
theorem witness_Tickets_audit : ∀ b ∈ [0, 900], let s := boxIs { BoxSt.init with free := b }
    (s.box 0).notices = [] ∧ s.boxBalanced 0 = decide (b = 900) := by decide +kernel

theorem witness_Sensors : let r : SensRead := ⟨0x14B, true, 400⟩
    let s := up.setReg (aThm + rTHM_EXT_CFG + 4 * 11) 1#32
    s.sensRead 0 = true ∧ s.sensRead 0x14B = false ∧ [(⟨0, true, 400⟩ : SensRead), r].find? (fun r => r.index == 0) = some ⟨0, true, 400⟩ := by decide +kernel
theorem witness_Sensors_short : up.shortDies = 8 ∧ ∀ h ∈ [true, false], ({ up with thm := { ThmSt.init with hold := h } }).thm.hold = h := by decide +kernel
theorem witness_Sensors_enough : let s := { up with thm := { ThmSt.init with
        sens := ((List.range 4).flatMap (fun d => (List.range 16).map (· + 64 * d)) ++ (List.range 4).flatMap (fun d => (List.range 2).map (· + (0x100 + 8 * d)))).map (fun i => (i, { SensSt.init with valid := true })) } }
    s.shortDies = 0 := by decide +kernel

theorem witness_Understudy_frames : ∀ sync ∈ [true, false], ∀ cyc ∈ [0, 1], ∀ k1 ∈ [true, false], ∀ rs ∈ [1, 2],
    let s := siteIs { SiteSt.init with sync := sync, resync := rs, seen := 2 ^ 24 - 1 }
    let f := fastFrame cyc k1 (List.replicate 288 0) (List.replicate 288 2) 0 [(287, 2)] 0
    s.siteUsed 0 = true ∧ s.siteFeat 0 2 = true ∧ (s.site 0).other.role = uUNDER ∧ f ≠ [] ∧ frameOk f = true ∧ frameOk (f.drop 1) = false
      ∧ frameKind1 f = k1 ∧ (frameCycle f = ((s.site 0).seen + 1) % 2 ^ 24 ↔ cyc = 0) ∧ (s.site 0).sync = sync ∧ (s.site 0).resync = rs := by decide +kernel
/-- A frame whose code changes are not those the Understudy computed, and the sites that hear none. -/
theorem witness_Understudy_delta : ∀ d ∈ [0, 1], let x := { SiteSt.init with delta := d, sync := true }
    let f := fastFrame 1 false (List.replicate 288 0) (List.replicate 288 2) 0 [] 0
    decide (leAt f 4 216 ≠ x.delta) = decide (d = 1) ∧ x.other.role = uUNDER ∧ frameOk f = true ∧ frameKind1 f = false
      ∧ (up.siteUsed 0 = false) ∧ ({ SiteSt.init with c1 := ⟨uFAILED, true, true, none, 0, 0⟩ } : SiteSt).other.role = uFAILED := by decide +kernel
theorem witness_Understudy_switch : ∀ lead ∈ [0, 1], ∀ ok ∈ [true, false],
    let s := (siteIs { SiteSt.init with lead := lead, sync := true, isoAge := 1000, c0 := ⟨lead, ok, true, none, 0, 0⟩, c1 := ⟨1 - lead, ok, true, none, 0, 0⟩ }).setFld (aOio 0 + rOIO_UND_CTL) 0 0 1
    s.siteUsed 0 = true ∧ (s.site 0).isReady = ok ∧ s.fld (aOio 0 + rOIO_UND_CTL) 0 0 = 1 ∧ (s.site 0).lead = lead := by decide +kernel
theorem witness_Understudy_roles : ∀ lead ∈ [0, 1], ∀ role ∈ [uUNDER, uRECOVER, uFAILED], ∀ n ∈ [0, 1, 2],
    let x := (siteIs { SiteSt.init with lead := lead, c0 := ⟨role, true, true, none, n, 0⟩, c1 := ⟨role, true, true, none, n, 0⟩ }).site 0
    x.lead = lead ∧ x.other.role = role ∧ x.other.attempts = n ∧ x.lead ≤ 1 := by decide +kernel
theorem witness_Understudy_page : owned.pageOpen .oio 7 true = true ∧ State.reset.pageOpen .oio 7 true = false := by decide +kernel
theorem witness_Understudy_revert : ∀ n ∈ [999, 1000], let s := (siteIs { SiteSt.init with lead := 1, sync := true, c0 := ⟨uRECOVER, true, true, none, 0, n⟩, c1 := ⟨uLEAD, true, true, none, 0, 0⟩ }).setFld (aOio 0 + rOIO_UND_CTL) 1 1 1
    s.fld (aOio 0 + rOIO_UND_CTL) 1 1 = 1 ∧ (s.site 0).lead = 1 ∧ (s.site 0).other.role = uRECOVER ∧ (s.site 0).other.clean = n ∧ s.siteBusy 0 = false ∧ (s.site 0).sync = true
      ∧ (s.site 0).gap = 0 ∧ (s.site 0).force = false := by decide +kernel
theorem witness_Understudy_ack : ∀ n ∈ [1, 2], let s := siteIs { SiteSt.init with wt := [(.ringFailed 287, n)] }
    (s.site 0).other.role ≠ uFAILED ∧ (s.site 0).wt = (.ringFailed 287, n) :: [] ∧ siteOfRing 287 = 0 ∧ (s.ring 287).st ≠ gFAILED
      ∧ (s.ring 287).lane = gNone ∧ (s.ring 287).nextLane = gNone ∧ (s.port (portOfRing 287)).st ≠ pACQ := by decide +kernel

end Sys2Proof.Tests
end

