-- ==== Sys2Proof/Tests/Optics.lean ====
section
/-! SUPPORT. States that meet the hypotheses of the statements: each clause's, at the ends of its ranges. Sites and links. -/

namespace Sys2Proof.Tests

set_option Elab.async false

open Sys2Proof Sys2Proof.Machine
/-! ## The sites -/


theorem witness_Laser_sources : ∀ l ∈ [true, false], ∀ r ∈ [true, false], let s := siteIs { SiteSt.init with laserB := laser l r false }
    ((s.site 0).laser true).lost = l ∧ ((s.site 0).laser true).restored = r := by decide +kernel
theorem witness_Laser_ramp : ∀ b ∈ [true, false], let s := { siteIs { SiteSt.init with cross := 1, ramp := b } with
        ports := [(0, { PortSt.init with saved := some ⟨1, 0, 0, 1, []⟩ })] }
    (s.site 0).ramp = b ∧ (s.port 0).saved = some ⟨1, 0, 0, 1, []⟩ ∧ s.leadActs 0 = true := by decide +kernel
theorem witness_Laser_idle : (siteIs { SiteSt.init with ramp := true, gap := 1 }).leadActs 0 = false ∧ (siteIs SiteSt.init).pageOpen .oio 0 true = true
    ∧ (siteIs SiteSt.init).leadActs 0 = true ∧ State.reset.pageOpen .oio 0 true = false := by decide +kernel
theorem witness_Laser_uncross : ∀ gap ∈ [0, 1], ∀ l ∈ [true, false], let s := siteIs { SiteSt.init with cross := 2, gap := gap, laserA := laser true l false }
    s.pageOpen .oio 0 true = true ∧ (s.site 0).canUncross = l ∧ s.leadActs 0 = decide (gap = 0) := by decide +kernel

theorem witness_Cycle_gap : let s := siteIs { SiteSt.init with gap := 1 }
    s.siteUsed 0 = true ∧ s.clocked = true ∧ 0 < (s.site 0).gap := by decide +kernel
theorem witness_Cycle_plain : ∀ x ∈ [(8000, 0), (-8000, 255), (8001, 2), (-8001, 3), (20000, 255)],
    let s := { siteIs SiteSt.init with rings := [(287, { RingSt.init with st := gLOCKED, code := 17, badRun := x.2 })] }
    (s.site 0).gap = 0 ∧ (s.site 0).uncross = false ∧ (s.site 0).force = false ∧ (s.site 0).crossPend = false
      ∧ (∀ q ∈ portsOf 0, (s.port q).requal = false ∧ (s.port q).moves = [] ∧ (s.port q).imReq = none ∧ (s.port q).want = none)
      ∧ (s.site 0).forced = [] ∧ (s.site 0).laserA.fresh = false ∧ (s.site 0).laserB.fresh = false ∧ (s.ring 287).st = gLOCKED ∧ 16 < (s.ring 287).code ∧ (s.ring 287).code < 4079
      ∧ ((Int.natAbs x.1 ≤ 8000 ∨ x.2 < 3) ∨ (8000 < Int.natAbs x.1 ∧ 3 ≤ x.2 ∧ (s.recent (s.ring 287).losses).length < 2)) := by decide +kernel
theorem witness_Cycle_loss : ∀ a ∈ [true, false], ∀ b ∈ [true, false], (a || b) = true →
    let x := (siteIs { SiteSt.init with laserA := laser a false a, laserB := laser b false b }).site 0
    x.laserA.lost = a ∧ x.laserB.lost = b ∧ (x.laserA.fresh = true ∨ x.laserB.fresh = true) ∧ x.cross = 0
      ∧ (a ≠ b → (x.laser x.laserB.lost).fresh = true) := by decide +kernel

/-- A lane of port 7 that was found to fail waits for the lead, with or without a controller that mirrors it; and a KIND 1 frame is due. -/
theorem witness_Cycle_moves : ∀ sync ∈ [true, false], ∀ k1 ∈ [true, false],
    let s := { siteIs { SiteSt.init with sync := sync, wantKind1 := k1 } with
      ports := [(7, { PortSt.init with moves := [(false, 15)] })], rings := [(252, { RingSt.init with st := gLOCKED, lane := 15, line := 17 })] }
    let t := s.setFld (aPort 7 + rOIOPORT_CTL) 8 8 0
    (s.port 7).moves = [(false, 15)] ∧ (∀ j ∈ portsOf 0, j ≠ 7 → (s.port j).moves = []) ∧ s.ringOfLane 7 false 15 = some 252
      ∧ bit (s.port 7).txBad (s.ring 252).line = false ∧ (s.site 0).mirrored = sync ∧ t.portAuto 7 = false ∧ (s.site 0).wantKind1 = k1
      ∧ up.siteUsed 0 = false ∧ (∀ q ∈ portsOf 0, (s.port q).want = none) ∧ (t.port 7).moves = [(false, 15)] ∧ t.shaped 7 = false
      ∧ portUp.shaped 0 = true ∧ portUp.isHouse 0 = false := by decide +kernel

def ringIs (g : Nat) (r : RingSt) : State := { siteIs SiteSt.init with rings := [(g, r)] }
theorem witness_Rings_acquire : ∀ st ∈ [gACQ, gRELOCK], ∀ lane ∈ [gNone, 0], let s := ringIs 287 { RingSt.init with st := st, lane := lane }
    (s.ring 287).st = st ∧ (s.ring 287).nextLane = gNone ∧ (s.port (portOfRing 287)).st ≠ pACQ ∧ portOfRing 287 = 7
      ∧ ((s.site 0).wt.any (fun e => e.1 == .ringFailed 287)) = false ∧ (s.site 0).mirrored = false
      ∧ ({ SiteSt.init with sync := true } : SiteSt).mirrored = true := by decide +kernel
theorem witness_Rings_lastOfPort : ∀ standby ∈ [true, false],
    let s := { siteIs SiteSt.init with
      ports := [(0, { PortSt.init with st := pACQ })]
      rings := (List.range 36).map (fun g => (g, { RingSt.init with st := if g = 35 then gACQ else if standby then gSTANDBY else gFAILED, line := g % 18 })) }
    (s.ring 35).st = gACQ ∧ (s.ring 35).nextLane = gNone ∧ (s.port 0).st = pACQ
      ∧ (∀ h ∈ bankOf 0 false ++ bankOf 0 true, h ≠ 35 → (s.ring h).st = gSTANDBY ∨ (s.ring h).st = gFAILED)
      ∧ (standby = true → s.fitWidth 0 = some 2) ∧ (standby = false → s.fitWidth 0 = none) := by decide +kernel
/-- A bank whose lowest rings wait, a ring that takes over a lane, and the commands that do nothing. -/
theorem witness_Rings_next : ∀ sync ∈ [true, false],
    let s := { siteIs { SiteSt.init with sync := sync } with
      rings := [(0, { RingSt.init with st := gACQ, nextLane := 3 }), (1, { RingSt.init with st := gPARKED, line := 1 }), (2, { RingSt.init with st := gLOCKED, lane := 3 })] }
    (s.ring 0).nextLane ≠ gNone ∧ s.ringOfLane 0 false 3 = some 2 ∧ (s.site 0).mirrored = sync ∧ s.leadActs 0 = true
      ∧ (∀ j ∈ bankOf 0 false, j ≠ 0 → (s.ring j).st ≠ gACQ) ∧ (s.site 0).wt.any (fun e => e.1 == .ringFailed 0) = false
      ∧ ((s.ring 2).st ≠ gACQ ∧ (s.ring 2).st ≠ gRELOCK) ∧ (isRxRing 18 = true ∧ (s.ring 1).weakRun < 64) := by decide +kernel
theorem witness_Rings_waiting : let s := { siteIs SiteSt.init with
      rings := [(18, { RingSt.init with st := gACQ }), (35, { RingSt.init with st := gPARKED, line := 17 })] }
    (∀ j ∈ bankOf 0 true, j ≠ 18 → (s.ring j).st ≠ gACQ) ∧ ((bankOf 0 true).find? (fun j => (s.ring j).waits)).isSome = true
      ∧ portOfRing 18 = 0 ∧ isRxRing 18 = true := by decide +kernel
theorem witness_Rings_lineWeak : let s := ringIs 0 { RingSt.init with st := gLOCKED, lane := 0, line := 17, weakRun := 64 }
    isRxRing 0 = false ∧ 64 ≤ (s.ring 0).weakRun ∧ (s.ring 0).lane ≠ gNone ∧ s.leadActs 0 = true ∧ s.ringOfLane 0 false 0 = some 0
      ∧ bit (s.port 0).txBad (s.ring 0).line = false ∧ (s.setFld (aPort 0 + rOIOPORT_CTL) 8 8 0).portAuto 0 = false := by decide +kernel

theorem witness_Signal_eye : let s := (portIs { PortSt.init with marginRun := [(3, 1)] } LinkSt.init).setReg (aPort 0 + rOIOPORT_EYE_FAIL) 10#32
    s.eyeFail 0 = 10 ∧ ([(3, 9), (15, 10), (0, 300)].map Prod.fst).Nodup
      ∧ (∀ e ∈ [(3, 9), (15, 10), (0, 300)], e.2 < s.eyeFail 0 → tblGet 0 (s.port 0).marginRun e.1 < 2) := by decide +kernel
theorem witness_Signal_cdr : ∀ lim ∈ [0, 1], let s := { portIs { PortSt.init with cdr := [(15, [0, 1])] } LinkSt.init with ctrlClk := 5 }.setReg (aPort 0 + rOIOPORT_EYE_FAIL) (BitVec.ofNat 32 lim)
    s.eyeFail 0 = lim ∧ (s.recent (tblGet [] (s.port 0).cdr 15)).length < 3 := by decide +kernel
theorem witness_Signal_third : ∀ n ∈ [2, 3], let s := ({ portIs { PortSt.init with marginRun := [(15, 2)], cdr := [(15, [1, 2, 3].take n)] } LinkSt.init with ctrlClk := 5 }).setReg (aPort 0 + rOIOPORT_EYE_FAIL) 10#32
    9 < s.eyeFail 0 ∧ tblGet 0 (s.port 0).marginRun 15 = 2 ∧ s.eyeFail 0 ≠ 0 ∧ (decide (3 ≤ (s.recent (tblGet [] (s.port 0).cdr 15)).length)) = decide (n = 3) := by
  decide +kernel
/-- Light lost at the second stage of a port that trained with 1,000 at each, or at none; on one lane of two, or on both. -/
theorem witness_Signal_stages : ∀ b ∈ [true, false],
    let s := { portIs { PortSt.init with st := pUP, width := 3, lit := [1000, 1000, 1000, 1000] } { LinkSt.init with state := lUP } with
      sites := [(0, { SiteSt.init with status := 2, sel := [1, 8, 0, 0, if b then 15 else 7, 0, 0x21], adc := [(0, 1000#32), (2, 501#32), (10, 1000#32), (18, 1000#32)] })] }
    s.siteFeat 0 3 = b ∧ (s.port 0).lossStage = 0 ∧ s.photodiodes 0 = [1000, 501, 1000, 1000] ∧ fell3dB 1000 501 = true ∧ fell3dB 1000 1000 = false
      ∧ fell3dB 1000 502 = false ∧ 1 < (s.port 0).lit.length ∧ (s.link 0).state = lUP ∧ (s.link 0).paused = false ∧ 0 ∈ s.linksOf 0
      ∧ ((∃ i, i < lanesOf (s.port 0).width ∧ i ∉ [9]) ∧ (∀ i, i < lanesOf (s.port 0).width → i ∈ List.range 16)) := by
  intro b hb
  have h : b = true ∨ b = false := by cases b <;> simp
  rcases h with rfl | rfl <;>
    exact ⟨by decide +kernel, by decide +kernel, by decide +kernel, by decide +kernel, by decide +kernel, by decide +kernel, by decide +kernel,
      by decide +kernel, by decide +kernel, by decide +kernel, ⟨0, by decide +kernel, by decide⟩, by decide +kernel⟩
theorem witness_Signal_loss : portUp.portEn 0 = true ∧ portUp.siteUsed 0 = true ∧ portUp.siteFeat 0 3 = true ∧ portUp.portCarries 0 = true
    ∧ (∀ los ∈ [true, false], ((portIs { PortSt.init with los := los } LinkSt.init).port 0).los = los) := by decide +kernel

theorem witness_Ports_enable : let s := (portIs PortSt.init LinkSt.init).setFld (aPort 0 + rOIOPORT_CTL) 31 31 0
    s.pageOpen .oioPort 0 true = true ∧ s.portEn 0 = false ∧ 0 ∉ s.sec.fenced ∧ s.sec.unlocked = false
      ∧ (s.setFld (aPort 0 + rOIOPORT_CTL) 31 31 1).canTrain 0 = true ∧ s.portCarries 0 = false ∧ s.portPaused 0 = false := by decide +kernel
theorem witness_Ports_none : State.reset.pageOpen .oioPort 0 true = false ∧ ({ up with sec := { up.sec with fenced := [0] } }).sec.fenced = [0]
    ∧ up.portEn 0 = false ∧ up.leadActs 0 = false := by decide +kernel
/-- A failed ring first in a bank whose next may acquire. -/
theorem witness_Ports_rings : let s := { (portIs PortSt.init LinkSt.init) with rings := [(0, { RingSt.init with st := gFAILED })] }
    (bankOf 0 false).find? (fun g => (s.ring g).st != gFAILED) = some 1 ∧ 0 ∈ s.linksOf 0 ∧ (s.link 0).state = lDOWN := by decide +kernel
/-- A lowered cap while the retrain's RESUME has left, and while no retrain runs. -/
theorem witness_Ports_want : ∀ r ∈ [true, false],
    let s := portIs { PortSt.init with st := pTRAIN } { LinkSt.init with state := lPAUSED, paused := true, resumed := r }
    s.portResumed 0 = r ∧ (s.port 0).want = none ∧ (s.port 0).width < rf (0x80000003#32) 1 0 ∧ portUp.portPaused 0 = false
      ∧ (portUp.port 0).want = none := by decide +kernel
theorem witness_Ports_requalDown : let s := { (portIs { PortSt.init with st := pFAILED } LinkSt.init).setFld (aPort 0 + rOIOPORT_CTL) 31 31 0 with
      rings := [(0, { RingSt.init with st := gFAILED })] }
    s.leadActs 0 = true ∧ (s.modPort 0 (fun x => { x with st := if x.st = pFAILED then pDOWN else x.st })).canTrain 0 = false
      ∧ 0 ∈ bankOf 0 false ∧ (s.ring 0).st = gFAILED := by decide +kernel
theorem witness_Ports_disable : portUp.pageOpen .oioPort 0 true = true ∧ portUp.portEn 0 = true ∧ (portUp.link 0).state ≠ lDOWN := by decide +kernel
theorem witness_Ports_cap : portUp.portCarries 0 = true ∧ (portUp.port 0).st ≠ pFAILED ∧ (portUp.port 0).width < rf (0x80000003#32) 1 0 := by
  decide +kernel
theorem witness_Ports_requal : ∀ gap ∈ [0, 1], let s := { portIs { PortSt.init with st := pFAILED } LinkSt.init with
        sites := [(0, { SiteSt.init with status := 2, sel := [1, 8, 0, 0, 15, 0, 0x21], gap := gap })] }
    s.leadActs 0 = decide (gap = 0) ∧ (s.port 0).st = pFAILED
      ∧ (s.modPort 0 (fun x => { x with st := pDOWN })).canTrain 0 = true ∧ portUp.canTrain 0 = true := by decide +kernel

/-- A delimiter of device 9. -/
def delimB : List Byte :=
  let b := padTo 30 ([0xB5#8, 0x4E#8, 0x2A#8, 0xD1#8] ++ leBytes 2 9)
  b ++ (leBytes 2 (crc16 b)).reverse
theorem witness_Bursts : ∀ r ∈ [true, false], let s := (portIs { PortSt.init with burst := some ⟨9, true, 0⟩, rearmed := r } LinkSt.init).setFld (aPort 0 + rOIOPORT_CTL) 7 7 1
    rb (s.portCtl 0) 7 = true ∧ delimOk delimB = true ∧ delimOk (delimB.reverse) = false ∧ (s.port 0).rearmed = r ∧ (s.port 0).burst = some ⟨9, true, 0⟩
      ∧ s.bursts 0 = true ∧ (s.port 0).st ≠ pINTER ∧ bits (leAt delimB 4 2) 14 0 = 9 ∧ s.device ≠ 9 := by
  decide +kernel
theorem witness_Bursts_idle : ∀ d ∈ [9, 0], let s := (portIs { PortSt.init with st := pINTER } LinkSt.init).setReg (aDev + rDEV_FAB_ID) (BitVec.ofNat 32 (2 ^ 31 + d))
    s.bursts 0 = false ∧ (s.port 0).st = pINTER ∧ (s.port 0).burst = none ∧ (s.port 0).rearmed = false ∧ (s.port 0).hs.ranging = false
      ∧ decide (bits (leAt delimB 4 2) 14 0 = s.device) = decide (d = 9) := by decide +kernel
theorem witness_Adc : ∀ n ∈ [0, 45, 46, 61, 62, 63, 64], ∀ refs ∈ [true, false],
    let s := siteIs { SiteSt.init with adcSlot := n, stale := 2, adcRefs := (true, refs) }
    s.siteUsed 0 = true ∧ (s.site 0).adcSlot = n ∧ (n < 64 ∨ n = 64) ∧ ((true && (s.site 0).adcRefs.1 && (s.site 0).adcRefs.2) = refs) := by
  decide +kernel

theorem witness_Intermissions_request : portUp.pageOpen .oio 0 true = true ∧ 0 < min 40 (rf (0x2901#32) 13 8) ∧ min 40 (rf (0x0001#32) 13 8) = 0
    ∧ bit (rf (0x2901#32) 7 0) 0 = true ∧ (portUp.port 0).st = pUP ∧ portUp.leadActs 0 = true ∧ (portUp.port 1).st ≠ pUP
    ∧ portUp.portCarries 0 = true := by decide +kernel
theorem witness_Intermissions_closed : State.reset.pageOpen .oio 0 true = false := by decide +kernel
/-- An interval that has passed, or not; another port of the chiplet in a forced one, or not; a schedule that runs, or none. -/
theorem witness_Intermissions_forced : ∀ b ∈ [0, 1], ∀ due ∈ [true, false], ∀ busy ∈ [true, false], ∀ run ∈ [true, false],
    let s := (({ portIs { PortSt.init with st := pUP, hs := { HsSt.init with running := run } } { LinkSt.init with state := lUP } with
        ctrlClk := if due then 1000000 else 999999
        sites := [(0, { SiteSt.init with status := 2, sel := [1, 8, 0, 0, 15, 0, 0x21], forced := [7] })] }.setPort 7
          { PortSt.init with imRun := if busy then some ⟨4, true, true⟩ else none }).setReg (aOio 0 + rOIO_IM_CTL)
            (BitVec.ofNat 32 (b * 2 ^ 31 + 1))).setFld (aPort 0 + rOIOPORT_CTL) 7 7 (b2n run)
    rb (s.reg (aOio 0 + rOIO_IM_CTL)) 31 = decide (b = 1) ∧ s.forceDue 0 = due ∧ (s.port 0).st = pUP ∧ s.leadActs 0 = true
      ∧ (portsOf 0).any (fun q => match (s.port q).imRun with
        | some r => r.forced
        | none => false) = busy
      ∧ (∀ q ∈ portsOf 0, q < 0 → q ∈ (s.site 0).forced → (s.port q).st ≠ pUP) ∧ ((s.bursts 0 && (s.port 0).hs.running) = run) := by decide +kernel
theorem witness_Intermissions_end : ∀ d ∈ [64, -65], ∀ n ∈ [1, 4, 19], ∀ tr ∈ [true, false], let s := { portIs { PortSt.init with st := pINTER, imRun := some ⟨n, false, tr⟩ } { LinkSt.init with state := lPAUSED, paused := true } with
        rings := [(0, { RingSt.init with st := gLOCKED, trim := some d })] }
    (s.port 0).imRun = some ⟨n, false, tr⟩ ∧ n < 20 ∧ n ≠ 0 ∧ trimOk (s.ring 0).trim = decide (d = 64) ∧ (s.port 0).requal = false ∧ (s.port 0).want = none
      ∧ (∀ q ∈ portsOf 0, q ∈ (s.site 0).forced → q = 0) ∧ (s.site 0).gap = 0 ∧ (s.port 0).los = false ∧ (s.link 0).state = lPAUSED ∧ (s.link 0).paused = true
      ∧ (s.link 0).resumed = false := by decide +kernel

/-! ## Links -/


theorem witness_LinksComeUp_trained : ∀ b ∈ [lPHY, lCAP], let s := linkIs { LinkSt.init with state := b }
    s.canTrain 0 = true ∧ (s.port 0).st ≠ pACQ ∧ 0 ∈ s.linksOf 0 ∧ (s.link 0).state = b ∧ (s.link 0).capAcked = false ∧ s.isHouse 0 = false := by
  decide +kernel
/-- A sensor of the chiplet in service, or none. -/
theorem witness_LinksComeUp_delays : ∀ b ∈ [true, false], let s := { linkIs LinkSt.init with thm := { ThmSt.init with sens := [(0x120, { SensSt.init with valid := b })] } }
    s.chipTemp 0 = b ∧ up.canTrain 0 = false ∧ (linkIs LinkSt.init).canTrain 0 = true := by decide +kernel
theorem witness_LinksComeUp_house : let s := (linkIs { LinkSt.init with state := lCAP }).setFld (aLnk 0 + rOIOLINK_LNK_CFG) 31 30 1
    s.isHouse 0 = true ∧ s.burstMode 0 = false ∧ (s.setFld (aPort 0 + rOIOPORT_CTL) 7 7 1).burstMode 0 = true
      ∧ ((s.modPort 0 (fun x => { x with burst := some ⟨9, true, 3⟩ })).inBurst 0 = true) ∧ s.inBurst 0 = false := by decide +kernel
/-- A flit of one LINKCTL message. -/
def ctlFlit (b : List Byte) : List Byte := flitBytes (flitHeader 2 0 0 (b.length / 16 - 1) 0) b 0
theorem witness_LinksComeUp_cap : ∀ v ∈ [0x21, 0x0F], let s := linkIs { LinkSt.init with state := lCAP }
    let c := padTo 128 [1, 8, BitVec.ofNat 8 v, 0x10, 0, 0, 0, 1]
    let f := ctlFlit c
    (s.link 0).state = lCAP ∧ flitCrcOk f = true ∧ s.interrupted 0 = false ∧ flitBad f = false ∧ flitType f = 2
      ∧ (ctlMessages 15 (flitPayload f)).filter (fun b => leAt b 0 1 == 1) = [c]
      ∧ s.capCheck 0 c = (if v = 0x21 then none else some cVERSION) := by decide +kernel
theorem witness_LinksComeUp_capAck : ∀ n ∈ [0, 1], let s := linkIs { LinkSt.init with state := lCAP }
    let b := [2, 1, 0x21, 0, 0, 0, 0, 0] ++ leBytes 8 n
    let f := ctlFlit b
    flitCrcOk f = true ∧ flitBad f = false ∧ flitType f = 2 ∧ (ctlMessages 15 (flitPayload f)).filter (fun b => leAt b 0 1 == 2) = [b]
      ∧ (leAt b 8 8 = (s.link 0).nonce ↔ n = 0) := by decide +kernel

theorem witness_Flits_data : ∀ seq ∈ [0, 65535, 1, 32767], let s := (linkIs upLink).setReg (aDev + rDEV_FAB_ID) 0x80000000#32
    let f := dataF seq
    let pay := flitPayload f
    let a := (flitSeq f + 65536 - (s.link 0).expected) % 65536
    flitCrcOk f = true ∧ flitBad f = false ∧ s.interrupted 0 = false ∧ s.linkUp 0 = true ∧ flitType f = 1 ∧ flitField f = 0 ∧ a = seq
      ∧ flitCont f = false ∧ pay.length = 16 * (leAt pay 6 2 + 1) ∧ leAt pay 6 2 ≠ 0 ∧ readMsg (flitTc f) pay = toMe ∧ (s.link 0).ackCount < 15
      ∧ toMe.profile < 6 ∧ toMe.profile ≠ 4 ∧ s.heldOut = false ∧ codeUnknown toMe = false ∧ msgForPrompter toMe = false ∧ s.deviceValid = true
      ∧ toMe.dstDev = s.device ∧ s.ringOpen (partOfPort 0) toMe.dstPart = true ∧ s.mayNak 0 = true ∧ s.burstMode 0 = false ∧ s.isHouse 0 = false
      ∧ (s.link 0).ackPend = none := by decide +kernel
theorem witness_Flits_noNak : let s := linkIs { upLink with nakArmed := false, nakAt := 5, rto := 9 }
    s.mayNak 0 = false ∧ ({ s with ctrlClk := 14 } : State).mayNak 0 = true := by decide +kernel
/-- A house link: in the burst of its peer, or in none; a NAK already owed. -/
theorem witness_Flits_house : ∀ b ∈ [true, false], let s := ((linkIs { upLink with ackPend := some true, outq := [⟨5, dataF 0, false⟩, ⟨65536, osBytes 4 1 0 0 18 0, false⟩] }).modPort 0
      (fun x => { x with burst := if b then some ⟨9, true, 3⟩ else none })).setFld (aPort 0 + rOIOPORT_CTL) 7 7 1
    let s := s.setFld (aLnk 0 + rOIOLINK_LNK_CFG) 31 30 1
    s.isHouse 0 = true ∧ s.burstMode 0 = true ∧ s.inBurst 0 = b ∧ s.interrupted 0 = false ∧ s.linkUp 0 = true ∧ (s.link 0).ackPend = some true
      ∧ (s.modPort 0 (fun x => { x with burst := some ⟨9, false, 3⟩ })).interrupted 0 = true := by decide +kernel
theorem witness_Flits_badCrc : let s := linkIs upLink
    flitCrcOk ((dataF 0).set 20 7) = false ∧ (s.link 0).state ≠ lDOWN ∧ (s.link 0).state ≠ lPHY ∧ (s.link 0).crcRun ≠ 63 := by decide +kernel
theorem witness_Flits_null : ∀ q ∈ [0, 1, 2], let s := linkIs { upLink with acked := 0xFFFF, next := 2, replay := [(0, 5, []), (1, 5, [])] }
    let f := flitBytes (flitHeader 0 0 0 0 0) [] (2 ^ 17 + q)
    let d := (q + 65536 - (s.link 0).acked) % 65536
    flitCrcOk f = true ∧ flitBad f = false ∧ s.interrupted 0 = false ∧ s.linkUp 0 = true ∧ (s.link 0).opened = [] ∧ flitField f = 2 ^ 17 + q
      ∧ q < 65536 ∧ 0 < d ∧ decide (d ≤ ((s.link 0).next + 2 * 65536 - 1 - (s.link 0).acked) % 65536) = decide (q ≠ 2) := by decide +kernel
theorem witness_Flits_timers : ∀ n ∈ [0, 1], ∀ x ∈ [(7, false), (8, false), (8, true)],
    let s := linkIs { upLink with ackCount := n, replay := [(0, 5, [])], replays := x.1, replayRetrained := x.2 }
    s.linkUp 0 = true ∧ (s.link 0).ackCount = n ∧ (s.link 0).state = lUP ∧ (s.link 0).replay ≠ [] ∧ (s.link 0).replays = x.1 ∧ (s.link 0).paused = false ∧ (s.port 0).want = none ∧ s.portResumed 0 = false
      ∧ (s.link 0).replayRetrained = x.2 ∧ 0 % 64 < s.linkCount 0 := by decide +kernel

theorem witness_Credits_start : ∀ tc ∈ [0, 7, 3, 6], let m := { toMe with tc := tc }
    let s := linkIs { upLink with txq := [m] }
    s.startable 0 tc = some m ∧ ((s.link 0).before tc).any (fun c => (s.startable 0 c).isSome) = false ∧ (s.link 0).opened = []
      ∧ s.isHouse 0 = false ∧ m.body.length % 16 = 0 ∧ m.body.length ≤ 224 ∧ (s.link 0).next < 65536
      ∧ (msgCost m).1 ≠ 0 ∧ s.startable 0 4 = none := by decide +kernel
theorem witness_Credits_house : let s := houseLink { upLink with txq := [toMe] }
    s.isHouse 8 = true ∧ s.startable 512 3 = some toMe ∧ ((s.link 512).before 3).any (fun c => (s.startable 512 c).isSome) = false := by decide +kernel
theorem witness_Credits_held : ∀ mask ∈ [8, 7], let k := { upLink with txq := [toMe], held := [⟨5, mask, 15⟩] }
    k.heldClass 3 = decide (mask = 8) ∧ k.txq.find? (fun m => m.tc == 3) = some toMe ∧ k.txq.find? (fun m => m.tc == 2) = none := by decide +kernel
theorem witness_Credits_blocked : let s := linkIs { upLink with txq := [{ toMe with tc := 0 }, toMe] }
    (s.startable 0 3).isSome = true ∧ ((s.link 0).before 3).any (fun c => (s.startable 0 c).isSome) = true := by decide +kernel
theorem witness_Credits_timeout : ∀ b ∈ [true, false], let s := linkIs { (if b then upLink else { LinkSt.init with state := lUP }) with txq := [toMe] }
    (s.link 0).state = lUP ∧ tblGet none (s.link 0).opened 3 = none ∧ (s.link 0).replay.length < s.replayDepth 0 ∧ (s.link 0).heldClass 3 = false ∧ (s.link 0).txq.find? (fun m => m.tc == 3) = some toMe
      ∧ s.hasCredit 0 toMe = b := by decide +kernel
/-- A message from device 9 to device 1 waits for its next rank. -/
def relays (hops : Nat) : State := { linkIs upLink with relay := [(0, [⟨{ toMe with dstDev := 1, hops := hops, profile := 3 }, 64⟩])] }
theorem witness_Credits_relay : ∀ hops ∈ [0, 1], ∃ a, ((relays hops).relayOf 0)[0]? = some a ∧ a.msg.srcDev ≠ (relays hops).device
    ∧ a.msg.dstDev ≠ (relays hops).device ∧ a.msg.hops = hops ∧ a.msg.profile ≠ 1 := by
  intro h hh
  refine ⟨⟨{ toMe with dstDev := 1, hops := h, profile := 3 }, 64⟩, rfl, ?_, ?_, rfl, (show (3 : Nat) ≠ 1 from by decide)⟩ <;> (simp only [List.mem_cons, List.not_mem_nil, or_false] at hh; rcases hh with rfl | rfl <;> decide +kernel)
/-- A message behind an earlier one of its link and class, and one that is alone. -/
theorem witness_Credits_relayOrder : let a : Arrived := ⟨{ toMe with dstDev := 1, profile := 3 }, 64⟩
    let s := { linkIs upLink with relay := [(0, [a, a])] }
    (s.relayOf 0)[1]? = some a ∧ (s.relayOf 0)[2]? = none ∧ ((s.relayOf 0).take 1).any (fun b => b.link == a.link && b.msg.tc == a.msg.tc && !(b.msg.srcDev == s.device)) = true
      ∧ ((s.relayOf 0).take 0).any (fun b => b.link == a.link && b.msg.tc == a.msg.tc && !(b.msg.srcDev == s.device)) = false := by decide +kernel
/-- A message of another device for partition 1 of this one, its ring pair in service or not. -/
theorem witness_Credits_relayHome : ∀ r ∈ [[], [0]], let s := { (linkIs upLink).setReg (aDev + rDEV_FAB_ID) 0x80000000#32 with pwr := { up.pwr with retraining := r } }
    let m := { toMe with dstPart := 1, profile := 3 }
    m.dstDev = s.device ∧ s.route 0 m (some 0) = .unit 1 ∧ s.ringOpen 0 1 = decide (r = []) := by decide +kernel
theorem witness_Credits_relayGoes : let m := { toMe with dstDev := 1, hops := 0, profile := 3 }
    (relays 1).route 0 m (some 64) = .link 0 ∧ (relays 1).ringOpen 0 (partOfPort (portOfLink 0)) = true ∧ 8 + portOfLink 0 / 8 ∉ (relays 1).pwr.retraining := by
  decide +kernel
theorem witness_Credits_census : ∀ n ∈ [0, 1], let s := linkIs { upLink with received := [(15, n)], freed := [(15, n)] }
    let b := padTo 48 [4, 3]
    let f := ctlFlit b
    (s.link 0).replay = [] ∧ (s.link 0).opened = [] ∧ s.isHouse 0 = false ∧ 0x20 ≤ (s.link 0).ver ∧ LinkSt.init.ver < 0x20 ∧ s.burstMode 0 = false ∧ s.interrupted 0 = false ∧ flitCrcOk f = true ∧ flitBad f = false
      ∧ s.linkUp 0 = true ∧ flitType f = 2 ∧ flitField f = 0 ∧ (ctlMessages 15 (flitPayload f)).filter (fun b => leAt b 0 1 == 4) = [b]
      ∧ decide (∀ i : Fin 16, leAt b (2 + 2 * i.1) 2 = tblGet 0 (s.link 0).received i
          ∧ (tblGet 0 (s.link 0).received i + 65536 - tblGet 0 (s.link 0).freed i) % 65536 = s.buffered 0 i % 65536) = decide (n = 0) := by decide +kernel

theorem witness_Retrain_sets : ∀ ty ∈ [2, 3, 4], let os := osBytes ty 1 0 0 18 0
    osOk os = true ∧ osType os = ty ∧ osOk (os.set 30 0) = false := by decide +kernel
theorem witness_Retrain_pause : portUp.portCarries 0 = true ∧ 0 ∈ portUp.linksOf 0 ∧ (portUp.port 0).burst = none ∧ (portUp.link 0).state ≠ lDOWN := by decide +kernel
theorem witness_Retrain_none : up.portPaused 0 = false ∧ up.portCarries 0 = false ∧ osType (osBytes 1 1 0 0 18 0) ≠ 2
    ∧ ((portIs { PortSt.init with st := pINTER, imRun := some ⟨3, false, true⟩ } LinkSt.init).port 0).imRun.isSome = true := by decide +kernel
theorem witness_Retrain_announced : ∀ r ∈ [4, 5], leAt (osBytes 2 r 0 0 18 0) 5 1 = r ∧ bits (leAt (osBytes 2 r 3 0 18 0) 6 1) 1 0 ≤ 3 := by decide +kernel
/-- The sender of the burst in reception. -/
theorem witness_Retrain_downHouse : let s := ((portIs { PortSt.init with burst := some ⟨9, true, 3⟩ } { upLink with state := lUP }).setFld (aLnk 0 + rOIOLINK_LNK_CFG) 31 30 1)
    (s.port 0).burst = some ⟨9, true, 3⟩ ∧ s.isHouse 0 = true ∧ s.linksOf 0 ≠ [] ∧ (s.link 0).state ≠ lDOWN := by decide +kernel
/-- A link whose partner's RESUME is missing, and one that has it. -/
theorem witness_Retrain_unheard : ∀ h ∈ [none, some 3], ({ LinkSt.init with paused := true, heard := h } : LinkSt).unheard = decide (h = none) := by
  decide +kernel
theorem witness_Retrain_resume : ∀ r ∈ [true, false], ∀ h ∈ [none, some 3], ∀ n ∈ [0, 1],
    let s := linkIs { upLink with state := lPAUSED, paused := true, resumed := r, heard := h, attempt := n }
    s.portPaused 0 = true ∧ s.linksOf 0 = [0] ∧ (s.link 0).state = lPAUSED ∧ (s.link 0).resumed = r ∧ (s.link 0).paused = true ∧ (s.link 0).heard = h
      ∧ (s.link 0).attempt = n ∧ (s.port 0).imRun = none ∧ (s.port 0).los = false ∧ (s.port 0).st ≠ pACQ := by decide +kernel

/-- A curtain to port 0 of device 0 with tenant 5's key, its tag right. -/
def curtOf (kind : Nat) : List Byte :=
  let a := [1, BitVec.ofNat 8 kind, 5, 0, 0x40, 15] ++ leBytes 6 1
  osMark ++ a ++ tagOf [7] a (List.replicate 8 0) 0 0 0 0 ++ List.replicate 8 0
def curtSite (k : LinkSt) : State := { linkIs k with sites := [(0, { SiteSt.init with keys := [(5, [7])] })] }
theorem witness_Curtains_accepted : ∀ kind ∈ [kHOLD, kRELEASE, kFENCE, kFENCEDONE],
    osOk (curtOf kind) = true ∧ osType (curtOf kind) = 1 ∧ (curtSite upLink).curtOk 0 (curtOf kind) = true
      ∧ curtKind (curtOf kind) = kind := by decide +kernel
theorem witness_Curtains_discarded : osOk (curtOf 5) = true ∧ (curtSite upLink).curtOk 0 (curtOf 5) = false ∧ osType (osBytes 2 1 0 0 18 0) ≠ 1 := by decide +kernel
theorem witness_Curtains_fence : ∀ st ∈ [lDOWN, lUP, lPAUSED], ∀ wait ∈ [[], [toMe]],
    let f : FenceSt := ⟨⟨5, 0x40, 15⟩, 0, wait⟩
    let s := { curtSite { LinkSt.init with state := st, fences := [f] } with inbox := [(0, [⟨toMe, 0⟩])] }
    (s.curtKey 0 5) ≠ [] ∧ s.linkUp 0 = decide (st ≠ lDOWN) ∧ s.waitingFrom 0 = [toMe] ∧ s.isHouse 0 = false
      ∧ (s.link 0).fences.find? (fun f => f.wait.all (fun m => m ∉ s.waitingFrom 0)) = (if wait = [] then some f else none) := by decide +kernel
theorem witness_Curtains_lapse : ((linkIs { upLink with held := [⟨5, 0x40, 15⟩] }).link 0).held = [⟨5, 0x40, 15⟩] := by decide +kernel

end Sys2Proof.Tests
end

