-- ==== Sys2Proof/Tests/Slice0.lean ====
section
/-! SUPPORT. The model's own tests: ill-formed commands, numbers of the manual, single steps. -/

namespace Sys2Proof.Tests

set_option Elab.async false

open Sys2Proof Sys2Proof.Machine

/-! ## Ill-formed commands: one for each check that WellFormed makes -/

def okMsg : Msg := ⟨7, 2 ^ 15 - 1, 3, 3, 15, 255, 2 ^ 15 - 1, 2 ^ 16 - 1, List.replicate 16 0⟩
theorem test_msg_well_formed : okMsg.wf = true := by decide
theorem test_msg_ill_formed : ∀ m ∈ [{ okMsg with tc := 8 }, { okMsg with dstDev := 2 ^ 15 }, { okMsg with dstPart := 4 }, { okMsg with srcPart := 4 },
    { okMsg with profile := 16 }, { okMsg with hops := 256 }, { okMsg with srcDev := 2 ^ 15 }, { okMsg with tenant := 2 ^ 16 },
    { okMsg with body := [1] }], m.wf = false := by decide
theorem test_parts_ill_formed : (⟨288, none, false, false⟩ : RingRead).wf = false ∧ (⟨0x14C, true, 0⟩ : SensRead).wf = false
    ∧ (⟨2 ^ 16, 0, 0⟩ : Scope).wf = false ∧ (⟨0, 256, 0⟩ : Scope).wf = false ∧ (⟨0, 0, 16⟩ : Scope).wf = false
    ∧ osWf (List.replicate 31 0) = false ∧ flitWf (List.replicate 255 0) = false := by decide +kernel
def okEnv : BootEnv := ⟨true, [3], [7], [(47, 2 ^ 18 - 1)], [47], [2303], [(2303, 3, [])], [(2 ^ 26 - 4, 0)], true, 511, some 8⟩
theorem test_env_well_formed : okEnv.wf = true ∧ (Instr.powerOn okEnv).wf = true := by decide
theorem test_env_ill_formed : ∀ e ∈ [{ okEnv with partFail := [4] }, { okEnv with siteFail := [8] }, { okEnv with badRows := [(48, 0)] },
    { okEnv with badRows := [(0, 2 ^ 18)] }, { okEnv with badScratch := [2304] }, { okEnv with badSpares := [48] }, { okEnv with received := [(2304, 0, [])] },
    { okEnv with received := [(0, 4, [])] }, { okEnv with hang := some 9 },
    { okEnv with settings := [(2 ^ 26, 0)] }, { okEnv with straps := 512 }], e.wf = false ∧ (Instr.powerOn e).wf = false ∧ (Instr.perstNDeassert e).wf = false := by
  decide
theorem test_access_ill_formed : ∀ i ∈ [Instr.stepTimeout 9 [] [], .stepTimeout 1 [4] [], .stepTimeout 3 [] [8], .registerWrite .host (2 ^ 26 - 3) [0, 0, 0, 0],
    .registerWrite .host 0 [], .rcRead .host (2 ^ 26 - 3) 4, .rcRead .host 0 0, .gtsLoRead 0, .hostBar2Read (2 ^ 36) 1, .hostBar2Read 0 0,
    .hostBar2Write (2 ^ 36) [0], .hostBar2Write 0 []], i.wf = false := by decide
theorem test_core_and_memory_ill_formed : ∀ i ∈ [Instr.recordComplete 0 (2 ^ 16), .waitTimeout 0 (2 ^ 16), .eccWriteback (2 ^ 33 + 2304 * 2 ^ 18),
    .scrubLine 0 [(2 ^ 24 + 48 * 2 ^ 15, .single)], .migrate 0 (2 ^ 20) 0, .mpTimeout 0 (2 ^ 16), .timing 0 [] 0, .mpRead 0 { okMsg with tc := 8 },
    .signalMessage 0 { okMsg with tc := 8 }, .bhQuery 0 { okMsg with tc := 8 }, .nativeRead 0 { okMsg with tc := 8 }, .maxAnchor 0 { okMsg with tc := 8 }],
    i.wf = false := by decide
theorem test_optic_and_link_ill_formed : ∀ i ∈ [Instr.controlCycle 0 [⟨288, none, false, false⟩], .eyeMeasure 0 [(16, 0)], .lossOfSignal 0 [18], .burstReceive 0 [] 0,
    .cap 0 [], .capAck 0 [], .dataFlit 0 [], .nullFlit 0 [], .census 0 [], .pause 0 [], .resume 0 [], .down 0 [], .curtainHold 0 [], .curtainRelease 0 [],
    .curtainFence 0 [], .fenceDone 0 [], .curtLapsed 0 ⟨2 ^ 16, 0, 0⟩, .fastFrame 0 [1] false, .intermissionEnd 0 ⟨[(16, 0)], []⟩, .intermissionEnd 0 ⟨[], [⟨288, none, false, false⟩]⟩], i.wf = false := by decide
theorem test_fabric_and_trust_ill_formed : ∀ i ∈ [Instr.range 0 { okMsg with tc := 8 } 0, .hello 0 { okMsg with tc := 8 }, .digest { okMsg with tc := 8 },
    .peerAbsent 512, .houseSlot 0 1024, .sensorSample [⟨0x14C, true, 0⟩], .chipletDescriptor 0 [] [], .selectEcho 0 [], .getCertificate 8 0 0,
    .challenge 8 (List.replicate 32 0), .challenge 0 [], .getMeasurements 256 false []], i.wf = false := by decide

/-! ## Checks of the manual's own numbers -/

/-- The check value that R227 gives. -/
theorem test_crc64 : crc64 [0x31, 0x32, 0x33, 0x34, 0x35, 0x36, 0x37, 0x38, 0x39] = 0x6C40DF5F0B497347 := by decide +kernel
/-- FIPS 180-4: the digests of "abc". -/
theorem test_sha : leAt (sha256 [0x61, 0x62, 0x63]) 0 4 = 0xBF1678BA ∧ leAt (sha384 [0x61, 0x62, 0x63]) 0 4 = 0x3F7500CB := by decide +kernel
/-- RFC 4231, test case 2: the first four bytes of the tag, 5B DC C1 46. -/
theorem test_hmac : leAt (hmac256 [0x4A, 0x65, 0x66, 0x65] [0x77, 0x68, 0x61, 0x74, 0x20, 0x64, 0x6F, 0x20, 0x79, 0x61, 0x20, 0x77, 0x61, 0x6E, 0x74, 0x20, 0x66,
    0x6F, 0x72, 0x20, 0x6E, 0x6F, 0x74, 0x68, 0x69, 0x6E, 0x67, 0x3F]) 0 4 = 0x46C1DC5B := by decide +kernel

/-- Scratch that holds the rows of Table 2-13 as a VB4 operand in operand order with `g` rows per group: its row 0, the rest zero. -/
def rowBytes (g : Nat) (s1 : Byte) : Nat → Nat → List Byte := fun a n =>
  let bs := leBytes 4 0x3F800000 ++ List.replicate (4 * (g - 1)) 0
    ++ ([0x78, 0x78, 0x01].flatMap (fun b => b :: List.replicate (g - 1) 0))
    ++ ([0x07, s1, 0x01].flatMap (fun b => b :: List.replicate (8 * g - 1) 0))
  padTo n (bs.drop a)
/-- The operands of Table 2-13 as read. -/
def opOf (s1 : Nat) : Operand := ⟨[7, s1, 1].flatMap (fun e => e :: List.replicate 15 0), [0x78, 0x78, 1], [0x3F800000]⟩
theorem test_read_operand : readOperand (rowBytes 8 0x0F) .vb4 8 0 48 0 = opOf 0xF ∧ readOperand (rowBytes 4 0x07) .vb4 4 0 48 0 = opOf 7 := by decide +kernel
/-- The dot product with cancellation of chapter 2: bit 37 of word 3, with anchor 30. -/
theorem test_dot_product : (dotInto 0 .vb4 .vb4 (opOf 0xF) (opOf 7) 48 Xa.none).1 = ⟨2 ^ 229, 30, false, 0, 48⟩ := by decide +kernel
/-- It rounds to 2 to the power of -20, and leaves the device as the fragment of the manual. -/
theorem test_fragment : let x : Xa := ⟨2 ^ 229, 30, false, 0, 48⟩
    fragBytes x = [0x1E, 0x00, 0x01, 0x03, 0, 0, 0, 0, 0x20, 0, 0, 0] ∧ (roundXa .b32 false .rne x).1 = 0x35800000
      ∧ xaWord x 3 = 0x0000002000000000 := by decide +kernel

/-- Table 5-7: the offset is 51 LSB with ASYM = 2; stamps are in 1/64 LSB. -/
theorem test_exchange : thetaOf (64 * 16000000) (64 * 16000295) (64 * 16008000) (64 * 16008191) (64 * 2) = 64 * 51 := by decide +kernel

/-- A device whose cluster CLU2_7 has the cores of Table 1-6. -/
def clu27 : State := { up with fuses := { FuseSt.shipped with yield := [(31, 0xFFFDFFDF + 2 ^ 32 * 0x7FEFF)] } }
/-- The example of the BAR0 map: core 0x05EE answers at both addresses, with the PAGE_ID given. -/
theorem test_core_map : clu27.place 0x25E3048 = .page .core 0x05EE 0x048 ∧ clu27.place 0x25B1048 = .page .core 0x05EE 0x048 := by decide +kernel
theorem test_page_id : clu27.readAt 0x25E3000 = 0x00328720#32 ∧ clu27.readAt 0x25B1000 = 0x00328720#32 := by decide +kernel

/-- Partition 2 as in Table 10-1, with its 576 tickets at three cores. -/
def hot : State := { up with
  boxes := [(2, { BoxSt.init with base := 224, free := 100 })]
  cores := [1152, 1153, 1154].map (fun n => (n, { CoreSt.init with held := 192 })) }
/-- It loses 225 tickets, of which 100 were free and 125 come from the cores. -/
theorem test_rate_event : ((hot.rateEvent 1).box 2).withdrawn = 225 ∧ ((hot.rateEvent 1).box 2).free = 0
    ∧ (((hot.rateEvent 1).box 2).notices.map Prod.snd).sum = 125 := by decide +kernel

/-! ## Single steps -/

def after (i : Instr) (s : State) : State :=
  match step { s with pending := [i] } with
  | .next t => t
  | .fault _ => s
  | .refused _ => s
/-- R68: START of a HALTED core makes it RUNNING. -/
theorem test_start : ((after (.start 2303) up).core 2303).st = cRUNNING ∧ ((after (.start 2303) up).core 0).st = cHALTED := by decide +kernel
/-- R142: a host ADD wraps at 32 bits, and touches no other object. -/
theorem test_host_add : let t := after (.hostAdd 0 2) ((after (.hostSet 0 7 0xFFFFFFFF) owned).setFld (aSyn 0 + rSYN_HOST_ADD_OBJ) 15 0 7)
    t.objVal 0 7 = 1 ∧ t.objVal 0 8 = 0 := by decide +kernel
/-- R101: an access in the hole is a fault of the requester. -/
theorem test_hole : (match step { up with pending := [.eccWriteback (2 ^ 33 + 2304 * 2 ^ 18)] } with
    | .fault f => f == .noSuchMemory (2 ^ 33 + 2304 * 2 ^ 18)
    | _ => false) = true := by decide +kernel
/-- R313: a fall of PWRGD leaves the device in reset. -/
theorem test_pwrgd_fall : (after .pwrgdFall up).pwr.inReset = true ∧ (after .pwrgdFall up).pwr.pwrgd = false := by decide +kernel
/-- R173: a linear transfer of four bytes between two cores' scratch. -/
theorem test_linear : let t := after (.linear 0) { dueD (descB 0 (scrW 0 0) (scrW 1 64) 4 0 0 0 0 []) with mem := [(scratchAddr 0 3, 7)] }
    t.memByte (scratchAddr 1 67) = 7 ∧ t.memByte (scratchAddr 1 68) = 0 := by decide +kernel
/-- R197: a port that may train begins to acquire, each ring on its own line, the first ring of each bank before the others. -/
theorem test_port_enable : let t := after (.portEnable 0) ((portIs PortSt.init LinkSt.init).setFld (aPort 0 + rOIOPORT_CTL) 31 31 0)
    (t.port 0).st = pACQ ∧ (t.ring 18).st = gACQ ∧ (t.ring 35).st = gPARKED ∧ (t.ring 35).line = 17 := by decide +kernel
/-- R296: a budget within its bounds is committed, and one below BASE + 8 is not. -/
theorem test_budget_commit : ((after (.budgetCommit 0) (commits 108)).box 0).budget = 108 ∧ ((after (.budgetCommit 0) (commits 107)).box 0).budget = 0x384 := by
  decide +kernel
/-- R292: the head of the queue is granted whole. -/
theorem test_ticket_grant : let t := after (.ticketGrant 0) (boxIs { BoxSt.init with free := 9, queue := [⟨575, 8, 0, 0⟩] })
    (t.core 575).held = 8 ∧ (t.box 0).free = 1 ∧ (t.box 0).queue = [] := by decide +kernel
/-- R240: the flit that is expected is taken, and the next is expected. -/
theorem test_data_flit : let t := after (.dataFlit 0 (dataF 0)) ((linkIs upLink).setReg (aDev + rDEV_FAB_ID) 0x80000000#32)
    t.inboxOf 3 = [⟨toMe, 0⟩] ∧ (t.link 0).expected = 1 := by decide +kernel
/-- R111: CREATE of a resident handle of one page. -/
theorem test_create : let t := after (.create 0) (asks (reqIs 1 65535 0 (desc1 true)) UshSt.init)
    (t.handle 0 65535).isSome = true ∧ (t.handle 0 65534).isSome = false := by decide +kernel

end Sys2Proof.Tests
end

