-- ==== Sys2Proof/Tests/SyncDma.lean ====
section
/-! SUPPORT. States that meet the hypotheses of the statements: each clause's, at the ends of its ranges. Sync objects, time and DMA. -/

namespace Sys2Proof.Tests

set_option Elab.async false

open Sys2Proof Sys2Proof.Machine

/-! ## Sync objects, Bloodhound and time -/

/-- Peer context 1 of partition 0 is partition 0 of device 0, of tenant 5; its sequences as given. -/
def peered (q : PeerSeq) (loss : Tbl (Option LossEnt)) : State :=
  { owned with peers := [(1, (0x80000000#32, 5#32))], syncs := [(0, { SynSt.init with peers := [(1, q)], loss := loss })] }
def syncMsg (tenant kind seq : Nat) : Msg := { msgOf 0 tenant (syncBody kind false 0 3 7 seq 0) with tc := 1 }

theorem witness_Signals : ∀ x ∈ [(5, 0), (5, 2 ^ 32 - 1), (5, 1), (6, 0)], let s := peered { PeerSeq.init with applied := 2 ^ 32 - 1 } []
    let m := syncMsg x.1 kSIGNAL x.2
    s.ecc = [] ∧ s.pageOpen .syn 0 true = true ∧ syncKind m.body = kSIGNAL ∧ s.contextOf 0 m = some 1
      ∧ s.foreign 0 m (some 1) = decide (x.1 = 6)
      ∧ (x.2 = 0 ↔ syncSeq m.body = ((s.peerSeq 0 1).applied + 1) % 2 ^ 32)
      ∧ seqLe (syncSeq m.body) (s.peerSeq 0 1).applied = decide (x.2 = 2 ^ 32 - 1) := by decide +kernel
theorem witness_Signals_discard : let m := syncMsg 5 7 0
    syncKind m.body = 7 ∧ owned.pageOpen .syn 0 true = true ∧ owned.ecc = [] := by decide +kernel
theorem witness_Signals_noContext : let m := { syncMsg 5 kSIGNAL 0 with srcPart := 3 }
    (peered PeerSeq.init []).contextOf 0 m = none ∧ (peered PeerSeq.init []).foreign 0 m none = true := by decide +kernel

def sent1 : Unacked := ⟨1, 0, 0, 3, false, 7⟩
def lost1 : LossEnt := ⟨1, false, 0, false, 3, 7, 1⟩
theorem witness_Acknowledgement : ∀ kind ∈ [kACK, kQUERY, kREPLY, kSKIP], ∀ st ∈ [0, 1], ∀ seq ∈ [1, 2],
    let s := peered { PeerSeq.init with tx := 2, state := st, unacked := [sent1] } [(0, some lost1)]
    let m := syncMsg 5 kind seq
    s.contextOf 0 m = some 1 ∧ syncKind m.body = kind ∧ s.neverSent 0 1 (syncSeq m.body) = decide (seq = 2) ∧ (s.peerSeq 0 1).state = st
      ∧ tblGet none (s.sync 0).loss 0 = some lost1 := by decide +kernel
theorem witness_Acknowledgement_noContext : (peered PeerSeq.init []).contextOf 0 { syncMsg 5 kACK 0 with srcPart := 3 } = none := by
  decide +kernel
theorem witness_Acknowledgement_timers : let s := peered { PeerSeq.init with state := 1, unacked := [sent1], ackDue := 3 } []
    (s.peerSeq 0 1).ackDue ≠ 0 ∧ (s.peerSeq 0 4095).ackDue = 0 ∧ (s.peerSeq 0 1).unacked ≠ [] ∧ (s.sync 0).loss = []
      ∧ (s.peerSeq 0 1).unacked.length ≤ 256 ∧ (s.peerSeq 0 1).state = 1 ∧ (s.peerSeq 0 4095).state ≠ 1 := by decide +kernel

theorem witness_Refusals : let s := peered { PeerSeq.init with tx := 2, unacked := [sent1] } []
    let m := syncMsg 5 kREFUSED 1
    let d := syncMsg 5 kDROPPED 1
    s.contextOf 0 m = some 1 ∧ syncKind m.body = kREFUSED
      ∧ (s.peerSeq 0 1).unacked.find? (fun u => u.seq == syncSeq m.body) = some sent1 ∧ syncKind d.body = kDROPPED
      ∧ ((s.sync 0).peers.find? (fun e => e.2.unacked.any (fun u => u.seq == syncSeq d.body && u.obj == syncObj d.body
        && u.part == syncPart d.body))).isSome = true := by decide +kernel
theorem witness_Refusals_droppedUnknown : let s := peered { PeerSeq.init with applied := 9 } []
    let d := syncMsg 5 kDROPPED 1
    (∀ e ∈ (s.sync 0).peers, ∀ u ∈ e.2.unacked, u.seq ≠ syncSeq d.body) ∧ ∀ e ∈ (s.sync 0).peers, e.2.tx = 1 := by decide +kernel
theorem witness_Refusals_otherKinds : syncKind (syncMsg 5 kACK 1).body ≠ kREFUSED ∧ syncKind (syncMsg 5 kACK 1).body ≠ kDROPPED
    ∧ State.reset.pageOpen .syn 0 true = false ∧ owned.pageOpen .syn 0 true = true ∧ (owned.peerSeq 0 (owned.peerSel 0)).state ≠ 2 := by decide +kernel
/-- A resend with room for all of it, and one with none. -/
theorem witness_Refusals_room : ∀ n ∈ [0, 256],
    let s := (peered { PeerSeq.init with tx := 2, state := 2, unacked := List.replicate n sent1 } [(0, some lost1)]).setFld (aSyn 0 + rSYN_PEER_SEL) 11 0 1
    (∀ e ∈ (s.sync 0).peers, e.2.again = []) ∧ s.pageOpen .syn 0 true = true ∧ (s.peerSeq 0 (s.peerSel 0)).state = 2
      ∧ decide (s.unackCount 0 + ((s.lossOf 0 1).filter (fun e => !e.applied)).length ≤ 256) = decide (n = 0) := by decide +kernel
theorem witness_Refusals_recovery : let s := (peered { PeerSeq.init with tx := 2, state := 2 } [(0, some lost1)]).setFld (aSyn 0 + rSYN_PEER_SEL) 11 0 1
    s.pageOpen .syn 0 true = true ∧ s.peerSel 0 = 1 ∧ (s.peerSeq 0 (s.peerSel 0)).state = 2 ∧ (s.lossOf 0 1).getLast? = some lost1 := by
  decide +kernel

/-- A census with nothing found. -/
def noCensus : Census := ⟨0, 0, [], [], [], 0⟩
def censusOf (ps : List BhPath) (queued : Option Waiter) : State :=
  { owned with
    peers := [(1, (0x80000000#32, 5#32))]
    syncs := [(0, { SynSt.init with census := some { noCensus with paths := ps }, queued := queued })] }
theorem witness_Bloodhound_census : let s := up.setFld (aSyn 3 + rSYN_BH_CTL) 31 31 1
    rb (s.reg (aSyn 3 + rSYN_BH_CTL)) 31 = true ∧ (s.sync 3).census = none
      ∧ ((censusOf [] none).sync 0).census.isSome = true ∧ rb ((up.setFld (aSyn 0 + rSYN_BH_CTL) 31 31 0).reg (aSyn 0 + rSYN_BH_CTL)) 31 = false := by decide +kernel
theorem witness_Bloodhound_query : let m := msgOf 3 5 (bhQueryBody 1 7 0)
    leAt m.body 0 1 = 0x10 ∧ (∀ w ∈ (owned.sync 0).waiters, w.met = false → w.src ≠ leAt m.body 8 2) := by decide +kernel
theorem witness_Bloodhound_reply : let path : BhPath := ⟨[], some (0, 1, 7)⟩
    let s := censusOf [path] none
    let m := msgOf 3 5 (leBytes 4 0x11 ++ leBytes 4 (s.censusNo 0) ++ leBytes 8 0)
    (s.sync 0).census = some { noCensus with paths := [path] }
      ∧ [path].find? (fun x => match x.query with | some q => q.2.1 == 1 | none => false) = some path
      ∧ s.contextOf 0 m = some 1 ∧ leAt m.body 0 1 = 0x11 ∧ leAt m.body 4 4 = s.censusNo 0 ∧ leAt m.body 8 1 = 0 := by decide +kernel
theorem witness_Bloodhound_otherQueries : (msgOf 3 6 (bhQueryBody 1 7 0)).tenant ≠ (owned.part 0).tenant
    ∧ (msgOf 3 5 (bhQueryBody 1 7 0)).tenant = (owned.part 0).tenant ∧ leAt (leBytes 4 0x12) 0 1 ≠ 0x10 := by decide +kernel
theorem witness_Bloodhound_report : ∀ q ∈ [none, some (⟨0, 9, false, 1, 5, 0, false⟩ : Waiter)],
    ((censusOf [] q).sync 0).census = some { noCensus with paths := [] } ∧ ((censusOf [] q).sync 0).queued = q
      ∧ (((censusOf [⟨[], none⟩] q).sync 0).census.map (fun c => c.paths.length)) = some 1 ∧ (owned.sync 0).census = none := by decide +kernel

theorem witness_Gts_tick : ∀ x ∈ [(none, rateMax, none), (some (true, 5), -rateMax, none), (none, 0, some (-7))], ∀ b ∈ [true, false],
    let s := { up with tsu := { TsuSt.init with rate := x.2.1, setPend := x.1, ratePend := some 3, stepPend := x.2.2, gts := 15999, backed := b } }
    s.clocked = true ∧ -rateMax ≤ s.tsu.rate ∧ s.tsu.rate ≤ rateMax ∧ s.tsu.frac < 2 ^ 40 ∧ s.tsu.gts + 48000 < 2 ^ 64
      ∧ s.tsu.setPend = x.1 ∧ s.tsu.stepPend = x.2.2 ∧ s.tsu.phase = 0 ∧ s.tsu.ratePend = some 3 := by decide +kernel
theorem witness_Gts_unclocked : State.reset.clocked = false ∧ State.reset.pageOpen .tsu 0 true = false := by decide +kernel
def tsuIn (st : Nat) : State := { up with tsu := { TsuSt.init with state := st } }
theorem witness_Gts_commands : up.pageOpen .tsu 0 true = true ∧ (tsuIn tLOCKED).tsuRoot = false ∧ (tsuIn tLOCKED).tsu.state = tLOCKED
    ∧ hasParent (0x000000A5#32 &&& 0xC0003FBF#32) = true ∧ hasParent up.tsuCfg = false ∧ hasParent (0x80000080#32 &&& 0xC0003FBF#32) = false := by
  decide +kernel
theorem witness_Gts_noHoldover : (tsuIn tFREE).tsu.state ≠ tLOCKED ∧ (tsuIn tFREE).tsu.state ≠ tHOLDOVER ∧ up.tsuAltEn = false := by decide +kernel
theorem witness_Gts_altTakeover : let s := (tsuIn tHOLDOVER).setFld (aTsu + rTSU_TSU_CFG) 30 30 1
    s.tsu.state = tHOLDOVER ∧ s.tsuAltEn = true ∧ s.tsuRoot = false ∧ s.tsu.alt = false ∧ s.pwr.refLost = false := by decide +kernel

/-- A device whose parent is at port 63, whose link is up; a TIMING message of it and the stamps that it needs. -/
def childOf (t : TsuSt) : State :=
  { up with links := [(4032, { LinkSt.init with state := lUP })]
            tsu := { t with stamps := [(126, some (0, 0)), (127, some (0, 64))] } }.setReg (aTsu + rTSU_TSU_CFG) 0xBF#32
def timingBody (t2 t3 : Nat) : List Byte := leBytes 1 3 ++ leBytes 3 0 ++ leBytes 4 1 ++ leBytes 8 t2 ++ leBytes 8 t3 ++ leBytes 8 0
/-- The offset that the body's times give. -/
def thOf (b : List Byte) : Int :=
  thetaOf (64 * leAt b 8 8 + bits (leAt b 24 1) 5 0) 0 64 (64 * leAt b 16 8 + bits (leAt b 25 1) 5 0) 0

theorem witness_Exchanges : let s := childOf TsuSt.init
    let b := timingBody 1 1
    hasParent s.tsuCfg = true ∧ 63 = s.parentPort ∧ s.linkUp (s.timingLink 63) = true ∧ leAt b 0 1 = 3 ∧ b.length = 32
      ∧ bit (leAt b 2 1) 0 = false ∧ tblGet none s.tsu.stamps (2 * 63) = some (0, 0) ∧ tblGet none s.tsu.stamps (2 * 63 + 1) = some (0, 64)
      ∧ (0 + 1) % 2 ^ 32 = leAt b 4 4 ∧ s.pwr.refLost = false := by decide +kernel
theorem witness_Exchanges_child : let s := childOf TsuSt.init
    let b := leBytes 2 3 ++ leBytes 2 1 ++ leBytes 28 0
    s.linkUp (s.timingLink 63) = true ∧ leAt b 0 1 = 3 ∧ b.length = 32 ∧ bit (leAt b 2 1) 0 = true := by decide +kernel
theorem witness_Exchanges_none : up.linkUp (up.timingLink 0) = false ∧ (hasParent up.tsuCfg = false ∧ up.isAlt 0 = false) ∧ leAt (leBytes 4 4) 0 1 ≠ 3
    ∧ (leBytes 31 3).length ≠ 32 := by decide +kernel
theorem witness_Exchanges_offsets : (thOf (timingBody 1 1)).natAbs ≤ 1024 ∧ 1024000 ≤ (thOf (timingBody 0 40000)).natAbs
    ∧ 1024 < (thOf (timingBody 0 100)).natAbs := by decide +kernel
theorem witness_Exchanges_states : ∀ x ∈ [(tLOCKED, 0, 7), (tACQUIRE, 63, 0)],
    let s := childOf { TsuSt.init with state := x.1, okRun := x.2.1, badRun := x.2.2 }
    s.tsu.state = x.1 ∧ s.tsu.okRun = x.2.1 ∧ s.tsu.badRun = x.2.2 := by decide +kernel
theorem witness_Exchanges_alternate : let s := (childOf TsuSt.init).setReg (aTsu + rTSU_TSU_CFG) 0x40003F80#32
    ¬ (hasParent s.tsuCfg = true ∧ 63 = s.parentPort) ∧ s.isAlt 63 = true ∧ s.linkUp (s.timingLink 63) = true := by decide +kernel
theorem witness_Cues_write : up.pageOpen .tsu 0 true = true ∧ rf (0x80050003#32) 19 16 < 6 ∧ cueUnitOk 5 0 3 = true
    ∧ cueUnitOk (rf (0x8004FFFF#32) 19 16) (rf (0x8004FFFF#32) 21 20) (rf (0x8004FFFF#32) 15 0) = false := by decide +kernel
theorem witness_Cues_idle : 6 ≤ rf (0x80060003#32) 19 16 ∧ (up.cue 0).en = false
    ∧ (let s := { up with tsu := { TsuSt.init with gts := 4, cues := [(0, ⟨true, false, false, 0, 5, 3, 5, 0⟩)] } }
      (s.cue 0).en = true ∧ s.tsu.gts < (s.cue 0).target) := by decide +kernel
theorem witness_Cues_atTarget : let s := { up with tsu := { TsuSt.init with gts := 7, cues := [(255, ⟨true, false, false, 0, 5, 3, 7, 16⟩)] } }
    (s.cue 255).en = true ∧ (s.cue 255).target = s.tsu.gts := by decide +kernel
theorem witness_Cues_fire : ∀ period ∈ [0, 1, 16000], let s := { up with tsu := { TsuSt.init with gts := 40000, cues := [(255, ⟨true, false, true, 0, 5, 3, 7, period⟩)] } }
    (s.cue 255).en = true ∧ (s.cue 255).target ≤ s.tsu.gts ∧ (s.cue 255).period = period ∧ (s.cue 255).past = true ∧ (s.cue 255).kind = 5 := by
  decide +kernel

/-! ## DMA channels -/

/-- The ring pair between partitions 0 and 1 retrains. -/
def ringDown (s : State) : State := { s with pwr := { s.pwr with retraining := [0, 1, 2, 3] } }

theorem witness_Channels_closed : State.reset.pageOpen .dma 0 true = false ∧ owned.pageOpen .dma 0 true = true := by decide +kernel
theorem witness_Channels_abort : ∀ b ∈ [true, false],
    let s := inChan 0 { ChanSt.init with st := hACTIVE, started := b, ahead := [⟨3, descB 0 (scrW 0 0) (scrW 1 0) 32 0 0 0 0 [], 0⟩] }
    (s.chan 0).st ≠ hDISABLED ∧ (s.chan 0).st ≠ hHALTED ∧ (s.chan 0).started = b ∧ (s.chan 0).ahead ≠ [] := by decide +kernel

theorem witness_Channels_disabled : owned.pageOpen .dma 767 true = true ∧ (owned.chan 767).st = hDISABLED
    ∧ owned.chanOff 767 = false ∧ (owned.setReg (aDma 767 + rDMA_RING_BASE_HI) 0x80000000#32).ringBaseOk 767 = true
    ∧ (owned.setReg (aDma 767 + rDMA_RING_BASE_LO) 8#32).ringBaseOk 767 = false := by decide +kernel
theorem witness_Channels_states : ∀ st ∈ [hIDLE, hACTIVE, hEVENT, hSYNC, hHALTED, hPAUSED], ∀ n ∈ [0, 254, 255],
    let s := inChan 3 { ChanSt.init with st := st, events := n }
    s.pageOpen .dma 3 true = true ∧ (s.chan 3).st = st ∧ (s.chan 3).st ≠ hDISABLED ∧ (s.chan 3).events = n := by decide +kernel

theorem witness_Transfers_rows : ∀ x ∈ [(0, hostW 0), (1, hostW (2 ^ 62 - 96)), (1, scrW 47 0)],
    let d := descB x.1 (scrW 0 (2 ^ 18 - 64)) x.2 32 1 0 32 64 (leBytes 4 0 ++ leBytes 4 0)
    let s := dueD d
    (x.2 = scrW 47 0 ∨ x.1 = 0 ∨ x.1 = 1) ∧ s.ecc = [] ∧ s.due 0 = some ⟨0, d, 0⟩ ∧ s.endsOpen 0 d = true ∧ dMode d = x.1 ∧ dShuf d = 0
      ∧ (match descEnds 0 d with
        | .ok (a, b) => decide (a.isPeer = false ∧ b.isPeer = false ∧ a.apart b = true ∧ s.rowsUntil 0 a b (descRows d) = (descRows d, stOK))
        | .error _ => false) = true := by decide +kernel
/-- A descriptor of a partition whose ring pair to another is down; one whose endpoints cannot be; and a header that fits none. -/
theorem witness_Transfers_forms :
    let d := descB 0 (hostW 0) (scrW 0 0) 32 0 0 0 0 []
    let s := { ringDown up with parts := [(1, ⟨1, 5⟩)], chans := [(192, { ChanSt.init with st := hACTIVE, ahead := [⟨0, d, 0⟩] })] }
    let e := descB 0 (scrW 48 0) (hostW 1) 32 0 0 0 0 []
    s.due 192 = some ⟨0, d, 0⟩ ∧ s.endsOpen 192 d = false ∧ (ringDown up).endsOpen 0 (descB 0 (scrW 0 0) (scrW 1 0) 32 0 0 0 0 []) = true
      ∧ (match descEnds 0 e with | .error k => decide (k ≠ stOK) | .ok _ => false) = true ∧ (dueD e).endsOpen 0 e = true
      ∧ (dueD e).due 0 = some ⟨0, e, 0⟩ ∧ dMode e = 0 ∧ up.due 0 = none := by decide +kernel
theorem witness_Transfers_fetch :
    let d := descB 2 (scrW 0 0) (scrW 1 0) 8 2 0 8 8 (leBytes 8 (scrW 2 0))
    let s := { dueD d with mem := (List.range 4).map (fun i => (scratchAddr 2 (8 + i), 0xFF#8)) }
    let q := Endpt.scratch 2 0
    let n := dRows d * dPlanes d
    let idx := fun k => leAt (s.bytesAt (s.mem, s.host) q 0 (4 * n)) (4 * k) 4
    dMode d = 2 ∧ endpoint 0 (dAux d) = some q ∧ q.isMem = true ∧ s.endCheck 0 q 0 (4 * n) = stOK ∧ n = 3
      ∧ idx 2 = 0xFFFFFFFF ∧ idx 0 = 0 ∧ s.endsOpen 0 d = true
      ∧ (∀ k : Fin 3, (idx k = 0xFFFFFFFF ∨ s.readCheck 0 (.scratch 0 0) ((idx k * leAt d 36 4 : Nat) : Int) (dXlen d) = stOK)
        ∧ s.endCheck 0 (.scratch 1 0) ((k.1 : Int) * dDy d) (dXlen d) = stOK) := by decide +kernel

theorem witness_Reshuffles_weave :
    let d := fun shuf => descB (1 + 16 * shuf) (scrW 0 0) (scrW 1 (2 ^ 18 - 128)) (32 + 2 ^ 24 * 2 + 2 ^ 27 * 2) 1 1 64 64 (leBytes 4 32 ++ leBytes 4 32)
    let s := fun shuf => dueD (d shuf)
    (∀ shuf ∈ [1, 2], (s shuf).due 0 = some ⟨0, d shuf, 0⟩ ∧ dMode (d shuf) = 1 ∧ dShuf (d shuf) = shuf ∧ (s shuf).ecc = []
      ∧ (s shuf).endsOpen 0 (d shuf) = true
      ∧ descFields (d shuf) = stOK ∧ (match descEnds 0 (d shuf) with
        | .ok (a, b) => decide (a.apart b = true ∧ ∀ y : Fin 2, ∀ z : Fin 2,
          (s shuf).endCheck 0 b ((y.1 : Int) * dDy (d shuf)) 64 = stOK ∧ (s shuf).endCheck 0 a ((y.1 : Int) * dSy (d shuf) + z.1 * 32) 32 = stOK
            ∧ (s shuf).endCheck 0 a ((y.1 : Int) * dSy (d shuf)) 64 = stOK ∧ (s shuf).endCheck 0 b ((y.1 : Int) * dDy (d shuf) + z.1 * 32) 32 = stOK)
        | .error _ => false) = true) := by decide +kernel
theorem witness_Reshuffles_planes : ∀ x ∈ [(3, 1, 17), (4, 0, 25), (4, 4, 33)],
    let d := descB (1 + 16 * x.1) (scrW 0 0) (scrW 1 0) (x.2.2 * 2) 7 x.2.1 64 64 []
    (dueD d).due 0 = some ⟨0, d, 0⟩ ∧ (dueD d).endsOpen 0 d = true ∧ dShuf d = x.1 ∧ dMode d = 1 ∧ descFields d = stOK
      ∧ (planeFmt x.1 (bits (dParam d) 3 2)).isSome = true ∧ dRows d % (if bit (dParam d) 0 then 4 else 8) = 0
      ∧ (x.1 = 3 → bits (dParam d) 3 2 ≠ 0 ∨ x.2.1 = 1)
      ∧ (match descEnds 0 d with | .ok _ => true | .error _ => false) = true := by decide +kernel

theorem witness_Descriptors : ∀ code ∈ [stOK, stRANGE], ∀ sig ∈ [0, 1],
    let d := descB (2 ^ 8 + sig * 2 ^ 10) (scrW 0 0) (scrW 1 0) 32 0 0 0 0 []
    let c := { ChanSt.init with st := hACTIVE, ahead := [⟨15, d, 0⟩], started := true, code := code }
    let s := (inChan 0 c).setReg (aDma 0 + rDMA_RING_BASE_HI) 0x80000000#32
    s.ecc = [] ∧ (s.chan 0).ahead = ⟨15, d, 0⟩ :: [] ∧ (s.chan 0).started = true ∧ (s.chan 0).reqs = [] ∧ (s.chan 0).todo = []
      ∧ endpoint 0 (s.ringBase 0) = some (.host 0) ∧ dIrq d = false ∧ dChain d = false ∧ dSig d = decide (sig = 1) ∧ (s.chan 0).code = code
      ∧ s.ringWay 0 = true ∧ 0 + 64 * 15 + 64 ≤ 2 ^ 62 := by
  decide +kernel
theorem witness_Descriptors_goOn :
    let c := { ChanSt.init with st := hACTIVE, ahead := [⟨0, descB (2 ^ 8) (scrW 0 0) (scrW 1 0) 32 0 0 0 0 [], 0⟩], started := true }
    let s := { (inChan 192 c).setReg (aDma 192 + rDMA_RING_BASE_HI) 0x80000000#32 with parts := [(1, ⟨1, 5⟩)] }
    s.ringWay 192 = true ∧ (ringDown s).ringWay 192 = false ∧ (up.chan 0).ahead = [] ∧ ((inChan 0 { c with started := false }).chan 0).started = false
      ∧ ((inChan 0 { c with reqs := [⟨7, true, 0, 16, 1, 0, 0, 0⟩] }).chan 0).reqs ≠ []
      ∧ dIrq (descB (2 ^ 9) (scrW 0 0) (scrW 1 0) 32 0 0 0 0 []) = true := by decide +kernel

/-- The requests of channel 0 outstanding: a read and a write. -/
def asking (d : List Byte) (rs : List PeerReq) : State := { owned with chans := [(0, { ChanSt.init with st := hACTIVE, ahead := [⟨0, d, 0⟩], started := true, reqs := rs })] }
theorem witness_Native_requests : ∀ op ∈ [1, 2], ∀ t ∈ [5, 6],
    let b := natHeader op 0 1 0 7 4094 0 ++ List.replicate 32 9
    let m := msgOf profNative t b
    let s := withHandle owned 0 7 (oneShard 0 100)
    s.ecc = [] ∧ natOp m.body = op ∧ (s.takeMsg 0 m).natCheck 0 m = (if t = 5 then 0 else 1) ∧ natPoison b = 0 ∧ natLen b + 16 ≤ b.length
      ∧ s.handle 0 (natHandle b) = some (oneShard 0 100) := by decide +kernel
theorem witness_Native_checks : ∀ x ∈ [(4095, 7, 2), (0, 8, 3)], let m := msgOf profNative 5 (natHeader 1 0 1 0 x.2.1 x.1 0)
    let s := withHandle owned 0 7 (oneShard 0 100)
    (s.takeMsg 0 m).natCheck 0 m = x.2.2 := by decide +kernel
theorem witness_Native_refused :
    let b := natHeader 3 0 0 7 0 0 0 ++ List.replicate 16 9
    owned.refuses 0 (msgOf profNative 6 b) = true ∧ owned.refuses 0 (msgOf profNative 5 b) = false ∧ up.refuses 0 (msgOf profNative 5 b) = true
      ∧ owned.natFor 0 b true = none ∧ owned.natFor 0 b false = none ∧ natOp b ≠ 1 ∧ natOp b ≠ 2 ∧ natOp b ≠ 4 := by decide +kernel
/-- Statuses, the ways of the data, and a destination at a peer. -/
theorem witness_Native_forms : ∀ st ∈ [0, 1, 15],
    let d := descB 0 (scrW 0 0) (2 ^ 63 + 2 ^ 62 + 2 ^ 50) 32 0 0 0 0 []
    let h := descB 0 (2 ^ 63 + 2 ^ 62 + 2 ^ 50) (hostW 0) 32 0 0 0 0 []
    let r : PeerReq := ⟨7, true, 16, 16, 1, 0, 0, 0⟩
    let s := asking d [r]
    let a := { ringDown up with parts := [(1, ⟨1, 5⟩)], chans := [(192, { ChanSt.init with st := hACTIVE, ahead := [⟨0, h, 0⟩], started := true, reqs := [r] })] }
    natStatus (natHeader 3 st 0 7 0 0 0) = st ∧ s.dataWay 0 = true ∧ a.dataWay 192 = false ∧ a.natFor 1 (natHeader 3 st 0 7 0 0 0) true = some (192, r)
      ∧ (match s.chanRows 0 with
        | some (_, _, y, rows) => y.isPeer && (rowAtPos rows r.pos).isSome
        | none => false) = true := by decide +kernel
theorem witness_Native_responses : ∀ op ∈ [3, 4, 5], ∀ rd ∈ [true, false],
    let d := descB 0 (2 ^ 63 + 2 ^ 62 + 2 ^ 50) (scrW 0 0) 32 0 0 0 0 []
    let r : PeerReq := ⟨7, rd, 16, 16, 1, 0, 0, 0⟩
    let s := asking d [r]
    let b := natHeader op 1 0 7 0 0 0 ++ List.replicate 16 9
    natOp b = op ∧ s.natFor 0 b rd = some (0, r) ∧ s.natFor 0 b (!rd) = none ∧ natPoison b = 0 ∧ natStatus b = (if op = 3 ∨ op = 4 ∨ op = 5 then 1 else 0) ∧ s.dataWay 0 = true
      ∧ natStatus (natHeader op 0 0 7 0 0 0) = 0 ∧ r.len + 16 ≤ b.length
      ∧ (match s.chanRows 0 with
        | some (_, _, y, rows) => !y.isPeer && (rowAtPos rows r.pos).isSome
        | none => false) = true := by decide +kernel
theorem witness_Reshuffles_groups : ∃ (rows scls : List (List (Byte × Bool))), rows.length = 4 ∧ scls.length = 4
    ∧ (∀ r ∈ rows, r.length = 2 * (8 + 1)) ∧ ∀ r ∈ scls, r.length = 4 * 1 :=
  ⟨List.replicate 4 (List.replicate 18 (1, false)), List.replicate 4 (List.replicate 4 (2, true)), by decide +kernel⟩


end Sys2Proof.Tests
end

section
/-! PROOFS. Pins and clocks (R31, R284, R313, R327): what a partition that is cleared or held in reset leaves of the
partitions and the pins, what stands after a reset of the device, and the nine commands of O53. -/

namespace Sys2Proof.Machine

open Sys2Proof

/-! ## Lists -/

theorem mem_distinct (x : Nat) (l : List Nat) : x ∈ distinct l ↔ x ∈ l := by
  induction l with
  | nil => rfl
  | cons y r ih =>
    by_cases h : x = y
    · simp [distinct, h]
    · simp [distinct, ih, h]

/-! ## Outputs -/

theorem State.mem_emit_wire (s : State) (e : Emission) : e ∈ (s.emit e).wire :=
  List.mem_append_right _ (List.mem_singleton_self e)

theorem State.allDown_wire (s : State) (cause : Nat) : s.wire <+: (s.allDown cause).wire :=
  (State.allDown_keeps s cause rfl (Keeps.refl (F := 13822853502) s)).wire

/-! ## The state of the partitions under the parts of a partition reset -/

section
variable (s : State) (p q : Nat)

/-- An operation that does not name the partitions leaves each one's state. -/
theorem Keeps.part {F : Nat} {s t : State} (h : Keeps F s t) (hF : F.testBit Field.parts.num = false) (q : Nat) :
    t.part q = s.part q := congrArg (fun x => tblGet PartSt.init x q) (h.same .parts hF)

theorem State.disarmCues_part : (s.disarmCues p).part q = s.part q :=
  (State.disarmCues_keeps s p rfl (Keeps.refl (F := 131072) s)).part rfl q

theorem State.refuseAll_part : (s.refuseAll p).part q = s.part q :=
  (State.refuseAll_keeps s p rfl (Keeps.refl (F := 13421773132) s)).part rfl q

theorem State.discardRequests_part : (s.discardRequests p).part q = s.part q :=
  (State.discardRequests_keeps s p rfl (Keeps.refl (F := 4831838212) s)).part rfl q

theorem State.siteDown_part (k cause : Nat) : (s.siteDown k cause).part q = s.part q :=
  (State.siteDown_keeps s k cause rfl (Keeps.refl (F := 13822853502) s)).part rfl q

theorem State.allDown_part (cause : Nat) : (s.allDown cause).part q = s.part q :=
  (State.allDown_keeps s cause rfl (Keeps.refl (F := 13822853502) s)).part rfl q

theorem State.dropRelay_part : (s.dropRelay p).part q = s.part q :=
  (State.dropRelay_keeps s p rfl (Keeps.refl (F := 13421773132) s)).part rfl q

theorem State.resetClusters_part (cs : List Nat) :
    (cs.foldl (fun s c => s.resetClusterNow (12 * p + c)) s).part q = s.part q :=
  (keeps_foldl (fun s c h => State.resetClusterNow_keeps s (12 * p + c) rfl h) (Keeps.refl (F := 65536382) s)).part rfl q

theorem State.zeroPartition_part : (s.zeroPartition p).part q = s.part q :=
  (State.zeroPartition_keeps s p rfl (Keeps.refl (F := 48) s)).part rfl q

theorem State.endLoans_part : (s.endLoans p).part q = s.part q :=
  (State.endLoans_keeps s p rfl (Keeps.refl (F := 1572872) s)).part rfl q

theorem State.resetSite_part (k : Nat) : (s.resetSite k).part q = s.part q :=
  (State.resetSite_keeps s k rfl (Keeps.refl (F := 1006632968) s)).part rfl q

theorem State.resetPages_part (lo hi : Nat) (keep : Nat → Bool) : (s.resetPages lo hi keep).part q = s.part q := rfl

/-- The tenant leaves its own partition only; the sites lose keys (R341). -/
theorem State.clearTenant_part :
    (s.clearTenant p).part q = { s.part q with tenant := if p = q then 0 else (s.part q).tenant } := by
  have hmod : (s.modPart p (fun x => { x with tenant := 0 })).part q
      = { s.part q with tenant := if p = q then 0 else (s.part q).tenant } := by
    rw [State.modPart_part]
    split
    · next h => rw [h]
    · rfl
  unfold State.clearTenant
  dsimp only
  split
  · exact hmod
  · rw [← hmod]
    exact (keeps_foldl (fun s k h => State.modSite_keeps s k _ rfl h) (Keeps.refl (F := 67108864) _)).part rfl q

/-- A cleared partition is RESETTING without a tenant, and no other partition changes. -/
theorem State.partClear_part : (s.partClear p).part q = if p = q then ⟨2, 0⟩ else s.part q := by
  unfold State.partClear
  dsimp only
  rw [State.resetPages_part, State.resetSite_part, State.resetSite_part, State.clearTenant_part, State.endLoans_part,
    State.setUsher_part, State.setSync_part, State.zeroPartition_part, State.resetClusters_part, State.dropRelay_part,
    State.siteDown_part, State.siteDown_part, State.discardRequests_part, State.refuseAll_part, State.disarmCues_part,
    State.modPart_part]
  split <;> rfl

/-! ## A partition held in reset (R31) -/

theorem State.partClear_pwr : (s.partClear p).pwr = s.pwr :=
  (State.partClear_keeps s p rfl (Keeps.refl (F := 13958513022) s)).same .pwr rfl

theorem State.holdPartition_part :
    (s.holdPartition p).part q = if p = q ∧ (s.part q).st ≠ 3 then ⟨2, 0⟩ else s.part q := by
  unfold State.holdPartition
  rw [State.setPwr_part]
  by_cases hf : (s.part p).st = 3
  · rw [if_pos hf, if_neg]
    rintro ⟨rfl, hq⟩
    exact hq hf
  · rw [if_neg hf, State.partClear_part]
    by_cases hpq : p = q
    · subst hpq
      simp [hf]
    · simp [hpq]

/-- A held partition is RESETTING, unless it has FAILED. -/
theorem State.holdPartition_st : ((s.holdPartition p).part p).st = if (s.part p).st = 3 then 3 else 2 := by
  rw [State.holdPartition_part]
  by_cases hf : (s.part p).st = 3 <;> simp [hf]

theorem State.holdPartition_pwr :
    (s.holdPartition p).pwr = { s.pwr with pllHeld := s.pwr.pllHeld ++ (if p ∈ s.pwr.pllHeld then [] else [p]) } := by
  unfold State.holdPartition
  have hp : (if (s.part p).st = 3 then s else s.partClear p).pwr = s.pwr := by
    split
    · rfl
    · exact s.partClear_pwr p
  rw [State.setPwr_pwr, hp]

theorem State.holdPartition_wire : s.wire <+: (s.holdPartition p).wire :=
  (State.holdPartition_keeps s p rfl (Keeps.refl (F := 13958513534) s)).wire

/-! ## Several partitions held in reset (CLOCK_FATAL) -/

theorem State.holdPartitions_wire (ps : List Nat) : s.wire <+: (ps.foldl (fun s p => s.holdPartition p) s).wire :=
  (keeps_foldl (fun s p h => State.holdPartition_keeps s p rfl h) (Keeps.refl (F := 13958513534) s)).wire

theorem State.holdPartitions_clockFatal (ps : List Nat) :
    (ps.foldl (fun s p => s.holdPartition p) s).pwr.clockFatal = s.pwr.clockFatal := by
  induction ps generalizing s with
  | nil => rfl
  | cons p r ih => rw [List.foldl_cons, ih, State.holdPartition_pwr]

theorem State.mem_holdPartitions_pllHeld (ps : List Nat) :
    q ∈ (ps.foldl (fun s p => s.holdPartition p) s).pwr.pllHeld ↔ q ∈ s.pwr.pllHeld ∨ q ∈ ps := by
  induction ps generalizing s with
  | nil => simp
  | cons p r ih =>
    rw [List.foldl_cons, ih, State.holdPartition_pwr, List.mem_cons]
    by_cases hp : p ∈ s.pwr.pllHeld
    · have : q = p → q ∈ s.pwr.pllHeld := fun h => h ▸ hp
      simp only [hp, ↓reduceIte, List.append_nil]
      tauto
    · simp only [hp, ↓reduceIte, List.mem_append, List.mem_singleton]
      tauto

theorem State.holdPartitions_st (ps : List Nat) :
    ((ps.foldl (fun s p => s.holdPartition p) s).part q).st
      = if q ∈ ps ∧ (s.part q).st ≠ 3 then 2 else (s.part q).st := by
  induction ps generalizing s with
  | nil => simp
  | cons p r ih =>
    rw [List.foldl_cons, ih, State.holdPartition_part]
    by_cases hh : p = q ∧ (s.part q).st ≠ 3
    · obtain ⟨rfl, hf⟩ := hh
      simp [hf]
    · rw [if_neg hh]
      have : q ∈ p :: r ∧ (s.part q).st ≠ 3 ↔ q ∈ r ∧ (s.part q).st ≠ 3 := by
        rw [List.mem_cons]
        have : q = p → p = q := Eq.symm
        tauto
      simp only [this]

end

/-! ## After a reset of the device (R313, R327) -/

/-- What a reset of the device does not put at a reset value: what lies outside, flash, fuses and the pins. -/
def outsideReset : List Field := [.freeCtr, .wire, .host, .hostBad, .flash, .fuses, .pwr]

/-- `t` is what a reset of the device in `s` leaves, the pins and what went to the outside left open. -/
def ResetFrom (s t : State) : Prop :=
  (∀ f : Field, f ∉ outsideReset → f.same State.reset t) ∧ t.fuses = s.fuses ∧ t.flash = s.flash
    ∧ t.hostBad = s.hostBad ∧ t.pending = s.pending

theorem resetFrom_toReset (s : State) (cause : Nat) : ResetFrom s (s.toReset cause) := by
  refine ⟨fun f hf => ?_, rfl, rfl, rfl, rfl⟩
  cases f <;> simp [outsideReset, Field.same, State.toReset] at hf ⊢

/-- The links that go down first are no part of what stands after the reset. -/
theorem resetFrom_devReset (s : State) (cause : Nat) : ResetFrom s (s.devReset cause) := by
  have hk := State.allDown_keeps s cRESET rfl (Keeps.refl (F := 13822853502) s)
  obtain ⟨hreset, hfuses, hflash, hbad, hpend⟩ := resetFrom_toReset (s.allDown cRESET) cause
  exact ⟨hreset, hfuses.trans (hk.same .fuses rfl), hflash.trans (hk.same .flash rfl), hbad.trans (hk.same .hostBad rfl),
    hpend.trans hk.pending⟩

theorem ResetFrom.setPwr {s t : State} (h : ResetFrom s t) (x : PwrSt) : ResetFrom s (t.setPwr x) := by
  obtain ⟨hreset, hrest⟩ := h
  exact ⟨fun f hf => Field.same_trans (hreset f hf)
    ((State.sameBut_pwr x).2 f (fun h => hf (List.mem_singleton.mp h ▸ by decide))), hrest⟩

theorem ResetFrom.emit {s t : State} (h : ResetFrom s t) (e : Emission) : ResetFrom s (t.emit e) := by
  obtain ⟨hreset, hrest⟩ := h
  exact ⟨fun f hf => Field.same_trans (hreset f hf)
    ((State.sameBut_wire _).2 f (fun h => hf (List.mem_singleton.mp h ▸ by decide))), hrest⟩

theorem State.devReset_pwr (s : State) (cause : Nat) : (s.devReset cause).pwr
    = { PwrSt.init with pwrgd := s.pwr.pwrgd, perstN := s.pwr.perstN, trip := s.pwr.trip, cause := cause } := by
  have hp : (s.allDown cRESET).pwr = s.pwr :=
    (State.allDown_keeps s cRESET rfl (Keeps.refl (F := 13822853502) s)).same .pwr rfl
  unfold State.devReset State.toReset
  rw [hp]

theorem State.devReset_wire (s : State) (cause : Nat) : s.wire <+: (s.devReset cause).wire :=
  (State.devReset_keeps s cause rfl (Keeps.refl (F := 17179868031) s)).wire

/-! ## The pins: PWRGD_FALL, PERST_N, THERMAL_TRIP -/

theorem pwrgdFall_resets (s : State) : ∃ t, exec .pwrgdFall s = .next t ∧ ResetFrom s t
    ∧ t.pwr = { PwrSt.init with pwrgd := false, perstN := s.pwr.perstN, trip := false, cause := 0 } :=
  ⟨_, rfl, (resetFrom_devReset s 0).setPwr _, by rw [State.setPwr_pwr, State.devReset_pwr]⟩

theorem perstN_unpowered {s : State} (h : s.pwr.pwrgd = false) :
    exec .perstN s = .next (s.setPwr { s.pwr with perstN := false }) := congrArg Host.Outcome.next (if_pos h)

theorem perstN_resets {s : State} (h : s.pwr.pwrgd = true) : ∃ t, exec .perstN s = .next t ∧ ResetFrom s t
    ∧ t.pwr = { PwrSt.init with pwrgd := true, perstN := false, trip := s.pwr.trip, cause := 1 } :=
  ⟨_, congrArg Host.Outcome.next (if_neg (by simp [h])), (resetFrom_devReset s 1).setPwr _, by
    rw [State.setPwr_pwr, State.devReset_pwr, h]⟩

theorem thermalTrip_noop {s : State} (h : s.pwr.trip = true ∨ s.pwr.pwrgd = false) : exec .thermalTrip s = .next s :=
  congrArg Host.Outcome.next (if_pos h)

theorem thermalTrip_resets {s : State} (ht : s.pwr.trip = false) (hp : s.pwr.pwrgd = true) :
    ∃ t, exec .thermalTrip s = .next t ∧ ResetFrom s t ∧ t.wire = s.wire ++ [.thermtrip] ∧ t.host = s.host
      ∧ t.pwr = { PwrSt.init with pwrgd := true, perstN := s.pwr.perstN, trip := true, cause := s.pwr.cause } :=
  ⟨_, congrArg Host.Outcome.next (if_neg (by simp [ht, hp])), ((resetFrom_toReset s s.pwr.cause).setPwr _).emit _, rfl, rfl, by
    rw [State.emit_pwr, State.setPwr_pwr, ← hp]
    rfl⟩

/-! ## The reference and the clocks (Table 1-9) -/

/-- Before the prompter runs and after a trip no clock fault has an effect (log 1). -/
theorem clockFaults_noop_of_prompter_down {s : State} (h : s.prompterUp = false) :
    exec .refLost s = .next s ∧ exec .refRestored s = .next s ∧ exec .clockFatal s = .next s
      ∧ (∀ p, exec (.pllUnlock p) s = .next s) ∧ (∀ d, exec (.d2dPllUnlock d) s = .next s)
      ∧ ∀ k, exec (.synthUnlock k) s = .next s :=
  ⟨congrArg Host.Outcome.next (if_pos (.inl h)), congrArg Host.Outcome.next (if_pos (.inl h)),
    congrArg Host.Outcome.next (if_pos (.inl h)), fun _ => congrArg Host.Outcome.next (if_pos (.inl h)),
    fun _ => congrArg Host.Outcome.next (if_pos h), fun _ => congrArg Host.Outcome.next (if_pos h)⟩

theorem refLost_noop {s : State} (h : s.pwr.refLost = true) : exec .refLost s = .next s :=
  congrArg Host.Outcome.next (if_pos (.inr h))

theorem State.enterHoldover_sameBut (s : State) : s.sameBut [.wire, .tsu, .regs, .host, .pba] s.enterHoldover :=
  (State.enterHoldover_keeps s rfl (Keeps.refl (F := fieldMask [.wire, .tsu, .regs, .host, .pba]) s)).sameBut
    (fun f => by cases f <;> decide)

theorem State.enterHoldover_tsu (s : State) :
    s.enterHoldover.tsu = { s.tsu with state := tHOLDOVER, holdAt := s.ctrlClk } := by
  simp [State.enterHoldover, State.evTsu, State.raiseArg]

theorem State.enterHoldover_evt (s : State) : s.enterHoldover.evt aTsu evTSU_HOLDOVER = true :=
  State.raiseArg_evt _ aTsu srcTsu evTSU_HOLDOVER 0 0 rfl (by decide)

/-- A lost root is logged, and a LOCKED time-stamp unit goes on alone from here with the GTS it has. -/
theorem refLost_acts {s : State} (hup : s.prompterUp = true) (h : s.pwr.refLost = false) :
    ∃ t, exec .refLost s = .next t ∧ t.pwr = { s.pwr with refLost := true } ∧ .logged .refLost ∈ t.wire
      ∧ t.tsu.state = (if s.tsu.state = tLOCKED then tHOLDOVER else s.tsu.state) ∧ t.tsu.gts = s.tsu.gts
      ∧ (s.tsu.state = tLOCKED → t.tsu.holdAt = s.ctrlClk ∧ t.evt aTsu evTSU_HOLDOVER = true)
      ∧ s.sameBut [.pwr, .wire, .tsu, .regs, .host, .pba] t := by
  let u := (s.setPwr { s.pwr with refLost := true }).emit (.logged .refLost)
  have hlog : Emission.logged .refLost ∈ u.wire := State.mem_emit_wire _ _
  have hu : s.sameBut [.pwr, .wire, .tsu, .regs, .host, .pba] u :=
    State.sameBut_trans (State.sameBut_mono (State.sameBut_pwr _) (by decide))
      (State.sameBut_mono (State.sameBut_wire _) (by decide))
  have hexec : exec .refLost s = .next (if s.tsu.state = tLOCKED then u.enterHoldover else u) :=
    congrArg Host.Outcome.next (if_neg (by simp [hup, h]))
  by_cases hl : s.tsu.state = tLOCKED
  · have hk := State.enterHoldover_keeps u rfl (Keeps.refl (F := 131404) u)
    have htsu := u.enterHoldover_tsu
    refine ⟨u.enterHoldover, by rw [hexec, if_pos hl], hk.same .pwr rfl, hk.wire.subset hlog, ?_, ?_, fun _ => ⟨?_, ?_⟩, ?_⟩
    · rw [htsu, if_pos hl]
    · rw [htsu]
      rfl
    · rw [htsu]
      rfl
    · exact u.enterHoldover_evt
    · exact State.sameBut_trans hu (State.sameBut_mono u.enterHoldover_sameBut (by decide))
  · exact ⟨u, by rw [hexec, if_neg hl], rfl, hlog, by rw [if_neg hl]; rfl, rfl, fun h => absurd h hl, hu⟩

theorem refRestored_clockFatal_noop {s : State} (h : s.pwr.refLost = false ∨ s.pwr.clockFatal = true) :
    exec .refRestored s = .next s ∧ exec .clockFatal s = .next s :=
  ⟨congrArg Host.Outcome.next (if_pos (.inr h)), congrArg Host.Outcome.next (if_pos (.inr h))⟩

theorem refRestored_acts {s : State} (hup : s.prompterUp = true) (hr : s.pwr.refLost = true) (hc : s.pwr.clockFatal = false) :
    exec .refRestored s
      = .next { s with pwr := { s.pwr with refLost := false }, wire := s.wire ++ [.logged .refRestored] } :=
  congrArg Host.Outcome.next (if_neg (by simp [hup, hr, hc]))

/-- After the hold-over timer every partition is held in reset. -/
theorem clockFatal_acts {s : State} (hup : s.prompterUp = true) (hr : s.pwr.refLost = true) (hc : s.pwr.clockFatal = false) :
    ∃ t, exec .clockFatal s = .next t ∧ t.pwr.clockFatal = true ∧ .logged .clockFatal ∈ t.wire
      ∧ ∀ p, p < 4 → p ∈ t.pwr.pllHeld ∧ (t.part p).st = (if (s.part p).st = 3 then 3 else 2) := by
  let d := (s.emit (.logged .clockFatal)).allDown cCLOCK
  let u := d.setPwr { d.pwr with clockFatal := true }
  have hlog : Emission.logged .clockFatal ∈ u.wire := by
    rw [State.setPwr_wire]
    exact (State.allDown_wire _ cCLOCK).subset (s.mem_emit_wire _)
  have hpart (p : Nat) : u.part p = s.part p := by
    rw [State.setPwr_part, State.allDown_part, State.emit_part]
  have hexec : exec .clockFatal s = .next ((List.range 4).foldl (fun s p => s.holdPartition p) u) :=
    congrArg Host.Outcome.next (if_neg (by simp [hup, hr, hc]))
  refine ⟨_, hexec, ?_, (u.holdPartitions_wire _).subset hlog, fun p hp => ⟨?_, ?_⟩⟩
  · rw [State.holdPartitions_clockFatal, State.setPwr_pwr]
  · exact (u.mem_holdPartitions_pllHeld p _).mpr (.inr (List.mem_range.mpr hp))
  · rw [State.holdPartitions_st, hpart]
    by_cases hf : (s.part p).st = 3 <;> simp [hf, hp]

/-! ## PLL_UNLOCK, D2D_PLL_UNLOCK, SYNTH_UNLOCK -/

theorem pllUnlock_noop {s : State} {p : Fin 4} (h : p.1 ∈ s.pwr.pllHeld) : exec (.pllUnlock p) s = .next s :=
  congrArg Host.Outcome.next (if_pos (.inr h))

/-- Die 0 has the prompter: its PLL holds the whole device. -/
theorem pllUnlock_zero_resets {s : State} (hup : s.prompterUp = true) (h : 0 ∉ s.pwr.pllHeld) :
    ∃ t, exec (.pllUnlock 0) s = .next t ∧ ResetFrom s t ∧ .logged (.pllUnlock 0) ∈ t.wire
      ∧ t.pwr = { PwrSt.init with
        pwrgd := s.pwr.pwrgd, perstN := s.pwr.perstN, trip := s.pwr.trip, cause := s.pwr.cause, pllHeld := [0] } := by
  let u := s.emit (.logged (.pllUnlock 0))
  let v := u.devReset s.pwr.cause
  have hlog : Emission.logged (.pllUnlock 0) ∈ u.wire := s.mem_emit_wire _
  have hreset : ResetFrom s v := resetFrom_devReset u s.pwr.cause
  have hexec : exec (.pllUnlock 0) s = .next (v.setPwr { v.pwr with pllHeld := [0] }) :=
    congrArg Host.Outcome.next (if_neg (by simp [hup, h]))
  refine ⟨_, hexec, hreset.setPwr _, (u.devReset_wire s.pwr.cause).subset hlog, ?_⟩
  rw [State.setPwr_pwr, State.devReset_pwr]
  rfl

theorem pllUnlock_holds {s : State} {p : Fin 4} (hup : s.prompterUp = true) (h0 : p ≠ 0) (h : p.1 ∉ s.pwr.pllHeld) :
    ∃ t, exec (.pllUnlock p) s = .next t ∧ t.pwr.pllHeld = s.pwr.pllHeld ++ [p.1]
      ∧ (∀ x ∈ [8 + 2 * p.1, 9 + 2 * p.1] ++ ringsOfDie p, x ∈ t.pwr.retraining) ∧ .logged (.pllUnlock p) ∈ t.wire
      ∧ (t.part p).st = (if (s.part p).st = 3 then 3 else 2) ∧ ∀ q, q ≠ p.1 → t.part q = s.part q := by
  let u := s.emit (.logged (.pllUnlock p))
  let v := u.holdPartition p
  have hlog : Emission.logged (.pllUnlock p) ∈ u.wire := s.mem_emit_wire _
  have hne : p.1 ≠ 0 := fun e => h0 (Fin.ext e)
  have hexec : exec (.pllUnlock p) s = .next (v.setPwr { v.pwr with
      retraining := distinct (v.pwr.retraining ++ ringsOfDie p ++ [8 + 2 * p.1, 9 + 2 * p.1]) }) :=
    congrArg Host.Outcome.next ((if_neg (by simp [hup, h])).trans (if_neg hne))
  refine ⟨_, hexec, ?_, fun x hx => ?_, (u.holdPartition_wire p).subset hlog, u.holdPartition_st p, fun q hq => ?_⟩
  · have hpwr : v.pwr.pllHeld = s.pwr.pllHeld ++ (if p.1 ∈ s.pwr.pllHeld then [] else [p.1]) :=
      congrArg PwrSt.pllHeld (u.holdPartition_pwr p)
    rw [State.setPwr_pwr, hpwr, if_neg h]
  · rw [State.setPwr_pwr, mem_distinct]
    simp only [List.mem_append] at hx ⊢
    tauto
  · rw [State.setPwr_part, State.holdPartition_part, if_neg (fun e => hq e.1.symm)]
    rfl

theorem d2dPllUnlock_retrains {s : State} (hup : s.prompterUp = true) (d : Fin 12) :
    ∃ l, exec (.d2dPllUnlock d) s = .next (s.setPwr { s.pwr with retraining := l })
      ∧ ∀ x, x ∈ l ↔ x ∈ s.pwr.retraining ∨ x ∈ modulesOf d :=
  ⟨_, congrArg Host.Outcome.next (if_neg (by simp [hup])), fun x => by rw [mem_distinct, List.mem_append]⟩

/-- Links that are DOWN already leave nothing to do when their site goes down. -/
theorem State.siteDown_of_down {s : State} {k : Nat} (cause : Nat)
    (h : ∀ port ∈ portsOf k, ∀ l ∈ s.linksOf port, (s.link l).state = lDOWN) : s.siteDown k cause = s := by
  have hport : ∀ n ∈ List.range 8, s.portDown (8 * k + n) cause = s := fun n hn =>
    List.foldlRecOn (motive := (· = s)) _ _ rfl fun t ht l hl => by
      subst ht
      have hmem : 8 * k + n ∈ portsOf k := List.mem_map.mpr ⟨n, hn, Nat.add_comm n (8 * k)⟩
      exact if_pos (h _ hmem l hl)
  exact List.foldlRecOn (motive := (· = s)) _ _ rfl fun t ht n hn => by
    subst ht
    exact hport n hn

theorem synthUnlock_acts {s : State} (hup : s.prompterUp = true) (k : Fin 8) :
    ∃ t l, exec (.synthUnlock k) s = .next t ∧ t.pwr = { s.pwr with synthBad := l } ∧ (∀ x, x ∈ l ↔ x ∈ s.pwr.synthBad ∨ x = k.1)
      ∧ ((∀ port ∈ portsOf k, ∀ l ∈ s.linksOf port, (s.link l).state = lDOWN) → t = s.setPwr { s.pwr with synthBad := l }) := by
  let u := s.setPwr { s.pwr with synthBad := distinct (s.pwr.synthBad ++ [k.1]) }
  have hk := State.siteDown_keeps u k cCLOCK rfl (Keeps.refl (F := 13822853502) u)
  refine ⟨u.siteDown k cCLOCK, distinct (s.pwr.synthBad ++ [k.1]), congrArg Host.Outcome.next (if_neg (by simp [hup])),
    hk.same .pwr rfl, fun x => ?_, fun h => State.siteDown_of_down (s := u) cCLOCK h⟩
  rw [mem_distinct, List.mem_append, List.mem_singleton]

/-- Settles O53: each conjunct is the lemma of its command. -/
theorem clockAndResetPinsAct : Obligations.ClockAndResetPinsAct := by
  unfold Obligations.ClockAndResetPinsAct
  exact fun s => ⟨pwrgdFall_resets s, perstN_unpowered, perstN_resets, thermalTrip_noop, thermalTrip_resets,
    clockFaults_noop_of_prompter_down, fun hup => ⟨refLost_noop, refLost_acts hup, refRestored_clockFatal_noop,
      fun hr hc => ⟨refRestored_acts hup hr hc, clockFatal_acts hup hr hc⟩, fun _ => pllUnlock_noop, pllUnlock_zero_resets hup,
      fun _ => pllUnlock_holds hup, d2dPllUnlock_retrains hup, synthUnlock_acts hup⟩⟩

end Sys2Proof.Machine
end

section
/-! PROOFS. Bytes, flits and messages (R227, R230, Table 8-6): what a byte field reads back as, the CRC of a run of bytes
followed by its own CRC, and the round trips of O60. -/

namespace Sys2Proof.Machine

open Sys2Proof

/-! ## Numbers as bytes -/

@[simp] theorem length_leBytes (n v : Nat) : (leBytes n v).length = n := by
  induction n generalizing v with
  | zero => rfl
  | succ n ih => simp [leBytes, ih]

@[simp] theorem length_beBytes (n v : Nat) : (beBytes n v).length = n := by simp [beBytes]

theorem length_padTo {n : Nat} {bs : List Byte} (h : bs.length ≤ n) : (padTo n bs).length = n := by
  simp [padTo, h]

theorem leOf_leBytes (n v : Nat) : leOf (leBytes n v) = v % 256 ^ n := by
  induction n generalizing v with
  | zero => simp [leBytes, leOf, Nat.mod_one]
  | succ n ih =>
    calc leOf (leBytes (n + 1) v) = v % 256 + 256 * (v / 256 % 256 ^ n) := by
          simp only [leBytes, leOf, ih, BitVec.toNat_ofNat, Nat.reducePow]
      _ = v % 256 ^ (n + 1) := by rw [Nat.pow_succ', Nat.mod_mul]

/-- The most significant byte comes first. -/
theorem beBytes_succ (n v : Nat) : beBytes (n + 1) v = BitVec.ofNat 8 (v / 256 ^ n) :: beBytes n v := by
  induction n generalizing v with
  | zero => simp [beBytes, leBytes]
  | succ n ih =>
    have low (k : Nat) : beBytes (k + 1) v = beBytes k (v / 256) ++ [BitVec.ofNat 8 v] := List.reverse_cons
    rw [low, ih, low, Nat.div_div_eq_div_mul, ← Nat.pow_succ', List.cons_append]

theorem beOf_reverse (bs : List Byte) : beOf bs.reverse = leOf bs := by
  rw [beOf, List.foldl_reverse]
  induction bs with
  | nil => rfl
  | cons b r ih => rw [List.foldr_cons, ih, leOf, Nat.mul_comm, Nat.add_comm]

theorem beOf_beBytes (n v : Nat) : beOf (beBytes n v) = v % 256 ^ n := (beOf_reverse _).trans (leOf_leBytes n v)

/-! ## Fields of a byte list -/

/-- A field behind the bytes `a` is found in the rest. -/
theorem slice_append_of_le {a : List Byte} {off : Nat} (b : List Byte) (n : Nat) (h : a.length ≤ off) :
    slice (a ++ b) off n = slice b (off - a.length) n := by
  rw [slice, List.drop_append, List.drop_eq_nil_of_le h, List.nil_append, slice]

/-- The field at the head of a list. -/
theorem slice_append_head {a : List Byte} {n : Nat} (b : List Byte) (h : a.length = n) : slice (a ++ b) 0 n = a := by
  simp [slice, ← h]

theorem leAt_append_of_le {a : List Byte} {off : Nat} (b : List Byte) (n : Nat) (h : a.length ≤ off) :
    leAt (a ++ b) off n = leAt b (off - a.length) n := congrArg leOf (slice_append_of_le b n h)

@[simp] theorem leAt_leBytes_append (n v : Nat) (b : List Byte) : leAt (leBytes n v ++ b) 0 n = v % 256 ^ n := by
  rw [leAt, slice_append_head b (length_leBytes n v), leOf_leBytes]

/-! ## The CRC of bytes followed by their CRC -/

/-- What one byte makes of a CRC register. -/
def crcByte (w poly crc : Nat) (b : Byte) : Nat :=
  (List.range 8).foldl (fun c _ => crcStep w poly c) (crc ^^^ (b.toNat * 2 ^ (w - 8)))

theorem crcMsb_eq (w poly init : Nat) (bs : List Byte) : crcMsb w poly init bs = bs.foldl (crcByte w poly) init := rfl

theorem crcMsb_append (w poly init : Nat) (a b : List Byte) :
    crcMsb w poly init (a ++ b) = crcMsb w poly (crcMsb w poly init a) b := List.foldl_append

theorem crcStep_lt {w poly : Nat} (hp : poly < 2 ^ w) (c : Nat) : crcStep w poly c < 2 ^ w := by
  have hm : c * 2 % 2 ^ w < 2 ^ w := Nat.mod_lt _ (Nat.two_pow_pos w)
  unfold crcStep
  split
  · exact Nat.xor_lt_two_pow hm hp
  · exact hm

theorem crcByte_lt {w poly : Nat} (hp : poly < 2 ^ w) (c : Nat) (b : Byte) : crcByte w poly c b < 2 ^ w := by
  rw [crcByte, List.range_succ, List.foldl_append]
  exact crcStep_lt hp _

theorem crcMsb_lt {w poly init : Nat} (hp : poly < 2 ^ w) (hi : init < 2 ^ w) (bs : List Byte) :
    crcMsb w poly init bs < 2 ^ w :=
  List.foldlRecOn (motive := (· < 2 ^ w)) bs (crcByte w poly) hi fun c _ b _ => crcByte_lt hp c b

/-- A register below its top bit is shifted, with no feedback. -/
theorem crcStep_of_lt {w poly c : Nat} (h : c * 2 < 2 ^ w) : crcStep w poly c = c * 2 := by
  have hz : c / 2 ^ (w - 1) = 0 := by
    cases w with
    | zero => omega
    | succ w => exact Nat.div_eq_of_lt (by rw [Nat.pow_succ] at h; exact Nat.lt_of_mul_lt_mul_right h)
  rw [crcStep, hz, if_neg (by decide), Nat.mod_eq_of_lt h]

theorem crcStep_repeat {w poly c : Nat} (n : Nat) (h : c * 2 ^ n < 2 ^ w) :
    (List.range n).foldl (fun c _ => crcStep w poly c) c = c * 2 ^ n := by
  induction n with
  | zero => simp
  | succ n ih =>
    rw [Nat.pow_succ, ← Nat.mul_assoc] at h ⊢
    rw [List.range_succ, List.foldl_append, ih (by omega), List.foldl_cons, List.foldl_nil, crcStep_of_lt h]

theorem mul_two_pow_add_xor {k r : Nat} (a : Nat) (hr : r < 2 ^ k) : (a * 2 ^ k + r) ^^^ (a * 2 ^ k) = r := by
  refine Nat.eq_of_testBit_eq fun i => ?_
  rw [Nat.testBit_xor, Nat.mul_comm, Nat.testBit_two_pow_mul_add _ hr, Nat.testBit_two_pow_mul]
  by_cases hi : i < k
  · simp [hi, Nat.not_le_of_lt hi]
  · have hz : r.testBit i = false :=
      Nat.testBit_lt_two_pow (Nat.lt_of_lt_of_le hr (Nat.pow_le_pow_right (by decide) (Nat.le_of_not_lt hi)))
    simp [hi, hz, Nat.le_of_not_lt hi]

/-- A byte that equals the top byte of the register cancels it, and the rest moves up. -/
theorem crcByte_cancel {w poly r : Nat} (hw : 8 ≤ w) (b : Byte) (hr : r < 2 ^ (w - 8)) :
    crcByte w poly (b.toNat * 2 ^ (w - 8) + r) b = r * 2 ^ 8 := by
  have hlt : r * 2 ^ 8 < 2 ^ w := by
    rw [← Nat.sub_add_cancel hw, Nat.pow_add]
    exact Nat.mul_lt_mul_of_pos_right hr (by decide)
  rw [crcByte, mul_two_pow_add_xor _ hr, crcStep_repeat 8 hlt]

/-- A register that holds the low `n` bytes of `v` at its top is emptied by those bytes. -/
theorem crcMsb_beBytes {w poly n : Nat} (v : Nat) (h : 8 * n ≤ w) :
    crcMsb w poly (v % 256 ^ n * 2 ^ (w - 8 * n)) (beBytes n v) = 0 := by
  induction n with
  | zero => simp [crcMsb, beBytes, leBytes, Nat.mod_one]
  | succ n ih =>
    have hpow : 2 ^ (w - 8 * n) = 2 ^ (w - 8 * (n + 1)) * 2 ^ 8 := by
      rw [← Nat.pow_add]; congr 1; omega
    have htop : 256 ^ n * 2 ^ (w - 8 * (n + 1)) = 2 ^ (w - 8) := by
      rw [show 256 = 2 ^ 8 from rfl, ← Nat.pow_mul, ← Nat.pow_add]; congr 1; omega
    have hlow : v % 256 ^ n * 2 ^ (w - 8 * (n + 1)) < 2 ^ (w - 8) := by
      rw [← htop]
      exact Nat.mul_lt_mul_of_pos_right (Nat.mod_lt _ (by positivity)) (Nat.two_pow_pos _)
    have hsplit : v % 256 ^ (n + 1) * 2 ^ (w - 8 * (n + 1))
        = (BitVec.ofNat 8 (v / 256 ^ n)).toNat * 2 ^ (w - 8) + v % 256 ^ n * 2 ^ (w - 8 * (n + 1)) := by
      rw [Nat.pow_succ, Nat.mod_mul, BitVec.toNat_ofNat, ← htop]; ring
    rw [beBytes_succ, crcMsb_eq, List.foldl_cons, hsplit, crcByte_cancel (by omega) _ hlow, Nat.mul_assoc, ← hpow, ← crcMsb_eq,
      ih (by omega)]

/-- A run of bytes followed by its own CRC has CRC 0. -/
theorem crcMsb_append_self {w poly init n : Nat} (hw : w = 8 * n) (hp : poly < 2 ^ w) (hi : init < 2 ^ w) (bs : List Byte) :
    crcMsb w poly init (bs ++ beBytes n (crcMsb w poly init bs)) = 0 := by
  have hlt : crcMsb w poly init bs < 256 ^ n := by
    simpa [hw, Nat.pow_mul] using crcMsb_lt hp hi bs
  have h := crcMsb_beBytes (poly := poly) (crcMsb w poly init bs) (Nat.le_of_eq hw.symm)
  rwa [Nat.mod_eq_of_lt hlt, ← hw, Nat.sub_self, Nat.pow_zero, Nat.mul_one, ← crcMsb_append] at h

theorem crc64_lt (bs : List Byte) : crc64 bs < 2 ^ 64 := crcMsb_lt (by norm_num) (by norm_num) bs

theorem crc64_append_self (bs : List Byte) : crc64 (bs ++ beBytes 8 (crc64 bs)) = 0 :=
  crcMsb_append_self (w := 64) (n := 8) rfl (by norm_num) (by norm_num) bs

/-- The check value of R227, and the CRC of no byte and of one set bit. -/
theorem crc64_check : crc64 [0x31, 0x32, 0x33, 0x34, 0x35, 0x36, 0x37, 0x38, 0x39] = 0x6C40DF5F0B497347
    ∧ crc64 [] = 0 ∧ crc64 [1] = 0x42F0E1EBA9EA3693 := by decide +kernel

/-! ## Flits -/

/-- The 248 bytes that the CRC of a flit is over. -/
def flitBody (header : Nat) (payload : List Byte) (field : Nat) : List Byte :=
  leBytes 4 header ++ padTo 240 payload ++ leBytes 4 field

theorem flitBytes_eq (h : Nat) (pay : List Byte) (fld : Nat) :
    flitBytes h pay fld = flitBody h pay fld ++ beBytes 8 (crc64 (flitBody h pay fld)) := rfl

theorem length_flitBody {pay : List Byte} (h fld : Nat) (hl : pay.length ≤ 240) : (flitBody h pay fld).length = 248 := by
  simp [flitBody, length_padTo hl]

theorem flitHdr_flitBytes (h fld : Nat) (pay : List Byte) : flitHdr (flitBytes h pay fld) = h % 2 ^ 32 := by
  simp only [flitHdr, flitBytes, List.append_assoc, leAt_leBytes_append, Nat.reducePow]

theorem flitCrcOk_append {b : List Byte} (hb : b.length = 248) : flitCrcOk (b ++ beBytes 8 (crc64 b)) = true := by
  have htail : slice (b ++ beBytes 8 (crc64 b)) 248 8 = beBytes 8 (crc64 b) := by
    simp [slice, ← hb]
  have hcrc : beOf (beBytes 8 (crc64 b)) = crc64 b := (beOf_beBytes 8 _).trans (Nat.mod_eq_of_lt (crc64_lt b))
  simp [flitCrcOk, htail, hcrc, hb]

theorem flitField_flitBytes (h fld : Nat) {pay : List Byte} (hl : pay.length ≤ 240) :
    flitField (flitBytes h pay fld) = fld % 2 ^ 32 := by
  simp (disch := simp [length_padTo hl]) only [flitField, flitBytes, List.append_assoc, leAt_append_of_le,
    leAt_leBytes_append, length_leBytes, length_padTo hl, Nat.reduceSub, Nat.reducePow]

theorem slice_flitBytes_payload (h fld : Nat) {pay : List Byte} (hl : pay.length ≤ 240) :
    slice (flitBytes h pay fld) 4 pay.length = pay := by
  have hcut : padTo 240 pay = pay ++ List.replicate (240 - pay.length) 0#8 := by
    rw [padTo, List.take_of_length_le hl]
  simp only [flitBytes, hcut, List.append_assoc]
  rw [slice_append_of_le _ _ (by simp), length_leBytes, Nat.sub_self, slice_append_head _ rfl]

/-! ## Messages (Table 8-6) -/

/-- The three fields of byte 2 of the route slot. -/
theorem routeByte_fields {d s p : Nat} (hd : d < 4) (hs : s < 4) (hp : p < 16) : let x := (d + 4 * s + 16 * p) % 256
    bits x 1 0 = d ∧ bits x 3 2 = s ∧ bits x 7 4 = p := by
  simp only [bits]
  omega

/-- A device number in a field with one reserved bit. -/
theorem bits_device {d : Nat} (hd : d < 2 ^ 15) : bits (d % 2 ^ 16) 14 0 = d := by
  simp only [bits]
  omega

theorem readMsg_msgBytes {m : Msg} (hm : m.wf = true) (hb : m.body.length < 2 ^ 20) : readMsg m.tc (msgBytes m) = m := by
  simp only [Msg.wf, Bool.and_eq_true, decide_eq_true_eq, beq_iff_eq] at hm
  obtain ⟨⟨⟨⟨⟨⟨⟨⟨-, hdd⟩, hdp⟩, hsp⟩, hpr⟩, hh⟩, hsd⟩, ht⟩, hl⟩ := hm
  obtain ⟨hdp, hsp, hpr⟩ := routeByte_fields hdp hsp hpr
  have hdd := bits_device hdd
  have hsd := bits_device hsd
  have ht := Nat.mod_eq_of_lt ht
  have hbody : slice m.body 0 (16 * (m.body.length / 16 % 2 ^ 16)) = m.body := by
    rw [Nat.mod_eq_of_lt (by omega), Nat.mul_div_cancel' (Nat.dvd_of_mod_eq_zero hl), slice, List.drop_zero, List.take_length]
  rw [readMsg]
  simp (disch := simp) only [msgBytes, List.append_assoc, leAt_leBytes_append, leAt_append_of_le, slice_append_of_le,
    length_leBytes, List.length_replicate, Nat.reduceSub, Nat.reducePow] at hbody hdd hsd ht ⊢
  simp only [hdd, hdp, hsp, hpr, Nat.mod_eq_of_lt hh, hsd, ht, hbody]

/-- Settles O60: the check value, the CRC over its own bytes, the fields of a flit, and the route slot of Table 8-6, one lemma
each. -/
theorem flitsAndMessagesReadBack : Obligations.FlitsAndMessagesReadBack := by
  unfold Obligations.FlitsAndMessagesReadBack
  exact ⟨crc64_check, crc64_append_self, fun h fld pay hl => ⟨flitBody h pay fld, flitBytes_eq h pay fld, length_flitBody h fld hl,
    flitCrcOk_append (length_flitBody h fld hl), flitHdr_flitBytes h fld pay, flitField_flitBytes h fld hl,
    slice_flitBytes_payload h fld hl⟩, fun _ => readMsg_msgBytes⟩

end Sys2Proof.Machine
end

section
/-! PROOFS. Test access and held work (R18, R324, R332, R345, R374): what a test unlock leaves of sites, ports, memories and
keys, the test port, and the eight commands of O49. -/

namespace Sys2Proof.Machine

open Sys2Proof

/-! ## Bits written 0, and the registers of the ports -/

/-- A bit that is written 0 reads 0. -/
theorem rb_rput_zero (w : W32) (i : Nat) : rb (rput w i i 0) i = false := by
  have hput : (rput w i i 0).toNat = w.toNat - 2 ^ i * (w.toNat / 2 ^ i % 2) := by
    have hle : w.toNat - 2 ^ i * (w.toNat / 2 ^ i % 2) < 2 ^ 32 := Nat.lt_of_le_of_lt (Nat.sub_le _ _) w.isLt
    simpa [rput, putBits, bits, Nat.mul_comm] using hle
  rw [rb, bit, hput, Nat.sub_mul_div, beq_eq_false_iff_ne]
  omega

theorem aPort_injective {p q : Nat} (h : aPort p + rOIOPORT_CTL = aPort q + rOIOPORT_CTL) : p = q := by
  simp only [aPort, aOio] at h
  omega

/-- The events of the SEC page lie below the pages of the sites. -/
theorem isEventReg_aSec_of_site {a : Nat} (h : 0x100000 ≤ a) : isEventReg aSec a = false := by
  rw [Bool.eq_false_iff]
  intro he
  simp only [isEventReg, Bool.or_eq_true, List.contains_iff_mem, List.mem_cons, List.not_mem_nil, or_false, Bool.and_eq_true,
    List.any_eq_true, List.mem_range, beq_iff_eq] at he
  rcases he with (he | ⟨hpage, -⟩) | ⟨n, hn, he⟩
  · simp only [aSec, aPrompt, rHDR_EVT_STAT, rHDR_ERR_LOG_HEAD, rHDR_ERR_COUNT, rPROMPT_LOG_WR, rPROMPT_LOG_DROP] at he
    omega
  · simp [aSec, aDev] at hpage
  · simp only [aSec, rOIOLINK_LNK_EVT] at he
    omega

theorem State.evSec_portEn (s : State) (b port : Nat) : (s.evSec b).portEn port = s.portEn port :=
  congrArg (fun v => rb v 31) (State.raiseAll_reg s aSec srcSec false [ev b] (aPort port + rOIOPORT_CTL)
    (fun e he => List.mem_singleton.mp he ▸ ev_port b)
    (isEventReg_aSec_of_site (by simp only [aPort, aOio, rOIOPORT_CTL]; omega)))

/-! ## A command of the mailbox that passes its checks -/

/-- The head of the engine's order passes its checks and ends: the instance is done with its status. -/
theorem State.command_done {s w : State} {path : Path} {sel : List Byte → Bool} {run : State → List Byte → State × Nat} {n : Nat}
    (hhead : s.mbOrder.head? = some (onBoard path)) (hsel : sel (s.record (onBoard path)) = true)
    (hok : (s.checks (onBoard path)).2 = mOK) (hrun : run (s.checks (onBoard path)).1 (s.record (onBoard path)) = (w, n))
    (hn : n ≠ mWAIT) : s.command path sel run = w.mbDone (onBoard path) n := by
  simp [State.command, hhead, hsel, hok, hrun, hn]

/-! ## TEST_UNLOCK (R324, R345) -/

/-- The record answers the challenge in force under the test key of the fuses (log 46). -/
def TestSigned (u : State) (r : List Byte) : Prop :=
  leAt r 112 1 = 1 ∧ u.sec.challenge ≠ [] ∧ sha384 Config.testKey = u.fuses.testHash
    ∧ ecdsaOk Config.testKey (slice r 16 96) (sha384 (u.sec.challenge ++ leBytes 4 u.serialNo ++ slice r 112 1)) = true

/-- The state in which a test unlock begins to wipe: unlocked, the partitions that run reset, every link down. -/
def State.unlockReset (u : State) : State :=
  ((List.range 4).foldl (fun s p => if (s.part p).st < 2 then s.partReset p else s)
    (u.modSec (fun x => { x with unlocked := true }))).allDown cRESET

/-- What a test unlock leaves. -/
def State.testUnlocked (u : State) : State := u.unlockReset.wipe.evSec evSEC_TEST_UNLOCK

theorem State.cmdTestUnlock_refuses {u : State} {r : List Byte} (h : ¬ TestSigned u r) : u.cmdTestUnlock r = (u, mBADARG) := by
  refine if_pos (Bool.eq_false_iff.mpr fun hgood => h ?_)
  simp only [Bool.and_eq_true, Bool.not_eq_true', List.isEmpty_eq_false_iff, beq_iff_eq] at hgood
  obtain ⟨⟨⟨hflag, hchal⟩, hkey⟩, hsig⟩ := hgood
  exact ⟨hflag, hchal, hkey, hsig⟩

theorem State.cmdTestUnlock_unlocks {u : State} {r : List Byte} (h : TestSigned u r) :
    u.cmdTestUnlock r = (u.testUnlocked, mOK) := by
  obtain ⟨hflag, hchal, hkey, hsig⟩ := h
  refine if_neg ?_
  simp only [hflag, hkey, hsig, List.isEmpty_eq_false_iff.mpr hchal, beq_self_eq_true, Bool.not_false, Bool.and_self,
    Bool.true_eq_false, not_false_eq_true]

/-- Neither the resets of the partitions nor the links going down change the security state. -/
theorem State.unlockReset_sec (u : State) : u.unlockReset.sec = { u.sec with unlocked := true } := by
  let v := u.modSec (fun x => { x with unlocked := true })
  have hparts : Keeps 17179767166 v
      ((List.range 4).foldl (fun s p => if (s.part p).st < 2 then s.partReset p else s) v) :=
    keeps_foldl (fun s p h => keeps_ite (fun _ => State.partReset_keeps s p rfl h) (fun _ => h)) (Keeps.refl v)
  exact (State.allDown_keeps _ cRESET rfl hparts).same .sec rfl

/-- The part of `State.wipe` that acts on the sites. -/
def State.wipeSites (s : State) (ks : List Nat) : State :=
  ks.foldl (fun s k => (s.resetSite k).modSite k (fun x => { x with keys := [] })) s

/-- The part of `State.wipe` that acts on the ports. -/
def State.wipePorts (s : State) (ps : List Nat) : State :=
  ps.foldl (fun s port => s.setFld (aPort port + rOIOPORT_CTL) 31 31 0) s

theorem State.wipe_eq (s : State) : s.wipe
    = (((s.wipeSites (List.range 8)).wipePorts (List.range 64)).wipeMem.modSec (fun x => { x with key := [] })) := rfl

/-- An operation that does not name the sites leaves each one's state. -/
theorem Keeps.site {F : Nat} {s t : State} (h : Keeps F s t) (hF : F.testBit Field.sites.num = false) (k : Nat) :
    t.site k = s.site k := congrArg (fun x => tblGet SiteSt.init x k) (h.same .sites hF)

/-- A site that is reset keeps its tenants' keys (log 52). -/
theorem State.resetSite_keys (s : State) (j k : Nat) : ((s.resetSite j).site k).keys = (s.site k).keys := by
  unfold State.resetSite
  refine (congrArg SiteSt.keys (Keeps.site (F := 939524104) (State.resetPages_keeps _ _ _ _ rfl
    (keeps_foldl (fun s port h => State.modPort_keeps s port _ rfl h)
      (keeps_rings_ports_links rfl (Keeps.refl _)))) rfl k)).trans ?_
  rw [State.modSite_site]
  split
  · next h => rw [h]
  · rfl

/-- If each step gives the reading at its own index a value and leaves the others, the fold gives that value at every index of
the list. -/
theorem foldl_reading {α : Type} {f : State → Nat → State} (g : State → Nat → α) (b : α)
    (hf : ∀ s j k, g (f s j) k = if j = k then b else g s k) (s : State) (l : List Nat) (k : Nat) :
    g (l.foldl f s) k = if k ∈ l then b else g s k := by
  induction l generalizing s with
  | nil => rfl
  | cons j r ih =>
    rw [List.foldl_cons, ih, hf]
    by_cases hj : j = k
    · simp [hj]
    · simp [hj, Ne.symm hj]

theorem State.wipeSites_keys (s : State) (ks : List Nat) (k : Nat) :
    ((s.wipeSites ks).site k).keys = if k ∈ ks then [] else (s.site k).keys := by
  refine foldl_reading (fun s k => (s.site k).keys) [] (fun s j k => ?_) s ks k
  rw [State.modSite_site]
  split
  · rfl
  · exact s.resetSite_keys j k

theorem State.wipePorts_portEn (s : State) (ps : List Nat) (port : Nat) :
    (s.wipePorts ps).portEn port = if port ∈ ps then false else s.portEn port := by
  refine foldl_reading State.portEn false (fun s q port => ?_) s ps port
  unfold State.portEn State.portCtl
  rw [State.setFld_reg]
  by_cases hq : q = port
  · rw [if_pos (hq ▸ rfl), if_pos hq, rb_rput_zero]
  · rw [if_neg (fun h => hq (aPort_injective h)), if_neg hq]

theorem State.wipePorts_site (s : State) (ps : List Nat) (k : Nat) : (s.wipePorts ps).site k = s.site k :=
  (keeps_foldl (fun s _ h => State.setFld_keeps s _ _ _ _ rfl h) (Keeps.refl (F := 8) s)).site rfl k

theorem State.wipePorts_sec (s : State) (ps : List Nat) : (s.wipePorts ps).sec = s.sec :=
  (keeps_foldl (fun s _ h => State.setFld_keeps s _ _ _ _ rfl h) (Keeps.refl (F := 8) s)).same .sec rfl

theorem State.wipeSites_sec (s : State) (ks : List Nat) : (s.wipeSites ks).sec = s.sec :=
  (keeps_foldl (fun s k h => State.modSite_keeps _ k _ rfl (State.resetSite_keeps s k rfl h))
    (Keeps.refl (F := 1006632968) s)).same .sec rfl

/-- The last steps of `State.wipe`, on the memories and the security state, leave the registers of the ports. -/
theorem State.wipeMem_modSec_portEn (s : State) (f : SecSt → SecSt) (port : Nat) :
    (s.wipeMem.modSec f).portEn port = s.portEn port := rfl

theorem State.wipeMem_modSec_site (s : State) (f : SecSt → SecSt) (k : Nat) : (s.wipeMem.modSec f).site k = s.site k := rfl

theorem State.wipeMem_modSec_sec (s : State) (f : SecSt → SecSt) : (s.wipeMem.modSec f).sec = f s.sec := rfl

/-- What a test unlock wipes is gone; the rest of the security state stands. -/
theorem State.wipe_leaves (s : State) : s.wipe.sec = { s.sec with key := [] } ∧ s.wipe.mem = [] ∧ s.wipe.ecc = []
    ∧ (∀ port, port < 64 → s.wipe.portEn port = false) ∧ ∀ k, k < 8 → (s.wipe.site k).keys = [] := by
  rw [State.wipe_eq]
  refine ⟨?_, rfl, rfl, fun port hport => ?_, fun k hk => ?_⟩
  · rw [State.wipeMem_modSec_sec, State.wipePorts_sec, State.wipeSites_sec]
  · rw [State.wipeMem_modSec_portEn, State.wipePorts_portEn, if_pos (List.mem_range.mpr hport)]
  · rw [State.wipeMem_modSec_site, State.wipePorts_site, State.wipeSites_keys, if_pos (List.mem_range.mpr hk)]

/-- The event that reports the unlock changes none of what was wiped. -/
theorem State.testUnlocked_leaves (u : State) : u.testUnlocked.sec = { u.sec with unlocked := true, key := [] }
    ∧ u.testUnlocked.mem = [] ∧ u.testUnlocked.ecc = [] ∧ (∀ port, port < 64 → u.testUnlocked.portEn port = false)
    ∧ (∀ k, k < 8 → (u.testUnlocked.site k).keys = []) ∧ u.testUnlocked.evt aSec evSEC_TEST_UNLOCK = true := by
  obtain ⟨hsec, hmem, hecc, hports, hkeys⟩ := u.unlockReset.wipe_leaves
  have hev : Keeps 332 u.unlockReset.wipe u.testUnlocked := State.evSec_keeps _ evSEC_TEST_UNLOCK rfl (Keeps.refl _)
  refine ⟨?_, (hev.same .mem rfl).trans hmem, (hev.same .ecc rfl).trans hecc, fun port hport => ?_, fun k hk => ?_, ?_⟩
  · rw [hev.same .sec rfl, hsec, State.unlockReset_sec]
  · rw [State.testUnlocked, State.evSec_portEn, hports port hport]
  · rw [hev.site rfl, hkeys k hk]
  · exact State.raise_evt _ aSec srcSec evSEC_TEST_UNLOCK rfl (by decide)

section
variable {path : Path} {s : State} (hhead : s.mbOrder.head? = some (onBoard path))
  (hok : (s.checks (onBoard path)).2 = mOK)
include hhead hok

theorem testUnlock_refuses (hcmd : isCmd 7 (s.record (onBoard path)) = true)
    (h : ¬ TestSigned (s.checks (onBoard path)).1 (s.record (onBoard path))) :
    exec (.testUnlock path) s = .next ((s.checks (onBoard path)).1.mbDone (onBoard path) mBADARG) :=
  congrArg Host.Outcome.next (State.command_done hhead hcmd hok (State.cmdTestUnlock_refuses h) (by decide))

theorem testUnlock_unlocks (hcmd : isCmd 7 (s.record (onBoard path)) = true)
    (h : TestSigned (s.checks (onBoard path)).1 (s.record (onBoard path))) :
    ∃ w : State, exec (.testUnlock path) s = .next (w.mbDone (onBoard path) mOK) ∧ w.sec.unlocked = true ∧ w.sec.key = []
      ∧ w.mem = [] ∧ w.ecc = [] ∧ (∀ port, port < 64 → w.portEn port = false) ∧ (∀ k, k < 8 → (w.site k).keys = [])
      ∧ w.evt aSec evSEC_TEST_UNLOCK = true := by
  obtain ⟨hsec, hrest⟩ := (s.checks (onBoard path)).1.testUnlocked_leaves
  exact ⟨_, congrArg Host.Outcome.next (State.command_done hhead hcmd hok (State.cmdTestUnlock_unlocks h) (by decide)),
    congrArg SecSt.unlocked hsec, congrArg SecSt.key hsec, hrest⟩

end

/-! ## GET_CHALLENGE (R345) -/

theorem State.modMb_mb (s : State) (board : Bool) (f : MbSt → MbSt) : (s.modMb board f).mb board = f (s.mb board) := by
  cases board <;> rfl

theorem State.modMb_sec (s : State) (board : Bool) (f : MbSt → MbSt) : (s.modMb board f).sec = s.sec := by
  cases board <;> rfl

theorem State.cmdGetChallenge_sameBut (s : State) (board : Bool) :
    s.sameBut [.sec, .freeCtr, .mbHost, .mbBoard] (s.cmdGetChallenge board).1 :=
  (State.cmdGetChallenge_keeps s board rfl (Keeps.refl (F := fieldMask [.sec, .freeCtr, .mbHost, .mbBoard]) s)).sameBut
    (fun f => by cases f <;> decide)

theorem State.cmdGetChallenge_challenge (s : State) (board : Bool) :
    (s.cmdGetChallenge board).1.sec.challenge = (List.range 32).map (Config.randomByte s.freeCtr) :=
  congrArg SecSt.challenge (State.modMb_sec _ board _)

theorem getChallenge_acts {path : Path} {s : State} (hhead : s.mbOrder.head? = some (onBoard path))
    (hok : (s.checks (onBoard path)).2 = mOK) (hcmd : isCmd 0x40 (s.record (onBoard path)) = true) :
    ∃ w : State, exec (.getChallenge path) s = .next (w.mbDone (onBoard path) mOK) ∧ w.sec.challenge.length = 32
      ∧ (w.mb (onBoard path)).rsp = padTo 128 w.sec.challenge
      ∧ (s.checks (onBoard path)).1.sameBut [.sec, .freeCtr, .mbHost, .mbBoard] w := by
  have hchal := (s.checks (onBoard path)).1.cmdGetChallenge_challenge (onBoard path)
  refine ⟨((s.checks (onBoard path)).1.cmdGetChallenge (onBoard path)).1,
    congrArg Host.Outcome.next (State.command_done hhead hcmd hok rfl (by decide)), ?_, ?_, State.cmdGetChallenge_sameBut _ _⟩
  · rw [hchal, List.length_map, List.length_range]
  · rw [hchal]
    exact congrArg MbSt.rsp (State.modMb_mb _ _ _)

/-! ## TAP_INSTRUCTION (R323, R324) -/

/-- The instructions that the test port accepts whether or not the part is unlocked (R324). -/
def publicTaps : List Tap := [.bypass, .idcode, .samplePreload, .extest]

theorem exec_tapInstruction (die : Fin 16) (i : Tap) (s : State) : exec (.tapInstruction die i) s = .next (s.tapIn die i) := rfl

theorem tapEffect_locked {i : Tap} (h : i ∉ publicTaps) : tapEffect false i = .bypass := by
  cases i with
  | bypass | idcode | samplePreload | extest => exact absurd (by decide) h
  | loopback | wrapper | other => rfl

theorem tapEffect_unlocked (i : Tap) : tapEffect true i = i := by cases i <;> rfl

theorem tapInstruction_public {i : Tap} (h : i ∈ publicTaps) (die : Fin 16) (s : State) :
    exec (.tapInstruction die i) s = .next { s with wire := s.wire ++ [.tap die i] } := by
  simp only [publicTaps, List.mem_cons, List.not_mem_nil, or_false] at h
  rcases h with rfl | rfl | rfl | rfl <;> rfl

theorem tapInstruction_locked {i : Tap} {s : State} (hs : s.sec.unlocked = false) (h : i ∉ publicTaps) (die : Fin 16) :
    exec (.tapInstruction die i) s = .next { s with wire := s.wire ++ [.tap die .bypass] } := by
  rw [exec_tapInstruction, State.tapIn, hs, tapEffect_locked h]
  rfl

theorem tapInstruction_other {s : State} (hs : s.sec.unlocked = true) (die : Fin 16) (c : Nat) :
    exec (.tapInstruction die (.other c)) s = .next { s with wire := s.wire ++ [.tap die (.other c)] } := by
  rw [exec_tapInstruction, State.tapIn, hs, tapEffect_unlocked]
  rfl

theorem tapInstruction_wrapper {s : State} (hs : s.sec.unlocked = true) (die : Fin 16) (b : Bool) (l : Loopback) :
    exec (.tapInstruction die (.wrapper b l)) s = .next { s with
      wire := s.wire ++ [.tap die (.wrapper b l), .tapResult (tapDie die b) (tblGet 0 s.sec.loops (loopKey (tapDie die b) l))] } := by
  rw [exec_tapInstruction, State.tapIn, hs, tapEffect_unlocked, List.append_cons]
  rfl

theorem tapInstruction_loopback {s : State} (hs : s.sec.unlocked = true) (die : Fin 16) (b : Bool) (l : Loopback) :
    ∃ t n, exec (.tapInstruction die (.loopback b l)) s = .next t ∧ t.wire = s.wire ++ [.tap die (.loopback b l)]
      ∧ t.sec = { s.sec with loops := tblSet 0 s.sec.loops (loopKey (tapDie die b) l) n } ∧ s.sameBut [.wire, .sec, .freeCtr] t := by
  let n := Config.loopback s.freeCtr
  let tested := (s.emit (.tap die (.loopback b l))).tick
  refine ⟨tested.modSec (fun x => { x with loops := tblSet 0 x.loops (loopKey (tapDie die b) l) n }), n, ?_, rfl, rfl, ?_⟩
  · rw [exec_tapInstruction, State.tapIn, hs, tapEffect_unlocked]
    rfl
  · exact State.sameBut_trans (State.sameBut_mono (s.emit_sameBut _) (by decide))
      (State.sameBut_trans (State.sameBut_mono (State.tick_sameBut _) (by decide))
        (State.sameBut_mono (State.modSec_sameBut tested _) (by decide)))

/-! ## HELD_WRITE (R332) -/

theorem exec_heldWrite (s : State) : exec .heldWrite s = execHeldWrite s := rfl

theorem heldWrite_noop {s : State} (h : s.sec.held = none ∨ s.flashWindow = false) : exec .heldWrite s = .next s := by
  rw [exec_heldWrite, execHeldWrite]
  rcases h with hnone | hclosed
  · rw [hnone]
  · cases s.sec.held <;> simp [hclosed]

theorem State.writeRecord_sameBut (s : State) (r : List Byte) : s.sameBut [.sec, .flash, .freeCtr] (s.writeRecord r).1 :=
  (State.writeRecord_keeps s r rfl (Keeps.refl (F := fieldMask [.sec, .flash, .freeCtr]) s)).sameBut
    (fun f => by cases f <;> decide)

theorem writeRecord_sec_of_flashOk {s : State} (h : Config.flashOk s.freeCtr = true) (r : List Byte) :
    (s.writeRecord r).1.sec = { s.sec with
      ctrl := putAt r 4 (leBytes 4 (ctlGen s.sec.ctrl + 1)), copy := 1 - s.sec.copy, held := none } := by
  unfold State.writeRecord
  exact congrArg (fun x : State × Bool => x.1.sec) (if_pos h)

theorem writeRecord_sec_of_flash_fails {s : State} (h : Config.flashOk s.freeCtr = false) (r : List Byte) :
    (s.writeRecord r).1.sec = s.sec := by
  unfold State.writeRecord
  exact congrArg (fun x : State × Bool => x.1.sec) (if_neg (by simp [State.program, h]))

theorem heldWrite_acts {s : State} {r : List Byte} (hheld : s.sec.held = some r) (hopen : s.flashWindow = true) :
    ∃ t, exec .heldWrite s = .next t ∧ s.sameBut [.sec, .flash, .freeCtr] t
      ∧ (Config.flashOk s.freeCtr = true → t.sec.held = none ∧ t.sec.copy = 1 - s.sec.copy
        ∧ t.sec.ctrl = putAt r 4 (leBytes 4 (ctlGen s.sec.ctrl + 1)))
      ∧ (Config.flashOk s.freeCtr = false → t.sec = s.sec) := by
  refine ⟨(s.writeRecord r).1, ?_, s.writeRecord_sameBut r, fun hok => ?_, fun hbad => writeRecord_sec_of_flash_fails hbad r⟩
  · rw [exec_heldWrite, execHeldWrite, hheld, hopen]
    rfl
  · have hsec := writeRecord_sec_of_flashOk hok r
    exact ⟨congrArg SecSt.held hsec, congrArg SecSt.copy hsec, congrArg SecSt.ctrl hsec⟩

/-! ## MSI_X_VECTOR_UNMASK (R374) -/

theorem State.unmask_sameBut (s : State) (v : Nat) : s.sameBut [.regs, .wire, .pba] (s.unmask v) :=
  (State.unmask_keeps s v rfl (Keeps.refl (F := fieldMask [.regs, .wire, .pba]) s)).sameBut (fun f => by cases f <;> decide)

/-- With its control word unmasked a vector that is not pending has nothing to send. -/
theorem State.unmask_of_not_mem {s : State} {v : Nat} (h : v ∉ s.pba) : s.unmask v = s.setFld (aMsix + 16 * v + 12) 0 0 0 :=
  if_neg h

theorem State.unmask_of_mem {s : State} {v : Nat} (h : v ∈ s.pba) : s.unmask v
    = { s.setFld (aMsix + 16 * v + 12) 0 0 0 with pba := s.pba.filter (fun x => x != v) }.emit (.msix v) := if_pos h

theorem State.unmask_reg (s : State) (v : Nat) :
    (s.unmask v).reg (aMsix + 16 * v + 12) = rput (s.reg (aMsix + 16 * v + 12)) 0 0 0 := by
  rw [← State.setFld_reg_same]
  by_cases h : v ∈ s.pba
  · rw [State.unmask_of_mem h]
    rfl
  · rw [State.unmask_of_not_mem h]

theorem msiXVectorUnmask_acts (vec : Fin 2048) {s : State} (hreset : s.pwr.inReset = false) (hstep : 1 ≤ s.pwr.step) :
    ∃ t, exec (.msiXVectorUnmask vec) s = .next t
      ∧ rb (t.reg (aMsix + 16 * vec.1 + 12)) 0 = false
      ∧ (vec.1 ∈ s.pba → t.wire = s.wire ++ [.msix vec] ∧ t.pba = s.pba.filter (fun x => x != vec.1))
      ∧ (vec.1 ∉ s.pba → t.wire = s.wire ∧ t.pba = s.pba) ∧ s.sameBut [.regs, .wire, .pba] t := by
  refine ⟨s.unmask vec, ?_, ?_, fun h => ?_, fun h => ?_, s.unmask_sameBut vec⟩
  · exact congrArg Host.Outcome.next (if_pos (by simp [State.placeOpen, hreset, hstep]))
  · rw [State.unmask_reg, rb_rput_zero]
  · rw [State.unmask_of_mem h]
    exact ⟨rfl, rfl⟩
  · rw [State.unmask_of_not_mem h]
    exact ⟨rfl, rfl⟩

/-! ## UCIE_RETRAIN_COMPLETE (R18) -/

/-- The number that stands for a ring pair or a site link (8 + k) in `PwrSt.retraining`. -/
def retrainNo (ring : Bool) (k : Fin 8) : Nat := if ring then k.1 else 8 + k.1

theorem ucieRetrainComplete_noop {ring : Bool} {k : Fin 8} {s : State}
    (h : retrainNo ring k ∉ s.pwr.retraining ∨ s.keptDown (retrainNo ring k) = true) :
    exec (.ucieRetrainComplete ring k) s = .next s := congrArg Host.Outcome.next (if_pos h)

theorem State.releaseHeld_pwr (s : State) : s.releaseHeld.pwr = s.pwr :=
  (State.releaseHeld_keeps s rfl (Keeps.refl (F := 13487309182) s)).same .pwr rfl

/-- With no message in the partitions' buffers and no channel, nothing was held. -/
theorem State.releaseHeld_of_empty {s : State} (hrelay : ∀ p, p < 4 → s.relayOf p = []) (hchans : s.chans = []) :
    s.releaseHeld = s := by
  have hmsgs : (List.range 4).foldl (fun s p => State.releaseFrom (s.relayOf p).length p 0 s) s = s :=
    List.foldlRecOn (motive := (· = s)) _ _ rfl fun t ht p hp => by
      rw [ht, hrelay p (List.mem_range.mp hp)]
      rfl
  unfold State.releaseHeld
  dsimp only
  rw [hmsgs, hchans]
  rfl

theorem ucieRetrainComplete_acts {ring : Bool} {k : Fin 8} {s u : State}
    (hu : u = { s with pwr := { s.pwr with retraining := s.pwr.retraining.filter (fun y => y != retrainNo ring k) } })
    (hx : retrainNo ring k ∈ s.pwr.retraining) (hup : s.keptDown (retrainNo ring k) = false) :
    exec (.ucieRetrainComplete ring k) s = .next u.releaseHeld ∧ u.releaseHeld.pwr = u.pwr
      ∧ ((∀ p, p < 4 → s.relayOf p = []) → s.chans = [] → u.releaseHeld = u) := by
  subst hu
  refine ⟨congrArg Host.Outcome.next (if_neg ?_), State.releaseHeld_pwr _, fun hrelay hchans =>
    State.releaseHeld_of_empty hrelay hchans⟩
  simp only [not_or, not_not, Bool.not_eq_true]
  exact ⟨hx, hup⟩

/-- Settles O49: each conjunct is the lemma of its command. -/
theorem testAccessAndHeldWork : Obligations.TestAccessAndHeldWork := by
  unfold Obligations.TestAccessAndHeldWork
  refine ⟨fun path s hhead hok => ⟨fun hcmd => ⟨testUnlock_refuses hhead hok hcmd, testUnlock_unlocks hhead hok hcmd⟩,
    getChallenge_acts hhead hok⟩, fun s => ⟨rfl, rfl,
    fun die i => ⟨fun h => tapInstruction_public h die s, fun hs h => tapInstruction_locked hs h die, fun hs => ⟨?_, ?_, ?_⟩⟩,
    heldWrite_noop, fun r => heldWrite_acts, fun vec => msiXVectorUnmask_acts vec,
    fun ring k => ⟨ucieRetrainComplete_noop, ucieRetrainComplete_acts rfl⟩⟩⟩
  · rintro c rfl
    exact tapInstruction_other hs die c
  · rintro b l rfl
    exact tapInstruction_wrapper hs die b l
  · rintro b l rfl
    exact tapInstruction_loopback hs die b l

end Sys2Proof.Machine
end
